-- ==== Sys2Proof/Word.lean ====
section
/-! DEFINITION. The word types and the plain arithmetic the whole model uses: 32-bit words, bytes, wrap-around of counts at
a width, the signed reading of an angle difference (R9), bit fields of a number, and saturating counters. -/
namespace Sys2Proof

abbrev Word := BitVec 32
abbrev Byte := BitVec 8

/-- `v` modulo 2^w: what a field or counter of `w` bits holds. -/
def wrap (w v : Nat) : Nat := v % 2 ^ w

/-- The bits [lo + w − 1 : lo] of `v` (R7). -/
def bits (v lo w : Nat) : Nat := v / 2 ^ lo % 2 ^ w

/-- Bit `k` of `v`, as a truth value. -/
def bit (v k : Nat) : Bool := v / 2 ^ k % 2 == 1

/-- A truth value as a one-bit field. -/
def b2n (b : Bool) : Nat := if b then 1 else 0

/-- `v` with bit `k` set. -/
def setBit (v k : Nat) : Nat := if bit v k then v else v + 2 ^ k

/-- `v` with bit `k` cleared. -/
def clrBit (v k : Nat) : Nat := if bit v k then v - 2 ^ k else v

/-- The bits of `a` that are not in `b` (both taken below 2^w). -/
def bitsMinus (w a b : Nat) : Nat := (BitVec.ofNat w a &&& ~~~(BitVec.ofNat w b)).toNat

/-- Two's-complement reading of the low `w` bits of `v`. -/
def signed (w v : Nat) : Int :=
  let u := v % 2 ^ w
  if u < 2 ^ (w - 1) then (u : Int) else (u : Int) - (2 ^ w : Int)

/-- The low `w` bits of an integer in two's complement. -/
def unsigned (w : Nat) (v : Int) : Nat := (v % (2 ^ w : Int)).toNat

/-- Addition modulo 2^w of a count and an integer. -/
def addW (w a : Nat) (d : Int) : Nat := unsigned w ((a : Int) + d)

/-- R9: the difference a − b of two angles, read as a signed value in −2^31 to 2^31 − 1. -/
def angDiff (a b : Nat) : Int := signed 32 (unsigned 32 ((a : Int) - (b : Int)))

/-- `v` limited to the range of a signed `w`-bit number. -/
def satS (w : Nat) (v : Int) : Int :=
  if v < -(2 ^ (w - 1) : Int) then -(2 ^ (w - 1) : Int)
  else if v ≥ (2 ^ (w - 1) : Int) then (2 ^ (w - 1) : Int) - 1 else v

/-- `v` limited to `lo`–`hi`. -/
def clampI (lo hi v : Int) : Int := if v < lo then lo else if v > hi then hi else v

/-- R724: a saturating counter of `w` bits after `k` more events. -/
def satAdd (w v k : Nat) : Nat := if v + k < 2 ^ w then v + k else 2 ^ w - 1

/-- Quotient rounded to nearest, halves away from zero upwards (floor of x/d + 1/2), for a positive `d`. -/
def roundDiv (x : Int) (d : Nat) : Int := (2 * x + (d : Int)) / (2 * (d : Int))

/-- The `n` low bytes of `v`, least significant first (little-endian). -/
def leBytes : Nat → Nat → List Byte
  | 0, _ => []
  | n + 1, v => BitVec.ofNat 8 v :: leBytes n (v / 256)

/-- The number whose little-endian bytes are `bs`. -/
def ofLeBytes : List Byte → Nat
  | [] => 0
  | b :: bs => b.toNat + 256 * ofLeBytes bs

/-- The number of one bits among the low `n` bits of `v`. -/
def popCount : Nat → Nat → Nat
  | 0, _ => 0
  | n + 1, v => v % 2 + popCount n (v / 2)

/-- The indices below `n`, lowest first, whose bit is set in `v`. -/
def setBits (n v : Nat) : List Nat := (List.range n).filter (bit v)

/-- Integer square root, rounded down, by `fuel` binary steps from bit `fuel − 1`. -/
def isqrtAux : Nat → Nat → Nat → Nat
  | 0, _, r => r
  | k + 1, x, r =>
    let c := r + 2 ^ k
    if c * c ≤ x then isqrtAux k x c else isqrtAux k x r

/-- floor(√x) for x below 2^96. -/
def isqrt (x : Nat) : Nat := isqrtAux 48 x 0

end Sys2Proof
end

