-- ==== Sys2Proof/Syntax.lean ====
section
/-! DEFINITION. The commands: one constructor for each row of spec/opcode_table.json, with the operands that the outside world
supplies. `m` is the requester ID of the master that makes an access (Table 1.2), `r` a ring, `n`, `u`, `p`, `k`, `c` or `j` the
unit, port, channel or index that the row names; values of registers are words as the bus carries them. A row without a
requester is an event of the block or of what lies outside it. -/
namespace Sys2Proof

/-- What the outside knows of one side of a comparator (R139, R140): the side, the input level in 1/64 of a threshold step, and the
ns for which it has stood where it stands. -/
structure CmpInput where
  high : Bool
  lvl : BitVec 16
  held : BitVec 32
deriving DecidableEq, Repr

/-- A raw level of a safety input's channel, and the successive 1 µs samples outside blanking windows that have read it (R319). -/
structure SinLevel where
  level : Bool
  held : BitVec 32
deriving DecidableEq, Repr

/-- A burst that a reset cut: master, address, the bytes accepted, and whether a read's data were discarded (R457). -/
structure CutBurst where
  m : Nat
  addr : Nat
  bytes : List Byte
  discarded : Bool
deriving DecidableEq, Repr

/-- One request on the internal fabric: requester ID, direction, address, length and the bytes of a write; `ue` says that the
SRAM word at the address has an uncorrectable error (R447). -/
structure FabReq where
  m : BitVec 8
  write : Bool
  addr : BitVec 40
  len : Nat
  data : List Byte
  ue : Bool
deriving DecidableEq, Repr


/-- The commands of the controller, in the order of the table. -/
inductive Instr where
  /-- LOW_HALF_READ (R16). -/
  | lowHalfRead (m : BitVec 8) (a : BitVec 40)
  /-- RC_FIELD_READ (R754). -/
  | rcFieldRead (m : BitVec 8) (a : BitVec 40)
  /-- REGISTER_WRITE (R11). -/
  | registerWrite (m : BitVec 8) (a : BitVec 40) (v : BitVec 32)
  /-- FABRIC_ACCESS (R29). -/
  | fabricAccess (l : List FabReq)
  /-- MEM_FAB_VIOL_POP (R47). -/
  | memFabViolPop (m : BitVec 8) (v : BitVec 32)
  /-- MEM_FAB_REQID_READ (R48). -/
  | memFabReqidRead (m : BitVec 8)
  /-- NS_TICK (R49). -/
  | nsTick
  /-- AON_T_STORE (R51). -/
  | aonTStore
  /-- TSP_SRC_CFG_WRITE (R56). -/
  | tspSrcCfgWrite (m : BitVec 8) (n : Fin 8) (v : BitVec 32)
  /-- TSP_SRC_LOSS_WRITE (R70). -/
  | tspSrcLossWrite (m : BitVec 8) (n : Fin 8) (v : BitVec 32)
  /-- TSP_SRC_OFS_WRITE (R59). -/
  | tspSrcOfsWrite (m : BitVec 8) (n : Fin 8) (v : BitVec 32)
  /-- RESOLVER_PAIR (R58). -/
  | resolverPair (n : Fin 8)
  /-- ENCODER_EDGE (R58). -/
  | encoderEdge (n : Fin 8) (a : Bool) (b : Bool) (samples : Nat)
  /-- ENCODER_Z_EDGE (R60). -/
  | encoderZEdge (n : Fin 8) (samples : Nat)
  /-- HALL_CODE_CHANGE (R756). -/
  | hallCodeChange (n : Fin 8) (code : BitVec 3) (samples : Nat)
  /-- WHEEL_PULSE (R61). -/
  | wheelPulse (n : Fin 8) (samples : Nat)
  /-- COAST_TIMEOUT (R70). -/
  | coastTimeout (n : Fin 8)
  /-- STANDSTILL_TIMEOUT (R67). -/
  | standstillTimeout (n : Fin 8)
  /-- RESYNC (R758). -/
  | resync (m : BitVec 8) (n : Fin 8)
  /-- SWITCH (R74). -/
  | switch (m : BitVec 8) (n : Fin 8)
  /-- SWBACK (R75). -/
  | swback (m : BitVec 8) (n : Fin 8)
  /-- CMP_CLAIM (R79). -/
  | cmpClaim (m : BitVec 8) (u : Fin 128)
  /-- CMP_RELEASE (R79). -/
  | cmpRelease (m : BitVec 8) (u : Fin 128)
  /-- ARM (R81). -/
  | arm (m : BitVec 8) (u : Fin 128)
  /-- DISARM (R94). -/
  | disarm (m : BitVec 8) (u : Fin 128)
  /-- COMPARE_FIRE (R85). -/
  | compareFire (u : Fin 128)
  /-- TSP_SRC_ANG_READ (R99). -/
  | tspSrcAngRead (m : BitVec 8) (n : Fin 8)
  /-- TSP_CONFLICT_INFO_READ (R103). -/
  | tspConflictInfoRead (m : BitVec 8)
  /-- ADC_UNIT_START (R117). -/
  | adcUnitStart (m : BitVec 8) (u : Fin 8)
  /-- ADC_UNIT_STOP (R121). -/
  | adcUnitStop (m : BitVec 8) (u : Fin 8)
  /-- ADC_UNIT_SWAP (R118). -/
  | adcUnitSwap (m : BitVec 8) (u : Fin 8)
  /-- ADC_PASS_END (R118). -/
  | adcPassEnd (u : Fin 8)
  /-- SLOT_START (R115). -/
  | slotStart (u : Fin 8)
  /-- URG_REQ (R122). -/
  | urgReq (m : BitVec 8) (u : Fin 8) (v : BitVec 32)
  /-- OPEN_WINDOW_CLOSE (R116). -/
  | openWindowClose (u : Fin 8)
  /-- SAMPLE_INSTANT (R125). -/
  | sampleInstant (u : Fin 8) (code : BitVec 12) (range : BitVec 2)
  /-- CONVERSION_END (R112). -/
  | conversionEnd (u : Fin 8)
  /-- QUIET_WINDOW_END (R761). -/
  | quietWindowEnd (u : Fin 8)
  /-- ADC_DMA_COMMIT (R131). -/
  | adcDmaCommit (u : Fin 8)
  /-- ADC_URG_CFG_WRITE (R760). -/
  | adcUrgCfgWrite (m : BitVec 8) (u : Fin 8) (v : BitVec 32)
  /-- LAST_VAL_READ (R126). -/
  | lastValRead (m : BitVec 8) (u : Fin 8)
  /-- LAST_ANG_READ (R127). -/
  | lastAngRead (m : BitVec 8) (u : Fin 8)
  /-- REFBUF_ENABLE (R135). -/
  | refbufEnable (m : BitVec 8)
  /-- REFBUF_SETTLED (R135). -/
  | refbufSettled
  /-- REF_DEVIATION_DETECT (R136). -/
  | refDeviationDetect
  /-- REF_DEVIATION_END (R136). -/
  | refDeviationEnd
  /-- ADC_EXC_CFG_WRITE (R143). -/
  | adcExcCfgWrite (m : BitVec 8) (v : BitVec 32)
  /-- COMPARATOR_TRIP (R140). -/
  | comparatorTrip (c : Fin 64) (x : CmpInput)
  /-- COMPARATOR_RELEASE (R140). -/
  | comparatorRelease (c : Fin 64) (x : CmpInput)
  /-- ADC_CMP_WRITE (R142). -/
  | adcCmpWrite (m : BitVec 8) (c : Fin 64) (cfg : Bool) (v : BitVec 32)
  /-- ADC_CMP_LOCK (R142). -/
  | adcCmpLock (m : BitVec 8) (v : BitVec 32)
  /-- CD_RESET (R196). -/
  | cdReset (m : BitVec 8) (n : Fin 4) (cut : List CutBurst)
  /-- CD_HALT (R197). -/
  | cdHalt (m : BitVec 8) (n : Fin 4)
  /-- CD_RUN (R197). -/
  | cdRun (m : BitVec 8) (n : Fin 4)
  /-- CD_APERTURE_ACCESS (R198). -/
  | cdApertureAccess (m : BitVec 8) (n : Fin 4) (write : Bool) (off : BitVec 20) (v : BitVec 32)
  /-- REL_SET (R187). -/
  | relSet (m : BitVec 8) (n : Fin 4) (v : BitVec 32)
  /-- REL_CANCEL (R192). -/
  | relCancel (m : BitVec 8) (n : Fin 4) (v : BitVec 32)
  /-- DSP_ACCEPT (R190). -/
  | dspAccept (n : Fin 4)
  /-- COPROC_COMPLETE (R182). -/
  | coprocComplete (n : Fin 4)
  /-- DSP_MOVE (R204). -/
  | dspMove (n : Fin 4)
  /-- DSP_MUL (R151). -/
  | dspMul (n : Fin 4)
  /-- DSP_MULN (R208). -/
  | dspMuln (n : Fin 4)
  /-- DSP_MAC (R208). -/
  | dspMac (n : Fin 4)
  /-- DSP_MSU (R208). -/
  | dspMsu (n : Fin 4)
  /-- DSP_MULR (R155). -/
  | dspMulr (n : Fin 4)
  /-- DSP_MRA (R155). -/
  | dspMra (n : Fin 4)
  /-- DSP_ADD (R208). -/
  | dspAdd (n : Fin 4)
  /-- DSP_SUB (R208). -/
  | dspSub (n : Fin 4)
  /-- DSP_CMP (R208). -/
  | dspCmp (n : Fin 4)
  /-- DSP_CMP_DXDY (R208). -/
  | dspCmpDxdy (n : Fin 4)
  /-- DSP_AND (R210). -/
  | dspAnd (n : Fin 4)
  /-- DSP_OR (R210). -/
  | dspOr (n : Fin 4)
  /-- DSP_XOR (R210). -/
  | dspXor (n : Fin 4)
  /-- DSP_NOT (R210). -/
  | dspNot (n : Fin 4)
  /-- DSP_CLR (R208). -/
  | dspClr (n : Fin 4)
  /-- DSP_NEG (R208). -/
  | dspNeg (n : Fin 4)
  /-- DSP_ABS (R208). -/
  | dspAbs (n : Fin 4)
  /-- DSP_RND (R155). -/
  | dspRnd (n : Fin 4)
  /-- DSP_ASL (R209). -/
  | dspAsl (n : Fin 4)
  /-- DSP_ASR (R208). -/
  | dspAsr (n : Fin 4)
  /-- DSP_TST (R208). -/
  | dspTst (n : Fin 4)
  /-- DSP_CPY (R208). -/
  | dspCpy (n : Fin 4)
  /-- DSP_MOVE_IMM (R212). -/
  | dspMoveImm (n : Fin 4)
  /-- DSP_MOVE_RR (R213). -/
  | dspMoveRr (n : Fin 4)
  /-- DSP_MOVE_EA (R213). -/
  | dspMoveEa (n : Fin 4)
  /-- DSP_MOVE_ABS (R214). -/
  | dspMoveAbs (n : Fin 4)
  /-- DSP_LDP (R215). -/
  | dspLdp (n : Fin 4)
  /-- DSP_PADR (R216). -/
  | dspPadr (n : Fin 4)
  /-- DSP_ASH_IMM (R218). -/
  | dspAshImm (n : Fin 4)
  /-- DSP_ASH_REG (R218). -/
  | dspAshReg (n : Fin 4)
  /-- DSP_LSH (R218). -/
  | dspLsh (n : Fin 4)
  /-- DSP_NRM (R219). -/
  | dspNrm (n : Fin 4)
  /-- DSP_ADDI (R218). -/
  | dspAddi (n : Fin 4)
  /-- DSP_CMPI (R218). -/
  | dspCmpi (n : Fin 4)
  /-- DSP_CROT (R181). -/
  | dspCrot (n : Fin 4)
  /-- DSP_CVEC (R181). -/
  | dspCvec (n : Fin 4)
  /-- DSP_SQRT (R181). -/
  | dspSqrt (n : Fin 4)
  /-- DSP_DIV (R181). -/
  | dspDiv (n : Fin 4)
  /-- DSP_NOP (R200). -/
  | dspNop (n : Fin 4)
  /-- DSP_RTS (R176). -/
  | dspRts (n : Fin 4)
  /-- DSP_RTI (R190). -/
  | dspRti (n : Fin 4)
  /-- DSP_LPOP (R173). -/
  | dspLpop (n : Fin 4)
  /-- DSP_SWI (R226). -/
  | dspSwi (n : Fin 4)
  /-- DSP_JMP (R179). -/
  | dspJmp (n : Fin 4)
  /-- DSP_CALL (R176). -/
  | dspCall (n : Fin 4)
  /-- DSP_BCC (R221). -/
  | dspBcc (n : Fin 4)
  /-- DSP_LOOP_REG (R168). -/
  | dspLoopReg (n : Fin 4)
  /-- DSP_LOOP_IMM (R168). -/
  | dspLoopImm (n : Fin 4)
  /-- DSP_RPT_IMM (R174). -/
  | dspRptImm (n : Fin 4)
  /-- DSP_RPT_REG (R174). -/
  | dspRptReg (n : Fin 4)
  /-- PWM_BIND (R228). -/
  | pwmBind (m : BitVec 8) (n : Fin 4) (v : BitVec 32)
  /-- SHADOW_WRITE (R241). -/
  | shadowWrite (m : BitVec 8) (n : Fin 4) (r : Fin 10) (v : BitVec 32)
  /-- COMMIT (R241). -/
  | pwmCommit (m : BitVec 8) (n : Fin 4)
  /-- RUN (R250). -/
  | pwmRun (m : BitVec 8) (n : Fin 4)
  /-- STOP (R251). -/
  | pwmStop (m : BitVec 8) (n : Fin 4)
  /-- FORCE_TRIP (R256). -/
  | forceTrip (m : BitVec 8) (n : Fin 4)
  /-- TRIP_CLR (R261). -/
  | tripClr (m : BitVec 8) (n : Fin 4)
  /-- DRVRST (R266). -/
  | drvrst (m : BitVec 8) (n : Fin 4)
  /-- DRVRST_PULSE_END (R266). -/
  | drvrstPulseEnd (n : Fin 4)
  /-- PWM_CFG_WRITE (R271). -/
  | pwmCfgWrite (m : BitVec 8) (n : Fin 4) (dt : Bool) (v : BitVec 32)
  /-- PERIOD_WRAP (R233). -/
  | periodWrap (n : Fin 4)
  /-- XFER_EFFECTIVE_INSTANT (R245). -/
  | xferEffectiveInstant (n : Fin 4)
  /-- PWM_WDOG_EXPIRY (R248). -/
  | pwmWdogExpiry (n : Fin 4)
  /-- DEAD_TIME_EXPIRY (R236). -/
  | deadTimeExpiry (n : Fin 4) (j : Fin 4)
  /-- HARD_TRIP (R257). -/
  | hardTrip (n : Fin 4) (k : Fin 5)
  /-- PIN_CLAIM (R268). -/
  | pinClaim (m : BitVec 8) (k : Fin 8)
  /-- PIN_RELEASE (R268). -/
  | pinRelease (m : BitVec 8) (k : Fin 8)
  /-- PWM_CONFLICT_INFO_READ (R270). -/
  | pwmConflictInfoRead (m : BitVec 8)
  /-- TRACKER_PUBLISH (R276). -/
  | trackerPublish (theta : BitVec 32) (freq : BitVec 32) (perr : Int) (amp : BitVec 32) (seq : Bool)
  /-- TRK_TRIM_WRITE (R281). -/
  | trkTrimWrite (m : BitVec 8) (v : BitVec 32)
  /-- HALF_CYCLE_END (R283). -/
  | halfCycleEnd (k : Fin 3)
  /-- FREQ_UPDATE (R282). -/
  | freqUpdate
  /-- VECTOR_SHIFT_UPDATE (R295). -/
  | vectorShiftUpdate
  /-- ES_DELAY_EXPIRY (R292). -/
  | esDelayExpiry
  /-- ACTIVATE (R286). -/
  | activate (m : BitVec 8)
  /-- PROFILE_BANK_SWAP (R286). -/
  | profileBankSwap
  /-- CEASE_CMD (R293). -/
  | ceaseCmd (m : BitVec 8)
  /-- CEASE_CLR (R293). -/
  | ceaseClr (m : BitVec 8)
  /-- INJ_SETTING_WRITE (R297). -/
  | injSettingWrite (m : BitVec 8) (slot : Bool) (v : BitVec 32)
  /-- INJECTION_START (R297). -/
  | injectionStart
  /-- INJECTION_END (R297). -/
  | injectionEnd
  /-- INJECTION_RESPONSE (R298). -/
  | injectionResponse
  /-- GRD_REF_A_READ (R301). -/
  | grdRefARead (m : BitVec 8)
  /-- IVS_APPLY (R303). -/
  | ivsApply (m : BitVec 8)
  /-- IVS_SCAN (R304). -/
  | ivsScan (m : BitVec 8)
  /-- IVS_ABORT (R308). -/
  | ivsAbort (m : BitVec 8)
  /-- IVS_DWELL_END (R305). -/
  | ivsDwellEnd
  /-- SAFETY_DOMAIN_START (R313). -/
  | safetyDomainStart (valid : Bool) (up : BitVec 8) (down : BitVec 8)
  /-- SAFETY_COMMIT (R316). -/
  | safetyCommit (rba : BitVec 8) (rbb : BitVec 8)
  /-- SAFETY_OWN_SNAPSHOT (R317). -/
  | safetyOwnSnapshot
  /-- SAFETY_HW_FAULT (R311). -/
  | safetyHwFault (k : Fin 3)
  /-- SAFETY_CYCLE_MISS (R312). -/
  | safetyCycleMiss
  /-- SIN_LEVEL_ACCEPT (R319). -/
  | sinLevelAccept (n : Fin 8) (sideB : Bool) (x : SinLevel)
  /-- TEST_PULSE_START (R322). -/
  | testPulseStart (sideB : Bool)
  /-- TEST_PULSE_CHECK (R323): raw levels of the pulsed channels and of the other ones at the pulse's last sample, and of the other
  ones at the end of the blanking window. -/
  | testPulseCheck (sideB : Bool) (pulsed : BitVec 8) (other : BitVec 8) (otherEnd : BitVec 8)
  /-- DISCREPANCY_TIMEOUT (R324). -/
  | discrepancyTimeout (n : Fin 8)
  /-- STRAP_SAMPLE (R339). -/
  | strapSample (up : BitVec 8) (down : BitVec 8)
  /-- PSET_CONFIRM_TIMEOUT (R342). -/
  | psetConfirmTimeout (wrong : Bool)
  /-- PSET_ACTIVATE (R342). -/
  | psetActivate
  /-- DYN_DUE_TIMEOUT (R346). -/
  | dynDueTimeout (c : Fin 4)
  /-- SAF_STAT_READ (R351). -/
  | safStatRead (m : BitVec 8)
  /-- TRIG (R366). -/
  | trig (m : BitVec 8)
  /-- SYNC (R367). -/
  | sync
  /-- VAL_SEND_GET_SET (R370). -/
  | valSendGetSet
  /-- SET_DATA (R370). -/
  | setData (p : Fin 32) (pl : List Byte) (crc : BitVec 32) (clean : Bool)
  /-- VAL_RESPONSE_TIMEOUT (R370). -/
  | valResponseTimeout (p : Fin 32)
  /-- RD_DATA (R391). -/
  | rdData (p : Fin 32) (pl : List Byte) (crc : BitVec 32) (clean : Bool)
  /-- WR_ACK (R391). -/
  | wrAck (p : Fin 32) (pl : List Byte) (crc : BitVec 32) (clean : Bool)
  /-- CMD_ACK (R385). -/
  | cmdAck (p : Fin 32) (pl : List Byte) (crc : BitVec 32) (clean : Bool)
  /-- NAK (R391). -/
  | nak (p : Fin 32) (pl : List Byte) (crc : BitVec 32) (clean : Bool)
  /-- SAT_SYNC (R368). -/
  | satSync (p : Fin 32) (pl : List Byte) (crc : BitVec 32) (clean : Bool)
  /-- SAT_WINDOW_END (R368). -/
  | satWindowEnd (p : Fin 32) (cells : List Int) (temps : List Nat) (vtref : Nat) (die : BitVec 16) (module : BitVec 16)
  /-- SAT_RD (R365). -/
  | satRd (p : Fin 32) (pl : List Byte) (crc : BitVec 32) (clean : Bool)
  /-- SAT_WR (R365). -/
  | satWr (p : Fin 32) (pl : List Byte) (crc : BitVec 32) (clean : Bool)
  /-- SAT_GET_SET (R368). -/
  | satGetSet (p : Fin 32) (pl : List Byte) (crc : BitVec 32) (clean : Bool)
  /-- OWD_RUN (R380). -/
  | owdRun (p : Fin 32) (pl : List Byte) (crc : BitVec 32) (clean : Bool)
  /-- SLEEP (R389). -/
  | sleep (p : Fin 32) (pl : List Byte) (crc : BitVec 32) (clean : Bool)
  /-- CLEAR_FAULT (R392). -/
  | clearFault (p : Fin 32) (pl : List Byte) (crc : BitVec 32) (clean : Bool)
  /-- SAT_UNKNOWN_REQUEST (R365). -/
  | satUnknownRequest (p : Fin 32) (typ : BitVec 8) (pl : List Byte) (crc : BitVec 32) (clean : Bool)
  /-- SAT_OWD_COMPLETE (R381). -/
  | satOwdComplete (p : Fin 32) (off : List Int) (on : List Int)
  /-- SAT_SILENCE_TIMEOUT (R389). -/
  | satSilenceTimeout (p : Fin 32)
  /-- BAL_TMO_EXPIRY (R378). -/
  | balTmoExpiry (p : Fin 32)
  /-- SAT_DIE_TEMP_CHECK (R379). -/
  | satDieTempCheck (p : Fin 32) (die : Int)
  /-- SAT_BAL_ALTERNATE (R379). -/
  | satBalAlternate (p : Fin 32)
  /-- WAKE_BURST (R389). -/
  | wakeBurst (p : Fin 32) (ns : Nat)
  /-- PORT_EN_WRITE (R385). -/
  | portEnWrite (m : BitVec 8) (p : Fin 32) (v : BitVec 32)
  /-- WAKE_SEQUENCE_STEP (R386). -/
  | wakeSequenceStep (p : Fin 32)
  /-- WAKE_ALL (R385). -/
  | wakeAll (m : BitVec 8)
  /-- SLEEP_ALL (R385). -/
  | sleepAll (m : BitVec 8)
  /-- OWD_GO (R384). -/
  | owdGo (m : BitVec 8)
  /-- OWD_RESULT_POLL (R384). -/
  | owdResultPoll (p : Fin 32)
  /-- KEEP_ALIVE (R390). -/
  | keepAlive (p : Fin 32)
  /-- PORT_AUTO_RECOVER (R385). -/
  | portAutoRecover (p : Fin 32)
  /-- LINE_SHORT (R388). -/
  | lineShort (p : Fin 32)
  /-- ACC_GO (R391). -/
  | accGo (m : BitVec 8) (p : Fin 32) (v : BitVec 32)
  /-- OPEN (R399). -/
  | secOpen (r : BitVec 15) (sess : BitVec 32) (len : BitVec 16) (pl : List Byte)
  /-- PROVE (R401). -/
  | secProve (r : BitVec 15) (sess : BitVec 32) (len : BitVec 16) (pl : List Byte)
  /-- CLOSE (R403). -/
  | secClose (r : BitVec 15) (sess : BitVec 32) (len : BitVec 16) (pl : List Byte)
  /-- GET_CERT (R418). -/
  | getCert (r : BitVec 15) (sess : BitVec 32) (len : BitVec 16) (pl : List Byte)
  /-- PSET_DELIVER (R341). -/
  | psetDeliver (r : BitVec 15) (sess : BitVec 32) (len : BitVec 16) (pl : List Byte)
  /-- PSET_CONFIRM (R342). -/
  | psetConfirm (r : BitVec 15) (sess : BitVec 32) (len : BitVec 16) (pl : List Byte)
  /-- KEY_ENROL (R396). -/
  | keyEnrol (r : BitVec 15) (sess : BitVec 32) (len : BitVec 16) (pl : List Byte)
  /-- PASSWORD_SET (R400). -/
  | passwordSet (r : BitVec 15) (sess : BitVec 32) (len : BitVec 16) (pl : List Byte)
  /-- SESS_CFG (R403). -/
  | sessCfg (r : BitVec 15) (sess : BitVec 32) (len : BitVec 16) (pl : List Byte)
  /-- TAMPER_CFG (R426). -/
  | tamperCfg (r : BitVec 15) (sess : BitVec 32) (len : BitVec 16) (pl : List Byte)
  /-- TAMPER_REARM (R426). -/
  | tamperRearm (r : BitVec 15) (sess : BitVec 32) (len : BitVec 16) (pl : List Byte)
  /-- ODO_CFG (R424). -/
  | odoCfg (r : BitVec 15) (sess : BitVec 32) (len : BitVec 16) (pl : List Byte)
  /-- DEBUG_OPEN (R429). -/
  | debugOpen (r : BitVec 15) (sess : BitVec 32) (len : BitVec 16) (pl : List Byte)
  /-- LIFECYCLE_ADVANCE (R394). -/
  | lifecycleAdvance (r : BitVec 15) (sess : BitVec 32) (len : BitVec 16) (pl : List Byte)
  /-- GRANT_SET (R537). -/
  | grantSet (r : BitVec 15) (sess : BitVec 32) (len : BitVec 16) (pl : List Byte)
  /-- CHECKPOINT_NOW (R408). -/
  | checkpointNow (r : BitVec 15) (sess : BitVec 32) (len : BitVec 16) (pl : List Byte)
  /-- COMPAT_ACK (R714). -/
  | compatAck (r : BitVec 15) (sess : BitVec 32) (len : BitVec 16) (pl : List Byte)
  /-- IMAGE_LOAD (R715). -/
  | imageLoad (r : BitVec 15) (sess : BitVec 32) (len : BitVec 16) (pl : List Byte) (img : Option (List Byte)) (writes : List (BitVec 40 × BitVec 32))
  /-- CHALLENGE_EXPIRY (R399). -/
  | challengeExpiry (n : Fin 128)
  /-- SESSION_IDLE_TIMEOUT (R403). -/
  | sessionIdleTimeout (sess : BitVec 32)
  /-- LOCKOUT_EXPIRY (R404). -/
  | lockoutExpiry (k : Fin 4)
  /-- LEDGER_COMMIT_START (R412). -/
  | ledgerCommitStart
  /-- LEDGER_COMMIT_DONE (R412). -/
  | ledgerCommitDone (ok : Bool)
  /-- LEDGER_PRUNE (R414). -/
  | ledgerPrune
  /-- LEDGER_READ (R418). -/
  | ledgerRead (r : BitVec 15)
  /-- MOTION_RECORD_DELIVERY (R422). -/
  | motionRecordDelivery
  /-- TAMPER_EVENT (R426). -/
  | tamperEvent (j : Fin 8)
  /-- TAMPER_SAMPLE_PARKED (R43). -/
  | tamperSampleParked (j : Fin 8) (ticks : BitVec 48)
  /-- SP_TAG_WRITE (R436). -/
  | spTagWrite (m : BitVec 8) (v : BitVec 32) (sec : Bool)
  /-- DR_TAG_WRITE (R762). -/
  | drTagWrite (m : BitVec 8) (v : BitVec 32) (sec : Bool)
  /-- STOCKPOT_ZERO_FILL_DONE (R437). -/
  | stockpotZeroFillDone
  /-- MEM_ERR_POP (R459). -/
  | memErrPop (m : BitVec 8) (v : BitVec 32)
  /-- MEM_RST_POP (R460). -/
  | memRstPop (m : BitVec 8) (v : BitVec 32)
  /-- INIT (R441). -/
  | drmInit (m : BitVec 8)
  /-- DRM_INIT_DONE (R441). -/
  | drmInitDone (zeroed : Bool) (fail : BitVec 2)
  /-- SR_ENTER (R442). -/
  | srEnter (m : BitVec 8)
  /-- SR_EXIT (R698). -/
  | srExit (m : BitVec 8)
  /-- TRAIN_MODE_WRITE (R451). -/
  | trainModeWrite (m : BitVec 8) (c : Fin 2) (v : BitVec 32)
  /-- RETRAIN (R453). -/
  | retrain (m : BitVec 8) (c : Fin 2)
  /-- DLY_WRITE (R453). -/
  | dlyWrite (m : BitVec 8) (c : Fin 2) (k : Fin 8) (v : BitVec 32)
  /-- DRAM_LINE_READ (R444). -/
  | dramLineRead (m : BitVec 8) (a : BitVec 40) (err : BitVec 2)
  /-- DRAM_FULL_WRITE (R445). -/
  | dramFullWrite (m : BitVec 8) (a : BitVec 40) (bs : List Byte) (err : BitVec 2)
  /-- DRAM_PARTIAL_WRITE (R446): bytes from `a` on, each with its strobe. -/
  | dramPartialWrite (m : BitVec 8) (a : BitVec 40) (bs : List (Byte × Bool)) (err : BitVec 2)
  /-- SCRUB_READ (R449). -/
  | scrubRead (c : Fin 2) (err : BitVec 2)
  /-- DRIFT_PAUSE (R452). -/
  | driftPause (c : Fin 2) (len : Nat) (rt : Bool) (refreshing : Bool) (delays : List Nat)
  /-- DRIFT_SENSE (R453). -/
  | driftSense (c : Fin 2) (ps : Nat)
  /-- REFRESH_DUE (R454). -/
  | refreshDue (c : Fin 2) (busy : Bool)
  /-- PUSH (R466). -/
  | push (m : BitVec 8) (q : Fin 16) (w : BitVec 32) (pop : Bool)
  /-- POP (R465). -/
  | pop (m : BitVec 8) (q : Fin 16)
  /-- LOCK_READ (R474). -/
  | lockRead (m : BitVec 8) (k : Fin 64)
  /-- LOCK_WRITE (R475). -/
  | lockWrite (m : BitVec 8) (k : Fin 64) (v : BitVec 8)
  /-- LOCK_FORCE (R479). -/
  | lockForce (m : BitVec 8) (v : BitVec 32)
  /-- DB_SET (R481). -/
  | dbSet (m : BitVec 8) (k : Fin 64) (v : BitVec 32)
  /-- DB_PEND_CLEAR (R484). -/
  | dbPendClear (m : BitVec 8) (k : Fin 64) (v : BitVec 32)
  /-- DB_MASK_WRITE (R483). -/
  | dbMaskWrite (m : BitVec 8) (k : Fin 64) (v : BitVec 32)
  /-- DB_CFG_WRITE (R480). -/
  | dbCfgWrite (m : BitVec 8) (k : Fin 64) (v : BitVec 32)
  /-- FOLIO_DATA_WRITE (R487). -/
  | folioDataWrite (m : BitVec 8) (n : Fin 128) (d2h : Bool) (k : Fin 16) (v : BitVec 32)
  /-- POST (R488). -/
  | folioPost (m : BitVec 8) (n : Fin 128) (d2h : Bool)
  /-- DONE (R488). -/
  | folioDone (m : BitVec 8) (n : Fin 128) (d2h : Bool)
  /-- DOORBELL_TAIL (R514). -/
  | doorbellTail (n : Fin 128) (l : BitVec 14) (wide : Bool) (high : Bool) (v : BitVec 64)
  /-- DOORBELL_CHEAD (R514). -/
  | doorbellChead (n : Fin 128) (l : BitVec 14) (wide : Bool) (high : Bool) (v : BitVec 64)
  /-- DESC_FETCH_DONE (R511). -/
  | descFetchDone (r : BitVec 15) (ok : Bool) (w : BitVec 256)
  /-- HOST_DMA_DONE (R496). -/
  | hostDmaDone (r : BitVec 15) (seq : BitVec 64) (ok : Bool) (moved : BitVec 32)
  /-- MSIX_COAL_TIMEOUT (R518). -/
  | msixCoalTimeout (r : BitVec 15)
  /-- MSIX_UNMASK (R519). -/
  | msixUnmask (fn : Fin 128) (vec : Fin 128) (k : Fin 4) (v : BitVec 32)
  /-- FLR (R494). -/
  | flr (fn : Fin 128) (jfail : Bool)
  /-- BUS_MASTER_ENABLE_CHANGE (R495). -/
  | busMasterEnableChange (fn : Fin 128) (on : Bool)
  /-- BAR0_ACCESS (R498). -/
  | bar0Access (fn : Fin 128) (write : Bool) (o : BitVec 24) (size : BitVec 4) (v : BitVec 64)
  /-- BAR_MALFORMED_ACCESS (R499). -/
  | barMalformedAccess (fn : Fin 128) (write : Bool)
  /-- STATUS_PAGE_WRITE (R500). -/
  | statusPageWrite (fn : Fin 128)
  /-- RING_CTX_WRITE (R520). -/
  | ringCtxWrite (m : BitVec 8) (k : Fin 8) (v : BitVec 32)
  /-- RING_DRAIN_DONE (R505). -/
  | ringDrainDone (r : BitVec 15) (cut : List (Nat × Nat))
  /-- INFO (R530). -/
  | info (n : Fin 128)
  /-- RING_ENABLE (R532). -/
  | ringEnable (n : Fin 128)
  /-- RING_DISABLE (R505). -/
  | ringDisable (n : Fin 128)
  /-- ERRLOG_READ (R546). -/
  | errlogRead (n : Fin 128)
  /-- ATTN (R553). -/
  | attn (n : Fin 128)
  /-- DB_RING (R534). -/
  | dbRing (n : Fin 128)
  /-- INST_CREATE (R527). -/
  | instCreate (n : Fin 128)
  /-- INST_RESET (R544). -/
  | instReset (n : Fin 128) (jfail : Bool)
  /-- INST_REMOVE (R544). -/
  | instRemove (n : Fin 128) (jfail : Bool)
  /-- INST_QUERY (R530). -/
  | instQuery (n : Fin 128)
  /-- GRANT (R535). -/
  | grant (n : Fin 128)
  /-- SETPOINT_LIMIT (R540). -/
  | setpointLimit (n : Fin 128)
  /-- JOURNAL_SET (R547). -/
  | journalSet (n : Fin 128)
  /-- REG_WRITE (R533). -/
  | regWrite (n : Fin 128)
  /-- REG_READ (R533). -/
  | regRead (n : Fin 128)
  /-- VF_ENABLE_CHANGE (R523). -/
  | vfEnableChange (on : Bool) (num : BitVec 7) (jfail : Bool)
  /-- RESET_DRAIN_DONE (R544). -/
  | resetDrainDone (n : Fin 128) (cut : List (Nat × Nat × Nat)) (jfail : Bool)
  /-- FLUSH_READ_DONE (R545). -/
  | flushReadDone (n : Fin 128) (r : BitVec 15) (ok : Bool) (more : Nat) (jfail : Bool)
  /-- SETPOINT (R540). -/
  | setpoint (r : BitVec 15)
  /-- SETPOINT_RETRY_EXPIRY (R37). -/
  | setpointRetryExpiry (r : BitVec 15)
  /-- INS_INFO_READ (R554). -/
  | insInfoRead (m : BitVec 8)
  /-- PT_START (R559). -/
  | ptStart (m : BitVec 8) (n : Fin 64)
  /-- PT_HALT (R559). -/
  | ptHalt (m : BitVec 8) (n : Fin 64)
  /-- PT_RESUME (R559). -/
  | ptResume (m : BitVec 8) (n : Fin 64)
  /-- PT_POKE (R571). -/
  | ptPoke (m : BitVec 8) (n : Fin 64)
  /-- HALT_ALL (R561). -/
  | haltAll (m : BitVec 8) (c : Fin 4)
  /-- START_ALL (R561). -/
  | startAll (m : BitVec 8) (c : Fin 4)
  /-- WAKE_COMPARE_FIRE (R568). -/
  | wakeCompareFire (n : Fin 64)
  /-- THREAD_ACCESS_DONE (R564). -/
  | threadAccessDone (n : Fin 64)
  /-- STALL_LIMIT (R576). -/
  | stallLimit (c : Fin 4)
  /-- TPUT_DONE (R577). -/
  | tputDone (n : Fin 64)
  /-- PX_ADD (R579). -/
  | pxAdd (n : Fin 64)
  /-- PX_SUB (R579). -/
  | pxSub (n : Fin 64)
  /-- PX_AND (R579). -/
  | pxAnd (n : Fin 64)
  /-- PX_OR (R579). -/
  | pxOr (n : Fin 64)
  /-- PX_XOR (R579). -/
  | pxXor (n : Fin 64)
  /-- PX_SLL (R579). -/
  | pxSll (n : Fin 64)
  /-- PX_SRL (R579). -/
  | pxSrl (n : Fin 64)
  /-- PX_SRA (R579). -/
  | pxSra (n : Fin 64)
  /-- PX_SLT (R579). -/
  | pxSlt (n : Fin 64)
  /-- PX_SLTU (R579). -/
  | pxSltu (n : Fin 64)
  /-- PX_MUL (R579). -/
  | pxMul (n : Fin 64)
  /-- PX_MULHU (R579). -/
  | pxMulhu (n : Fin 64)
  /-- PX_CLZ (R579). -/
  | pxClz (n : Fin 64)
  /-- PX_POPC (R579). -/
  | pxPopc (n : Fin 64)
  /-- PX_BSWAP (R579). -/
  | pxBswap (n : Fin 64)
  /-- PX_CRC32C (R579). -/
  | pxCrc32c (n : Fin 64)
  /-- PX_CSUM (R579). -/
  | pxCsum (n : Fin 64)
  /-- PX_ADDI (R579). -/
  | pxAddi (n : Fin 64)
  /-- PX_ANDI (R579). -/
  | pxAndi (n : Fin 64)
  /-- PX_ORI (R579). -/
  | pxOri (n : Fin 64)
  /-- PX_XORI (R579). -/
  | pxXori (n : Fin 64)
  /-- PX_SLLI (R579). -/
  | pxSlli (n : Fin 64)
  /-- PX_SRLI (R579). -/
  | pxSrli (n : Fin 64)
  /-- PX_SRAI (R579). -/
  | pxSrai (n : Fin 64)
  /-- PX_SLTI (R579). -/
  | pxSlti (n : Fin 64)
  /-- PX_SLTIU (R579). -/
  | pxSltiu (n : Fin 64)
  /-- PX_LUI (R579). -/
  | pxLui (n : Fin 64)
  /-- PX_BEXT (R579). -/
  | pxBext (n : Fin 64)
  /-- PX_BINS (R579). -/
  | pxBins (n : Fin 64)
  /-- PX_LW (R564). -/
  | pxLw (n : Fin 64)
  /-- PX_LH (R564). -/
  | pxLh (n : Fin 64)
  /-- PX_LHU (R564). -/
  | pxLhu (n : Fin 64)
  /-- PX_LB (R564). -/
  | pxLb (n : Fin 64)
  /-- PX_LBU (R564). -/
  | pxLbu (n : Fin 64)
  /-- PX_SW (R564). -/
  | pxSw (n : Fin 64)
  /-- PX_SH (R564). -/
  | pxSh (n : Fin 64)
  /-- PX_SB (R564). -/
  | pxSb (n : Fin 64)
  /-- PX_AMOADD (R565). -/
  | pxAmoadd (n : Fin 64)
  /-- PX_AMOSWAP (R565). -/
  | pxAmoswap (n : Fin 64)
  /-- PX_CAS (R565). -/
  | pxCas (n : Fin 64)
  /-- PX_BEQ (R579). -/
  | pxBeq (n : Fin 64)
  /-- PX_BNE (R579). -/
  | pxBne (n : Fin 64)
  /-- PX_BLT (R579). -/
  | pxBlt (n : Fin 64)
  /-- PX_BGE (R579). -/
  | pxBge (n : Fin 64)
  /-- PX_BLTU (R579). -/
  | pxBltu (n : Fin 64)
  /-- PX_BGEU (R579). -/
  | pxBgeu (n : Fin 64)
  /-- PX_JAL (R579). -/
  | pxJal (n : Fin 64)
  /-- PX_JALR (R579). -/
  | pxJalr (n : Fin 64)
  /-- PX_CSRR (R580). -/
  | pxCsrr (n : Fin 64)
  /-- PX_CSRW (R580). -/
  | pxCsrw (n : Fin 64)
  /-- PX_NOP (R579). -/
  | pxNop (n : Fin 64)
  /-- PX_WAIT (R568). -/
  | pxWait (n : Fin 64)
  /-- PX_WAITR (R569). -/
  | pxWaitr (n : Fin 64)
  /-- PX_POKE (R571). -/
  | pxPoke (n : Fin 64)
  /-- PX_HALT (R562). -/
  | pxHalt (n : Fin 64)
  /-- PX_BRK (R566). -/
  | pxBrk (n : Fin 64)
  /-- PX_TPUT (R577). -/
  | pxTput (n : Fin 64)
  /-- PX_PRX (R618). -/
  | pxPrx (n : Fin 64)
  /-- PX_PTX (R616). -/
  | pxPtx (n : Fin 64)
  /-- PX_PFREE (R585). -/
  | pxPfree (n : Fin 64)
  /-- PX_PALLOC (R585). -/
  | pxPalloc (n : Fin 64)
  /-- PX_FLOOK (R599). -/
  | pxFlook (n : Fin 64)
  /-- PX_FCMD (R587). -/
  | pxFcmd (n : Fin 64)
  /-- TABLE_WRITE (R589). -/
  | tableWrite (n : Fin 128) (rc : List Byte)
  /-- TABLE_DELETE (R588). -/
  | tableDelete (n : Fin 128) (rc : List Byte)
  /-- TABLE_READ (R601). -/
  | tableRead (n : Fin 128) (rc : List Byte)
  /-- KEY_LOAD (R613). -/
  | keyLoad (n : Fin 128) (rc : List Byte)
  /-- KEY_RESTORE (R613). -/
  | keyRestore (n : Fin 128) (rc : List Byte)
  /-- TX_FRAME (R616). -/
  | txFrame (r : BitVec 15) (data : List Byte)
  /-- TX_TABLE (R616). -/
  | txTable (r : BitVec 15) (data : List Byte)
  /-- FRAME_RECEIVE (R582). -/
  | frameReceive (p : Fin 6) (fcs : Bool) (data : List Byte)
  /-- FDB_AGE_EXPIRY (R593). -/
  | fdbAgeExpiry (idx : BitVec 32)
  /-- FLOW_CACHE_FILL (R601). -/
  | flowCacheFill (idx : BitVec 32)
  /-- FRAME_TRANSMIT_START (R636). -/
  | frameTransmitStart (p : Fin 8)
  /-- FRAME_TRANSMIT_END (R649). -/
  | frameTransmitEnd (p : Fin 8)
  /-- STORAGE_READ (R621). -/
  | storageRead (r : BitVec 15)
  /-- STORAGE_WRITE (R621). -/
  | storageWrite (r : BitVec 15) (data : List Byte)
  /-- STORAGE_FLUSH (R621). -/
  | storageFlush (r : BitVec 15)
  /-- STORAGE_WRITE_ZEROES (R621). -/
  | storageWriteZeroes (r : BitVec 15)
  /-- STORAGE_DEALLOCATE (R621). -/
  | storageDeallocate (r : BitVec 15)
  /-- SSD_COMPLETION (R623). -/
  | ssdCompletion (r : BitVec 15) (seq : BitVec 64) (st : BitVec 12) (data : List Byte)
  /-- NVME_TIMEOUT (R623). -/
  | nvmeTimeout (r : BitVec 15) (seq : BitVec 64)
  /-- GPTP_COMMIT (R627). -/
  | gptpCommit (m : BitVec 8) (sync : Bool)
  /-- GATE_ENTRY_ADVANCE (R640). -/
  | gateEntryAdvance (p : Fin 8)
  /-- GCL_CHANGE (R641). -/
  | gclChange (m : BitVec 8) (p : Fin 8) (len : BitVec 11) (fb : BitVec 8)
  /-- GCL_SWAP (R642). -/
  | gclSwap (p : Fin 8)
  /-- ANG_TIMEOUT (R645). -/
  | angTimeout (p : Fin 8)
  /-- STARVATION_FLAG (R657). -/
  | starvationFlag (p : Fin 8) (c : Fin 8)
  /-- NODE_CFG_WRITE (R633). -/
  | nodeCfgWrite (m : BitVec 8) (v : BitVec 32)
  /-- CAPTURE_GRID (R667). -/
  | captureGrid
  /-- QOR_REF_SEND (R668). -/
  | qorRefSend
  /-- QOR_REF (R669). -/
  | qorRef
  /-- QOR_ISLAND (R681). -/
  | qorIsland
  /-- QOR_RESUME (R683). -/
  | qorResume
  /-- QOR_JOIN (R677). -/
  | qorJoin
  /-- QOR_ACCEPT (R675). -/
  | qorAccept
  /-- QOR_REJECT (R675). -/
  | qorReject
  /-- QOR_LEAVE (R677). -/
  | qorLeave
  /-- QOR_STATUS (R677). -/
  | qorStatus
  /-- QOR_JOIN_REPEAT (R675). -/
  | qorJoinRepeat
  /-- QOR_HOLDOVER_ENTRY (R675). -/
  | qorHoldoverEntry
  /-- QOR_LONE_ENTRY (R679). -/
  | qorLoneEntry
  /-- QOR_MEMBER_TIMEOUT (R677). -/
  | qorMemberTimeout
  /-- AGG_ISLAND (R680). -/
  | aggIsland (m : BitVec 8) (close : Bool)
  /-- AGG_RESUME (R683). -/
  | aggResume (m : BitVec 8) (close : Bool)
  /-- AGG_LEAVE (R676). -/
  | aggLeave (m : BitVec 8) (close : Bool)
  /-- AGG_CLOSE (R677). -/
  | aggClose (m : BitVec 8) (on : Bool)
  /-- AGG_CAP_READ (R667). -/
  | aggCapRead (m : BitVec 8) (k : Fin 4)
  /-- LDG_HEAD_LO_READ (R432). -/
  | ldgHeadLoRead (m : BitVec 8)
  /-- OSC25_LOSS (R685). -/
  | osc25Loss
  /-- OSC25_RETURN (R685). -/
  | osc25Return
  /-- PARK (R691). -/
  | park (m : BitVec 8)
  /-- PARK_DONE (R691). -/
  | parkDone
  /-- WAKE_SOURCE (R693). -/
  | wakeSource (w0 : Option Bool) (w1 : Option Bool) (ticks : BitVec 48)
  /-- UNPLANNED_POWER_LOSS (R695). -/
  | unplannedPowerLoss (saf : Bool)
  /-- VBAT_APPLY (R697). -/
  | vbatApply
  /-- VBAT_BROWNOUT (R741). -/
  | vbatBrownout (mv : Nat)
  /-- PORN_LOW (R697). -/
  | pornLow (saf : Bool)
  /-- WARM (R698). -/
  | warm (m : BitVec 8) (jfail : Bool) (cut : List CutBurst)
  /-- MGMT (R702). -/
  | mgmt (m : BitVec 8) (jfail : Bool) (cut : List CutBurst)
  /-- MGMT_WDOG_EXPIRY (R700). -/
  | mgmtWdogExpiry (jfail : Bool) (cut : List CutBurst)
  /-- WDOG_KICK (R700). -/
  | wdogKick (m : BitVec 8) (v : BitVec 32)
  /-- HOST_RESET (R699). -/
  | hostReset (jfail : Bool)
  /-- SAF_RSTN (R705). -/
  | safRstn
  /-- SAFETY_RESEND (R706). -/
  | safetyResend
  /-- BOOT_S0_ROM (R707). -/
  | bootS0Rom (prog : Option (List (Nat × List Byte)))
  /-- BOOT_S1_SC (R712). -/
  | bootS1Sc (cut : BitVec 2) (missing : Nat) (altered : Bool)
  /-- BOOT_S2_MC (R707). -/
  | bootS2Mc (pantry : Option (List (BitVec 32))) (writes : List (BitVec 40 × BitVec 32))
  /-- BOOT_S3_DRAM (R708). -/
  | bootS3Dram
  /-- BOOT_S4_REALTIME (R707). -/
  | bootS4Realtime (writes : List (BitVec 40 × BitVec 32)) (loaded : List Nat)
  /-- LEG_COMMAND_CHANGE (R234). -/
  | legCommandChange (n : Fin 4) (j : Fin 4)
  /-- TRIP_INPUT_RELEASE (R261). -/
  | tripInputRelease (n : Fin 4) (k : Fin 5)
  /-- SPCNT_EDGE (R327). -/
  | spcntEdge (c : Fin 4) (a : Bool) (b : Bool)
  /-- SATELLITE_FAULT_CAUSE (R392). -/
  | satelliteFaultCause (p : Fin 32) (causes : BitVec 4)
  /-- TAMPER_SOURCE_RETURN (R426). -/
  | tamperSourceReturn (j : Fin 8)
  /-- DSP_WINDOW_ACCESS_DONE (R163). -/
  | dspWindowAccessDone (n : Fin 4)
  /-- DSP_ILLEGAL_ENCODING (R200). -/
  | dspIllegalEncoding (n : Fin 4)
  /-- PX_ILLEGAL_ENCODING (R579). -/
  | pxIllegalEncoding (n : Fin 64)
  /-- PORN_RELEASE (R707). -/
  | pornRelease (ticks : BitVec 48)
  /-- PERST_RELEASE (R699). -/
  | perstRelease (speed : BitVec 4) (width : BitVec 6)
  /-- PORT_LINK_CHANGE (R581). -/
  | portLinkChange (p : Fin 6) (up : Bool) (speed : BitVec 3)
  /-- VERIFY_EXCHANGE_DONE (R650). -/
  | verifyExchangeDone (p : Fin 6)
  /-- NVME_BRINGUP_DONE (R619). -/
  | nvmeBringupDone (ok : Bool) (q : Nat)
  /-- PLL_LOSS_OF_LOCK (R685). -/
  | pllLossOfLock (k : Fin 9)
deriving DecidableEq, Repr

end Sys2Proof
end

