-- ==== Sys2Proof/Decode.lean ====
section
/-! DEFINITION. Commands spelled by words: the table of commands gives no row any bits, so no word spells a command. The words
that DSPs and packet threads run are decoded where they are run (Machine/DspDecode.lean, Machine/Packet.lean). -/
namespace Sys2Proof

/-- The command that a word spells by the table's bits: none. -/
def decodeTableWord (_nbits _w : Nat) : Option Instr := none

end Sys2Proof
end

