-- ==== Sys2Proof/Machine/RegFile.lean ====
section
/-! DEFINITION. The register file: every field of every register has one home here, under a key of its own, and reads as its
reset value (R15) until a value other than it is stored. Also the tables keyed by a number (`Tbl`), used for the internal
state of a block's units, and the shape of a register-map row with the access codes of Table 0.3 (R11). -/
namespace Sys2Proof.Machine

/-- The key of a register field: the field's own number (1000 × block + position) and up to two indices. -/
structure FKey where
  id : Nat
  i : Nat
  j : Nat
deriving DecidableEq, Repr

/-- Keys in the order in which the file lists them. -/
def FKey.before (a b : FKey) : Bool :=
  a.id < b.id || (a.id == b.id && (a.i < b.i || (a.i == b.i && a.j < b.j)))

/-- A field selector: its key, its width in bits and its reset value. -/
structure Fld where
  key : FKey
  w : Nat
  rst : Nat
deriving DecidableEq, Repr

/-- The stored fields: keys rising, no entry at its reset value. -/
abbrev RegFile := List (FKey × Nat)

/-- The value stored under a key, if any. -/
def RegFile.find? : RegFile → FKey → Option Nat
  | [], _ => none
  | (k', v) :: t, k => if k' = k then some v else RegFile.find? t k

/-- Stores `v` under `k`, keeping the order. -/
def RegFile.insert : RegFile → FKey → Nat → RegFile
  | [], k, v => [(k, v)]
  | (k', v') :: t, k, v =>
    if k' = k then (k, v) :: t
    else if k.before k' then (k, v) :: (k', v') :: t
    else (k', v') :: RegFile.insert t k v

/-- Removes every entry under `k`. -/
def RegFile.erase (r : RegFile) (k : FKey) : RegFile := r.filter (fun e => e.1 ≠ k)

/-- The value of a field: what is stored, else its reset value. -/
def RegFile.get (r : RegFile) (x : Fld) : Nat := (r.find? x.key).getD x.rst

/-- Sets a field to the low bits of `v` that it holds; a field at its reset value is not listed. -/
def RegFile.put (r : RegFile) (x : Fld) (v : Nat) : RegFile :=
  if wrap x.w v = x.rst then r.erase x.key else r.insert x.key (wrap x.w v)

/-- The block of Table 11.2 (numbered in that table's order, CD0–CD3 together) that a key belongs to. -/
def FKey.block (k : FKey) : Nat := k.id / 1000

/-- R15: every field of a block back at its reset value. -/
def RegFile.resetBlock (r : RegFile) (b : Nat) : RegFile := r.filter (fun e => e.1.block ≠ b)

/-- The order that canonical files keep: keys strictly rising. -/
def RegFile.wf : RegFile → Bool
  | [] => true
  | [_] => true
  | (k, _) :: (k', v') :: t => k.before k' && RegFile.wf ((k', v') :: t)

/-! ### Tables of units, keyed by a number -/

/-- A table of values keyed by a number; a key that is not listed holds the table's default. -/
abbrev Tbl (α : Type) := List (Nat × α)

/-- The value under key `k`, else `d`. -/
def Tbl.get {α : Type} (d : α) : Tbl α → Nat → α
  | [], _ => d
  | (k', v) :: t, k => if k' = k then v else Tbl.get d t k

/-- Stores `v` under `k`, keys rising. -/
def Tbl.set {α : Type} : Tbl α → Nat → α → Tbl α
  | [], k, v => [(k, v)]
  | (k', v') :: t, k, v =>
    if k' = k then (k, v) :: t
    else if k < k' then (k, v) :: (k', v') :: t
    else (k', v') :: Tbl.set t k v

/-- Removes key `k`. -/
def Tbl.erase {α : Type} (t : Tbl α) (k : Nat) : Tbl α := t.filter (fun e => e.1 ≠ k)

/-! ### Register-map rows -/

/-- The access codes of Table 0.3. -/
inductive Access where
  | rw | ro | wo | w1c | rc | rl | wx
deriving DecidableEq, Repr

/-- One row of a register map: offset, two strides with their counts, the bank index field (registers shown through an
index register), and the fields: lowest bit, access code, and the selector as a function of (block number, index, index). -/
structure RegRow where
  off : Nat
  stride1 : Nat
  count1 : Nat
  stride2 : Nat
  count2 : Nat
  bank : Option Fld
  flds : List (Nat × Access × (Nat → Nat → Nat → Fld))

/-- The indices with which a row holds the register at block offset `o`, if it does. -/
def RegRow.match? (r : RegRow) (o : Nat) : Option (Nat × Nat) :=
  if o < r.off then none
  else
    let d := o - r.off
    let a := d / r.stride1
    let e := d % r.stride1
    let b := e / r.stride2
    if a < r.count1 ∧ b < r.count2 ∧ e % r.stride2 = 0 then some (a, b) else none

end Sys2Proof.Machine
end

