-- ==== Sys2Proof/Machine/Regs.lean ====
section
/-! DEFINITION. The field selectors of every register the spec gives the controller, one definition per field,
named BLOCK_REGISTER_FIELD as the manual names it; a register array takes its indices as arguments (`n`, then `m`).
A register that is banked behind an index register (Table 11.12, Table 13.14, Table 14.12, Table 17.3, Table 19.14) takes the
bank as its first argument. The reset value of each field is that of the register table named in the comment above it. -/
namespace Sys2Proof.Reg
open Sys2Proof.Machine

/-- Table 19.2: 1 for a domain marked NOGATE (indices 0–12, the comparators 21 and the resolver path 22, 158–160, 244, 245). -/
def clkDomNogate (n : Nat) : Nat :=
  if n ≤ 12 ∨ n = 21 ∨ n = 22 ∨ (158 ≤ n ∧ n ≤ 160) ∨ n = 244 ∨ n = 245 then 1 else 0

/-- Tables 19.1 and 19.2: the PLL that feeds a clock domain, 15 for OSC32K (DEDUCED: see the assumption log). -/
def clkDomPll (n : Nat) : Nat :=
  if n ≤ 47 then 0 else if n ≤ 115 then 0 else if n ≤ 150 then 1 else if n ≤ 157 then 2
  else if n ≤ 160 then 8 else if n ≤ 163 then 6 else if n ≤ 166 then 7 else if n ≤ 197 then 3
  else if n ≤ 200 then 5 else if n ≤ 204 then 4 else if n = 238 then 1 else if n ≤ 243 then 2 else 15

/-! ### BOOT -/
/-! BOOT_CHIP_ID: 00_scope.md Table 0.9 -/
def BOOT_CHIP_ID_PART : Fld := ⟨⟨1001, 0, 0⟩, 16, 37152⟩
def BOOT_CHIP_ID_FAMILY : Fld := ⟨⟨1002, 0, 0⟩, 8, 72⟩
/-! BOOT_CHIP_REV: 00_scope.md Table 0.10 -/
def BOOT_CHIP_REV_MAJOR : Fld := ⟨⟨1003, 0, 0⟩, 4, 2⟩
def BOOT_CHIP_REV_MINOR : Fld := ⟨⟨1004, 0, 0⟩, 4, 1⟩
/-! BOOT_STAGE: 19_clocks_power_boot.md Table 19.14 -/
def BOOT_STAGE_STAGE : Fld := ⟨⟨1005, 0, 0⟩, 4, 0⟩
def BOOT_STAGE_DRAM_READY : Fld := ⟨⟨1006, 0, 0⟩, 1, 0⟩
def BOOT_STAGE_RT_READY : Fld := ⟨⟨1007, 0, 0⟩, 1, 0⟩
def BOOT_STAGE_HOST_READY : Fld := ⟨⟨1008, 0, 0⟩, 1, 0⟩
def BOOT_STAGE_RESTRICTED : Fld := ⟨⟨1009, 0, 0⟩, 1, 0⟩
def BOOT_STAGE_ACKED : Fld := ⟨⟨1010, 0, 0⟩, 1, 0⟩
def BOOT_STAGE_FAIL_COMP : Fld := ⟨⟨1011, 0, 0⟩, 16, 0⟩
/-! BOOT_VERDICT: 19_clocks_power_boot.md Table 19.14 -/
def BOOT_VERDICT_VERDICT : Fld := ⟨⟨1012, 0, 0⟩, 8, 0⟩
def BOOT_VERDICT_COUNT : Fld := ⟨⟨1013, 0, 0⟩, 8, 0⟩
def BOOT_VERDICT_FIRST : Fld := ⟨⟨1014, 0, 0⟩, 16, 0⟩
/-! BOOT_COMP_IDX: 19_clocks_power_boot.md Table 19.14 -/
def BOOT_COMP_IDX_IDX : Fld := ⟨⟨1015, 0, 0⟩, 4, 0⟩
/-! BOOT_COMP: 19_clocks_power_boot.md Table 19.14 -/
def BOOT_COMP_COMPONENT (n : Nat) : Fld := ⟨⟨1016, n, 0⟩, 16, 0⟩
def BOOT_COMP_STATUS (n : Nat) : Fld := ⟨⟨1017, n, 0⟩, 4, 0⟩
/-! BOOT_COMP_VER: 19_clocks_power_boot.md Table 19.14 -/
def BOOT_COMP_VER_VERSION (n : Nat) : Fld := ⟨⟨1018, n, 0⟩, 32, 0⟩
/-! BOOT_STAGE_T: 19_clocks_power_boot.md Table 19.14 -/
def BOOT_STAGE_T_T (n : Nat) : Fld := ⟨⟨1019, n, 0⟩, 32, 0⟩

/-! ### CLK -/
/-! CLK_STAT: 19_clocks_power_boot.md Table 19.15 -/
def CLK_STAT_REF_OK : Fld := ⟨⟨2001, 0, 0⟩, 1, 0⟩
def CLK_STAT_REF_LOST : Fld := ⟨⟨2002, 0, 0⟩, 1, 0⟩
def CLK_STAT_OSC32_OK : Fld := ⟨⟨2003, 0, 0⟩, 1, 1⟩
def CLK_STAT_LOCK : Fld := ⟨⟨2004, 0, 0⟩, 9, 0⟩
/-! CLK_LOSS: 19_clocks_power_boot.md Table 19.15 -/
def CLK_LOSS_LAST_PLL : Fld := ⟨⟨2005, 0, 0⟩, 4, 0⟩
def CLK_LOSS_COUNT : Fld := ⟨⟨2006, 0, 0⟩, 16, 0⟩
/-! CLK_REFOUT: 19_clocks_power_boot.md Table 19.15 -/
def CLK_REFOUT_EN : Fld := ⟨⟨2007, 0, 0⟩, 1, 0⟩
/-! CLK_DOM_IDX: 19_clocks_power_boot.md Table 19.15 -/
def CLK_DOM_IDX_DOM : Fld := ⟨⟨2008, 0, 0⟩, 8, 0⟩
/-! CLK_DOM_STAT: 19_clocks_power_boot.md Table 19.15 -/
def CLK_DOM_STAT_GATED (n : Nat) : Fld := ⟨⟨2009, n, 0⟩, 1, 0⟩
def CLK_DOM_STAT_NOGATE (n : Nat) : Fld := ⟨⟨2010, n, 0⟩, 1, (clkDomNogate n)⟩
def CLK_DOM_STAT_PLL (n : Nat) : Fld := ⟨⟨2011, n, 0⟩, 4, (clkDomPll n)⟩
def CLK_DOM_STAT_UNGATE_CNT (n : Nat) : Fld := ⟨⟨2012, n, 0⟩, 16, 0⟩
/-! CLK_DOM_CFG: 19_clocks_power_boot.md Table 19.15 -/
def CLK_DOM_CFG_HOLD (n : Nat) : Fld := ⟨⟨2013, n, 0⟩, 1, 0⟩

/-! ### PWR -/
/-! PWR_STAT: 19_clocks_power_boot.md Table 19.16 -/
def PWR_STAT_STATE : Fld := ⟨⟨3001, 0, 0⟩, 2, 0⟩
def PWR_STAT_PARK_REFUSED : Fld := ⟨⟨3002, 0, 0⟩, 1, 0⟩
def PWR_STAT_UNPLANNED : Fld := ⟨⟨3003, 0, 0⟩, 1, 0⟩
def PWR_STAT_RAIL_OK : Fld := ⟨⟨3004, 0, 0⟩, 11, 0⟩
/-! PWR_CTRL: 19_clocks_power_boot.md Table 19.16 -/
def PWR_CTRL_PARK : Fld := ⟨⟨3005, 0, 0⟩, 1, 0⟩
/-! PWR_WAKE_CFG: 19_clocks_power_boot.md Table 19.16 -/
def PWR_WAKE_CFG_WAKE0_EN : Fld := ⟨⟨3006, 0, 0⟩, 1, 1⟩
def PWR_WAKE_CFG_WAKE0_POL : Fld := ⟨⟨3007, 0, 0⟩, 1, 1⟩
def PWR_WAKE_CFG_WAKE1_EN : Fld := ⟨⟨3008, 0, 0⟩, 1, 1⟩
def PWR_WAKE_CFG_WAKE1_POL : Fld := ⟨⟨3009, 0, 0⟩, 1, 1⟩
def PWR_WAKE_CFG_ALARM_EN : Fld := ⟨⟨3010, 0, 0⟩, 1, 0⟩
def PWR_WAKE_CFG_TAMPER_EN : Fld := ⟨⟨3011, 0, 0⟩, 1, 0⟩
/-! PWR_WAKE_CAUSE: 19_clocks_power_boot.md Table 19.16 -/
def PWR_WAKE_CAUSE_CAUSE : Fld := ⟨⟨3012, 0, 0⟩, 4, 0⟩
/-! PWR_ALARM: 19_clocks_power_boot.md Table 19.16 -/
def PWR_ALARM_S : Fld := ⟨⟨3013, 0, 0⟩, 32, 0⟩
/-! PWR_PARK_CNT: 19_clocks_power_boot.md Table 19.16 -/
def PWR_PARK_CNT_COUNT : Fld := ⟨⟨3014, 0, 0⟩, 32, 0⟩

/-! ### RST -/
/-! RST_CAUSE: 19_clocks_power_boot.md Table 19.17 -/
def RST_CAUSE_CAUSE : Fld := ⟨⟨4001, 0, 0⟩, 7, 0⟩
/-! RST_CTRL: 19_clocks_power_boot.md Table 19.17 -/
def RST_CTRL_MGMT : Fld := ⟨⟨4002, 0, 0⟩, 1, 0⟩
def RST_CTRL_WARM : Fld := ⟨⟨4003, 0, 0⟩, 1, 0⟩
/-! RST_STAT: 19_clocks_power_boot.md Table 19.17 -/
def RST_STAT_REFUSED : Fld := ⟨⟨4004, 0, 0⟩, 1, 0⟩
/-! RST_WDOG: 19_clocks_power_boot.md Table 19.17 -/
def RST_WDOG_EN : Fld := ⟨⟨4005, 0, 0⟩, 1, 0⟩
def RST_WDOG_MS : Fld := ⟨⟨4006, 0, 0⟩, 16, 100⟩
/-! RST_WDOG_KICK: 19_clocks_power_boot.md Table 19.17 -/
def RST_WDOG_KICK_KICK : Fld := ⟨⟨4007, 0, 0⟩, 2, 0⟩
/-! RST_CNT: 19_clocks_power_boot.md Table 19.17 -/
def RST_CNT_WARM : Fld := ⟨⟨4008, 0, 0⟩, 8, 0⟩
def RST_CNT_MGMT : Fld := ⟨⟨4009, 0, 0⟩, 8, 0⟩
def RST_CNT_HOST : Fld := ⟨⟨4010, 0, 0⟩, 8, 0⟩
def RST_CNT_SAFETY : Fld := ⟨⟨4011, 0, 0⟩, 8, 0⟩

/-! ### MEM -/
/-! MEM_STAT: 11_memory.md Table 11.12 -/
def MEM_STAT_CFG_IGN : Fld := ⟨⟨5001, 0, 0⟩, 1, 0⟩
/-! MEM_SP_IDX: 11_memory.md Table 11.12 -/
def MEM_SP_IDX_AUTOINC : Fld := ⟨⟨5002, 0, 0⟩, 1, 0⟩
def MEM_SP_IDX_INDEX : Fld := ⟨⟨5003, 0, 0⟩, 13, 0⟩
/-! MEM_SP_TAG: 11_memory.md Table 11.12 -/
def MEM_SP_TAG_TAG (n : Nat) : Fld := ⟨⟨5004, n, 0⟩, 8, 255⟩
/-! MEM_DR_IDX: 11_memory.md Table 11.12 -/
def MEM_DR_IDX_AUTOINC : Fld := ⟨⟨5005, 0, 0⟩, 1, 0⟩
def MEM_DR_IDX_INDEX : Fld := ⟨⟨5006, 0, 0⟩, 13, 0⟩
/-! MEM_DR_TAG: 11_memory.md Table 11.12 -/
def MEM_DR_TAG_TAG (n : Nat) : Fld := ⟨⟨5007, n, 0⟩, 8, 255⟩
/-! MEM_ERR_INFO: 11_memory.md Table 11.12 -/
def MEM_ERR_INFO_VALID : Fld := ⟨⟨5008, 0, 0⟩, 1, 0⟩
def MEM_ERR_INFO_KIND : Fld := ⟨⟨5009, 0, 0⟩, 3, 0⟩
def MEM_ERR_INFO_REQID : Fld := ⟨⟨5010, 0, 0⟩, 8, 0⟩
def MEM_ERR_INFO_REGION : Fld := ⟨⟨5011, 0, 0⟩, 8, 0⟩
def MEM_ERR_INFO_ADDR_HI : Fld := ⟨⟨5012, 0, 0⟩, 8, 0⟩
/-! MEM_ERR_ADDR: 11_memory.md Table 11.12 -/
def MEM_ERR_ADDR_ADDR_LO : Fld := ⟨⟨5013, 0, 0⟩, 32, 0⟩
/-! MEM_ERR_POP: 11_memory.md Table 11.12 -/
def MEM_ERR_POP_POP : Fld := ⟨⟨5014, 0, 0⟩, 1, 0⟩
/-! MEM_ERR_LOST: 11_memory.md Table 11.12 -/
def MEM_ERR_LOST_LOST : Fld := ⟨⟨5015, 0, 0⟩, 16, 0⟩
/-! MEM_RST_INFO: 11_memory.md Table 11.12 -/
def MEM_RST_INFO_VALID : Fld := ⟨⟨5016, 0, 0⟩, 1, 0⟩
def MEM_RST_INFO_READS_DISCARDED : Fld := ⟨⟨5017, 0, 0⟩, 1, 0⟩
def MEM_RST_INFO_BYTES : Fld := ⟨⟨5018, 0, 0⟩, 10, 0⟩
def MEM_RST_INFO_REQID : Fld := ⟨⟨5019, 0, 0⟩, 8, 0⟩
def MEM_RST_INFO_ADDR_HI : Fld := ⟨⟨5020, 0, 0⟩, 8, 0⟩
/-! MEM_RST_ADDR: 11_memory.md Table 11.12 -/
def MEM_RST_ADDR_ADDR_LO : Fld := ⟨⟨5021, 0, 0⟩, 32, 0⟩
/-! MEM_RST_POP: 11_memory.md Table 11.12 -/
def MEM_RST_POP_POP : Fld := ⟨⟨5022, 0, 0⟩, 1, 0⟩
/-! MEM_RST_LOST: 11_memory.md Table 11.12 -/
def MEM_RST_LOST_LOST : Fld := ⟨⟨5023, 0, 0⟩, 16, 0⟩
/-! MEM_CE_THR: 11_memory.md Table 11.12 -/
def MEM_CE_THR_THR : Fld := ⟨⟨5024, 0, 0⟩, 32, 256⟩
/-! MEM_FAB_VIOL_INFO: 01_one_part_four_scenes.md Table 1.9 -/
def MEM_FAB_VIOL_INFO_VALID : Fld := ⟨⟨5025, 0, 0⟩, 1, 0⟩
def MEM_FAB_VIOL_INFO_WRITE : Fld := ⟨⟨5026, 0, 0⟩, 1, 0⟩
def MEM_FAB_VIOL_INFO_REQID : Fld := ⟨⟨5027, 0, 0⟩, 8, 0⟩
def MEM_FAB_VIOL_INFO_REGION : Fld := ⟨⟨5028, 0, 0⟩, 8, 0⟩
def MEM_FAB_VIOL_INFO_ADDR_HI : Fld := ⟨⟨5029, 0, 0⟩, 8, 0⟩
/-! MEM_FAB_VIOL_ADDR: 01_one_part_four_scenes.md Table 1.11 -/
def MEM_FAB_VIOL_ADDR_ADDR_LO : Fld := ⟨⟨5030, 0, 0⟩, 32, 0⟩
/-! MEM_FAB_VIOL_POP: 01_one_part_four_scenes.md Table 1.12 -/
def MEM_FAB_VIOL_POP_POP : Fld := ⟨⟨5031, 0, 0⟩, 1, 0⟩
/-! MEM_FAB_VIOL_CNT: 01_one_part_four_scenes.md Table 1.13 -/
def MEM_FAB_VIOL_CNT_COUNT : Fld := ⟨⟨5032, 0, 0⟩, 32, 0⟩
/-! MEM_FAB_VIOL_LOST: 01_one_part_four_scenes.md Table 1.14 -/
def MEM_FAB_VIOL_LOST_LOST : Fld := ⟨⟨5033, 0, 0⟩, 16, 0⟩
/-! MEM_FAB_REQID: 01_one_part_four_scenes.md Table 1.15 -/
def MEM_FAB_REQID_REQID : Fld := ⟨⟨5034, 0, 0⟩, 8, 0⟩

/-! ### DRM -/
/-! DRM_CFG: 11_memory.md Table 11.13 -/
def DRM_CFG_TYPE : Fld := ⟨⟨6001, 0, 0⟩, 2, 0⟩
def DRM_CFG_RATE : Fld := ⟨⟨6002, 0, 0⟩, 2, 0⟩
def DRM_CFG_RANKS : Fld := ⟨⟨6003, 0, 0⟩, 1, 0⟩
def DRM_CFG_ROWS : Fld := ⟨⟨6004, 0, 0⟩, 5, 14⟩
def DRM_CFG_ORDER : Fld := ⟨⟨6005, 0, 0⟩, 2, 3⟩
def DRM_CFG_CHSEL : Fld := ⟨⟨6006, 0, 0⟩, 1, 0⟩
/-! DRM_CTRL: 11_memory.md Table 11.13 -/
def DRM_CTRL_SR_EXIT : Fld := ⟨⟨6007, 0, 0⟩, 1, 0⟩
def DRM_CTRL_SR_ENTER : Fld := ⟨⟨6008, 0, 0⟩, 1, 0⟩
def DRM_CTRL_INIT : Fld := ⟨⟨6009, 0, 0⟩, 1, 0⟩
/-! DRM_STAT: 11_memory.md Table 11.13 -/
def DRM_STAT_STATE : Fld := ⟨⟨6010, 0, 0⟩, 3, 0⟩
def DRM_STAT_CFG_IGN : Fld := ⟨⟨6011, 0, 0⟩, 1, 0⟩
def DRM_STAT_FAIL_CH : Fld := ⟨⟨6012, 0, 0⟩, 2, 0⟩
/-! DRM_SIZE: 11_memory.md Table 11.13 -/
def DRM_SIZE_U1 : Fld := ⟨⟨6013, 0, 0⟩, 16, 0⟩
def DRM_SIZE_U0 : Fld := ⟨⟨6014, 0, 0⟩, 16, 0⟩
/-! DRM_SCRUB: 11_memory.md Table 11.13 -/
def DRM_SCRUB_HOURS : Fld := ⟨⟨6015, 0, 0⟩, 8, 24⟩
/-! DRM_CH_TRAIN: 11_memory.md Table 11.14 -/
def DRM_CH_TRAIN_MODE (n : Nat) : Fld := ⟨⟨6016, n, 0⟩, 1, 0⟩
def DRM_CH_TRAIN_RETRAIN (n : Nat) : Fld := ⟨⟨6017, n, 0⟩, 1, 0⟩
def DRM_CH_TRAIN_INTV (n : Nat) : Fld := ⟨⟨6018, n, 0⟩, 10, 256⟩
def DRM_CH_TRAIN_DRIFT_LIM (n : Nat) : Fld := ⟨⟨6019, n, 0⟩, 8, 20⟩
/-! DRM_CH_CFG: 11_memory.md Table 11.14 -/
def DRM_CH_CFG_REFMODE (n : Nat) : Fld := ⟨⟨6020, n, 0⟩, 1, 0⟩
/-! DRM_CH_STAT: 11_memory.md Table 11.14 -/
def DRM_CH_STAT_DRIFT_WARN (n : Nat) : Fld := ⟨⟨6021, n, 0⟩, 1, 0⟩
def DRM_CH_STAT_OWED_MAX (n : Nat) : Fld := ⟨⟨6022, n, 0⟩, 4, 0⟩
/-! DRM_CH_PAUSE: 11_memory.md Table 11.14 -/
def DRM_CH_PAUSE_COUNT (n : Nat) : Fld := ⟨⟨6023, n, 0⟩, 16, 0⟩
def DRM_CH_PAUSE_MAX_NS (n : Nat) : Fld := ⟨⟨6024, n, 0⟩, 16, 0⟩
/-! DRM_CH_RT_DRIFT_CNT: 11_memory.md Table 11.14 -/
def DRM_CH_RT_DRIFT_CNT_COUNT (n : Nat) : Fld := ⟨⟨6025, n, 0⟩, 32, 0⟩
/-! DRM_CH_CE_CNT: 11_memory.md Table 11.14 -/
def DRM_CH_CE_CNT_COUNT (n : Nat) : Fld := ⟨⟨6026, n, 0⟩, 32, 0⟩
/-! DRM_CH_UE_CNT: 11_memory.md Table 11.14 -/
def DRM_CH_UE_CNT_COUNT (n : Nat) : Fld := ⟨⟨6027, n, 0⟩, 32, 0⟩
/-! DRM_CH_DLY: 11_memory.md Table 11.14 -/
def DRM_CH_DLY_DELAY (n m : Nat) : Fld := ⟨⟨6028, n, m⟩, 10, 64⟩

/-! ### MBX -/
/-! MBX_STAT: 12_messaging.md Table 12.7 -/
def MBX_STAT_CFG_IGN : Fld := ⟨⟨7001, 0, 0⟩, 1, 0⟩
/-! MBX_LOCK_FORCE: 12_messaging.md Table 12.7 -/
def MBX_LOCK_FORCE_FORCE : Fld := ⟨⟨7002, 0, 0⟩, 1, 0⟩
def MBX_LOCK_FORCE_LOCK : Fld := ⟨⟨7003, 0, 0⟩, 6, 0⟩
/-! MBX_LOCK_EVT: 12_messaging.md Table 12.7 -/
def MBX_LOCK_EVT_IGN_CNT : Fld := ⟨⟨7004, 0, 0⟩, 8, 0⟩
def MBX_LOCK_EVT_BRK_CNT : Fld := ⟨⟨7005, 0, 0⟩, 8, 0⟩
def MBX_LOCK_EVT_LAST_REQID : Fld := ⟨⟨7006, 0, 0⟩, 8, 0⟩
def MBX_LOCK_EVT_LAST_KIND : Fld := ⟨⟨7007, 0, 0⟩, 2, 0⟩
def MBX_LOCK_EVT_LAST_LOCK : Fld := ⟨⟨7008, 0, 0⟩, 6, 0⟩
/-! MBX_LOCK: 12_messaging.md Table 12.7 -/
def MBX_LOCK_OWNER (n : Nat) : Fld := ⟨⟨7009, n, 0⟩, 8, 0⟩
/-! MBX_LOCK_VIEW: 12_messaging.md Table 12.7 -/
def MBX_LOCK_VIEW_OWNER (n : Nat) : Fld := ⟨⟨7010, n, 0⟩, 8, 0⟩
/-! MBX_Q_PUSH: 12_messaging.md Table 12.8 -/
def MBX_Q_PUSH_WORD (n : Nat) : Fld := ⟨⟨7011, n, 0⟩, 32, 0⟩
/-! MBX_Q_POP: 12_messaging.md Table 12.8 -/
def MBX_Q_POP_WORD (n : Nat) : Fld := ⟨⟨7012, n, 0⟩, 32, 0⟩
/-! MBX_Q_STAT: 12_messaging.md Table 12.8 -/
def MBX_Q_STAT_LAST_PUSH_FULL (n : Nat) : Fld := ⟨⟨7013, n, 0⟩, 1, 0⟩
def MBX_Q_STAT_LAST_POP_EMPTY (n : Nat) : Fld := ⟨⟨7014, n, 0⟩, 1, 0⟩
def MBX_Q_STAT_DEPTH (n : Nat) : Fld := ⟨⟨7015, n, 0⟩, 5, 0⟩
/-! MBX_Q_CNT: 12_messaging.md Table 12.8 -/
def MBX_Q_CNT_FULL (n : Nat) : Fld := ⟨⟨7016, n, 0⟩, 8, 0⟩
def MBX_Q_CNT_EMPTY (n : Nat) : Fld := ⟨⟨7017, n, 0⟩, 8, 0⟩
def MBX_Q_CNT_FLUSHED (n : Nat) : Fld := ⟨⟨7018, n, 0⟩, 16, 0⟩
/-! MBX_DB_CFG: 12_messaging.md Table 12.9 -/
def MBX_DB_CFG_EN (n : Nat) : Fld := ⟨⟨7019, n, 0⟩, 1, 0⟩
def MBX_DB_CFG_TKIND (n : Nat) : Fld := ⟨⟨7020, n, 0⟩, 3, 0⟩
def MBX_DB_CFG_TIDX (n : Nat) : Fld := ⟨⟨7021, n, 0⟩, 6, 0⟩
def MBX_DB_CFG_RINGER_ANY (n : Nat) : Fld := ⟨⟨7022, n, 0⟩, 1, 0⟩
def MBX_DB_CFG_RINGER (n : Nat) : Fld := ⟨⟨7023, n, 0⟩, 8, 0⟩
/-! MBX_DB_SET: 12_messaging.md Table 12.9 -/
def MBX_DB_SET_SET (n : Nat) : Fld := ⟨⟨7024, n, 0⟩, 32, 0⟩
/-! MBX_DB_PEND: 12_messaging.md Table 12.9 -/
def MBX_DB_PEND_PEND (n : Nat) : Fld := ⟨⟨7025, n, 0⟩, 32, 0⟩
/-! MBX_DB_MASK: 12_messaging.md Table 12.9 -/
def MBX_DB_MASK_MASK (n : Nat) : Fld := ⟨⟨7026, n, 0⟩, 32, 4294967295⟩
/-! MBX_FOLIO_H2D_F: 12_messaging.md Table 12.10 -/
def MBX_FOLIO_H2D_F_DATA (n m : Nat) : Fld := ⟨⟨7027, n, m⟩, 32, 0⟩
/-! MBX_FOLIO_H2D_CTRL: 12_messaging.md Table 12.10 -/
def MBX_FOLIO_H2D_CTRL_GO (n : Nat) : Fld := ⟨⟨7028, n, 0⟩, 1, 0⟩
def MBX_FOLIO_H2D_CTRL_POST (n : Nat) : Fld := ⟨⟨7029, n, 0⟩, 1, 0⟩
def MBX_FOLIO_H2D_CTRL_DONE (n : Nat) : Fld := ⟨⟨7030, n, 0⟩, 1, 0⟩
def MBX_FOLIO_H2D_CTRL_IGN (n : Nat) : Fld := ⟨⟨7031, n, 0⟩, 16, 0⟩
/-! MBX_FOLIO_D2H_F: 12_messaging.md Table 12.10 -/
def MBX_FOLIO_D2H_F_DATA (n m : Nat) : Fld := ⟨⟨7032, n, m⟩, 32, 0⟩
/-! MBX_FOLIO_D2H_CTRL: 12_messaging.md Table 12.10 -/
def MBX_FOLIO_D2H_CTRL_GO (n : Nat) : Fld := ⟨⟨7033, n, 0⟩, 1, 0⟩
def MBX_FOLIO_D2H_CTRL_POST (n : Nat) : Fld := ⟨⟨7034, n, 0⟩, 1, 0⟩
def MBX_FOLIO_D2H_CTRL_DONE (n : Nat) : Fld := ⟨⟨7035, n, 0⟩, 1, 0⟩
def MBX_FOLIO_D2H_CTRL_IGN (n : Nat) : Fld := ⟨⟨7036, n, 0⟩, 16, 0⟩

/-! ### TSP -/
/-! TSP_T_LO: 02_turnspit.md Table 2.6 -/
def TSP_T_LO_T : Fld := ⟨⟨8001, 0, 0⟩, 32, 0⟩
/-! TSP_T_HI: 02_turnspit.md Table 2.6 -/
def TSP_T_HI_T : Fld := ⟨⟨8002, 0, 0⟩, 32, 0⟩
/-! TSP_SRC_SUM: 02_turnspit.md Table 2.7 -/
def TSP_SRC_SUM_TRACKING : Fld := ⟨⟨8003, 0, 0⟩, 8, 0⟩
def TSP_SRC_SUM_LOST : Fld := ⟨⟨8004, 0, 0⟩, 8, 0⟩
/-! TSP_CONFLICT_INFO: 02_turnspit.md Table 2.8 -/
def TSP_CONFLICT_INFO_VALID : Fld := ⟨⟨8005, 0, 0⟩, 1, 0⟩
def TSP_CONFLICT_INFO_CLAIMANT : Fld := ⟨⟨8006, 0, 0⟩, 8, 0⟩
def TSP_CONFLICT_INFO_HOLDER : Fld := ⟨⟨8007, 0, 0⟩, 8, 0⟩
def TSP_CONFLICT_INFO_RESOURCE : Fld := ⟨⟨8008, 0, 0⟩, 8, 0⟩
/-! TSP_CONFLICT_CNT: 02_turnspit.md Table 2.9 -/
def TSP_CONFLICT_CNT_LOST : Fld := ⟨⟨8009, 0, 0⟩, 16, 0⟩
def TSP_CONFLICT_CNT_COUNT : Fld := ⟨⟨8010, 0, 0⟩, 16, 0⟩
/-! TSP_SRC_CFG: 02_turnspit.md Table 2.10 -/
def TSP_SRC_CFG_EN (n : Nat) : Fld := ⟨⟨8011, n, 0⟩, 1, 0⟩
def TSP_SRC_CFG_KIND (n : Nat) : Fld := ⟨⟨8012, n, 0⟩, 3, 0⟩
def TSP_SRC_CFG_DIRINV (n : Nat) : Fld := ⟨⟨8013, n, 0⟩, 1, 0⟩
def TSP_SRC_CFG_FALLBACK (n : Nat) : Fld := ⟨⟨8014, n, 0⟩, 3, 0⟩
def TSP_SRC_CFG_FB_EN (n : Nat) : Fld := ⟨⟨8015, n, 0⟩, 1, 0⟩
def TSP_SRC_CFG_FB_AUTO (n : Nat) : Fld := ⟨⟨8016, n, 0⟩, 1, 0⟩
def TSP_SRC_CFG_BUMPLESS (n : Nat) : Fld := ⟨⟨8017, n, 0⟩, 1, 1⟩
def TSP_SRC_CFG_PARENT (n : Nat) : Fld := ⟨⟨8018, n, 0⟩, 3, 0⟩
def TSP_SRC_CFG_REF_EN (n : Nat) : Fld := ⟨⟨8019, n, 0⟩, 1, 0⟩
def TSP_SRC_CFG_TRK_BW (n : Nat) : Fld := ⟨⟨8020, n, 0⟩, 3, 2⟩
def TSP_SRC_CFG_STILL (n : Nat) : Fld := ⟨⟨8021, n, 0⟩, 4, 6⟩
def TSP_SRC_CFG_FILT (n : Nat) : Fld := ⟨⟨8022, n, 0⟩, 8, 5⟩
/-! TSP_SRC_IN: 02_turnspit.md Table 2.11 -/
def TSP_SRC_IN_SIN_UNIT (n : Nat) : Fld := ⟨⟨8023, n, 0⟩, 3, 0⟩
def TSP_SRC_IN_SIN_INPUT (n : Nat) : Fld := ⟨⟨8024, n, 0⟩, 4, 0⟩
def TSP_SRC_IN_COS_UNIT (n : Nat) : Fld := ⟨⟨8025, n, 0⟩, 3, 0⟩
def TSP_SRC_IN_COS_INPUT (n : Nat) : Fld := ⟨⟨8026, n, 0⟩, 4, 0⟩
def TSP_SRC_IN_QIN (n : Nat) : Fld := ⟨⟨8027, n, 0⟩, 2, 0⟩
/-! TSP_SRC_SCALE: 02_turnspit.md Table 2.12 -/
def TSP_SRC_SCALE_NUM (n : Nat) : Fld := ⟨⟨8028, n, 0⟩, 16, 1⟩
def TSP_SRC_SCALE_DEN_LINES (n : Nat) : Fld := ⟨⟨8029, n, 0⟩, 16, 0⟩
/-! TSP_SRC_LOSS: 02_turnspit.md Table 2.13 -/
def TSP_SRC_LOSS_ACTION (n : Nat) : Fld := ⟨⟨8030, n, 0⟩, 2, 0⟩
def TSP_SRC_LOSS_COAST_US (n : Nat) : Fld := ⟨⟨8031, n, 0⟩, 14, 0⟩
def TSP_SRC_LOSS_LOSS_CONS (n : Nat) : Fld := ⟨⟨8032, n, 0⟩, 8, 0⟩
def TSP_SRC_LOSS_CMD_DSP_EN (n : Nat) : Fld := ⟨⟨8033, n, 0⟩, 1, 0⟩
def TSP_SRC_LOSS_CMD_DSP (n : Nat) : Fld := ⟨⟨8034, n, 0⟩, 2, 0⟩
/-! TSP_SRC_CMD: 02_turnspit.md Table 2.14 -/
def TSP_SRC_CMD_SWBACK (n : Nat) : Fld := ⟨⟨8035, n, 0⟩, 1, 0⟩
def TSP_SRC_CMD_SWITCH (n : Nat) : Fld := ⟨⟨8036, n, 0⟩, 1, 0⟩
def TSP_SRC_CMD_RESYNC (n : Nat) : Fld := ⟨⟨8037, n, 0⟩, 1, 0⟩
/-! TSP_SRC_STAT: 02_turnspit.md Table 2.15 -/
def TSP_SRC_STAT_STATE (n : Nat) : Fld := ⟨⟨8038, n, 0⟩, 3, 0⟩
def TSP_SRC_STAT_REVERSE (n : Nat) : Fld := ⟨⟨8039, n, 0⟩, 1, 0⟩
def TSP_SRC_STAT_STANDSTILL (n : Nat) : Fld := ⟨⟨8040, n, 0⟩, 1, 0⟩
def TSP_SRC_STAT_FOLLOW_SRC (n : Nat) : Fld := ⟨⟨8041, n, 0⟩, 3, 0⟩
def TSP_SRC_STAT_ZERR_CNT (n : Nat) : Fld := ⟨⟨8042, n, 0⟩, 8, 0⟩
def TSP_SRC_STAT_ILLEGAL_CNT (n : Nat) : Fld := ⟨⟨8043, n, 0⟩, 8, 0⟩
def TSP_SRC_STAT_LOSS_EV (n : Nat) : Fld := ⟨⟨8044, n, 0⟩, 1, 0⟩
def TSP_SRC_STAT_SWITCH_EV (n : Nat) : Fld := ⟨⟨8045, n, 0⟩, 1, 0⟩
def TSP_SRC_STAT_CONFLICT (n : Nat) : Fld := ⟨⟨8046, n, 0⟩, 1, 0⟩
def TSP_SRC_STAT_CFG_IGN (n : Nat) : Fld := ⟨⟨8047, n, 0⟩, 1, 0⟩
def TSP_SRC_STAT_OWN_OK (n : Nat) : Fld := ⟨⟨8048, n, 0⟩, 1, 0⟩
/-! TSP_SRC_ANG: 02_turnspit.md Table 2.16 -/
def TSP_SRC_ANG_ANG (n : Nat) : Fld := ⟨⟨8049, n, 0⟩, 32, 0⟩
/-! TSP_SRC_TURN: 02_turnspit.md Table 2.16 -/
def TSP_SRC_TURN_TURN (n : Nat) : Fld := ⟨⟨8050, n, 0⟩, 32, 0⟩
/-! TSP_SRC_SPEED: 02_turnspit.md Table 2.16 -/
def TSP_SRC_SPEED_SPEED (n : Nat) : Fld := ⟨⟨8051, n, 0⟩, 32, 0⟩
/-! TSP_SRC_UPD_T: 02_turnspit.md Table 2.16 -/
def TSP_SRC_UPD_T_UPD_T (n : Nat) : Fld := ⟨⟨8052, n, 0⟩, 32, 0⟩
/-! TSP_SRC_OFS: 02_turnspit.md Table 2.6 -/
def TSP_SRC_OFS_OFS (n : Nat) : Fld := ⟨⟨8053, n, 0⟩, 32, 0⟩
/-! TSP_SRC_SWOFS: 02_turnspit.md Table 2.6 -/
def TSP_SRC_SWOFS_SWOFS (n : Nat) : Fld := ⟨⟨8054, n, 0⟩, 32, 0⟩
/-! TSP_SRC_SWOFS_HI: 02_turnspit.md Table 2.6 -/
def TSP_SRC_SWOFS_HI_SWOFS (n : Nat) : Fld := ⟨⟨8055, n, 0⟩, 32, 0⟩
/-! TSP_CMP_OWN: 02_turnspit.md Table 2.17 -/
def TSP_CMP_OWN_CLAIM (n : Nat) : Fld := ⟨⟨8056, n, 0⟩, 1, 0⟩
def TSP_CMP_OWN_RELEASE (n : Nat) : Fld := ⟨⟨8057, n, 0⟩, 1, 0⟩
def TSP_CMP_OWN_HW_RSV (n : Nat) : Fld := ⟨⟨8058, n, 0⟩, 1, (if n < 120 then 0 else 1)⟩
def TSP_CMP_OWN_OWNER (n : Nat) : Fld := ⟨⟨8059, n, 0⟩, 8, (if n < 120 then 0 else if n < 124 then 4 else 3)⟩
/-! TSP_CMP_CFG: 02_turnspit.md Table 2.18 -/
def TSP_CMP_CFG_SRC (n : Nat) : Fld := ⟨⟨8060, n, 0⟩, 4, 0⟩
def TSP_CMP_CFG_DIR (n : Nat) : Fld := ⟨⟨8061, n, 0⟩, 2, 0⟩
def TSP_CMP_CFG_MODE (n : Nat) : Fld := ⟨⟨8062, n, 0⟩, 2, 0⟩
def TSP_CMP_CFG_CONS (n : Nat) : Fld := ⟨⟨8063, n, 0⟩, 8, 0⟩
def TSP_CMP_CFG_LEAD (n : Nat) : Fld := ⟨⟨8064, n, 0⟩, 16, 0⟩
/-! TSP_CMP_TGT_LO: 02_turnspit.md Table 2.19 -/
def TSP_CMP_TGT_LO_TGT_LO (n : Nat) : Fld := ⟨⟨8065, n, 0⟩, 32, 0⟩
/-! TSP_CMP_TGT_HI: 02_turnspit.md Table 2.19 -/
def TSP_CMP_TGT_HI_TGT_HI (n : Nat) : Fld := ⟨⟨8066, n, 0⟩, 32, 0⟩
/-! TSP_CMP_STEP: 02_turnspit.md Table 2.19 -/
def TSP_CMP_STEP_STEP (n : Nat) : Fld := ⟨⟨8067, n, 0⟩, 32, 0⟩
/-! TSP_CMP_CTRL: 02_turnspit.md Table 2.20 -/
def TSP_CMP_CTRL_DISARM (n : Nat) : Fld := ⟨⟨8068, n, 0⟩, 1, 0⟩
def TSP_CMP_CTRL_ARM (n : Nat) : Fld := ⟨⟨8069, n, 0⟩, 1, 0⟩
/-! TSP_CMP_STAT: 02_turnspit.md Table 2.21 -/
def TSP_CMP_STAT_ARMED (n : Nat) : Fld := ⟨⟨8070, n, 0⟩, 1, 0⟩
def TSP_CMP_STAT_FIRED (n : Nat) : Fld := ⟨⟨8071, n, 0⟩, 1, 0⟩
def TSP_CMP_STAT_LATE (n : Nat) : Fld := ⟨⟨8072, n, 0⟩, 1, 0⟩
def TSP_CMP_STAT_JUMPED (n : Nat) : Fld := ⟨⟨8073, n, 0⟩, 1, 0⟩
def TSP_CMP_STAT_HELD (n : Nat) : Fld := ⟨⟨8074, n, 0⟩, 1, 0⟩
def TSP_CMP_STAT_CFG_ERR (n : Nat) : Fld := ⟨⟨8075, n, 0⟩, 1, 0⟩
def TSP_CMP_STAT_OVERRUN (n : Nat) : Fld := ⟨⟨8076, n, 0⟩, 8, 0⟩
def TSP_CMP_STAT_CANCELLED_BEFORE_START (n : Nat) : Fld := ⟨⟨8077, n, 0⟩, 16, 0⟩
/-! TSP_CMP_FIRE_T: 02_turnspit.md Table 2.19 -/
def TSP_CMP_FIRE_T_FIRE_T (n : Nat) : Fld := ⟨⟨8078, n, 0⟩, 32, 0⟩

/-! ### ADC -/
/-! ADC_REF_CTRL: 03_continuous_acquisition.md Table 3.13 -/
def ADC_REF_CTRL_EN : Fld := ⟨⟨9001, 0, 0⟩, 1, 0⟩
/-! ADC_REF_STAT: 03_continuous_acquisition.md Table 3.13 -/
def ADC_REF_STAT_SETTLED : Fld := ⟨⟨9002, 0, 0⟩, 1, 0⟩
def ADC_REF_STAT_FAULT : Fld := ⟨⟨9003, 0, 0⟩, 1, 0⟩
def ADC_REF_STAT_CFG_IGN : Fld := ⟨⟨9004, 0, 0⟩, 1, 0⟩
def ADC_REF_STAT_RESTART_CNT : Fld := ⟨⟨9005, 0, 0⟩, 16, 0⟩
/-! ADC_START: 03_continuous_acquisition.md Table 3.13 -/
def ADC_START_SWAP : Fld := ⟨⟨9006, 0, 0⟩, 8, 0⟩
def ADC_START_STOP : Fld := ⟨⟨9007, 0, 0⟩, 8, 0⟩
def ADC_START_START : Fld := ⟨⟨9008, 0, 0⟩, 8, 0⟩
/-! ADC_EXC_CFG: 03_continuous_acquisition.md Table 3.13 -/
def ADC_EXC_CFG_EN : Fld := ⟨⟨9009, 0, 0⟩, 1, 0⟩
def ADC_EXC_CFG_FREQ : Fld := ⟨⟨9010, 0, 0⟩, 15, 10000⟩
def ADC_EXC_CFG_DELAY : Fld := ⟨⟨9011, 0, 0⟩, 16, 0⟩
/-! ADC_CMP_LOCK: 03_continuous_acquisition.md Table 3.13 -/
def ADC_CMP_LOCK_LOCK : Fld := ⟨⟨9012, 0, 0⟩, 1, 0⟩
/-! ADC_CMP_STAT: 03_continuous_acquisition.md Table 3.12 -/
def ADC_CMP_STAT_M (n : Nat) : Fld := ⟨⟨9013, n, 0⟩, 32, 0⟩
/-! ADC_CMP_LIVE: 03_continuous_acquisition.md Table 3.12 -/
def ADC_CMP_LIVE_M (n : Nat) : Fld := ⟨⟨9014, n, 0⟩, 32, 0⟩
/-! ADC_UNIT_CFG: 03_continuous_acquisition.md Table 3.14 -/
def ADC_UNIT_CFG_DSP (n : Nat) : Fld := ⟨⟨9015, n, 0⟩, 2, 0⟩
def ADC_UNIT_CFG_PC_EN (n : Nat) : Fld := ⟨⟨9016, n, 0⟩, 1, 0⟩
def ADC_UNIT_CFG_PC (n : Nat) : Fld := ⟨⟨9017, n, 0⟩, 2, 0⟩
def ADC_UNIT_CFG_FMT (n : Nat) : Fld := ⟨⟨9018, n, 0⟩, 1, 0⟩
def ADC_UNIT_CFG_QGUARD (n : Nat) : Fld := ⟨⟨9019, n, 0⟩, 8, 0⟩
/-! ADC_UNIT_CTRL: 03_continuous_acquisition.md Table 3.15 -/
def ADC_UNIT_CTRL_SWAP (n : Nat) : Fld := ⟨⟨9020, n, 0⟩, 1, 0⟩
def ADC_UNIT_CTRL_STOP (n : Nat) : Fld := ⟨⟨9021, n, 0⟩, 1, 0⟩
def ADC_UNIT_CTRL_START (n : Nat) : Fld := ⟨⟨9022, n, 0⟩, 1, 0⟩
/-! ADC_UNIT_STAT: 03_continuous_acquisition.md Table 3.16 -/
def ADC_UNIT_STAT_RUNNING (n : Nat) : Fld := ⟨⟨9023, n, 0⟩, 1, 0⟩
def ADC_UNIT_STAT_BANK (n : Nat) : Fld := ⟨⟨9024, n, 0⟩, 1, 0⟩
def ADC_UNIT_STAT_SWAP_PEND (n : Nat) : Fld := ⟨⟨9025, n, 0⟩, 1, 0⟩
def ADC_UNIT_STAT_SLOT (n : Nat) : Fld := ⟨⟨9026, n, 0⟩, 5, 0⟩
def ADC_UNIT_STAT_CFG_ERR (n : Nat) : Fld := ⟨⟨9027, n, 0⟩, 1, 0⟩
def ADC_UNIT_STAT_CFG_IGN (n : Nat) : Fld := ⟨⟨9028, n, 0⟩, 1, 0⟩
def ADC_UNIT_STAT_DMA_LOST (n : Nat) : Fld := ⟨⟨9029, n, 0⟩, 8, 0⟩
/-! ADC_UNIT_SEQ_LEN: 03_continuous_acquisition.md Table 3.17 -/
def ADC_UNIT_SEQ_LEN_LEN1 (n : Nat) : Fld := ⟨⟨9030, n, 0⟩, 5, 0⟩
def ADC_UNIT_SEQ_LEN_LEN0 (n : Nat) : Fld := ⟨⟨9031, n, 0⟩, 5, 0⟩
/-! ADC_UNIT_BUFA: 03_continuous_acquisition.md Table 3.17 -/
def ADC_UNIT_BUFA_EN (n : Nat) : Fld := ⟨⟨9032, n, 0⟩, 1, 0⟩
def ADC_UNIT_BUFA_MEM (n : Nat) : Fld := ⟨⟨9033, n, 0⟩, 1, 0⟩
def ADC_UNIT_BUFA_BASE (n : Nat) : Fld := ⟨⟨9034, n, 0⟩, 15, 0⟩
def ADC_UNIT_BUFA_LEN (n : Nat) : Fld := ⟨⟨9035, n, 0⟩, 13, 0⟩
/-! ADC_UNIT_BUFB: 03_continuous_acquisition.md Table 3.17 -/
def ADC_UNIT_BUFB_EN (n : Nat) : Fld := ⟨⟨9036, n, 0⟩, 1, 0⟩
def ADC_UNIT_BUFB_MEM (n : Nat) : Fld := ⟨⟨9037, n, 0⟩, 1, 0⟩
def ADC_UNIT_BUFB_BASE (n : Nat) : Fld := ⟨⟨9038, n, 0⟩, 15, 0⟩
def ADC_UNIT_BUFB_LEN (n : Nat) : Fld := ⟨⟨9039, n, 0⟩, 13, 0⟩
/-! ADC_UNIT_WIDX: 03_continuous_acquisition.md Table 3.17 -/
def ADC_UNIT_WIDX_WIDXB (n : Nat) : Fld := ⟨⟨9040, n, 0⟩, 13, 0⟩
def ADC_UNIT_WIDX_WIDXA (n : Nat) : Fld := ⟨⟨9041, n, 0⟩, 13, 0⟩
/-! ADC_UNIT_URG_CFG: 03_continuous_acquisition.md Table 3.18 -/
def ADC_UNIT_URG_CFG_TSRC (n : Nat) : Fld := ⟨⟨9042, n, 0⟩, 3, 0⟩
def ADC_UNIT_URG_CFG_STORE (n : Nat) : Fld := ⟨⟨9043, n, 0⟩, 1, 0⟩
def ADC_UNIT_URG_CFG_BUF (n : Nat) : Fld := ⟨⟨9044, n, 0⟩, 1, 0⟩
def ADC_UNIT_URG_CFG_INPUT (n : Nat) : Fld := ⟨⟨9045, n, 0⟩, 4, 0⟩
/-! ADC_UNIT_URG_REQ: 03_continuous_acquisition.md Table 3.18 -/
def ADC_UNIT_URG_REQ_REQ (n : Nat) : Fld := ⟨⟨9046, n, 0⟩, 1, 0⟩
/-! ADC_UNIT_URG_CNT: 03_continuous_acquisition.md Table 3.18 -/
def ADC_UNIT_URG_CNT_SERVED (n : Nat) : Fld := ⟨⟨9047, n, 0⟩, 16, 0⟩
def ADC_UNIT_URG_CNT_DROPPED (n : Nat) : Fld := ⟨⟨9048, n, 0⟩, 16, 0⟩
/-! ADC_UNIT_LAST_VAL: 03_continuous_acquisition.md Table 3.19 -/
def ADC_UNIT_LAST_VAL_VALUE (n : Nat) : Fld := ⟨⟨9049, n, 0⟩, 12, 0⟩
def ADC_UNIT_LAST_VAL_SLOT (n : Nat) : Fld := ⟨⟨9050, n, 0⟩, 5, 0⟩
def ADC_UNIT_LAST_VAL_INPUT (n : Nat) : Fld := ⟨⟨9051, n, 0⟩, 4, 0⟩
def ADC_UNIT_LAST_VAL_QUIET (n : Nat) : Fld := ⟨⟨9052, n, 0⟩, 1, 0⟩
def ADC_UNIT_LAST_VAL_OVR (n : Nat) : Fld := ⟨⟨9053, n, 0⟩, 1, 0⟩
def ADC_UNIT_LAST_VAL_REFU (n : Nat) : Fld := ⟨⟨9054, n, 0⟩, 1, 0⟩
def ADC_UNIT_LAST_VAL_URG (n : Nat) : Fld := ⟨⟨9055, n, 0⟩, 1, 0⟩
def ADC_UNIT_LAST_VAL_TSTALE (n : Nat) : Fld := ⟨⟨9056, n, 0⟩, 1, 0⟩
def ADC_UNIT_LAST_VAL_FILL (n : Nat) : Fld := ⟨⟨9057, n, 0⟩, 1, 0⟩
def ADC_UNIT_LAST_VAL_VALID (n : Nat) : Fld := ⟨⟨9058, n, 0⟩, 1, 0⟩
/-! ADC_UNIT_LAST_T: 03_continuous_acquisition.md Table 3.19 -/
def ADC_UNIT_LAST_T_T (n : Nat) : Fld := ⟨⟨9059, n, 0⟩, 32, 0⟩
/-! ADC_UNIT_LAST_ANG: 03_continuous_acquisition.md Table 3.19 -/
def ADC_UNIT_LAST_ANG_ANG (n : Nat) : Fld := ⟨⟨9060, n, 0⟩, 32, 0⟩
/-! ADC_UNIT_LAST_TURN: 03_continuous_acquisition.md Table 3.19 -/
def ADC_UNIT_LAST_TURN_TURN (n : Nat) : Fld := ⟨⟨9061, n, 0⟩, 32, 0⟩
/-! ADC_UNIT_SEQ0_SLOT: 03_continuous_acquisition.md Table 3.20 -/
def ADC_UNIT_SEQ0_SLOT_KIND (n m : Nat) : Fld := ⟨⟨9062, n, m⟩, 2, 0⟩
def ADC_UNIT_SEQ0_SLOT_STORE (n m : Nat) : Fld := ⟨⟨9063, n, m⟩, 1, 0⟩
def ADC_UNIT_SEQ0_SLOT_BUF (n m : Nat) : Fld := ⟨⟨9064, n, m⟩, 1, 0⟩
def ADC_UNIT_SEQ0_SLOT_TSRC (n m : Nat) : Fld := ⟨⟨9065, n, m⟩, 3, 0⟩
def ADC_UNIT_SEQ0_SLOT_INPUT (n m : Nat) : Fld := ⟨⟨9066, n, m⟩, 4, 0⟩
def ADC_UNIT_SEQ0_SLOT_OPEN_WIN (n m : Nat) : Fld := ⟨⟨9067, n, m⟩, 8, 0⟩
/-! ADC_UNIT_SEQ1_SLOT: 03_continuous_acquisition.md Table 3.20 -/
def ADC_UNIT_SEQ1_SLOT_KIND (n m : Nat) : Fld := ⟨⟨9068, n, m⟩, 2, 0⟩
def ADC_UNIT_SEQ1_SLOT_STORE (n m : Nat) : Fld := ⟨⟨9069, n, m⟩, 1, 0⟩
def ADC_UNIT_SEQ1_SLOT_BUF (n m : Nat) : Fld := ⟨⟨9070, n, m⟩, 1, 0⟩
def ADC_UNIT_SEQ1_SLOT_TSRC (n m : Nat) : Fld := ⟨⟨9071, n, m⟩, 3, 0⟩
def ADC_UNIT_SEQ1_SLOT_INPUT (n m : Nat) : Fld := ⟨⟨9072, n, m⟩, 4, 0⟩
def ADC_UNIT_SEQ1_SLOT_OPEN_WIN (n m : Nat) : Fld := ⟨⟨9073, n, m⟩, 8, 0⟩
/-! ADC_CMP_THR: 03_continuous_acquisition.md Table 3.21 -/
def ADC_CMP_THR_HI (n : Nat) : Fld := ⟨⟨9074, n, 0⟩, 10, 1023⟩
def ADC_CMP_THR_LO (n : Nat) : Fld := ⟨⟨9075, n, 0⟩, 10, 0⟩
/-! ADC_CMP_CFG: 03_continuous_acquisition.md Table 3.21 -/
def ADC_CMP_CFG_EN_HI (n : Nat) : Fld := ⟨⟨9076, n, 0⟩, 1, 0⟩
def ADC_CMP_CFG_EN_LO (n : Nat) : Fld := ⟨⟨9077, n, 0⟩, 1, 0⟩
def ADC_CMP_CFG_TRIP (n : Nat) : Fld := ⟨⟨9078, n, 0⟩, 4, 0⟩
def ADC_CMP_CFG_HYST (n : Nat) : Fld := ⟨⟨9079, n, 0⟩, 2, 0⟩
def ADC_CMP_CFG_FILT (n : Nat) : Fld := ⟨⟨9080, n, 0⟩, 5, 0⟩

/-! ### PWM -/
/-! PWM_BIND: 06_power_channels.md Table 6.11 -/
def PWM_BIND_BOUND (n : Nat) : Fld := ⟨⟨10001, n, 0⟩, 1, 0⟩
def PWM_BIND_ROLE (n : Nat) : Fld := ⟨⟨10002, n, 0⟩, 3, 0⟩
def PWM_BIND_DSP (n : Nat) : Fld := ⟨⟨10003, n, 0⟩, 2, 0⟩
def PWM_BIND_MTRIP (n : Nat) : Fld := ⟨⟨10004, n, 0⟩, 1, 0⟩
def PWM_BIND_MDESAT (n : Nat) : Fld := ⟨⟨10005, n, 0⟩, 4, 0⟩
/-! PWM_CONFLICT_INFO: 06_power_channels.md Table 6.12 -/
def PWM_CONFLICT_INFO_VALID : Fld := ⟨⟨10006, 0, 0⟩, 1, 0⟩
def PWM_CONFLICT_INFO_CLAIMANT : Fld := ⟨⟨10007, 0, 0⟩, 8, 0⟩
def PWM_CONFLICT_INFO_HOLDER : Fld := ⟨⟨10008, 0, 0⟩, 8, 0⟩
def PWM_CONFLICT_INFO_RESOURCE : Fld := ⟨⟨10009, 0, 0⟩, 8, 0⟩
/-! PWM_CONFLICT_CNT: 06_power_channels.md Table 6.12 -/
def PWM_CONFLICT_CNT_LOST : Fld := ⟨⟨10010, 0, 0⟩, 16, 0⟩
def PWM_CONFLICT_CNT_COUNT : Fld := ⟨⟨10011, 0, 0⟩, 16, 0⟩
/-! PWM_PIN_OWN: 06_power_channels.md Table 6.12 -/
def PWM_PIN_OWN_CLAIM (n : Nat) : Fld := ⟨⟨10012, n, 0⟩, 1, 0⟩
def PWM_PIN_OWN_RELEASE (n : Nat) : Fld := ⟨⟨10013, n, 0⟩, 1, 0⟩
def PWM_PIN_OWN_FUNC (n : Nat) : Fld := ⟨⟨10014, n, 0⟩, 2, 0⟩
def PWM_PIN_OWN_LEVEL (n : Nat) : Fld := ⟨⟨10015, n, 0⟩, 1, 0⟩
def PWM_PIN_OWN_OWNER (n : Nat) : Fld := ⟨⟨10016, n, 0⟩, 8, 0⟩
/-! PWM_SUM: 06_power_channels.md Table 6.12 -/
def PWM_SUM_STATES : Fld := ⟨⟨10017, 0, 0⟩, 12, 0⟩
/-! PWM_CH_CFG: 06_power_channels.md Table 6.13 -/
def PWM_CH_CFG_XFER (n : Nat) : Fld := ⟨⟨10018, n, 0⟩, 2, 0⟩
def PWM_CH_CFG_DSPLOSS (n : Nat) : Fld := ⟨⟨10019, n, 0⟩, 2, 0⟩
def PWM_CH_CFG_X_EN (n : Nat) : Fld := ⟨⟨10020, n, 0⟩, 1, 0⟩
def PWM_CH_CFG_IVS_EN (n : Nat) : Fld := ⟨⟨10021, n, 0⟩, 1, 0⟩
def PWM_CH_CFG_WDOG (n : Nat) : Fld := ⟨⟨10022, n, 0⟩, 8, 0⟩
/-! PWM_CH_CTRL: 06_power_channels.md Table 6.14 -/
def PWM_CH_CTRL_DRVRST (n : Nat) : Fld := ⟨⟨10023, n, 0⟩, 1, 0⟩
def PWM_CH_CTRL_FORCE_TRIP (n : Nat) : Fld := ⟨⟨10024, n, 0⟩, 1, 0⟩
def PWM_CH_CTRL_TRIP_CLR (n : Nat) : Fld := ⟨⟨10025, n, 0⟩, 1, 0⟩
def PWM_CH_CTRL_COMMIT (n : Nat) : Fld := ⟨⟨10026, n, 0⟩, 1, 0⟩
def PWM_CH_CTRL_STOP (n : Nat) : Fld := ⟨⟨10027, n, 0⟩, 1, 0⟩
def PWM_CH_CTRL_RUN (n : Nat) : Fld := ⟨⟨10028, n, 0⟩, 1, 0⟩
/-! PWM_CH_STAT: 06_power_channels.md Table 6.15 -/
def PWM_CH_STAT_STATE (n : Nat) : Fld := ⟨⟨10029, n, 0⟩, 3, 0⟩
def PWM_CH_STAT_VALID (n : Nat) : Fld := ⟨⟨10030, n, 0⟩, 1, 0⟩
def PWM_CH_STAT_X_HELD (n : Nat) : Fld := ⟨⟨10031, n, 0⟩, 1, 0⟩
def PWM_CH_STAT_STO_PERMIT (n : Nat) : Fld := ⟨⟨10032, n, 0⟩, 1, 0⟩
def PWM_CH_STAT_WDOG (n : Nat) : Fld := ⟨⟨10033, n, 0⟩, 1, 0⟩
def PWM_CH_STAT_CONFLICT (n : Nat) : Fld := ⟨⟨10034, n, 0⟩, 1, 0⟩
def PWM_CH_STAT_CLR_REFUSED (n : Nat) : Fld := ⟨⟨10035, n, 0⟩, 1, 0⟩
def PWM_CH_STAT_RUN_REFUSED (n : Nat) : Fld := ⟨⟨10036, n, 0⟩, 1, 0⟩
def PWM_CH_STAT_CFG_ERR (n : Nat) : Fld := ⟨⟨10037, n, 0⟩, 1, 0⟩
def PWM_CH_STAT_CFG_IGN (n : Nat) : Fld := ⟨⟨10038, n, 0⟩, 1, 0⟩
/-! PWM_CH_TRIP: 06_power_channels.md Table 6.16 -/
def PWM_CH_TRIP_LATCHED (n : Nat) : Fld := ⟨⟨10039, n, 0⟩, 1, 0⟩
def PWM_CH_TRIP_FIRST (n : Nat) : Fld := ⟨⟨10040, n, 0⟩, 4, 0⟩
def PWM_CH_TRIP_LIVE (n : Nat) : Fld := ⟨⟨10041, n, 0⟩, 8, 0⟩
def PWM_CH_TRIP_SRC (n : Nat) : Fld := ⟨⟨10042, n, 0⟩, 8, 0⟩
/-! PWM_CH_TRIP_T: 06_power_channels.md Table 6.16 -/
def PWM_CH_TRIP_T_T (n : Nat) : Fld := ⟨⟨10043, n, 0⟩, 32, 0⟩
/-! PWM_CH_CNT: 06_power_channels.md Table 6.16 -/
def PWM_CH_CNT_TRIP_CNT (n : Nat) : Fld := ⟨⟨10044, n, 0⟩, 8, 0⟩
def PWM_CH_CNT_XFER_STALE (n : Nat) : Fld := ⟨⟨10045, n, 0⟩, 8, 0⟩
def PWM_CH_CNT_XFER_MERGED (n : Nat) : Fld := ⟨⟨10046, n, 0⟩, 8, 0⟩
def PWM_CH_CNT_WDOG_CNT (n : Nat) : Fld := ⟨⟨10047, n, 0⟩, 8, 0⟩
/-! PWM_CH_DT: 06_power_channels.md Table 6.17 -/
def PWM_CH_DT_DTF (n : Nat) : Fld := ⟨⟨10048, n, 0⟩, 16, 0⟩
def PWM_CH_DT_DTR (n : Nat) : Fld := ⟨⟨10049, n, 0⟩, 16, 0⟩
/-! PWM_CH_DRV: 06_power_channels.md Table 6.17 -/
def PWM_CH_DRV_WIDTH (n : Nat) : Fld := ⟨⟨10050, n, 0⟩, 8, 10⟩
/-! PWM_CH_SH_PER: 06_power_channels.md Table 6.17 -/
def PWM_CH_SH_PER_PER (n : Nat) : Fld := ⟨⟨10051, n, 0⟩, 24, 0⟩
/-! PWM_CH_POS: 06_power_channels.md Table 6.17 -/
def PWM_CH_POS_POS (n : Nat) : Fld := ⟨⟨10052, n, 0⟩, 24, 0⟩
/-! PWM_CH_SH_MODE: 06_power_channels.md Table 6.17 -/
def PWM_CH_SH_MODE_U (n : Nat) : Fld := ⟨⟨10053, n, 0⟩, 3, 0⟩
def PWM_CH_SH_MODE_V (n : Nat) : Fld := ⟨⟨10054, n, 0⟩, 3, 0⟩
def PWM_CH_SH_MODE_W (n : Nat) : Fld := ⟨⟨10055, n, 0⟩, 3, 0⟩
def PWM_CH_SH_MODE_X (n : Nat) : Fld := ⟨⟨10056, n, 0⟩, 3, 0⟩
/-! PWM_CH_SH_RISE: 06_power_channels.md Table 6.17 -/
def PWM_CH_SH_RISE_RISE (n m : Nat) : Fld := ⟨⟨10057, n, m⟩, 24, 0⟩
/-! PWM_CH_SH_FALL: 06_power_channels.md Table 6.17 -/
def PWM_CH_SH_FALL_FALL (n m : Nat) : Fld := ⟨⟨10058, n, m⟩, 24, 0⟩
/-! PWM_CH_ACT_PER: 06_power_channels.md Table 6.10 -/
def PWM_CH_ACT_PER_PER (n : Nat) : Fld := ⟨⟨10059, n, 0⟩, 24, 0⟩
/-! PWM_CH_ACT_MODE: 06_power_channels.md Table 6.10 -/
def PWM_CH_ACT_MODE_U (n : Nat) : Fld := ⟨⟨10060, n, 0⟩, 3, 0⟩
def PWM_CH_ACT_MODE_V (n : Nat) : Fld := ⟨⟨10061, n, 0⟩, 3, 0⟩
def PWM_CH_ACT_MODE_W (n : Nat) : Fld := ⟨⟨10062, n, 0⟩, 3, 0⟩
def PWM_CH_ACT_MODE_X (n : Nat) : Fld := ⟨⟨10063, n, 0⟩, 3, 0⟩
/-! PWM_CH_ACT_RISE: 06_power_channels.md Table 6.10 -/
def PWM_CH_ACT_RISE_RISE (n m : Nat) : Fld := ⟨⟨10064, n, m⟩, 24, 0⟩
/-! PWM_CH_ACT_FALL: 06_power_channels.md Table 6.10 -/
def PWM_CH_ACT_FALL_FALL (n m : Nat) : Fld := ⟨⟨10065, n, m⟩, 24, 0⟩

/-! ### GRD -/
/-! GRD_CFG: 07_grid_and_solar.md Table 7.9 -/
def GRD_CFG_EN : Fld := ⟨⟨11001, 0, 0⟩, 1, 0⟩
def GRD_CFG_THREE_PH : Fld := ⟨⟨11002, 0, 0⟩, 1, 0⟩
def GRD_CFG_IVS_PC : Fld := ⟨⟨11003, 0, 0⟩, 2, 0⟩
/-! GRD_CTRL: 07_grid_and_solar.md Table 7.9 -/
def GRD_CTRL_ACTIVATE : Fld := ⟨⟨11004, 0, 0⟩, 1, 0⟩
def GRD_CTRL_CEASE_CLR : Fld := ⟨⟨11005, 0, 0⟩, 1, 0⟩
def GRD_CTRL_CEASE_CMD : Fld := ⟨⟨11006, 0, 0⟩, 1, 0⟩
/-! GRD_STAT: 07_grid_and_solar.md Table 7.9 -/
def GRD_STAT_LOCKED : Fld := ⟨⟨11007, 0, 0⟩, 1, 0⟩
def GRD_STAT_CEASE : Fld := ⟨⟨11008, 0, 0⟩, 1, 1⟩
def GRD_STAT_REGION : Fld := ⟨⟨11009, 0, 0⟩, 2, 0⟩
def GRD_STAT_BANK : Fld := ⟨⟨11010, 0, 0⟩, 1, 0⟩
def GRD_STAT_ES_RUN : Fld := ⟨⟨11011, 0, 0⟩, 1, 0⟩
def GRD_STAT_PROF_ERR : Fld := ⟨⟨11012, 0, 0⟩, 1, 0⟩
def GRD_STAT_CFG_IGN : Fld := ⟨⟨11013, 0, 0⟩, 1, 0⟩
def GRD_STAT_PROF_CODE : Fld := ⟨⟨11014, 0, 0⟩, 3, 0⟩
def GRD_STAT_ISL_CNT : Fld := ⟨⟨11015, 0, 0⟩, 4, 0⟩
def GRD_STAT_ISL_BOUND : Fld := ⟨⟨11016, 0, 0⟩, 8, 0⟩
/-! GRD_CAUSE: 07_grid_and_solar.md Table 7.9 -/
def GRD_CAUSE_SEEN : Fld := ⟨⟨11017, 0, 0⟩, 10, 512⟩
def GRD_CAUSE_LIVE : Fld := ⟨⟨11018, 0, 0⟩, 10, 512⟩
/-! GRD_TRK_STAT: 07_grid_and_solar.md Table 7.10 -/
def GRD_TRK_STAT_LOCKED : Fld := ⟨⟨11019, 0, 0⟩, 1, 0⟩
def GRD_TRK_STAT_SEQ : Fld := ⟨⟨11020, 0, 0⟩, 1, 0⟩
def GRD_TRK_STAT_PERR : Fld := ⟨⟨11021, 0, 0⟩, 16, 0⟩
/-! GRD_TRK_TRIM: 07_grid_and_solar.md Table 7.10 -/
def GRD_TRK_TRIM_TRIM : Fld := ⟨⟨11022, 0, 0⟩, 32, 0⟩
/-! GRD_TRK_TRIM_ACT: 07_grid_and_solar.md Table 7.10 -/
def GRD_TRK_TRIM_ACT_ACT : Fld := ⟨⟨11023, 0, 0⟩, 32, 0⟩
/-! GRD_FREQ: 07_grid_and_solar.md Table 7.10 -/
def GRD_FREQ_F : Fld := ⟨⟨11024, 0, 0⟩, 32, 0⟩
/-! GRD_ROCOF: 07_grid_and_solar.md Table 7.10 -/
def GRD_ROCOF_R : Fld := ⟨⟨11025, 0, 0⟩, 32, 0⟩
/-! GRD_VS: 07_grid_and_solar.md Table 7.10 -/
def GRD_VS_VS : Fld := ⟨⟨11026, 0, 0⟩, 32, 0⟩
/-! GRD_REF_T: 07_grid_and_solar.md Table 7.10 -/
def GRD_REF_T_T : Fld := ⟨⟨11027, 0, 0⟩, 32, 0⟩
/-! GRD_NUDGE: 07_grid_and_solar.md Table 7.10 -/
def GRD_NUDGE_DELTA : Fld := ⟨⟨11028, 0, 0⟩, 32, 0⟩
/-! GRD_INJ_PHASE: 07_grid_and_solar.md Table 7.10 -/
def GRD_INJ_PHASE_PHASE : Fld := ⟨⟨11029, 0, 0⟩, 32, 0⟩
/-! GRD_INJ_SLOT: 07_grid_and_solar.md Table 7.10 -/
def GRD_INJ_SLOT_SLOT : Fld := ⟨⟨11030, 0, 0⟩, 8, 0⟩
/-! GRD_CNT: 07_grid_and_solar.md Table 7.9 -/
def GRD_CNT_UNLOCK_CNT : Fld := ⟨⟨11031, 0, 0⟩, 8, 0⟩
def GRD_CNT_CEASE_CNT : Fld := ⟨⟨11032, 0, 0⟩, 8, 0⟩
def GRD_CNT_INVALID_HC : Fld := ⟨⟨11033, 0, 0⟩, 16, 0⟩
/-! GRD_IVS_CTRL: 07_grid_and_solar.md Table 7.11 -/
def GRD_IVS_CTRL_ABORT : Fld := ⟨⟨11034, 0, 0⟩, 1, 0⟩
def GRD_IVS_CTRL_SCAN : Fld := ⟨⟨11035, 0, 0⟩, 1, 0⟩
def GRD_IVS_CTRL_APPLY : Fld := ⟨⟨11036, 0, 0⟩, 1, 0⟩
/-! GRD_IVS_STAT: 07_grid_and_solar.md Table 7.11 -/
def GRD_IVS_STAT_STATE : Fld := ⟨⟨11037, 0, 0⟩, 2, 0⟩
def GRD_IVS_STAT_LEG : Fld := ⟨⟨11038, 0, 0⟩, 2, 0⟩
def GRD_IVS_STAT_STEP : Fld := ⟨⟨11039, 0, 0⟩, 8, 0⟩
def GRD_IVS_STAT_CFG_IGN : Fld := ⟨⟨11040, 0, 0⟩, 1, 0⟩
def GRD_IVS_STAT_ERR : Fld := ⟨⟨11041, 0, 0⟩, 1, 0⟩
def GRD_IVS_STAT_MPP_VALID : Fld := ⟨⟨11042, 0, 0⟩, 4, 0⟩
/-! GRD_IVS_SCAN: 07_grid_and_solar.md Table 7.11 -/
def GRD_IVS_SCAN_MASK : Fld := ⟨⟨11043, 0, 0⟩, 4, 0⟩
def GRD_IVS_SCAN_RESTORE : Fld := ⟨⟨11044, 0, 0⟩, 1, 0⟩
/-! GRD_IVS_STEP: 07_grid_and_solar.md Table 7.11 -/
def GRD_IVS_STEP_NM1 : Fld := ⟨⟨11045, 0, 0⟩, 8, 1⟩
def GRD_IVS_STEP_DWELL : Fld := ⟨⟨11046, 0, 0⟩, 14, 1000⟩
/-! GRD_IVS_MODE: 07_grid_and_solar.md Table 7.11 -/
def GRD_IVS_MODE_MODE : Fld := ⟨⟨11047, 0, 0⟩, 15, 0⟩
/-! GRD_VIN: 07_grid_and_solar.md Table 7.10 -/
def GRD_VIN_UNIT (n : Nat) : Fld := ⟨⟨11048, n, 0⟩, 3, 0⟩
def GRD_VIN_INPUT (n : Nat) : Fld := ⟨⟨11049, n, 0⟩, 4, 0⟩
def GRD_VIN_GAIN (n : Nat) : Fld := ⟨⟨11050, n, 0⟩, 20, 4096⟩
/-! GRD_RMS: 07_grid_and_solar.md Table 7.10 -/
def GRD_RMS_VALID (n : Nat) : Fld := ⟨⟨11051, n, 0⟩, 1, 0⟩
def GRD_RMS_OVR (n : Nat) : Fld := ⟨⟨11052, n, 0⟩, 1, 0⟩
def GRD_RMS_RMS (n : Nat) : Fld := ⟨⟨11053, n, 0⟩, 16, 0⟩
/-! GRD_REF: 07_grid_and_solar.md Table 7.10 -/
def GRD_REF_ANG (n : Nat) : Fld := ⟨⟨11054, n, 0⟩, 32, 0⟩
/-! GRD_IVS_WSTART: 07_grid_and_solar.md Table 7.11 -/
def GRD_IVS_WSTART_W : Fld := ⟨⟨11055, 0, 0⟩, 24, 0⟩
/-! GRD_IVS_WEND: 07_grid_and_solar.md Table 7.11 -/
def GRD_IVS_WEND_W : Fld := ⟨⟨11056, 0, 0⟩, 24, 0⟩
/-! GRD_IVS_PER: 07_grid_and_solar.md Table 7.11 -/
def GRD_IVS_PER_VALUE : Fld := ⟨⟨11057, 0, 0⟩, 24, 0⟩
/-! GRD_IVS_RISE: 07_grid_and_solar.md Table 7.11 -/
def GRD_IVS_RISE_VALUE (n : Nat) : Fld := ⟨⟨11058, n, 0⟩, 24, 0⟩
/-! GRD_IVS_FALL: 07_grid_and_solar.md Table 7.11 -/
def GRD_IVS_FALL_VALUE (n : Nat) : Fld := ⟨⟨11059, n, 0⟩, 24, 0⟩
/-! GRD_IVS_IN: 07_grid_and_solar.md Table 7.11 -/
def GRD_IVS_IN_V_UNIT (n : Nat) : Fld := ⟨⟨11060, n, 0⟩, 3, 0⟩
def GRD_IVS_IN_V_INPUT (n : Nat) : Fld := ⟨⟨11061, n, 0⟩, 4, 0⟩
def GRD_IVS_IN_I_UNIT (n : Nat) : Fld := ⟨⟨11062, n, 0⟩, 3, 0⟩
def GRD_IVS_IN_I_INPUT (n : Nat) : Fld := ⟨⟨11063, n, 0⟩, 4, 0⟩
def GRD_IVS_IN_VMIN (n : Nat) : Fld := ⟨⟨11064, n, 0⟩, 12, 0⟩
/-! GRD_IVS_MPP: 07_grid_and_solar.md Table 7.11 -/
def GRD_IVS_MPP_INDEX (n : Nat) : Fld := ⟨⟨11065, n, 0⟩, 8, 0⟩
def GRD_IVS_MPP_W (n : Nat) : Fld := ⟨⟨11066, n, 0⟩, 24, 0⟩
/-! GRD_IVS_NPTS: 07_grid_and_solar.md Table 7.11 -/
def GRD_IVS_NPTS_NPTS0 : Fld := ⟨⟨11067, 0, 0⟩, 8, 0⟩
def GRD_IVS_NPTS_NPTS1 : Fld := ⟨⟨11068, 0, 0⟩, 8, 0⟩
def GRD_IVS_NPTS_NPTS2 : Fld := ⟨⟨11069, 0, 0⟩, 8, 0⟩
def GRD_IVS_NPTS_NPTS3 : Fld := ⟨⟨11070, 0, 0⟩, 8, 0⟩
/-! GRD_PROFILE: 07_grid_and_solar.md Table 7.4 -/
def GRD_PROFILE_WORD (n m : Nat) : Fld := ⟨⟨11071, n, m⟩, 32, 0⟩
/-! GRD_IV: 07_grid_and_solar.md Table 7.8 -/
def GRD_IV_POINT (n m : Nat) : Fld := ⟨⟨11072, n, m⟩, 32, 0⟩

/-! ### SAF -/
/-! SAF_STAT: 08_machine_safety.md Table 8.12 -/
def SAF_STAT_DSTATE : Fld := ⟨⟨12001, 0, 0⟩, 3, 0⟩
def SAF_STAT_STRAP_OK : Fld := ⟨⟨12002, 0, 0⟩, 1, 0⟩
def SAF_STAT_PSET_OK : Fld := ⟨⟨12003, 0, 0⟩, 1, 0⟩
def SAF_STAT_DFAULT : Fld := ⟨⟨12004, 0, 0⟩, 8, 0⟩
/-! SAF_STRAP: 08_machine_safety.md Table 8.12 -/
def SAF_STRAP_OPEN : Fld := ⟨⟨12005, 0, 0⟩, 1, 0⟩
def SAF_STRAP_BOOT : Fld := ⟨⟨12006, 0, 0⟩, 8, 0⟩
def SAF_STRAP_LIVE : Fld := ⟨⟨12007, 0, 0⟩, 8, 0⟩
/-! SAF_PSET_ID: 08_machine_safety.md Table 8.12 -/
def SAF_PSET_ID_ID : Fld := ⟨⟨12008, 0, 0⟩, 32, 0⟩
/-! SAF_PSET_CRC: 08_machine_safety.md Table 8.12 -/
def SAF_PSET_CRC_CRC : Fld := ⟨⟨12009, 0, 0⟩, 32, 0⟩
/-! SAF_PSET_RES: 08_machine_safety.md Table 8.12 -/
def SAF_PSET_RES_CODE : Fld := ⟨⟨12010, 0, 0⟩, 8, 0⟩
/-! SAF_SIN: 08_machine_safety.md Table 8.12 -/
def SAF_SIN_DEMAND : Fld := ⟨⟨12011, 0, 0⟩, 8, 0⟩
def SAF_SIN_FAULT : Fld := ⟨⟨12012, 0, 0⟩, 8, 0⟩
def SAF_SIN_A : Fld := ⟨⟨12013, 0, 0⟩, 8, 0⟩
def SAF_SIN_B : Fld := ⟨⟨12014, 0, 0⟩, 8, 0⟩
/-! SAF_OUT: 08_machine_safety.md Table 8.12 -/
def SAF_OUT_SDO : Fld := ⟨⟨12015, 0, 0⟩, 2, 0⟩
def SAF_OUT_STOB : Fld := ⟨⟨12016, 0, 0⟩, 4, 0⟩
def SAF_OUT_STOA : Fld := ⟨⟨12017, 0, 0⟩, 4, 0⟩
/-! SAF_SNAP_T: 08_machine_safety.md Table 8.12 -/
def SAF_SNAP_T_T : Fld := ⟨⟨12018, 0, 0⟩, 32, 0⟩
/-! SAF_SIN_FLT: 08_machine_safety.md Table 8.12 -/
def SAF_SIN_FLT_CODES : Fld := ⟨⟨12019, 0, 0⟩, 16, 0⟩
/-! SAF_CYCLE_LO: 08_machine_safety.md Table 8.12 -/
def SAF_CYCLE_LO_COUNT : Fld := ⟨⟨12020, 0, 0⟩, 32, 0⟩
/-! SAF_CYCLE_HI: 08_machine_safety.md Table 8.12 -/
def SAF_CYCLE_HI_COUNT : Fld := ⟨⟨12021, 0, 0⟩, 32, 0⟩
/-! SAF_CH_STAT: 08_machine_safety.md Table 8.13 -/
def SAF_CH_STAT_STATE (n : Nat) : Fld := ⟨⟨12022, n, 0⟩, 3, 0⟩
def SAF_CH_STAT_PERMIT (n : Nat) : Fld := ⟨⟨12023, n, 0⟩, 1, 0⟩
def SAF_CH_STAT_RST_WAIT (n : Nat) : Fld := ⟨⟨12024, n, 0⟩, 1, 0⟩
def SAF_CH_STAT_DYN_DUE (n : Nat) : Fld := ⟨⟨12025, n, 0⟩, 1, 0⟩
def SAF_CH_STAT_A_VALID (n : Nat) : Fld := ⟨⟨12026, n, 0⟩, 1, 0⟩
def SAF_CH_STAT_STOA_RB (n : Nat) : Fld := ⟨⟨12027, n, 0⟩, 1, 0⟩
def SAF_CH_STAT_STOB_RB (n : Nat) : Fld := ⟨⟨12028, n, 0⟩, 1, 0⟩
def SAF_CH_STAT_SS1_END (n : Nat) : Fld := ⟨⟨12029, n, 0⟩, 2, 0⟩
def SAF_CH_STAT_CAUSE (n : Nat) : Fld := ⟨⟨12030, n, 0⟩, 4, 1⟩
/-! SAF_CH_VA: 08_machine_safety.md Table 8.13 -/
def SAF_CH_VA_V (n : Nat) : Fld := ⟨⟨12031, n, 0⟩, 32, 0⟩
/-! SAF_CH_VB: 08_machine_safety.md Table 8.13 -/
def SAF_CH_VB_V (n : Nat) : Fld := ⟨⟨12032, n, 0⟩, 32, 0⟩
/-! SAF_CH_VLIM: 08_machine_safety.md Table 8.13 -/
def SAF_CH_VLIM_VLIM (n : Nat) : Fld := ⟨⟨12033, n, 0⟩, 32, 0⟩
/-! SAF_CH_SS1_T: 08_machine_safety.md Table 8.13 -/
def SAF_CH_SS1_T_T (n : Nat) : Fld := ⟨⟨12034, n, 0⟩, 32, 0⟩
/-! SAF_CH_CNT: 08_machine_safety.md Table 8.13 -/
def SAF_CH_CNT_STO_ENTRIES (n : Nat) : Fld := ⟨⟨12035, n, 0⟩, 16, 0⟩
def SAF_CH_CNT_MISMATCH (n : Nat) : Fld := ⟨⟨12036, n, 0⟩, 16, 0⟩

/-! ### VAL -/
/-! VAL_CFG: 09_cell_monitoring.md Table 9.12 -/
def VAL_CFG_EN : Fld := ⟨⟨13001, 0, 0⟩, 1, 0⟩
def VAL_CFG_CMD_PT_EN : Fld := ⟨⟨13002, 0, 0⟩, 1, 0⟩
def VAL_CFG_CMD_PT : Fld := ⟨⟨13003, 0, 0⟩, 6, 0⟩
def VAL_CFG_NOTIFY_EN : Fld := ⟨⟨13004, 0, 0⟩, 1, 0⟩
def VAL_CFG_NOTIFY_PT : Fld := ⟨⟨13005, 0, 0⟩, 6, 0⟩
/-! VAL_LINK: 09_cell_monitoring.md Table 9.12 -/
def VAL_LINK_RESP_TMO : Fld := ⟨⟨13006, 0, 0⟩, 8, 50⟩
def VAL_LINK_RETRY : Fld := ⟨⟨13007, 0, 0⟩, 2, 1⟩
def VAL_LINK_MISS_LIMIT : Fld := ⟨⟨13008, 0, 0⟩, 6, 3⟩
def VAL_LINK_OW_CONFIRM : Fld := ⟨⟨13009, 0, 0⟩, 4, 2⟩
def VAL_LINK_AUTO_REC : Fld := ⟨⟨13010, 0, 0⟩, 1, 0⟩
/-! VAL_SCFG0: 09_cell_monitoring.md Table 9.12 -/
def VAL_SCFG0_CONV : Fld := ⟨⟨13011, 0, 0⟩, 2, 1⟩
def VAL_SCFG0_SDELAY : Fld := ⟨⟨13012, 0, 0⟩, 2, 2⟩
def VAL_SCFG0_OW_THR : Fld := ⟨⟨13013, 0, 0⟩, 8, 40⟩
def VAL_SCFG0_OW_SETTLE : Fld := ⟨⟨13014, 0, 0⟩, 8, 8⟩
/-! VAL_SCFG1: 09_cell_monitoring.md Table 9.12 -/
def VAL_SCFG1_BAL_TMO : Fld := ⟨⟨13015, 0, 0⟩, 8, 10⟩
def VAL_SCFG1_BAL_TLIM : Fld := ⟨⟨13016, 0, 0⟩, 8, 100⟩
/-! VAL_CTRL: 09_cell_monitoring.md Table 9.12 -/
def VAL_CTRL_OWD_GO : Fld := ⟨⟨13017, 0, 0⟩, 1, 0⟩
def VAL_CTRL_SLEEP_ALL : Fld := ⟨⟨13018, 0, 0⟩, 1, 0⟩
def VAL_CTRL_WAKE_ALL : Fld := ⟨⟨13019, 0, 0⟩, 1, 0⟩
def VAL_CTRL_TRIG : Fld := ⟨⟨13020, 0, 0⟩, 1, 0⟩
/-! VAL_STAT: 09_cell_monitoring.md Table 9.12 -/
def VAL_STAT_SET_BUSY : Fld := ⟨⟨13021, 0, 0⟩, 1, 0⟩
def VAL_STAT_CFG_IGN : Fld := ⟨⟨13022, 0, 0⟩, 1, 0⟩
/-! VAL_BUF: 09_cell_monitoring.md Table 9.12 -/
def VAL_BUF_EN : Fld := ⟨⟨13023, 0, 0⟩, 1, 0⟩
def VAL_BUF_BASE : Fld := ⟨⟨13024, 0, 0⟩, 13, 0⟩
def VAL_BUF_NSETS : Fld := ⟨⟨13025, 0, 0⟩, 8, 0⟩
/-! VAL_SET_IDX: 09_cell_monitoring.md Table 9.12 -/
def VAL_SET_IDX_SEQ : Fld := ⟨⟨13026, 0, 0⟩, 24, 0⟩
def VAL_SET_IDX_NEXT : Fld := ⟨⟨13027, 0, 0⟩, 8, 0⟩
/-! VAL_TRIG_CNT: 09_cell_monitoring.md Table 9.12 -/
def VAL_TRIG_CNT_DONE : Fld := ⟨⟨13028, 0, 0⟩, 16, 0⟩
def VAL_TRIG_CNT_DROPPED : Fld := ⟨⟨13029, 0, 0⟩, 16, 0⟩
/-! VAL_OWD_MASK: 09_cell_monitoring.md Table 9.12 -/
def VAL_OWD_MASK_PORTS : Fld := ⟨⟨13030, 0, 0⟩, 32, 0⟩
/-! VAL_ACTIVE: 09_cell_monitoring.md Table 9.12 -/
def VAL_ACTIVE_PORTS : Fld := ⟨⟨13031, 0, 0⟩, 32, 0⟩
/-! VAL_FAULT: 09_cell_monitoring.md Table 9.12 -/
def VAL_FAULT_PORTS : Fld := ⟨⟨13032, 0, 0⟩, 32, 0⟩
/-! VAL_PORT_CFG: 09_cell_monitoring.md Table 9.13 -/
def VAL_PORT_CFG_EN (n : Nat) : Fld := ⟨⟨13033, n, 0⟩, 1, 0⟩
def VAL_PORT_CFG_STRING (n : Nat) : Fld := ⟨⟨13034, n, 0⟩, 2, 0⟩
def VAL_PORT_CFG_POS (n : Nat) : Fld := ⟨⟨13035, n, 0⟩, 5, 0⟩
def VAL_PORT_CFG_NCELL (n : Nat) : Fld := ⟨⟨13036, n, 0⟩, 4, 15⟩
/-! VAL_PORT_EXPID: 09_cell_monitoring.md Table 9.13 -/
def VAL_PORT_EXPID_ID (n : Nat) : Fld := ⟨⟨13037, n, 0⟩, 32, 0⟩
/-! VAL_PORT_ID: 09_cell_monitoring.md Table 9.13 -/
def VAL_PORT_ID_ID (n : Nat) : Fld := ⟨⟨13038, n, 0⟩, 32, 0⟩
/-! VAL_PORT_STAT: 09_cell_monitoring.md Table 9.13 -/
def VAL_PORT_STAT_STATE (n : Nat) : Fld := ⟨⟨13039, n, 0⟩, 3, 0⟩
def VAL_PORT_STAT_FCODE (n : Nat) : Fld := ⟨⟨13040, n, 0⟩, 5, 0⟩
def VAL_PORT_STAT_CONSEC_MISS (n : Nat) : Fld := ⟨⟨13041, n, 0⟩, 8, 0⟩
def VAL_PORT_STAT_SSTAT (n : Nat) : Fld := ⟨⟨13042, n, 0⟩, 16, 0⟩
/-! VAL_PORT_OW: 09_cell_monitoring.md Table 9.13 -/
def VAL_PORT_OW_LINES (n : Nat) : Fld := ⟨⟨13043, n, 0⟩, 17, 0⟩
/-! VAL_PORT_CNT: 09_cell_monitoring.md Table 9.13 -/
def VAL_PORT_CNT_CRC_ERR (n : Nat) : Fld := ⟨⟨13044, n, 0⟩, 16, 0⟩
def VAL_PORT_CNT_TIMEOUT (n : Nat) : Fld := ⟨⟨13045, n, 0⟩, 16, 0⟩
/-! VAL_PORT_ACC: 09_cell_monitoring.md Table 9.13 -/
def VAL_PORT_ACC_GO_BUSY (n : Nat) : Fld := ⟨⟨13046, n, 0⟩, 1, 0⟩
def VAL_PORT_ACC_WRITE (n : Nat) : Fld := ⟨⟨13047, n, 0⟩, 1, 0⟩
def VAL_PORT_ACC_ERR (n : Nat) : Fld := ⟨⟨13048, n, 0⟩, 1, 0⟩
def VAL_PORT_ACC_DONE (n : Nat) : Fld := ⟨⟨13049, n, 0⟩, 1, 0⟩
def VAL_PORT_ACC_ADDR (n : Nat) : Fld := ⟨⟨13050, n, 0⟩, 8, 0⟩
def VAL_PORT_ACC_DATA (n : Nat) : Fld := ⟨⟨13051, n, 0⟩, 16, 0⟩

/-! ### SEC -/
/-! SEC_STAT: 10_security_and_ledger.md Table 10.11 -/
def SEC_STAT_LIFECYCLE : Fld := ⟨⟨14001, 0, 0⟩, 1, 0⟩
def SEC_STAT_DEBUG_OPEN : Fld := ⟨⟨14002, 0, 0⟩, 1, 0⟩
def SEC_STAT_TAMPER_LOCK : Fld := ⟨⟨14003, 0, 0⟩, 1, 0⟩
def SEC_STAT_KWK_VALID : Fld := ⟨⟨14004, 0, 0⟩, 1, 0⟩
def SEC_STAT_EPOCH_SAT : Fld := ⟨⟨14005, 0, 0⟩, 1, 0⟩
/-! SEC_EPOCH: 10_security_and_ledger.md Table 10.11 -/
def SEC_EPOCH_EPOCH : Fld := ⟨⟨14006, 0, 0⟩, 12, 0⟩
/-! SEC_SESS: 10_security_and_ledger.md Table 10.11 -/
def SEC_SESS_OPEN : Fld := ⟨⟨14007, 0, 0⟩, 4, 0⟩
def SEC_SESS_LR_COUNT : Fld := ⟨⟨14008, 0, 0⟩, 4, 0⟩
def SEC_SESS_IDLE_MIN : Fld := ⟨⟨14009, 0, 0⟩, 8, 0⟩
/-! SEC_TAMPER: 10_security_and_ledger.md Table 10.11 -/
def SEC_TAMPER_LIVE : Fld := ⟨⟨14010, 0, 0⟩, 8, 0⟩
def SEC_TAMPER_SEEN : Fld := ⟨⟨14011, 0, 0⟩, 8, 0⟩
/-! SEC_ODO_STAT: 10_security_and_ledger.md Table 10.11 -/
def SEC_ODO_STAT_EN : Fld := ⟨⟨14012, 0, 0⟩, 1, 0⟩
def SEC_ODO_STAT_DISAGREE : Fld := ⟨⟨14013, 0, 0⟩, 1, 0⟩
def SEC_ODO_STAT_A_INVALID : Fld := ⟨⟨14014, 0, 0⟩, 1, 0⟩
def SEC_ODO_STAT_COLD : Fld := ⟨⟨14015, 0, 0⟩, 1, 0⟩
def SEC_ODO_STAT_GRANT_VALID : Fld := ⟨⟨14016, 0, 0⟩, 1, 0⟩
def SEC_ODO_STAT_GRANT_INST : Fld := ⟨⟨14017, 0, 0⟩, 7, 0⟩
/-! SEC_ODO_CNT: 10_security_and_ledger.md Table 10.11 -/
def SEC_ODO_CNT_DISAGREE_CNT : Fld := ⟨⟨14018, 0, 0⟩, 16, 0⟩
def SEC_ODO_CNT_REC_DROPPED : Fld := ⟨⟨14019, 0, 0⟩, 16, 0⟩
/-! SEC_LOCK: 10_security_and_ledger.md Table 10.11 -/
def SEC_LOCK_FAILS (n : Nat) : Fld := ⟨⟨14020, n, 0⟩, 8, 0⟩
def SEC_LOCK_REMAIN (n : Nat) : Fld := ⟨⟨14021, n, 0⟩, 24, 0⟩
/-! SEC_TAMPER_CFG: 10_security_and_ledger.md Table 10.11 -/
def SEC_TAMPER_CFG_EN : Fld := ⟨⟨14022, 0, 0⟩, 8, 0⟩
def SEC_TAMPER_CFG_POL : Fld := ⟨⟨14023, 0, 0⟩, 4, 0⟩
def SEC_TAMPER_CFG_RESP : Fld := ⟨⟨14024, 0, 0⟩, 16, 0⟩
/-! SEC_MSEQ_LO: 10_security_and_ledger.md Table 10.11 -/
def SEC_MSEQ_LO_VALUE : Fld := ⟨⟨14025, 0, 0⟩, 32, 0⟩
/-! SEC_MSEQ_HI: 10_security_and_ledger.md Table 10.11 -/
def SEC_MSEQ_HI_VALUE : Fld := ⟨⟨14026, 0, 0⟩, 32, 0⟩
/-! SEC_ODO_A_LO: 10_security_and_ledger.md Table 10.11 -/
def SEC_ODO_A_LO_VALUE : Fld := ⟨⟨14027, 0, 0⟩, 32, 0⟩
/-! SEC_ODO_A_HI: 10_security_and_ledger.md Table 10.11 -/
def SEC_ODO_A_HI_VALUE : Fld := ⟨⟨14028, 0, 0⟩, 32, 0⟩
/-! SEC_ODO_B_LO: 10_security_and_ledger.md Table 10.11 -/
def SEC_ODO_B_LO_VALUE : Fld := ⟨⟨14029, 0, 0⟩, 32, 0⟩
/-! SEC_ODO_B_HI: 10_security_and_ledger.md Table 10.11 -/
def SEC_ODO_B_HI_VALUE : Fld := ⟨⟨14030, 0, 0⟩, 32, 0⟩

/-! ### LDG -/
/-! LDG_STAT: 10_security_and_ledger.md Table 10.12 -/
def LDG_STAT_FLASH_OK : Fld := ⟨⟨15001, 0, 0⟩, 1, 0⟩
def LDG_STAT_ROLLBACK : Fld := ⟨⟨15002, 0, 0⟩, 1, 0⟩
def LDG_STAT_PRUNE_BLOCKED : Fld := ⟨⟨15003, 0, 0⟩, 1, 0⟩
def LDG_STAT_QDEPTH : Fld := ⟨⟨15004, 0, 0⟩, 5, 0⟩
def LDG_STAT_FREE_BLOCKS : Fld := ⟨⟨15005, 0, 0⟩, 16, 0⟩
/-! LDG_DROPPED: 10_security_and_ledger.md Table 10.12 -/
def LDG_DROPPED_COUNT : Fld := ⟨⟨15006, 0, 0⟩, 16, 0⟩
/-! LDG_HEAD_LO: 10_security_and_ledger.md Table 10.12 -/
def LDG_HEAD_LO_SEQ : Fld := ⟨⟨15007, 0, 0⟩, 32, 0⟩
/-! LDG_HEAD_HI: 10_security_and_ledger.md Table 10.12 -/
def LDG_HEAD_HI_SEQ : Fld := ⟨⟨15008, 0, 0⟩, 32, 0⟩
/-! LDG_OLDEST_LO: 10_security_and_ledger.md Table 10.12 -/
def LDG_OLDEST_LO_SEQ : Fld := ⟨⟨15009, 0, 0⟩, 32, 0⟩
/-! LDG_OLDEST_HI: 10_security_and_ledger.md Table 10.12 -/
def LDG_OLDEST_HI_SEQ : Fld := ⟨⟨15010, 0, 0⟩, 32, 0⟩
/-! LDG_CKPT_LO: 10_security_and_ledger.md Table 10.12 -/
def LDG_CKPT_LO_SEQ : Fld := ⟨⟨15011, 0, 0⟩, 32, 0⟩
/-! LDG_CKPT_HI: 10_security_and_ledger.md Table 10.12 -/
def LDG_CKPT_HI_SEQ : Fld := ⟨⟨15012, 0, 0⟩, 32, 0⟩
/-! LDG_HEAD_HASH: 10_security_and_ledger.md Table 10.12 -/
def LDG_HEAD_HASH_HASH (n : Nat) : Fld := ⟨⟨15013, n, 0⟩, 32, 0⟩

/-! ### AGG -/
/-! AGG_CFG: 18_qoronami_aggregation.md Table 18.9 -/
def AGG_CFG_EN : Fld := ⟨⟨16001, 0, 0⟩, 1, 0⟩
def AGG_CFG_ROLE : Fld := ⟨⟨16002, 0, 0⟩, 2, 0⟩
def AGG_CFG_EXPORT_GATE : Fld := ⟨⟨16003, 0, 0⟩, 1, 0⟩
def AGG_CFG_PORT : Fld := ⟨⟨16004, 0, 0⟩, 3, 0⟩
def AGG_CFG_EPOCH : Fld := ⟨⟨16005, 0, 0⟩, 16, 0⟩
/-! AGG_ID: 18_qoronami_aggregation.md Table 18.9 -/
def AGG_ID_GROUP : Fld := ⟨⟨16006, 0, 0⟩, 16, 0⟩
def AGG_ID_NODE_ID : Fld := ⟨⟨16007, 0, 0⟩, 10, 0⟩
/-! AGG_PH_OFS: 18_qoronami_aggregation.md Table 18.9 -/
def AGG_PH_OFS_OFS : Fld := ⟨⟨16008, 0, 0⟩, 32, 0⟩
/-! AGG_HOLD: 18_qoronami_aggregation.md Table 18.9 -/
def AGG_HOLD_S : Fld := ⟨⟨16009, 0, 0⟩, 16, 10⟩
/-! AGG_MAC_LO: 18_qoronami_aggregation.md Table 18.9 -/
def AGG_MAC_LO_MAC : Fld := ⟨⟨16010, 0, 0⟩, 32, 1⟩
/-! AGG_MAC_HI: 18_qoronami_aggregation.md Table 18.9 -/
def AGG_MAC_HI_MAC : Fld := ⟨⟨16011, 0, 0⟩, 16, 849⟩
/-! AGG_CTRL: 18_qoronami_aggregation.md Table 18.9 -/
def AGG_CTRL_CLOSE : Fld := ⟨⟨16012, 0, 0⟩, 1, 0⟩
def AGG_CTRL_LEAVE : Fld := ⟨⟨16013, 0, 0⟩, 1, 0⟩
def AGG_CTRL_RESUME : Fld := ⟨⟨16014, 0, 0⟩, 1, 0⟩
def AGG_CTRL_ISLAND : Fld := ⟨⟨16015, 0, 0⟩, 1, 0⟩
/-! AGG_NODE_SLOT: 18_qoronami_aggregation.md Table 18.9 -/
def AGG_NODE_SLOT_SLOT : Fld := ⟨⟨16016, 0, 0⟩, 8, 0⟩
/-! AGG_STAT: 18_qoronami_aggregation.md Table 18.9 -/
def AGG_STAT_STATE : Fld := ⟨⟨16017, 0, 0⟩, 4, 0⟩
def AGG_STAT_ISLAND : Fld := ⟨⟨16018, 0, 0⟩, 1, 0⟩
def AGG_STAT_PROF_OK : Fld := ⟨⟨16019, 0, 0⟩, 1, 0⟩
def AGG_STAT_ALIGNED : Fld := ⟨⟨16020, 0, 0⟩, 1, 0⟩
def AGG_STAT_CFG_IGN : Fld := ⟨⟨16021, 0, 0⟩, 1, 0⟩
def AGG_STAT_COORD : Fld := ⟨⟨16022, 0, 0⟩, 10, 0⟩
/-! AGG_RESID: 18_qoronami_aggregation.md Table 18.9 -/
def AGG_RESID_R : Fld := ⟨⟨16023, 0, 0⟩, 32, 0⟩
/-! AGG_CNT: 18_qoronami_aggregation.md Table 18.9 -/
def AGG_CNT_REF_LOST : Fld := ⟨⟨16024, 0, 0⟩, 8, 0⟩
def AGG_CNT_MISMATCH : Fld := ⟨⟨16025, 0, 0⟩, 8, 0⟩
def AGG_CNT_REJECT : Fld := ⟨⟨16026, 0, 0⟩, 8, 0⟩
def AGG_CNT_RXDROP : Fld := ⟨⟨16027, 0, 0⟩, 8, 0⟩
/-! AGG_NODES: 18_qoronami_aggregation.md Table 18.9 -/
def AGG_NODES_COUNT : Fld := ⟨⟨16028, 0, 0⟩, 11, 0⟩
/-! AGG_GINJ_PHASE: 18_qoronami_aggregation.md Table 18.9 -/
def AGG_GINJ_PHASE_PHASE : Fld := ⟨⟨16029, 0, 0⟩, 32, 0⟩
/-! AGG_GINJ_SLOT: 18_qoronami_aggregation.md Table 18.9 -/
def AGG_GINJ_SLOT_SLOT : Fld := ⟨⟨16030, 0, 0⟩, 8, 0⟩
/-! AGG_CAP_G_LO: 18_qoronami_aggregation.md Table 18.9 -/
def AGG_CAP_G_LO_G (n : Nat) : Fld := ⟨⟨16031, n, 0⟩, 32, 0⟩
/-! AGG_CAP_G_HI: 18_qoronami_aggregation.md Table 18.9 -/
def AGG_CAP_G_HI_G (n : Nat) : Fld := ⟨⟨16032, n, 0⟩, 32, 0⟩
/-! AGG_CAP_THETA: 18_qoronami_aggregation.md Table 18.9 -/
def AGG_CAP_THETA_THETA (n : Nat) : Fld := ⟨⟨16033, n, 0⟩, 32, 0⟩
/-! AGG_CAP_TRIM: 18_qoronami_aggregation.md Table 18.9 -/
def AGG_CAP_TRIM_TRIM (n : Nat) : Fld := ⟨⟨16034, n, 0⟩, 32, 0⟩
/-! AGG_CAP_TURN: 18_qoronami_aggregation.md Table 18.9 -/
def AGG_CAP_TURN_TURN (n : Nat) : Fld := ⟨⟨16035, n, 0⟩, 32, 0⟩
/-! AGG_CAP_FLAGS: 18_qoronami_aggregation.md Table 18.9 -/
def AGG_CAP_FLAGS_STEP (n : Nat) : Fld := ⟨⟨16036, n, 0⟩, 1, 0⟩
def AGG_CAP_FLAGS_VALID (n : Nat) : Fld := ⟨⟨16037, n, 0⟩, 1, 0⟩

/-! ### CD -/
/-! CD_CTRL: 04_control_dsp.md Table 4.13 -/
def CD_CTRL_RESET (n : Nat) : Fld := ⟨⟨17001, n, 0⟩, 1, 0⟩
def CD_CTRL_HALT (n : Nat) : Fld := ⟨⟨17002, n, 0⟩, 1, 0⟩
def CD_CTRL_RUN (n : Nat) : Fld := ⟨⟨17003, n, 0⟩, 1, 0⟩
/-! CD_STAT: 04_control_dsp.md Table 4.14 -/
def CD_STAT_STATE (n : Nat) : Fld := ⟨⟨17004, n, 0⟩, 2, 3⟩
def CD_STAT_CP_BUSY (n : Nat) : Fld := ⟨⟨17005, n, 0⟩, 1, 0⟩
def CD_STAT_AMODE_ERR (n : Nat) : Fld := ⟨⟨17006, n, 0⟩, 1, 0⟩
def CD_STAT_LSP (n : Nat) : Fld := ⟨⟨17007, n, 0⟩, 3, 0⟩
def CD_STAT_CSP (n : Nat) : Fld := ⟨⟨17008, n, 0⟩, 5, 0⟩
/-! CD_PC: 04_control_dsp.md Table 4.12 -/
def CD_PC_PC (n : Nat) : Fld := ⟨⟨17009, n, 0⟩, 32, 0⟩
/-! CD_VBASE: 04_control_dsp.md Table 4.12 -/
def CD_VBASE_VBASE (n : Nat) : Fld := ⟨⟨17010, n, 0⟩, 32, 0⟩
/-! CD_REL_PEND: 04_control_dsp.md Table 4.15 -/
def CD_REL_PEND_PEND (n : Nat) : Fld := ⟨⟨17011, n, 0⟩, 32, 0⟩
/-! CD_REL_EN: 04_control_dsp.md Table 4.15 -/
def CD_REL_EN_EN (n : Nat) : Fld := ⟨⟨17012, n, 0⟩, 32, 0⟩
/-! CD_REL_SET: 04_control_dsp.md Table 4.15 -/
def CD_REL_SET_SET (n : Nat) : Fld := ⟨⟨17013, n, 0⟩, 32, 0⟩
/-! CD_REL_CANCEL: 04_control_dsp.md Table 4.15 -/
def CD_REL_CANCEL_CANCEL (n : Nat) : Fld := ⟨⟨17014, n, 0⟩, 32, 0⟩
/-! CD_REL_LOST: 04_control_dsp.md Table 4.15 -/
def CD_REL_LOST_COUNT (n : Nat) : Fld := ⟨⟨17015, n, 0⟩, 16, 0⟩
/-! CD_REL_CBS: 04_control_dsp.md Table 4.15 -/
def CD_REL_CBS_COUNT (n : Nat) : Fld := ⟨⟨17016, n, 0⟩, 16, 0⟩
/-! CD_REL_LVL: 04_control_dsp.md Table 4.15 -/
def CD_REL_LVL_LVL (n m : Nat) : Fld := ⟨⟨17017, n, m⟩, 32, 0⟩
/-! CD_IRQ_CFG: 04_control_dsp.md Table 4.16 -/
def CD_IRQ_CFG_EN (n : Nat) : Fld := ⟨⟨17018, n, 0⟩, 8, 0⟩
def CD_IRQ_CFG_LVL (n : Nat) : Fld := ⟨⟨17019, n, 0⟩, 16, 0⟩
/-! CD_IRQ_PEND: 04_control_dsp.md Table 4.16 -/
def CD_IRQ_PEND_PEND (n : Nat) : Fld := ⟨⟨17020, n, 0⟩, 8, 0⟩
/-! CD_FAULT_INFO: 04_control_dsp.md Table 4.17 -/
def CD_FAULT_INFO_VALID (n : Nat) : Fld := ⟨⟨17021, n, 0⟩, 1, 0⟩
def CD_FAULT_INFO_MORE (n : Nat) : Fld := ⟨⟨17022, n, 0⟩, 1, 0⟩
def CD_FAULT_INFO_VEC (n : Nat) : Fld := ⟨⟨17023, n, 0⟩, 3, 0⟩
def CD_FAULT_INFO_WRITE (n : Nat) : Fld := ⟨⟨17024, n, 0⟩, 1, 0⟩
def CD_FAULT_INFO_SPACE (n : Nat) : Fld := ⟨⟨17025, n, 0⟩, 1, 0⟩
def CD_FAULT_INFO_PC (n : Nat) : Fld := ⟨⟨17026, n, 0⟩, 15, 0⟩
/-! CD_FAULT_ADDR: 04_control_dsp.md Table 4.17 -/
def CD_FAULT_ADDR_ADDR (n : Nat) : Fld := ⟨⟨17027, n, 0⟩, 24, 0⟩
/-! CD_XHI: 04_control_dsp.md Table 4.18 -/
def CD_XHI_WR (n : Nat) : Fld := ⟨⟨17028, n, 0⟩, 8, 0⟩
def CD_XHI_RD (n : Nat) : Fld := ⟨⟨17029, n, 0⟩, 8, 0⟩
/-! CD_WIN: 04_control_dsp.md Table 4.18 -/
def CD_WIN_EN (n m : Nat) : Fld := ⟨⟨17030, n, m⟩, 1, 0⟩
def CD_WIN_BASE (n m : Nat) : Fld := ⟨⟨17031, n, m⟩, 18, 0⟩
/-! CD_CYCLE_LO: 04_control_dsp.md Table 4.12 -/
def CD_CYCLE_LO_COUNT (n : Nat) : Fld := ⟨⟨17032, n, 0⟩, 32, 0⟩
/-! CD_CYCLE_HI: 04_control_dsp.md Table 4.12 -/
def CD_CYCLE_HI_COUNT (n : Nat) : Fld := ⟨⟨17033, n, 0⟩, 32, 0⟩
/-! CD_RELT: 04_control_dsp.md Table 4.15 -/
def CD_RELT_T (n m : Nat) : Fld := ⟨⟨17034, n, m⟩, 32, 0⟩

/-! ### HIF -/
/-! HIF_ID: 13_host_rings.md Table 13.13 -/
def HIF_ID_DEVICE : Fld := ⟨⟨18001, 0, 0⟩, 16, 37152⟩
def HIF_ID_VENDOR : Fld := ⟨⟨18002, 0, 0⟩, 16, 8014⟩
/-! HIF_LINK: 13_host_rings.md Table 13.13 -/
def HIF_LINK_SPEED : Fld := ⟨⟨18003, 0, 0⟩, 4, 0⟩
def HIF_LINK_WIDTH : Fld := ⟨⟨18004, 0, 0⟩, 4, 0⟩
/-! HIF_CTO: 13_host_rings.md Table 13.13 -/
def HIF_CTO_UNITS : Fld := ⟨⟨18005, 0, 0⟩, 10, 200⟩
/-! HIF_CFG: 13_host_rings.md Table 13.13 -/
def HIF_CFG_RO_EN : Fld := ⟨⟨18006, 0, 0⟩, 1, 1⟩
/-! HIF_STAT: 13_host_rings.md Table 13.13 -/
def HIF_STAT_CFG_IGN : Fld := ⟨⟨18007, 0, 0⟩, 1, 0⟩
/-! HIF_POOL: 13_host_rings.md Table 13.13 -/
def HIF_POOL_FREE : Fld := ⟨⟨18008, 0, 0⟩, 16, 32768⟩
/-! HIF_DMA_ERR_CNT: 13_host_rings.md Table 13.13 -/
def HIF_DMA_ERR_CNT_COUNT : Fld := ⟨⟨18009, 0, 0⟩, 32, 0⟩
/-! HIF_DB_ERR_CNT: 13_host_rings.md Table 13.13 -/
def HIF_DB_ERR_CNT_COUNT : Fld := ⟨⟨18010, 0, 0⟩, 32, 0⟩
/-! HIF_RING_IDX: 13_host_rings.md Table 13.13 -/
def HIF_RING_IDX_RING : Fld := ⟨⟨18011, 0, 0⟩, 15, 0⟩
/-! HIF_RING_CTX0: 13_host_rings.md Table 13.14 -/
def HIF_RING_CTX0_EN (n : Nat) : Fld := ⟨⟨18012, n, 0⟩, 1, 0⟩
def HIF_RING_CTX0_KIND (n : Nat) : Fld := ⟨⟨18013, n, 0⟩, 4, 0⟩
def HIF_RING_CTX0_LOG2N (n : Nat) : Fld := ⟨⟨18014, n, 0⟩, 5, 6⟩
def HIF_RING_CTX0_INST (n : Nat) : Fld := ⟨⟨18015, n, 0⟩, 7, 0⟩
def HIF_RING_CTX0_LOCAL (n : Nat) : Fld := ⟨⟨18016, n, 0⟩, 13, 0⟩
/-! HIF_RING_CTX1: 13_host_rings.md Table 13.14 -/
def HIF_RING_CTX1_DESC_BASE (n : Nat) : Fld := ⟨⟨18017, n, 0⟩, 32, 0⟩
/-! HIF_RING_CTX2: 13_host_rings.md Table 13.14 -/
def HIF_RING_CTX2_DESC_BASE (n : Nat) : Fld := ⟨⟨18018, n, 0⟩, 32, 0⟩
/-! HIF_RING_CTX3: 13_host_rings.md Table 13.14 -/
def HIF_RING_CTX3_CPL_BASE (n : Nat) : Fld := ⟨⟨18019, n, 0⟩, 32, 0⟩
/-! HIF_RING_CTX4: 13_host_rings.md Table 13.14 -/
def HIF_RING_CTX4_CPL_BASE (n : Nat) : Fld := ⟨⟨18020, n, 0⟩, 32, 0⟩
/-! HIF_RING_CTX5: 13_host_rings.md Table 13.14 -/
def HIF_RING_CTX5_IRQ_EN (n : Nat) : Fld := ⟨⟨18021, n, 0⟩, 1, 0⟩
def HIF_RING_CTX5_VEC (n : Nat) : Fld := ⟨⟨18022, n, 0⟩, 7, 0⟩
def HIF_RING_CTX5_COAL_CNT (n : Nat) : Fld := ⟨⟨18023, n, 0⟩, 8, 1⟩
def HIF_RING_CTX5_COAL_US (n : Nat) : Fld := ⟨⟨18024, n, 0⟩, 10, 0⟩
/-! HIF_RING_CTX6: 13_host_rings.md Table 13.14 -/
def HIF_RING_CTX6_STREAM (n : Nat) : Fld := ⟨⟨18025, n, 0⟩, 16, 0⟩
def HIF_RING_CTX6_CQ (n : Nat) : Fld := ⟨⟨18026, n, 0⟩, 13, 0⟩
/-! HIF_RING_CTX7: 13_host_rings.md Table 13.14 -/
def HIF_RING_CTX7_STATE (n : Nat) : Fld := ⟨⟨18027, n, 0⟩, 2, 0⟩
def HIF_RING_CTX7_DBERR (n : Nat) : Fld := ⟨⟨18028, n, 0⟩, 8, 0⟩
def HIF_RING_CTX7_OUTSTANDING (n : Nat) : Fld := ⟨⟨18029, n, 0⟩, 17, 0⟩

/-! ### INS -/
/-! INS_STAT: 14_instances.md Table 14.12 -/
def INS_STAT_JOURNAL_VALID : Fld := ⟨⟨19001, 0, 0⟩, 1, 0⟩
def INS_STAT_JOURNAL_FAIL : Fld := ⟨⟨19002, 0, 0⟩, 1, 0⟩
def INS_STAT_LIVE_CNT : Fld := ⟨⟨19003, 0, 0⟩, 8, 1⟩
/-! INS_SEL: 14_instances.md Table 14.12 -/
def INS_SEL_INSTANCE : Fld := ⟨⟨19004, 0, 0⟩, 7, 0⟩
/-! INS_INFO: 14_instances.md Table 14.12 -/
def INS_INFO_INSTATE (n : Nat) : Fld := ⟨⟨19005, n, 0⟩, 8, (if n = 0 then 1 else 0)⟩
def INS_INFO_LOG (n : Nat) : Fld := ⟨⟨19006, n, 0⟩, 8, 0⟩
def INS_INFO_SPGRANT (n : Nat) : Fld := ⟨⟨19007, n, 0⟩, 4, 0⟩
def INS_INFO_VALGRANT (n : Nat) : Fld := ⟨⟨19008, n, 0⟩, 1, 0⟩
def INS_INFO_MOTION (n : Nat) : Fld := ⟨⟨19009, n, 0⟩, 1, 0⟩
/-! INS_CNT_QUOTA: 14_instances.md Table 14.12 -/
def INS_CNT_QUOTA_COUNT (n : Nat) : Fld := ⟨⟨19010, n, 0⟩, 32, 0⟩
/-! INS_CNT_POLICY: 14_instances.md Table 14.12 -/
def INS_CNT_POLICY_COUNT (n : Nat) : Fld := ⟨⟨19011, n, 0⟩, 32, 0⟩
/-! INS_CNT_VIOL: 14_instances.md Table 14.12 -/
def INS_CNT_VIOL_COUNT (n : Nat) : Fld := ⟨⟨19012, n, 0⟩, 32, 0⟩
/-! INS_RESET_ID: 14_instances.md Table 14.12 -/
def INS_RESET_ID_ID : Fld := ⟨⟨19013, 0, 0⟩, 32, 0⟩
/-! INS_JOURNAL_LO: 14_instances.md Table 14.12 -/
def INS_JOURNAL_LO_BASE : Fld := ⟨⟨19014, 0, 0⟩, 32, 0⟩
/-! INS_JOURNAL_HI: 14_instances.md Table 14.12 -/
def INS_JOURNAL_HI_BASE : Fld := ⟨⟨19015, 0, 0⟩, 32, 0⟩
/-! INS_ATTN: 14_instances.md Table 14.12 -/
def INS_ATTN_PEND (n : Nat) : Fld := ⟨⟨19016, n, 0⟩, 32, 0⟩
/-! INS_LIVE: 14_instances.md Table 14.12 -/
def INS_LIVE_LIVE (n : Nat) : Fld := ⟨⟨19017, n, 0⟩, 32, (if n = 0 then 1 else 0)⟩
/-! INS_SPGRANT: 14_instances.md Table 14.12 -/
def INS_SPGRANT_VALID (n : Nat) : Fld := ⟨⟨19018, n, 0⟩, 1, 0⟩
def INS_SPGRANT_INSTANCE (n : Nat) : Fld := ⟨⟨19019, n, 0⟩, 7, 0⟩
/-! INS_VALGRANT: 14_instances.md Table 14.12 -/
def INS_VALGRANT_VALID : Fld := ⟨⟨19020, 0, 0⟩, 1, 0⟩
def INS_VALGRANT_INSTANCE : Fld := ⟨⟨19021, 0, 0⟩, 7, 0⟩
/-! INS_MOTION: 14_instances.md Table 14.12 -/
def INS_MOTION_VALID : Fld := ⟨⟨19022, 0, 0⟩, 1, 0⟩
def INS_MOTION_INSTANCE : Fld := ⟨⟨19023, 0, 0⟩, 7, 0⟩
/-! INS_MOTION_RING: 14_instances.md Table 14.12 -/
def INS_MOTION_RING_VALID : Fld := ⟨⟨19024, 0, 0⟩, 1, 0⟩
def INS_MOTION_RING_RING : Fld := ⟨⟨19025, 0, 0⟩, 15, 0⟩
/-! INS_PANTRY: 14_instances.md Table 14.12 -/
def INS_PANTRY_WORD (n m : Nat) : Fld := ⟨⟨19026, n, m⟩, 32, 0⟩
/-! INS_SPLIM_MIN: 14_instances.md Table 14.12 -/
def INS_SPLIM_MIN_LIMIT (n m : Nat) : Fld := ⟨⟨19027, n, m⟩, 32, 2147483648⟩
/-! INS_SPLIM_MAX: 14_instances.md Table 14.12 -/
def INS_SPLIM_MAX_LIMIT (n m : Nat) : Fld := ⟨⟨19028, n, m⟩, 32, 2147483647⟩
/-! INS_SPLIM_INTV: 14_instances.md Table 14.12 -/
def INS_SPLIM_INTV_US (n : Nat) : Fld := ⟨⟨19029, n, 0⟩, 16, 0⟩
/-! INS_STREAM: 14_instances.md Table 14.12 -/
def INS_STREAM_VALID (n : Nat) : Fld := ⟨⟨19030, n, 0⟩, 1, 0⟩
def INS_STREAM_RING (n : Nat) : Fld := ⟨⟨19031, n, 0⟩, 15, 0⟩
def INS_STREAM_GRANTED (n : Nat) : Fld := ⟨⟨19032, n, 0⟩, 1, 0⟩
def INS_STREAM_INSTANCE (n : Nat) : Fld := ⟨⟨19033, n, 0⟩, 7, 0⟩

/-! ### PXE -/
/-! PXE_TPUT_CNT: 15_packet_engine.md Table 15.10 -/
def PXE_TPUT_CNT_NOBUF : Fld := ⟨⟨20001, 0, 0⟩, 16, 0⟩
def PXE_TPUT_CNT_DENIED : Fld := ⟨⟨20002, 0, 0⟩, 16, 0⟩
/-! PXE_CL_CTRL: 15_packet_engine.md Table 15.10 -/
def PXE_CL_CTRL_HALT_ALL (n : Nat) : Fld := ⟨⟨20003, n, 0⟩, 1, 0⟩
def PXE_CL_CTRL_START_ALL (n : Nat) : Fld := ⟨⟨20004, n, 0⟩, 1, 0⟩
/-! PXE_CL_STAT: 15_packet_engine.md Table 15.10 -/
def PXE_CL_STAT_HALTED (n : Nat) : Fld := ⟨⟨20005, n, 0⟩, 1, 1⟩
def PXE_CL_STAT_STALL (n : Nat) : Fld := ⟨⟨20006, n, 0⟩, 1, 0⟩
def PXE_CL_STAT_CFG_IGN (n : Nat) : Fld := ⟨⟨20007, n, 0⟩, 1, 0⟩
def PXE_CL_STAT_NEVER (n : Nat) : Fld := ⟨⟨20008, n, 0⟩, 16, 0⟩
/-! PXE_CL_STALL_LIM: 15_packet_engine.md Table 15.10 -/
def PXE_CL_STALL_LIM_US (n : Nat) : Fld := ⟨⟨20009, n, 0⟩, 16, 1000⟩
/-! PXE_CL_STALL_CNT: 15_packet_engine.md Table 15.10 -/
def PXE_CL_STALL_CNT_COUNT (n : Nat) : Fld := ⟨⟨20010, n, 0⟩, 16, 0⟩
/-! PXE_PT_CTRL: 15_packet_engine.md Table 15.11 -/
def PXE_PT_CTRL_POKE (n : Nat) : Fld := ⟨⟨20011, n, 0⟩, 1, 0⟩
def PXE_PT_CTRL_RESUME (n : Nat) : Fld := ⟨⟨20012, n, 0⟩, 1, 0⟩
def PXE_PT_CTRL_HALT (n : Nat) : Fld := ⟨⟨20013, n, 0⟩, 1, 0⟩
def PXE_PT_CTRL_START (n : Nat) : Fld := ⟨⟨20014, n, 0⟩, 1, 0⟩
/-! PXE_PT_ENTRY: 15_packet_engine.md Table 15.11 -/
def PXE_PT_ENTRY_ENTRY (n : Nat) : Fld := ⟨⟨20015, n, 0⟩, 14, 0⟩
/-! PXE_PT_STAT: 15_packet_engine.md Table 15.11 -/
def PXE_PT_STAT_STATE (n : Nat) : Fld := ⟨⟨20016, n, 0⟩, 3, 0⟩
def PXE_PT_STAT_NEVER (n : Nat) : Fld := ⟨⟨20017, n, 0⟩, 1, 0⟩
def PXE_PT_STAT_CFG_IGN (n : Nat) : Fld := ⟨⟨20018, n, 0⟩, 1, 0⟩
def PXE_PT_STAT_PEND (n : Nat) : Fld := ⟨⟨20019, n, 0⟩, 8, 0⟩
def PXE_PT_STAT_PC (n : Nat) : Fld := ⟨⟨20020, n, 0⟩, 14, 0⟩
/-! PXE_PT_FAULT_INFO: 15_packet_engine.md Table 15.11 -/
def PXE_PT_FAULT_INFO_VALID (n : Nat) : Fld := ⟨⟨20021, n, 0⟩, 1, 0⟩
def PXE_PT_FAULT_INFO_CAUSE (n : Nat) : Fld := ⟨⟨20022, n, 0⟩, 4, 0⟩
def PXE_PT_FAULT_INFO_REGION (n : Nat) : Fld := ⟨⟨20023, n, 0⟩, 8, 0⟩
def PXE_PT_FAULT_INFO_PC (n : Nat) : Fld := ⟨⟨20024, n, 0⟩, 14, 0⟩
/-! PXE_PT_FAULT_ADDR: 15_packet_engine.md Table 15.11 -/
def PXE_PT_FAULT_ADDR_EA (n : Nat) : Fld := ⟨⟨20025, n, 0⟩, 32, 0⟩
/-! PXE_PT_CNT: 15_packet_engine.md Table 15.11 -/
def PXE_PT_CNT_CANCELLED_BEFORE_START (n : Nat) : Fld := ⟨⟨20026, n, 0⟩, 16, 0⟩
def PXE_PT_CNT_POKE_DROPPED (n : Nat) : Fld := ⟨⟨20027, n, 0⟩, 16, 0⟩
/-! PXE_RWAKE: 15_packet_engine.md Table 15.11 -/
def PXE_RWAKE_EN (n : Nat) : Fld := ⟨⟨20028, n, 0⟩, 1, 0⟩
def PXE_RWAKE_PT (n : Nat) : Fld := ⟨⟨20029, n, 0⟩, 6, 0⟩
def PXE_RWAKE_RING (n : Nat) : Fld := ⟨⟨20030, n, 0⟩, 15, 0⟩

/-! ### NET -/
/-! NET_STAT: 16_network_datapath.md Table 16.12 -/
def NET_STAT_CFG_IGN : Fld := ⟨⟨21001, 0, 0⟩, 1, 0⟩
/-! NET_CFG: 16_network_datapath.md Table 16.12 -/
def NET_CFG_VXLAN_PORT : Fld := ⟨⟨21002, 0, 0⟩, 16, 4789⟩
def NET_CFG_FDB_AGE : Fld := ⟨⟨21003, 0, 0⟩, 16, 300⟩
/-! NET_FLOW_CFG: 16_network_datapath.md Table 16.12 -/
def NET_FLOW_CFG_EN : Fld := ⟨⟨21004, 0, 0⟩, 1, 0⟩
/-! NET_CACHE_CNT: 16_network_datapath.md Table 16.12 -/
def NET_CACHE_CNT_MISS : Fld := ⟨⟨21005, 0, 0⟩, 16, 0⟩
/-! NET_FDB_CNT: 16_network_datapath.md Table 16.12 -/
def NET_FDB_CNT_LEARN_FULL : Fld := ⟨⟨21006, 0, 0⟩, 16, 0⟩
def NET_FDB_CNT_MOVES : Fld := ⟨⟨21007, 0, 0⟩, 16, 0⟩
/-! NET_CNT: 16_network_datapath.md Table 16.12 -/
def NET_CNT_RECIRC : Fld := ⟨⟨21008, 0, 0⟩, 8, 0⟩
def NET_CNT_TOOBIG : Fld := ⟨⟨21009, 0, 0⟩, 8, 0⟩
def NET_CNT_ESP_FAIL : Fld := ⟨⟨21010, 0, 0⟩, 16, 0⟩
/-! NET_NVME_CFG: 16_network_datapath.md Table 16.12 -/
def NET_NVME_CFG_EN : Fld := ⟨⟨21011, 0, 0⟩, 1, 0⟩
def NET_NVME_CFG_QD : Fld := ⟨⟨21012, 0, 0⟩, 7, 32⟩
def NET_NVME_CFG_STAGE : Fld := ⟨⟨21013, 0, 0⟩, 16, 256⟩
/-! NET_NVME_TMO: 16_network_datapath.md Table 16.12 -/
def NET_NVME_TMO_MS : Fld := ⟨⟨21014, 0, 0⟩, 16, 30000⟩
/-! NET_NVME_STAT: 16_network_datapath.md Table 16.12 -/
def NET_NVME_STAT_STATE : Fld := ⟨⟨21015, 0, 0⟩, 3, 0⟩
def NET_NVME_STAT_IOQ : Fld := ⟨⟨21016, 0, 0⟩, 6, 0⟩
def NET_NVME_STAT_TIMEOUTS : Fld := ⟨⟨21017, 0, 0⟩, 16, 0⟩
/-! NET_FLOW_BASE_LO: 16_network_datapath.md Table 16.12 -/
def NET_FLOW_BASE_LO_BASE : Fld := ⟨⟨21018, 0, 0⟩, 32, 0⟩
/-! NET_FLOW_BASE_HI: 16_network_datapath.md Table 16.12 -/
def NET_FLOW_BASE_HI_BASE : Fld := ⟨⟨21019, 0, 0⟩, 32, 0⟩
/-! NET_PORT_CFG: 16_network_datapath.md Table 16.12 -/
def NET_PORT_CFG_EN (n : Nat) : Fld := ⟨⟨21020, n, 0⟩, 1, 0⟩
def NET_PORT_CFG_MODE (n : Nat) : Fld := ⟨⟨21021, n, 0⟩, 3, 0⟩
def NET_PORT_CFG_MAXLEN (n : Nat) : Fld := ⟨⟨21022, n, 0⟩, 14, 1518⟩
def NET_PORT_CFG_PVID (n : Nat) : Fld := ⟨⟨21023, n, 0⟩, 12, 1⟩
/-! NET_PORT_LINK: 16_network_datapath.md Table 16.12 -/
def NET_PORT_LINK_UP (n : Nat) : Fld := ⟨⟨21024, n, 0⟩, 1, 0⟩
def NET_PORT_LINK_SPEED (n : Nat) : Fld := ⟨⟨21025, n, 0⟩, 3, 0⟩
/-! NET_PORT_DROP: 16_network_datapath.md Table 16.12 -/
def NET_PORT_DROP_FCS (n : Nat) : Fld := ⟨⟨21026, n, 0⟩, 8, 0⟩
def NET_PORT_DROP_SIZE (n : Nat) : Fld := ⟨⟨21027, n, 0⟩, 8, 0⟩
def NET_PORT_DROP_CTRL (n : Nat) : Fld := ⟨⟨21028, n, 0⟩, 8, 0⟩
def NET_PORT_DROP_ADMIT (n : Nat) : Fld := ⟨⟨21029, n, 0⟩, 8, 0⟩
/-! NET_PORT_RXF_LO: 16_network_datapath.md Table 16.12 -/
def NET_PORT_RXF_LO_COUNT (n : Nat) : Fld := ⟨⟨21030, n, 0⟩, 32, 0⟩
/-! NET_PORT_RXF_HI: 16_network_datapath.md Table 16.12 -/
def NET_PORT_RXF_HI_COUNT (n : Nat) : Fld := ⟨⟨21031, n, 0⟩, 32, 0⟩
/-! NET_PORT_TXF_LO: 16_network_datapath.md Table 16.12 -/
def NET_PORT_TXF_LO_COUNT (n : Nat) : Fld := ⟨⟨21032, n, 0⟩, 32, 0⟩
/-! NET_PORT_TXF_HI: 16_network_datapath.md Table 16.12 -/
def NET_PORT_TXF_HI_COUNT (n : Nat) : Fld := ⟨⟨21033, n, 0⟩, 32, 0⟩
/-! NET_CPUQ: 16_network_datapath.md Table 16.12 -/
def NET_CPUQ_EN (n : Nat) : Fld := ⟨⟨21034, n, 0⟩, 1, 0⟩
def NET_CPUQ_PT (n : Nat) : Fld := ⟨⟨21035, n, 0⟩, 6, 0⟩
def NET_CPUQ_DEPTH (n : Nat) : Fld := ⟨⟨21036, n, 0⟩, 11, 0⟩
/-! NET_CPUQ_DROPS: 16_network_datapath.md Table 16.12 -/
def NET_CPUQ_DROPS_COUNT (n : Nat) : Fld := ⟨⟨21037, n, 0⟩, 32, 0⟩

/-! ### TSN -/
/-! TSN_STAT: 17_traffic_scheduling.md Table 17.3 -/
def TSN_STAT_CFG_IGN : Fld := ⟨⟨22001, 0, 0⟩, 1, 0⟩
def TSN_STAT_STEP_CNT : Fld := ⟨⟨22002, 0, 0⟩, 8, 0⟩
def TSN_STAT_TC7_DEMOTE : Fld := ⟨⟨22003, 0, 0⟩, 8, 0⟩
/-! TSN_GPTP_CTRL: 17_traffic_scheduling.md Table 17.3 -/
def TSN_GPTP_CTRL_COMMIT : Fld := ⟨⟨22004, 0, 0⟩, 1, 0⟩
def TSN_GPTP_CTRL_SYNC : Fld := ⟨⟨22005, 0, 0⟩, 1, 0⟩
/-! TSN_GPTP_OFS_LO: 17_traffic_scheduling.md Table 17.3 -/
def TSN_GPTP_OFS_LO_OFS : Fld := ⟨⟨22006, 0, 0⟩, 32, 0⟩
/-! TSN_GPTP_OFS_HI: 17_traffic_scheduling.md Table 17.3 -/
def TSN_GPTP_OFS_HI_OFS : Fld := ⟨⟨22007, 0, 0⟩, 32, 0⟩
/-! TSN_GPTP_RATE: 17_traffic_scheduling.md Table 17.3 -/
def TSN_GPTP_RATE_RATE : Fld := ⟨⟨22008, 0, 0⟩, 32, 0⟩
/-! TSN_GPTP_NOW_LO: 17_traffic_scheduling.md Table 17.3 -/
def TSN_GPTP_NOW_LO_G : Fld := ⟨⟨22009, 0, 0⟩, 32, 0⟩
/-! TSN_GPTP_NOW_HI: 17_traffic_scheduling.md Table 17.3 -/
def TSN_GPTP_NOW_HI_G : Fld := ⟨⟨22010, 0, 0⟩, 32, 0⟩
/-! TSN_NODE_IDX: 17_traffic_scheduling.md Table 17.3 -/
def TSN_NODE_IDX_NODE : Fld := ⟨⟨22011, 0, 0⟩, 12, 0⟩
/-! TSN_POL_IDX: 17_traffic_scheduling.md Table 17.3 -/
def TSN_POL_IDX_POL : Fld := ⟨⟨22012, 0, 0⟩, 11, 0⟩
/-! TSN_NODE_CFG: 17_traffic_scheduling.md Table 17.3 -/
def TSN_NODE_CFG_EN (n : Nat) : Fld := ⟨⟨22013, n, 0⟩, 1, 0⟩
def TSN_NODE_CFG_PORT (n : Nat) : Fld := ⟨⟨22014, n, 0⟩, 3, 0⟩
def TSN_NODE_CFG_TC (n : Nat) : Fld := ⟨⟨22015, n, 0⟩, 3, 0⟩
def TSN_NODE_CFG_INST (n : Nat) : Fld := ⟨⟨22016, n, 0⟩, 7, 0⟩
def TSN_NODE_CFG_YLIM (n : Nat) : Fld := ⟨⟨22017, n, 0⟩, 6, 0⟩
def TSN_NODE_CFG_LIMIT (n : Nat) : Fld := ⟨⟨22018, n, 0⟩, 6, 0⟩
def TSN_NODE_CFG_QUANTUM (n : Nat) : Fld := ⟨⟨22019, n, 0⟩, 6, 1⟩
/-! TSN_NODE_DROP: 17_traffic_scheduling.md Table 17.3 -/
def TSN_NODE_DROP_COUNT (n : Nat) : Fld := ⟨⟨22020, n, 0⟩, 32, 0⟩
/-! TSN_POL_CFG: 17_traffic_scheduling.md Table 17.3 -/
def TSN_POL_CFG_EN (n : Nat) : Fld := ⟨⟨22021, n, 0⟩, 1, 0⟩
def TSN_POL_CFG_ACCT (n : Nat) : Fld := ⟨⟨22022, n, 0⟩, 1, 0⟩
def TSN_POL_CFG_CF (n : Nat) : Fld := ⟨⟨22023, n, 0⟩, 1, 0⟩
def TSN_POL_CFG_CM (n : Nat) : Fld := ⟨⟨22024, n, 0⟩, 1, 0⟩
def TSN_POL_CFG_DROP_YELLOW (n : Nat) : Fld := ⟨⟨22025, n, 0⟩, 1, 0⟩
def TSN_POL_CFG_OH (n : Nat) : Fld := ⟨⟨22026, n, 0⟩, 6, 20⟩
/-! TSN_POL_CIR: 17_traffic_scheduling.md Table 17.3 -/
def TSN_POL_CIR_RATE (n : Nat) : Fld := ⟨⟨22027, n, 0⟩, 24, 0⟩
/-! TSN_POL_CBS: 17_traffic_scheduling.md Table 17.3 -/
def TSN_POL_CBS_BURST (n : Nat) : Fld := ⟨⟨22028, n, 0⟩, 24, 0⟩
/-! TSN_POL_EIR: 17_traffic_scheduling.md Table 17.3 -/
def TSN_POL_EIR_RATE (n : Nat) : Fld := ⟨⟨22029, n, 0⟩, 24, 0⟩
/-! TSN_POL_EBS: 17_traffic_scheduling.md Table 17.3 -/
def TSN_POL_EBS_BURST (n : Nat) : Fld := ⟨⟨22030, n, 0⟩, 24, 0⟩
/-! TSN_POL_CNT: 17_traffic_scheduling.md Table 17.3 -/
def TSN_POL_CNT_YELLOW (n : Nat) : Fld := ⟨⟨22031, n, 0⟩, 16, 0⟩
def TSN_POL_CNT_RED (n : Nat) : Fld := ⟨⟨22032, n, 0⟩, 16, 0⟩
/-! TSN_POLMAP: 17_traffic_scheduling.md Table 17.3 -/
def TSN_POLMAP_BASE (n : Nat) : Fld := ⟨⟨22033, n, 0⟩, 12, 0⟩
def TSN_POLMAP_COUNT (n : Nat) : Fld := ⟨⟨22034, n, 0⟩, 12, 0⟩
/-! TSN_PORT_CFG: 17_traffic_scheduling.md Table 17.4 -/
def TSN_PORT_CFG_GCL_EN (n : Nat) : Fld := ⟨⟨22035, n, 0⟩, 1, 0⟩
def TSN_PORT_CFG_MODE (n : Nat) : Fld := ⟨⟨22036, n, 0⟩, 1, 0⟩
def TSN_PORT_CFG_PREEMPT_EN (n : Nat) : Fld := ⟨⟨22037, n, 0⟩, 1, 0⟩
def TSN_PORT_CFG_ADD_FRAG (n : Nat) : Fld := ⟨⟨22038, n, 0⟩, 2, 0⟩
def TSN_PORT_CFG_UNTAG_TC (n : Nat) : Fld := ⟨⟨22039, n, 0⟩, 3, 0⟩
def TSN_PORT_CFG_STARVE_US (n : Nat) : Fld := ⟨⟨22040, n, 0⟩, 16, 1000⟩
/-! TSN_PORT_RATE: 17_traffic_scheduling.md Table 17.4 -/
def TSN_PORT_RATE_MBPS (n : Nat) : Fld := ⟨⟨22041, n, 0⟩, 32, (if n = 6 then 25000 else if n = 7 then 20000 else 0)⟩
/-! TSN_PORT_PCPMAP: 17_traffic_scheduling.md Table 17.4 -/
def TSN_PORT_PCPMAP_TC0 (n : Nat) : Fld := ⟨⟨22042, n, 0⟩, 3, 0⟩
def TSN_PORT_PCPMAP_TC1 (n : Nat) : Fld := ⟨⟨22043, n, 0⟩, 3, 1⟩
def TSN_PORT_PCPMAP_TC2 (n : Nat) : Fld := ⟨⟨22044, n, 0⟩, 3, 2⟩
def TSN_PORT_PCPMAP_TC3 (n : Nat) : Fld := ⟨⟨22045, n, 0⟩, 3, 3⟩
def TSN_PORT_PCPMAP_TC4 (n : Nat) : Fld := ⟨⟨22046, n, 0⟩, 3, 4⟩
def TSN_PORT_PCPMAP_TC5 (n : Nat) : Fld := ⟨⟨22047, n, 0⟩, 3, 5⟩
def TSN_PORT_PCPMAP_TC6 (n : Nat) : Fld := ⟨⟨22048, n, 0⟩, 3, 6⟩
def TSN_PORT_PCPMAP_TC7 (n : Nat) : Fld := ⟨⟨22049, n, 0⟩, 3, 7⟩
/-! TSN_PORT_DEFLIM: 17_traffic_scheduling.md Table 17.4 -/
def TSN_PORT_DEFLIM_YLIM (n : Nat) : Fld := ⟨⟨22050, n, 0⟩, 16, 64⟩
def TSN_PORT_DEFLIM_LIMIT (n : Nat) : Fld := ⟨⟨22051, n, 0⟩, 16, 256⟩
/-! TSN_PORT_GCL_CTRL: 17_traffic_scheduling.md Table 17.4 -/
def TSN_PORT_GCL_CTRL_CHANGE (n : Nat) : Fld := ⟨⟨22052, n, 0⟩, 1, 0⟩
def TSN_PORT_GCL_CTRL_LEN (n : Nat) : Fld := ⟨⟨22053, n, 0⟩, 11, 1⟩
def TSN_PORT_GCL_CTRL_FB_GATES (n : Nat) : Fld := ⟨⟨22054, n, 0⟩, 8, 255⟩
/-! TSN_PORT_GCL_BASE_LO: 17_traffic_scheduling.md Table 17.4 -/
def TSN_PORT_GCL_BASE_LO_BASE (n : Nat) : Fld := ⟨⟨22055, n, 0⟩, 32, 0⟩
/-! TSN_PORT_GCL_BASE_HI: 17_traffic_scheduling.md Table 17.4 -/
def TSN_PORT_GCL_BASE_HI_BASE (n : Nat) : Fld := ⟨⟨22056, n, 0⟩, 32, 0⟩
/-! TSN_PORT_GCL_CYCLE: 17_traffic_scheduling.md Table 17.4 -/
def TSN_PORT_GCL_CYCLE_CYCLE (n : Nat) : Fld := ⟨⟨22057, n, 0⟩, 32, 0⟩
/-! TSN_PORT_GCL_EXT: 17_traffic_scheduling.md Table 17.4 -/
def TSN_PORT_GCL_EXT_EXT (n : Nat) : Fld := ⟨⟨22058, n, 0⟩, 32, 0⟩
/-! TSN_PORT_GCL_ANG: 17_traffic_scheduling.md Table 17.4 -/
def TSN_PORT_GCL_ANG_ANG_TMO (n : Nat) : Fld := ⟨⟨22059, n, 0⟩, 16, 25000⟩
/-! TSN_PORT_GCL_STAT: 17_traffic_scheduling.md Table 17.4 -/
def TSN_PORT_GCL_STAT_PEND (n : Nat) : Fld := ⟨⟨22060, n, 0⟩, 1, 0⟩
def TSN_PORT_GCL_STAT_BANK (n : Nat) : Fld := ⟨⟨22061, n, 0⟩, 1, 0⟩
def TSN_PORT_GCL_STAT_CFG_ERR (n : Nat) : Fld := ⟨⟨22062, n, 0⟩, 1, 0⟩
def TSN_PORT_GCL_STAT_HOLD (n : Nat) : Fld := ⟨⟨22063, n, 0⟩, 1, 0⟩
def TSN_PORT_GCL_STAT_ENTRY (n : Nat) : Fld := ⟨⟨22064, n, 0⟩, 10, 0⟩
def TSN_PORT_GCL_STAT_ANG_LOST (n : Nat) : Fld := ⟨⟨22065, n, 0⟩, 8, 0⟩
def TSN_PORT_GCL_STAT_GATES (n : Nat) : Fld := ⟨⟨22066, n, 0⟩, 8, 255⟩
/-! TSN_PORT_STAT: 17_traffic_scheduling.md Table 17.4 -/
def TSN_PORT_STAT_VERIFIED (n : Nat) : Fld := ⟨⟨22067, n, 0⟩, 1, 0⟩
def TSN_PORT_STAT_MERGED (n : Nat) : Fld := ⟨⟨22068, n, 0⟩, 8, 0⟩
def TSN_PORT_STAT_SWAP_CNT (n : Nat) : Fld := ⟨⟨22069, n, 0⟩, 16, 0⟩
/-! TSN_TC_CFG: 17_traffic_scheduling.md Table 17.4 -/
def TSN_TC_CFG_ACCT (n m : Nat) : Fld := ⟨⟨22070, n, m⟩, 1, 0⟩
def TSN_TC_CFG_CBS_EN (n m : Nat) : Fld := ⟨⟨22071, n, m⟩, 1, 0⟩
def TSN_TC_CFG_PREEMPT (n m : Nat) : Fld := ⟨⟨22072, n, m⟩, 1, 0⟩
def TSN_TC_CFG_OH (n m : Nat) : Fld := ⟨⟨22073, n, m⟩, 6, 20⟩
def TSN_TC_CFG_PKT_BYTES (n m : Nat) : Fld := ⟨⟨22074, n, m⟩, 14, 1538⟩
/-! TSN_TC_IDLE: 17_traffic_scheduling.md Table 17.4 -/
def TSN_TC_IDLE_IS (n m : Nat) : Fld := ⟨⟨22075, n, m⟩, 24, 0⟩
/-! TSN_TC_CREDIT: 17_traffic_scheduling.md Table 17.4 -/
def TSN_TC_CREDIT_CREDIT (n m : Nat) : Fld := ⟨⟨22076, n, m⟩, 32, 0⟩
/-! TSN_TC_CNT: 17_traffic_scheduling.md Table 17.4 -/
def TSN_TC_CNT_GATE_OVERRUN (n m : Nat) : Fld := ⟨⟨22077, n, m⟩, 16, 0⟩
def TSN_TC_CNT_STARVE_SERVED (n m : Nat) : Fld := ⟨⟨22078, n, m⟩, 16, 0⟩
/-! TSN_GCL_ENTRY: 17_traffic_scheduling.md Table 17.2 -/
def TSN_GCL_ENTRY_LO (n m : Nat) : Fld := ⟨⟨22079, n, m⟩, 32, 0⟩
/-! TSN_GCL_ENTRY_HI: 17_traffic_scheduling.md Table 17.2 -/
def TSN_GCL_ENTRY_HI_HI (n m : Nat) : Fld := ⟨⟨22080, n, m⟩, 32, 0⟩

end Sys2Proof.Reg
end

