-- ==== Sys2Proof/Config.lean ====
section
/-! DEFINITION. What the spec leaves open: the free values. Each is an opaque constant without a body, so that no proof can
see what it is and a statement holds whatever it is. Each is named in a row of the assumption log. -/
namespace Sys2Proof.Config

/-- A fresh value for every use: applied to the counter `free` of the state, which the step reads and advances. -/
opaque freeWord : Nat → Nat

/-- Table 2.1: the output of the resolver's type-II tracking loop. Arguments: bandwidth code, demodulated sin and cos, the
position and speed before, and the interval. Result: new 64-bit position, speed (16 fraction bits), tracking error in BAU. -/
opaque resolverLoop : Nat → Int → Int → Nat → Int → Nat → Nat × Int × Nat

/-- Whether an A edge that leads B counts forward in an encoder's native direction (R55 names no order). -/
opaque quadForward : Bool

/-- The sector number that a Hall code 1–6 stands for (Table 2.1 gives no order of codes). -/
opaque hallSector : Nat → Nat

/-- The error of a coprocessor result within its stated accuracy (section 4.6), before it is limited to that accuracy. -/
opaque coprocError : Nat → Int

/-- SHA-256 (a published standard the spec uses and does not restate). -/
opaque sha256 : List Byte → List Byte

/-- ECDSA P-256 signing with the device key and verification under a public key. -/
opaque ecdsaSign : List Byte → List Byte
opaque ecdsaVerify : List Byte → List Byte → List Byte → Bool

/-- HMAC-SHA-256 of a key and a message. -/
opaque hmac : List Byte → List Byte → List Byte

/-- AES-based transforms of the crypto engine and of XTS: a code for the transform, the key, the parameters, the data. -/
opaque cipher : Nat → List Byte → List Nat → List Byte → List Byte

/-- Whether an authenticated decryption accepts its tag. -/
opaque cipherOk : Nat → List Byte → List Nat → List Byte → Bool

/-- Whether the step from level pair (a, b) to (b, a) order of SPCNTc_A and SPCNTc_B counts up when A leads (R327 names none). -/
opaque spcntForward : Bool

/-- The EVENT byte of a SAFETY_EVENT record for an event of the given kind, and the CH byte of an event that concerns no
channel (Table 10.5 gives no codes). -/
opaque safetyEvent : Nat → Nat
opaque domainCh : Nat

/-- The set of the flow cache that a flow index falls in (R601 gives no rule). -/
opaque cacheSet : Nat → Nat

/-- Fused or factory values that the spec names without giving: DEVICE_ID, the DER certificate of DK, the Olovocor factory
key, the number of 64 KiB blocks of the Ledger flash that the integrator fits. -/
opaque deviceId : List Byte
opaque dkCert : List Byte
opaque factoryKey : List Byte
opaque ledgerBlocks : Nat

/-- The unique 32-bit identity of the satellite on port `p` (Table 9.14). -/
opaque satId : Nat → Nat

/-- Whether a clock domain is idle, where no state tells it, and its count of ungatings (Table 19.2): by domain and the counter `free`. -/
opaque domIdle : Nat → Nat → Bool
opaque ungates : Nat → Nat → Nat

/-- Bit 10 of PWR_STAT.RAIL_OK, which Table 19.3 names no rail for. -/
opaque railSpare : Bool

/-- The key whose hash is fused, under which images of SIGNER 0 verify (R710). -/
opaque olovocorKey : List Byte

end Sys2Proof.Config
end

