-- ==== Sys2Proof/Machine/StateParts.lean ====
section
/-! DEFINITION. The parts of the state that no register shows whole, block by block: the internal state of each unit, as plain
data, with its value after a reset that covers the block (R15, R696). -/
namespace Sys2Proof.Machine

/-! ### Turnspit (02_turnspit.md) -/

/-- A switch ordered and not yet taken (R74, R75). -/
inductive SwitchPend where
  | none
  | toFallback (f : Nat) (bumpless auto : Bool)
  | back
deriving DecidableEq, Repr

/-- One angle source. STATE, FOLLOW_SRC, OWN_OK and the event bits live in TSP_SRCn_STAT. -/
structure Src where
  /-- {TURN, ANG} at the last update (R54). -/
  pos : Nat := 0
  /-- SPEED at the last update, signed, 16 fraction bits (R53). -/
  speed : Int := 0
  /-- T at the last update, all 64 bits. -/
  updT : Nat := 0
  /-- T from which the extrapolator advances `pos`; the update itself, or the entry to COASTING (R65, R70). -/
  baseT : Nat := 0
  /-- Requester ID that enabled the source: the holder its conflict-log entries name (R64). -/
  enabledBy : Nat := 0
  /-- The own input's position, SPEED and T of its last update while Sn follows another source. -/
  ownPos : Nat := 0
  ownSpeed : Int := 0
  ownT : Nat := 0
  /-- While FOLLOWING: the own input is acquiring (R758). -/
  ownAcq : Bool := false
  /-- The own input meets a loss condition. -/
  ownLost : Bool := false
  /-- Offset kept on the own input after a bumpless switch-back. -/
  ownOfs : Nat := 0
  /-- R74, R75: a switch ordered and not yet taken. -/
  pend : SwitchPend := .none
  /-- R62: the parent's position at enable or RESYNC. -/
  p0 : Nat := 0
  /-- ENCODER: the quadrature count within the turn, the last levels of A and B, and whether a Z edge was seen (R60). -/
  count : Nat := 0
  lvlA : Bool := false
  lvlB : Bool := false
  zSeen : Bool := false
  /-- Accepted edges so far, and the edge numbers at which illegal transitions or skips fell (Table 2.2). -/
  edges : Nat := 0
  faultsAt : List Nat := []
  /-- HALL: the sector of the last code in the sensor's native order, and the boundary of the last update (R66, R756). -/
  sector : Option Nat := none
  bound : Nat := 0
  /-- R90: the speed at which the angle went when it was last held: a LOST or ACQUIRING source would have gone on at it. -/
  lostSpeed : Int := 0
  /-- WHEEL: the remainder carried so that PPR pulses make one turn, and the sign of the last non-zero reference SPEED. -/
  rem : Nat := 0
  lastNeg : Bool := false
  /-- WHEEL: the OFS that the last update included (R59). -/
  ofsApplied : Nat := 0
  /-- Time and interval of the last edge (R67). -/
  edgeT : Option Nat := none
  edgeInt : Nat := 0
  /-- RESOLVER: consecutive expected pairs with an amplitude out of range, with too large a tracking error, and not usable;
  and consecutive good ones while acquiring. -/
  badAmp : Nat := 0
  badErr : Nat := 0
  badUse : Nat := 0
  good : Nat := 0
  /-- T at which a COASTING source enters LOST. -/
  coastEnd : Nat := 0
deriving DecidableEq, Repr

/-- The snapshot an ARM takes (R81), with what firing needs. -/
structure Arming where
  /-- SRC (0–7, 8 for T), DIR, MODE, CONS and LEAD of CFG, TGT and STEP. -/
  src : Nat
  dir : Nat
  periodic : Bool
  cons : Nat
  lead : Nat
  tgt : Nat
  step : Nat
  /-- T of the arming nanosecond. -/
  armT : Nat
  /-- A target equal to the source angle at the arming (R83, R85), and the source's 64-bit position then. -/
  atTgt : Bool
  armPos : Nat := 0
deriving DecidableEq, Repr

/-- One compare unit. CFG, TGT, STEP, OWN and STAT live in the TSP_CMPn registers. -/
structure Cmp where
  /-- Armed, with its snapshot (R81). -/
  arm : Option Arming := none
  /-- T of a jump that crossed the target (R88). -/
  jumpT : Option Nat := none
  /-- T of an update whose continuous motion crossed the target (Table 2.1, R281): it fires without JUMPED. -/
  moveT : Option Nat := none
  /-- Due in the arming nanosecond (R87). -/
  lateT : Option Nat := none
  /-- T of the last firing of this arming (R93: at most one event per nanosecond). -/
  firedT : Option Nat := none
  /-- R94: T of the last DISARM or ARM and the arming that it ended, before it was due: a crossing later in that nanosecond is
  a firing that the write cancelled. -/
  dropped : Option (Nat × Arming) := none
  /-- R107: the 64-bit target that the last TGT_LO write committed. -/
  committed : Nat := 0
  /-- Software wrote TGT since the ARM (R81). -/
  tgtWritten : Bool := false
deriving DecidableEq, Repr

/-- A refused claim: claimant, holder, resource (R103, R270). -/
structure Conflict where
  claimant : Nat
  holder : Nat
  resource : Nat
deriving DecidableEq, Repr

/-- One source's part of a capture (R98): its STATE, position and SPEED. -/
structure CapSrc where
  state : Nat
  pos : Nat
  speed : Int
deriving DecidableEq, Repr

/-- A capture on code 0xF0 or 0xF1: T and S0–S7 (R98). -/
structure Capture where
  t : Nat
  srcs : List CapSrc
deriving DecidableEq, Repr

structure Tsp where
  /-- The sources S0–S7 and the compare units 0–127. -/
  src : Tbl Src := []
  cmp : Tbl Cmp := []
  /-- R103: the conflict log, oldest first, at most 8 entries. -/
  log : List Conflict := []
deriving DecidableEq, Repr

/-- A logged fabric violation (R47). -/
structure Viol where
  write : Bool
  reqid : Nat
  region : Nat
  addr : Nat
deriving DecidableEq, Repr

/-! ### Acquisition (03_continuous_acquisition.md) -/

/-- A conversion: its start, what it converts and how its result is to be tagged and stored (R122, R125). -/
structure Conv where
  start : Nat
  slot : Nat
  input : Nat
  tsrc : Nat
  store : Bool
  buf : Nat
  urg : Bool
  fill : Bool
deriving DecidableEq, Repr

/-- A result from its sample instant on: the unsigned code, T and the 64-bit position, the flags of Table 3.6. -/
structure AdcRes where
  c : Conv
  code : Nat
  t : Nat
  pos : Nat
  ovr : Bool
  refu : Bool
  tstale : Bool
deriving DecidableEq, Repr

/-- What a running unit is doing within its slot. -/
inductive AdcPhase where
  /-- Before the next slot, which starts at `next`. -/
  | ready
  /-- In an OPEN or OPEN_FILL window that closes at `close` (excluded). -/
  | window (close : Nat) (fill : Bool)
  | conv (c : Conv)
deriving DecidableEq, Repr

/-- One converter unit. RUNNING, BANK, SWAP_PEND and SLOT live in ADC_UNITu_STAT. -/
structure AdcUnit where
  phase : AdcPhase := .ready
  /-- Between a START and its first slot. -/
  first : Bool := false
  /-- The next slot's number and T of its start. -/
  slot : Nat := 0
  next : Nat := 0
  /-- A STOP waits for the conversion in progress (R121); the result sampled and not yet delivered (R122, R125). -/
  stop : Bool := false
  sample : Option AdcRes := none
  /-- Results that wait for the end of their QUIET window, oldest first (R761). -/
  held : List AdcRes := []
  /-- R118: T of the last pass boundary at which slot 0 started, SERVED and DROPPED before it, and the urgent requests of that
  nanosecond (true: a Turnspit event), oldest first: a SWAP written in it still takes effect at that boundary. -/
  bound : Option (Nat × Nat × Nat) := none
  boundReqs : List Bool := []
  /-- R124: T of the URG_REQ write served in the present OPEN slot, and the end of its window. -/
  served : Option (Nat × Nat) := none
  /-- A stored record that the DMA engine has not yet committed: the buffer and its four words (R131, R133). -/
  dma : Option (Nat × List Nat) := none
deriving DecidableEq, Repr

/-- One half of a resolver pair: sample instant, unsigned code, usable (R144). -/
structure Half where
  t : Nat
  code : Nat
  good : Bool
deriving DecidableEq, Repr

/-- A pair passed to Turnspit: d_s and d_c in 1/4,096 code, and whether it is usable (R145, R146). -/
structure Pair where
  ds : Int
  dc : Int
  good : Bool
deriving DecidableEq, Repr

structure Adc where
  /-- The units 0–5. -/
  unit : Tbl AdcUnit := []
  /-- R135: T at which the settling interval ends. -/
  settleAt : Option Nat := none
  /-- R136: a deviation has been detected and has not ended. -/
  deviating : Bool := false
  /-- R142, WX: ADC_CMP_LOCK has been written since the last reset. -/
  lockWritten : Bool := false
  /-- R143: T at which the carrier was enabled. -/
  excT : Nat := 0
  /-- R140: for key 2m (low side) and 2m + 1 (high side) 1 while the side's trip request stands, and T of the last write that
  changed the side's threshold, hysteresis or enable. -/
  req : Tbl Nat := []
  cmpT : Tbl Nat := []
  /-- The halves that wait for their partner (key 2n sin, 2n + 1 cos), and the pairs formed and not yet passed on, by source,
  each oldest first. -/
  half : Tbl (List Half) := []
  pair : Tbl (List Pair) := []
deriving DecidableEq, Repr

/-! ### Power channels (06_power_channels.md) -/

/-- A shadow set: the period, the leg modes and the compares of legs U, V, W, X. -/
structure ShSet where
  per : Nat
  mode : List Nat
  rise : List Nat
  fall : List Nat
deriving DecidableEq, Repr

/-- A leg: its command, the step from which the command has held, and the levels of its two outputs. -/
structure Leg where
  cmd : Bool := false
  since : Nat := 0
  hi : Bool := false
  lo : Bool := false
deriving DecidableEq, Repr

/-- One power channel. VALID, X_HELD, STO_PERMIT, the trip latch and the sets live in the PWM_CHn registers. -/
structure Chan where
  /-- The channel is RUNNING, its POS counts (R233); it is in DSPLOSS (R254). -/
  running : Bool := false
  dsploss : Bool := false
  /-- The step (1/9.6 GHz, counted from T = 0) at which POS was or will be 0. -/
  pos0 : Nat := 0
  /-- Effective instants, in steps, of the shadow-transfer events not yet taken (R245). -/
  evs : List Nat := []
  /-- R248: period starts since a transfer took a VALID set. -/
  stale : Nat := 0
  /-- The legs U, V, W, X (R234, R236). -/
  leg : Tbl Leg := []
  /-- The step at which the DSP loss was declared (R254). -/
  lossStep : Nat := 0
  /-- Instants T of the latest level changes of the channel's balls, newest first (Table 3.6). -/
  edges : List Nat := []
  /-- Table 6.7, bits 0–4: the TRIPn and DESATn balls that are low. -/
  pins : Nat := 0
  /-- R243: PWM clock cycles in which the shadow set or VALID was written, newest first, each with the set and VALID as they
  stood before its first write. -/
  hist : List (Nat × ShSet × Bool) := []
  /-- R258: T at which the first source of the latch was recorded. -/
  firstT : Nat := 0
  /-- The PWM clock cycle of the last accepted RUN and the active set before it: a trip in that cycle refuses it. -/
  ranFrom : Option (Nat × ShSet) := none
  /-- R266: the level of DRVRSTn_n and the end of its pulse. -/
  drv : Bool := false
  drvEnd : Option Nat := none
deriving DecidableEq, Repr

structure Pwm where
  /-- The channels 0–3. -/
  ch : Tbl Chan := []
  /-- R270: the conflict log, oldest first, at most 8 entries. -/
  log : List Conflict := []
deriving DecidableEq, Repr

/-! ### Grid monitor (07_grid_and_solar.md) -/

/-- A result of a phase: its sample instant, code − 0x800, REFU and OVR. -/
structure HalfRes where
  t : Nat
  x : Int
  refu : Bool := false
  ovr : Bool := false
deriving DecidableEq, Repr

/-- A half-cycle window of one phase: its start, its end once it has ended, and the results whose sample instants fall in it
(R282). -/
structure HalfWin where
  start : Nat := 0
  stop : Nat := 0
  rs : List HalfRes := []
deriving DecidableEq, Repr

/-- The grid monitor. What registers show lives in the GRD registers. -/
structure Grd where
  /-- The phase as measured, and the published position {TURN, θ} with TRIM_ACT (R276, R297). -/
  raw : Nat := 0
  pos : Nat := 0
  /-- Tracked frequency in µHz, and T of the last publication. -/
  freq : Nat := 0
  pubT : Nat := 0
  /-- Remainder of the trim's slew (R281). -/
  trimAcc : Nat := 0
  /-- Position from which the phase error has stayed below 1.0° (R277); T from which it has exceeded 5.0°; position from
  which the amplitude has stayed below 0.2 pu (R278). -/
  goodPos : Option Nat := none
  perrT : Option Nat := none
  ampPos : Option Nat := none
  /-- The windows being filled, by phase, from the first crossing on, and those that have ended and wait for their evaluation. -/
  win : Tbl (Option HalfWin) := []
  done : Tbl (Option HalfWin) := []
  /-- Consecutive invalid half cycles, by phase. -/
  bad : Tbl Nat := []
  /-- Instants of the forward crossings of θ through 0, newest first, and whether the newest awaits its update. -/
  cross : List Nat := []
  newCycle : Bool := false
  /-- (instant, f) of the updates of f, newest first. -/
  fHist : List (Nat × Nat) := []
  rocofN : Nat := 0
  /-- Phase A: the last result (instant, code − 0x800), the last raw crossing in 1/1,024 ns, the cycle lengths newest first,
  and whether the newest awaits its update (Table 7.3). -/
  lastA : Option (Nat × Int) := none
  rawCross : Option Nat := none
  periods : List Nat := []
  newPeriod : Bool := false
  /-- T at which the timer of point i of curve c started, under key 16c + i; 1 under the same key while it is exceeded. -/
  timer : Tbl (Option Nat) := []
  exceeded : Tbl Nat := []
  /-- R292: T from which the enter-service condition has held with every cause absent; R298: from which it has held. -/
  esFrom : Option Nat := none
  actFrom : Option Nat := none
  /-- A profile has been activated since reset (R290); a validated bank's record is being committed; the banks swap at the next
  forward crossing of θ (R286). -/
  active : Bool := false
  committing : Bool := false
  swap : Bool := false
  /-- An injection in progress: f at its start, and the crossings of INJ_PHASE still to come before it ends (R297). -/
  inj : Option (Nat × Nat) := none
  /-- Injections that have ended: f at their start, and the updates of f still to come before the response (R298). -/
  resps : List (Nat × Nat) := []
  /-- The last publication moved θ forward through 0, or through INJ_PHASE. -/
  zeroCross : Bool := false
  phaseCross : Bool := false
  /-- The 64-bit position of θ at its last crossing of INJ_PHASE, and whether that publication passed it before 0 (R297, R298). -/
  phasePos : Nat := 0
  phaseFirst : Bool := false
  /-- R297: what the TURN of the MAINS source counts above the tracker's own count. -/
  turnOfs : Nat := 0
  /-- INJ_PHASE and INJ_SLOT written during an injection (R297). -/
  injLate : Option (Nat × Nat) := none
deriving DecidableEq, Repr

/-! ### gPTP time (17_traffic_scheduling.md) and aggregation (18_qoronami_aggregation.md) -/

/-- The committed relation of G to T (R626, R627). -/
structure Gptp where
  ofs : Int := 0
  rate : Int := 0
  tc : Nat := 0
deriving DecidableEq, Repr

/-- A member entry of a coordinator, by NODE_ID (R677). -/
structure Member where
  mac : Nat
  status : Nat
deriving DecidableEq, Repr

structure Agg where
  /-- Frames sent so far: the SEQ of the next one (Table 18.1). -/
  seq : Nat := 0
  /-- The receive buffer: source MAC and the bytes after the EtherType (R662). -/
  rx : List (Nat × List Byte) := []
  /-- A coordinator's member entries, by NODE_ID (R677). -/
  members : Tbl (Option Member) := []
  /-- The last accepted SEQ, by SRC and EPOCH (R666). -/
  lastSeq : List ((Nat × Nat) × Nat) := []
  /-- e of the last usable REFs, newest first, at most 5 (R669). -/
  errs : List Int := []
  /-- Consecutive usable REFs within the alignment limit, and with the trim target limited (R670). -/
  good : Nat := 0
  limited : Nat := 0
  /-- T and count of the usable REFs (R675, R676). -/
  refT : Nat := 0
  refs : Nat := 0
  /-- EPOCH of the coordinator that the node follows, and the PROF_ID of its last REF. -/
  epoch : Nat := 0
  prof : Nat := 0
  /-- T of the last JOIN, and of the entry to HOLDOVER. -/
  joinT : Nat := 0
  holdT : Nat := 0
  /-- R678: who holds the cease: the manager, gating, an island. -/
  mgrHold : Bool := false
  gateHold : Bool := false
  islHold : Bool := false
  /-- The entry that the next capture takes, and G of the last capture instant taken. -/
  next : Nat := 0
  capG : Nat := 0
  /-- A capture instant that a gPTP commit has stepped across (R667). -/
  stepped : Bool := false
  /-- The coordinator's newest capture awaits its REF (R668). -/
  refDue : Bool := false
  /-- The INJ_PHASE and the slot (before the modulus) of the last usable REF (R673). -/
  inj : Option (Nat × Int) := none
  /-- SRC and EPOCH of the coordinator whose island order a node holds (R683). -/
  islBy : Nat × Nat := (0, 0)
deriving DecidableEq, Repr

/-! ### Ledger submissions (10_security_and_ledger.md) -/

/-- What follows the commit of a submission that awaits its result (R410): a code of the chapter that submitted it, with its
arguments. -/
structure LdgAfter where
  code : Nat
  args : List Nat
deriving DecidableEq, Repr

/-- A submission to the Ledger: record type and payload, the submitter's requester ID, the instance concerned (0xFF none), the
class of its source (Table 10.5, DROPPED), and what follows its commit. -/
structure LdgReq where
  typ : Nat
  pl : List Byte
  source : Nat
  inst : Nat
  cls : Nat
  after : Option LdgAfter
deriving DecidableEq, Repr

/-- A record in the Ledger flash: its slot, SEQ, TYPE, header and payload (Table 10.4). -/
structure LdgRec where
  slot : Nat
  seq : Nat
  typ : Nat
  hdr : List Byte
  pl : List Byte
deriving DecidableEq, Repr

structure Ldg where
  /-- R409: the submission queue, oldest first. -/
  queue : List LdgReq := []
  /-- R410: unconfirmed records dropped since the last DROPPED record, by class. -/
  dropped : Tbl Nat := []
  /-- The records in flash, oldest first, and the slot that the next one takes (slot 0 is the first of block 1). -/
  recs : List LdgRec := []
  slot : Nat := 0
  /-- R412: the commit whose journal entry carries PREPARED and not DONE. -/
  busy : Option (LdgReq × LdgRec) := none
  /-- The head in retained SRAM: SEQ and hash (R412, R415). -/
  headSeq : Nat := 0
  headHash : List Byte := List.replicate 32 0
  /-- SEQ of the newest CHECKPOINT. -/
  ckpt : Nat := 0
deriving DecidableEq, Repr

/-! ### Sessions, odometry, tamper (10_security_and_ledger.md) -/

/-- An open session (Table 10.1): kind, instance, SESSION value, T of the last accepted message. -/
structure Session where
  kind : Nat
  inst : Nat
  value : Nat
  t : Nat
deriving DecidableEq, Repr

/-- An outstanding challenge (R399), with the session that it is to open and the time it expires. -/
structure Chal where
  kind : Nat
  method : Nat
  slot : Nat
  value : Nat
  nonce : List Byte
  expires : Nat
deriving DecidableEq, Repr

/-- Table 10.7. -/
structure OdoCfg where
  srcA : Nat
  srcB : Nat
  ch : Nat
  win : Nat
  circA : Nat
  circB : Nat
  tolAbs : Nat
  tolRel : Nat
deriving DecidableEq, Repr

/-- The odometry unit (R419–R423). -/
structure Odo where
  /-- ODO_CFG as it was last written (Table 10.7). -/
  cfg : Option OdoCfg := none
  /-- A new configuration starts a window at the next capture (R424). -/
  fresh : Bool := true
  /-- Positions at the last capture, the remainders of Δd in 2^-32 µm, the totals in µm. -/
  posA : Nat := 0
  posB : Nat := 0
  primed : Bool := false
  remA : Int := 0
  remB : Int := 0
  totA : Nat := 0
  totB : Nat := 0
  /-- The last captures of the window, newest first: |Δd_A|, |Δd_B|, A_INVALID. -/
  win : List (Nat × Nat × Bool) := []
  /-- MSEQ of the last motion record (R422). -/
  mseq : Nat := 0
  /-- Captures since the last ODO_TOTAL (R423). -/
  caps : Nat := 0
  /-- Motion records that wait for their delivery (R422). -/
  recs : List (List Byte) := []
deriving DecidableEq, Repr

structure Sec where
  /-- The key slots 0–15: MASK and public key. -/
  slots : Tbl (Nat × List Byte) := []
  /-- The password verifier: SALT, ITER, K. -/
  pw : Option (List Byte × Nat × List Byte) := none
  /-- KWK, in retained SRAM; KWK_VALID tells whether it is present. -/
  kwk : List Byte := []
  /-- The open sessions, the outstanding challenge of each instance (R399), and the odometry unit. -/
  sessions : List Session := []
  chal : Tbl (Option Chal) := []
  /-- SESSION values issued since the start (R399). -/
  issued : List Nat := []
  /-- T at which the lockout of each kind ends (R404). -/
  lockT : Tbl Nat := []
  odo : Odo := {}
  /-- R43, R44: tamper events latched while parked (source, tick count, response), and the overflow count. -/
  parked : List (Nat × Nat × Nat) := []
  overflow : Nat := 0
  /-- The active parameter set as the Ledger holds it (R343). -/
  pset : List Nat := []
deriving DecidableEq, Repr

/-- The IVS registers that the sequencer takes: the set of IVS_PER, IVS_MODE, IVS_RISEj and IVS_FALLj, the fields of IVS_SCAN,
IVS_WSTART, IVS_WEND and IVS_STEP. -/
structure IvsView where
  set : ShSet
  mask : Nat
  restore : Bool
  w0 : Nat
  w1 : Nat
  nm1 : Nat
  dwell : Nat
deriving DecidableEq, Repr

/-- A result that IVS_INj names for the string being scanned: whether it is its V and its I, the sample instant, the code, and
whether it carries OVR or REFU. -/
structure IvsRes where
  isV : Bool
  isI : Bool
  t : Nat
  code : Nat
  bad : Bool
deriving DecidableEq, Repr

/-- A point of a string (R306, R307): V16, I16 and the step's width. -/
structure IvsPoint where
  v : Nat
  i : Nat
  w : Nat
deriving DecidableEq, Repr

/-- The IV-scan sequencer (R302–R308). STATE lives in GRD_IVS_STAT. -/
structure Ivs where
  /-- The leg being scanned and the step in progress. -/
  leg : Nat := 0
  step : Nat := 0
  /-- The step's set is committed and waits for the transfer that takes it. -/
  waitXfer : Bool := false
  /-- The PWM clock cycle in which the step's set was committed (R243, R305). -/
  stepCyc : Nat := 0
  /-- The start of the dwell of the present step (R306). -/
  dwell : Nat := 0
  /-- W of the present step, and the results delivered since its dwell began. -/
  w : Nat := 0
  res : List IvsRes := []
  /-- The values of an APPLY that is held (R303). -/
  held : Option ShSet := none
  /-- The points of the string stored so far, oldest first; none for an unusable one. -/
  pts : List (Option IvsPoint) := []
  /-- R309: the PWM clock cycle of the last write of an IVS register, and the registers before its first write. -/
  snap : Option (Nat × IvsView) := none
  /-- The IVS values as they stood before the scan (R308), and those that the steps use for the legs not being scanned. -/
  pre : Option ShSet := none
  cur : Option ShSet := none
deriving DecidableEq, Repr

/-! ### Control DSPs (04_control_dsp.md, 05_dsp_instruction_set.md) -/

/-- An entry of the loop stack (R168). -/
structure LoopEnt where
  ls : Nat
  le : Nat
  lc : Nat
deriving DecidableEq, Repr

/-- An entry of the call stack: a return address, and for a handler also SR and the repetitions left (R174, R176, R190). -/
structure CallEnt where
  addr : Nat
  sr : Option Nat
  rpt : Nat
deriving DecidableEq, Repr

/-- A coprocessor operation in flight (R182, R184). -/
structure Cop where
  x : Nat
  y : Nat
  f : Nat
  /-- The cycle in which results are readable, c + L. -/
  ready : Nat
  squashed : Bool
deriving DecidableEq, Repr

/-- An accepted release: the cycle, the line, and what the entry to its handler changed, as it stood before (R190, R192). -/
structure Took where
  cyc : Nat
  line : Nat
  pc : Nat
  sr : Nat
  rpt : Nat
  calls : List CallEnt
  next : Nat
  cop : Option Cop
deriving DecidableEq, Repr


/-- One control DSP. STATE, LSP and CSP, the release and interrupt registers live in the CDn registers. -/
structure Dsp where
  /-- The program counter (R169). -/
  pc : Nat := 0
  /-- SR: IPL 0, FRAC, SAT and RM = 1 (Table 4.11). -/
  sr : Nat := 0x1A0000
  /-- Section 4.1: D0–D3, ACC0 and ACC1, and the pointer sets {AP, AM, AB, AL} 0–7. -/
  d : Tbl Nat := []
  acc : Tbl Nat := []
  ap : Tbl Nat := []
  am : Tbl Nat := []
  ab : Tbl Nat := []
  al : Tbl Nat := []
  /-- Top of the stack first. -/
  loops : List LoopEnt := []
  calls : List CallEnt := []
  /-- RPT: repetitions of the instruction at PC that are still to run; 0 when it is not repeated (R174). -/
  rpt : Nat := 0
  /-- CPX, CPY, CPF, and the coprocessor operation in flight (R180, R182). -/
  cpx : Nat := 0
  cpy : Nat := 0
  cpf : Nat := 0
  cop : Option Cop := none
  /-- The cycle in which the next instruction enters ADDR, and for each pointer set and each operand register the cycle
  from which it may be used (Table 4.4). -/
  cyc : Nat := 0
  ptrReady : Tbl Nat := []
  opReady : Tbl Nat := []
  /-- A fabric access through a window or the local I/O page is outstanding (R163): the byte address it was mapped to when it was
  made (R159), the cycle in which its instruction stood in ADDR, and whether HALT has arrived meanwhile (R197). -/
  stalled : Bool := false
  stallAddr : Nat := 0
  stallCyc : Nat := 0
  haltPend : Bool := false
  /-- The DSP cycle number at the last reset of CDn, from which CDn_CYCLE counts. -/
  cycBase : Nat := 0
  /-- R192: the cycle of the last write of REL_CANCEL, its lines, and those of them that it has counted. -/
  cancelCyc : Nat := 0
  cancelled : Nat := 0
  counted : Nat := 0
  /-- R192: the last acceptance of a release line, which a cancel of the same cycle undoes. -/
  took : Option Took := none
deriving DecidableEq, Repr

/-- The DSP's memories (320 KiB), kept over a RESET of CDn (R196): PM words of 32 bits, DA and DB words of 24 bits. -/
structure DspMem where
  /-- Program memory, data memories A and B, by word address. -/
  pm : Tbl Nat := []
  da : Tbl Nat := []
  db : Tbl Nat := []
  /-- R163: the DSP cycle of the last writes through port 2, and the words they wrote (true: DB) as they stood before. -/
  portCyc : Nat := 0
  portOld : List (Bool × Nat × Nat) := []
deriving DecidableEq, Repr

/-! ### Safety domain (08_machine_safety.md) -/

/-- One safety input: accepted levels, fault code (SIN_FLT), the progress of its clearing (R325), the start of a discrepancy
(R324), and for a RESET input T from which both channels are 1, and whether it has been held too long (R321). -/
structure SinIn where
  a : Bool := false
  b : Bool := false
  code : Nat := 0
  seenDemand : Bool := false
  differ : Option Nat := none
  oneT : Option Nat := none
  jam : Bool := false
deriving DecidableEq, Repr

/-- A snapshot t_k that waits for its commit (R315–R317): T, whether a capture gave it, the captured sources, the channel-B
counts, the channels demanded (STO, SS1), faulted or acknowledged by inputs, the inputs' mirrors, and whether the fault
CAPTURE_LOST stands. -/
structure Snap where
  t : Nat
  ext : Bool
  counted : Bool
  srcs : List CapSrc
  cnt : List Int
  sto : Nat
  ss1 : Nat
  flt : Nat
  ack : Nat
  demand : Nat
  inFault : Nat
  lvlA : Nat
  lvlB : Nat
  codes : Nat
  lost : Bool
deriving DecidableEq, Repr

/-- One channel as the safety pair holds it; STATE, CAUSE, SS1_END and the counts live in the SAF_CHn registers. -/
structure SafCh where
  /-- SS1: T of t0 and v0 in 10^-6 mturn/s (R336). -/
  t0 : Nat := 0
  v0 : Int := 0
  /-- Consecutive snapshots with and without a mismatch (R328), consecutive commits with a differing and with an agreeing
  readback. -/
  mism : Nat := 0
  okRun : Nat := 0
  rbBad : Nat := 0
  rbOk : Nat := 0
  speedFault : Bool := false
  outFault : Bool := false
  /-- The sign of the last valid vA (R327). -/
  neg : Bool := false
  /-- T from which the channel has been out of STO, and the DYN_DUE that the next commit publishes (R346). -/
  outT : Option Nat := none
  dyn : Bool := false
deriving DecidableEq, Repr

/-- Channel-B inputs of one channel: the accepted levels of SPCNTc_A and SPCNTc_B and T of each one's last accepted edge (R327). -/
structure SpcIn where
  a : Bool := false
  b : Bool := false
  ta : Option Nat := none
  tb : Option Nat := none
deriving DecidableEq, Repr

structure Saf where
  /-- The security core has sent the image and the active set (R343), and the set it sent. -/
  delivered : Bool := false
  sent : List Nat := []
  /-- The pair runs (R313). -/
  started : Bool := false
  /-- The image did not verify (R313): final until a reset of the safety domain. -/
  failed : Bool := false
  /-- The boot-verdict line: 0 no verdict, 1 COMPAT_UNTESTED, 2 TESTED. -/
  line : Nat := 0
  /-- The active set, 64 words; none before one is taken. -/
  pset : List Nat := []
  /-- The inputs 0–7 and the channels 0–3. -/
  ins : Tbl SinIn := []
  ch : Tbl SafCh := []
  /-- Channel-B counts and inputs (R327). -/
  cnt : Tbl Int := []
  spc : Tbl SpcIn := []
  /-- Channel-B counts of the committed snapshots, newest first, at most 16. -/
  hist : List (List Int) := []
  /-- Snapshots that wait for their commit, oldest first (R316). -/
  snaps : List Snap := []
  /-- A capture has arrived since the start; T of the last snapshot; consecutive captures; CAPTURE_LOST stands, from a lost
  capture until 8 consecutive ones have come (R317, Table 8.7). -/
  first : Bool := false
  lastT : Nat := 0
  capRun : Nat := 0
  lost : Bool := false
  /-- Channels acknowledged since the last snapshot (R321). -/
  acks : Nat := 0
  /-- A hardware fault latched until a safety-domain reset: the DFAULT code (R311, R312). -/
  hw : Nat := 0
  /-- The strap reading: value at start, latest value, a ball that follows the pull (R339). -/
  boot : Nat := 0
  live : Nat := 0
  opened : Bool := false
  /-- T of the strap reader's last sample, and the strap fault that the last commit found (R339, R345). -/
  strapT : Nat := 0
  strapF : Nat := 0
  /-- R322, R323: T at which the last pulse on TPA and on TPB started, and the inputs whose other channel read 0 at its last sample. -/
  pulseA : Option Nat := none
  pulseB : Option Nat := none
  suspA : Nat := 0
  suspB : Nat := 0
  /-- R342: a delivered set that awaits confirmation, until when, and one whose record is committed. -/
  pend : Option (List Nat) := none
  confirmBy : Nat := 0
  activate : Option (List Nat) := none
  /-- The result code that the next commit publishes, and whether it activates a set (R316, R342). -/
  res : Nat := 0
  changed : Bool := false
deriving DecidableEq, Repr

/-! ### Messaging (12_messaging.md) -/

/-- The MBX block. Locks, doorbells and Folio registers live in the MBX registers. -/
structure Mbx where
  /-- The words of queue q, oldest first. -/
  q : Tbl (List Nat) := []
  /-- Doorbell k's last SET: T, the bits written, and the bits whose event it raised (R483, R484). -/
  set : Tbl (Nat × Nat × Nat) := []
  /-- T of the last change of GO of Folio 2n (H2D) and 2n + 1 (D2H) of instance n (R488). -/
  goT : Tbl (Option Nat) := []
deriving DecidableEq, Repr

/-! ### Packet engine (15_packet_engine.md) -/

/-- The private wake compare of a thread (R567–R571). -/
structure WakeArm where
  /-- Source 0–7, or 8 for T. -/
  src : Nat
  /-- DIR and LEAD as TCFG stood, the target, and for a source the deadline in T (R567–R569). -/
  dir : Nat
  lead : Nat
  tgt : Nat
  deadline : Option Nat
  /-- T of the arming; whether the target was the source angle then, and the source's position then (R83, R85). -/
  armT : Nat
  atTgt : Bool
  armPos : Nat := 0
  /-- Its fire instant is not after the arming (R87). -/
  late : Bool
deriving DecidableEq, Repr

/-- What a BLOCKED thread waits for (R564, R577, R601). -/
inductive Block where
  | none
  /-- The instruction at PC runs again when its fabric access completes. -/
  | access (ea : Nat)
  /-- A TPUT: destination register, global ring, SEQ of the buffer, and the code already known (0: the record is on its way). -/
  | tput (rd ring seq code : Nat)
  /-- A TPUT whose posted buffer the engine cannot use yet: destination register, global ring, source address, LEN (R578). -/
  | tputWait (rd ring src len : Nat)
deriving DecidableEq, Repr

/-- One packet thread. STATE, PC, PEND and NEVER live in PXE_PTn_STAT. -/
structure Thread where
  /-- X1–X31, and CSR TCFG: source, direction, lead (R567). -/
  x : Tbl Word := []
  tsrc : Nat := 8
  tdir : Nat := 0
  tlead : Nat := 0
  /-- T of the last firing of the wake compare; CSR FIRE_T shows its low word. -/
  fireT : Nat := 0
  /-- CSRs WIN0–WIN3 and ICNT (Table 15.8), and the armed wake compare. -/
  win : Tbl Nat := []
  icnt : Nat := 0
  wake : Option WakeArm := none
  /-- Bits 8–10 of the result word of the WAIT that has fired and not yet completed; `none` when no WAIT is open. -/
  wokenFlags : Option Nat := none
  /-- T of a jump and of a continuous move of the source across the target (R88, R281); a crossing was held (R90). -/
  jumpT : Option Nat := none
  moveT : Option Nat := none
  heldFlag : Bool := false
  /-- What the thread waits for while BLOCKED. -/
  block : Block := .none
  /-- HALT arrived while BLOCKED (R559). -/
  haltPend : Bool := false
  /-- T of the last issue (R555). -/
  issueT : Option Nat := none
deriving DecidableEq, Repr

structure Pxe where
  /-- The threads 0–63. -/
  pt : Tbl Thread := []
  /-- Nanosecond from which a cluster's stall has lasted without a break (R576). -/
  stallFrom : Tbl (Option Nat) := []
  /-- The thread of each cluster that issued last (R555). -/
  lastIssued : Tbl Nat := []
deriving DecidableEq, Repr

/-! ### Host rings (13_host_rings.md) -/

/-- What a completion record says: STATUS, LENGTH, MORE and AUX (Table 13.7). -/
structure Cpl where
  status : Nat
  length : Nat := 0
  more : Bool := false
  aux : Nat := 0
deriving DecidableEq, Repr

/-- A descriptor that has been fetched and has no completion record yet. -/
structure Desc where
  /-- Its SEQ (R504). -/
  seq : Nat
  /-- The eight words; none when the fetch failed (R511). -/
  w : List Nat
  /-- The item it belongs to has been formed, and has been started by its server. -/
  formed : Bool := false
  started : Bool := false
  /-- The completion that waits for the host DMA, and the one that waits to be written in its turn. -/
  dma : Option Cpl := none
  done : Option Cpl := none
deriving DecidableEq, Repr

/-- One hardware ring. The context, STATE and DBERR live in the HIF_RING_CTX registers. -/
structure Ring where
  /-- Accepted TAIL, SEQ of the next descriptor to fetch, records written (W), CHEAD; all modulo 2^32. -/
  tail : Nat := 0
  next : Nat := 0
  w : Nat := 0
  chead : Nat := 0
  /-- The next descriptor continues a chain that has failed (R507). -/
  chainFail : Bool := false
  /-- Fetched descriptors without a record, in SEQ order. -/
  descs : List Desc := []
  /-- STORAGE-CQ: completions that wait for room: the ring that held the descriptor, SEQ, TAG, the completion, IRQ. -/
  wait : List (Nat × Nat × Nat × Cpl × Bool) := []
  /-- R518: records since the last request, and T at which the timer started. -/
  p : Nat := 0
  timer : Option Nat := none
  /-- The records written, oldest first: local index of the descriptor's ring, SEQ, STATUS (R545). -/
  recs : List (Nat × Nat × Nat) := []
deriving DecidableEq, Repr

/-- An MSI-X table entry and its PBA bit (R517, R519). -/
structure Msix where
  addrLo : Nat := 0
  addrHi : Nat := 0
  data : Nat := 0
  mask : Bool := true
  pba : Bool := false
deriving DecidableEq, Repr

structure Hif where
  /-- The sequence of Table 14.7 that a HOST reset began still runs (R699). -/
  hostRst : Bool := false
  /-- The hardware rings that have been used, by global index. -/
  ring : Tbl Ring := []
  /-- MSI-X entries, by 128 × function + vector. -/
  msix : Tbl Msix := []
  /-- Bus Master Enable of each function. -/
  bme : Tbl Bool := []
  /-- VF Enable and NumVFs of the physical function. -/
  vfEnable : Bool := false
  numVfs : Nat := 0
  /-- Status-page counters by instance (Table 13.12). -/
  viol : Tbl Nat := []
  dberr : Tbl Nat := []
  /-- The endpoint answers requests with CRS (R699). -/
  crs : Bool := true
deriving DecidableEq, Repr

/-! ### Network datapath (16_network_datapath.md) and traffic scheduling (17_traffic_scheduling.md) -/

/-- A table entry (R587–R620): its image of up to 80 bytes with the bytes the controller writes, whether a flow slot holds a
template, the keys by AN (0 for an SA or namespace), and the controller's counts. -/
structure TabEnt where
  /-- The image, whether it is a template, the instance that owns it, and its keys. -/
  img : List Byte
  tmpl : Bool := false
  owner : Nat := 0
  key : Tbl (List Byte) := []
  /-- KEY_LOST (R614). -/
  lost : Bool := false
  /-- T of the last hit or frame seen; packets and bytes. -/
  lastT : Nat := 0
  pkts : Nat := 0
  bytes : Nat := 0
  /-- Inbound: the highest authenticated number and the window of seen numbers below it (bit i: hi − i). -/
  hi : Nat := 0
  win : Nat := 0
  /-- Frames that failed on it. -/
  fails : Nat := 0
deriving DecidableEq, Repr

/-- A frame in the frame store (R584, R585): its cells, the instance charged, and the copies still to leave. -/
structure Frame where
  cells : List Nat
  charge : Nat
  refs : Nat := 1
  /-- A packet thread holds the handle (R618). -/
  cpu : Bool := false
deriving DecidableEq, Repr

/-- A frame in an egress queue: its handle, the bytes as they leave without FCS, the instance charged, the destination within
port 6 (vport) or 7 (CPU queue), an explicit local RX ring, the spreading CRC, AUX of an RX completion, its cells. -/
structure QEnt where
  h : Nat
  bytes : List Byte
  inst : Nat
  dest : Nat := 0
  ring : Option Nat := none
  rss : Nat := 0
  aux : Nat := 0
  cells : Nat := 1
deriving DecidableEq, Repr

/-- A scheduler node: its frames, its deficit (R636) and, for a default node, its DROP count. -/
structure Node where
  q : List QEnt := []
  deficit : Nat := 0
  drop : Nat := 0
deriving DecidableEq, Repr

/-- A TC queue: the round of its nodes, whether the first has taken its QUANTUM, the credit in 10^-6 bit with T of its last
update (R653), T from which the queue has waited (R657), the starvation flag. -/
structure TcQ where
  round : List Nat := []
  added : Bool := false
  credit : Int := 0
  credT : Nat := 0
  wait : Option Nat := none
  flagged : Bool := false
deriving DecidableEq, Repr

/-- A frame in transmission or preempted: its TC, T of the (re)start, the charge C, bytes already sent, and E (R648). -/
structure TxCur where
  e : QEnt
  tc : Nat
  start : Nat
  c : Nat
  sent : Nat := 0
  close : Option Nat := none
deriving DecidableEq, Repr

structure PortTx where
  /-- The frame in transmission, and the one that has been preempted (R651). -/
  cur : Option TxCur := none
  pre : Option TxCur := none
deriving DecidableEq, Repr

/-- The gate engine of a port: the operating list, and G (gPTP mode) or T (angle mode) of the current entry's start. -/
structure Gcl where
  len : Nat := 1
  base : Nat := 0
  cycle : Nat := 0
  start : Nat := 0
  cyc0 : Nat := 0
  /-- A pending change: CT (gPTP mode), EXT, and the new list's LEN, BASE and CYCLE. -/
  ct : Nat := 0
  ext : Nat := 0
  newLen : Nat := 1
  newBase : Nat := 0
  newCycle : Nat := 0
  /-- Angle mode: T of the last firing; ANG_TMO has run out since. -/
  fireT : Nat := 0
  lost : Bool := false
deriving DecidableEq, Repr

/-- A policer's buckets, in 10^-6 of its unit, at time `t` (R654). -/
structure Pol where
  c : Nat := 0
  e : Nat := 0
  t : Nat := 0
deriving DecidableEq, Repr

structure Tsn where
  /-- Instance nodes 0–4095; the default node of (p, c) is 4096 + 8p + c. -/
  node : Tbl Node := []
  /-- The TC queues by 8p + c, what each port transmits, the gate engines, and the policers. -/
  tcq : Tbl TcQ := []
  port : Tbl PortTx := []
  gcl : Tbl Gcl := []
  pol : Tbl Pol := []
deriving DecidableEq, Repr

/-- What is known of a frame on its way through Colander: its handle, where it came from (0x00–0x7F vport, 0x80–0x85 port,
0x87 CPU port), the TX ring and item it came from, KW0 and KW1, T at ingress, MARK and the flags of Table 16.2. -/
structure Meta where
  h : Nat
  src : Nat
  tx : Option (Nat × List Nat) := none
  kw0 : Nat := 0
  kw1 : Nat := 0
  t : Nat := 0
  mark : Nat := 0
  flags : Nat := 0
  vni : Nat := 0
  vid : Nat := 0
  /-- Re-entries so far (R597). -/
  again : Nat := 0
deriving DecidableEq, Repr

/-- A namespace command at the SSD or waiting for it (R621–R623). -/
structure SsdCmd where
  ring : Nat
  seq : Nat
  opc : Nat
  len : Nat
  xts : Option Nat
  lba : Nat
  t : Nat
  /-- Its descriptor was squashed by a disable or reset (R624). -/
  dead : Bool := false
deriving DecidableEq, Repr

structure Net where
  /-- The tables: key 2^32 × TABLE + global index (templates under FLOW). -/
  tab : Tbl TabEnt := []
  /-- For an entry that a record has written or deleted: T of that nanosecond, and the entry as it stood at its start (R589). -/
  tabOld : Tbl (Option (Nat × Option TabEnt)) := []
  /-- The frame store, by handle (R584). -/
  frames : Tbl Frame := []
  /-- Flow entries in the cache, most recently used first, and the frames that wait on misses (R601) or, with the number 2^32,
  behind an earlier frame of their source that waits (R586). -/
  cache : List Nat := []
  held : List (Nat × Meta × List Byte) := []
  /-- The CPU queues 0–15: handles, oldest first (R618). -/
  cpuq : Tbl (List Nat) := []
  /-- The crypto engine's input: instance and T at which the frame will have been processed (R615). -/
  crypto : List (Nat × Nat) := []
  /-- The commands at the SSD (R621). -/
  ssd : List SsdCmd := []
  /-- Frames for an RX ring whose posted buffers the fetch unit has not read yet (R602), with their ring. -/
  rxWait : List (Nat × QEnt) := []
deriving DecidableEq, Repr

/-! ### Memory (11_memory.md) -/

/-- A logged memory error (R459). -/
structure MemErr where
  kind : Nat
  reqid : Nat
  region : Nat
  addr : Nat
deriving DecidableEq, Repr

/-- An entry of the reset log (R458, R460). -/
structure MemRst where
  discarded : Bool
  bytes : Nat
  reqid : Nat
  addr : Nat
deriving DecidableEq, Repr

structure MemSt where
  /-- R459, R460: at most 16 and 8 entries, oldest first. -/
  err : List MemErr := []
  rst : List MemRst := []
  /-- On-chip SRAM words with an uncorrectable error, and DRAM lines whose tag says POISON, by address ÷ 4 and ÷ 64. -/
  bad : List Nat := []
  poison : List Nat := []
  /-- R437: the zero-fill after the last reset of the block is complete. -/
  filled : Bool := false
  /-- R27: at each target port the consecutive real-time grants, and the bulk grants since the last reserved one. -/
  rt : Tbl Nat := []
  bulk : Tbl Nat := []
  /-- R720: the master that each port granted last in each class, by 4 × port + class. -/
  last : Tbl Nat := []
deriving DecidableEq, Repr

/-- One DRAM channel. -/
structure DrmCh where
  /-- R451, R453: a MODE and delays that take effect at the end of the next refresh; a RETRAIN that waits for its pause. -/
  mode : Option Nat := none
  dly : Tbl Nat := []
  retrain : Bool := false
  /-- R454: refreshes owed. -/
  owed : Nat := 0
  /-- T of the last pause, or of the training at INIT; T of the last DQS oscillator reading (R452, R453). -/
  pauseT : Nat := 0
  senseT : Nat := 0
  /-- R449: the local line that the scrubber reads next. -/
  scrub : Nat := 0
deriving DecidableEq, Repr

/-! ### Cell monitoring (09_cell_monitoring.md) -/

/-- A request in flight on a Valolo port, or a wake burst: what it is for, the bytes TYPE, LEN and payload, T at its end, and
the attempts already made. -/
structure Xchg where
  /-- 0 wake burst, 1 wake step, 2 GET_SET, 3 PORTp_ACC, 4 keep-alive, 5 SLEEP, 6 OWD_RUN, 7 open-wire result. -/
  kind : Nat
  req : List Byte
  endT : Nat
  tries : Nat := 0
deriving DecidableEq, Repr

/-- One Valolo port. STATE, FCODE, CONSEC_MISS and SSTAT live in VAL_PORTp_STAT. -/
structure ValPort where
  /-- The request in flight. -/
  x : Option Xchg := none
  /-- R386: the next step (1–5), T from which it may start, failures so far, and whether the last one was a configuration. -/
  step : Nat := 0
  stepT : Nat := 0
  failed : Nat := 0
  cfgFail : Bool := false
  /-- T of the last transaction, T from which the next frame may start (R364), and T of the entry to FAULT. -/
  lastT : Nat := 0
  idleT : Nat := 0
  faultT : Nat := 0
  /-- The port awaits its SET_DATA in the set in progress; the outcome: CODE 0–2 and the payload. -/
  inSet : Bool := false
  code : Nat := 2
  pl : List Byte := []
  /-- R391: a PORTp_ACC access waits, with the attempts made. -/
  acc : Bool := false
  accTries : Nat := 0
  /-- R384: OWD_RUN waits to be sent; the next reading of the results, and when to give up; consecutive runs that flagged, and
  that did not flag, each line. -/
  owdGo : Bool := false
  owdAt : Option Nat := none
  owdEnd : Nat := 0
  flagged : Tbl Nat := []
  clear : Tbl Nat := []
  /-- SLEEP waits to be sent (R385), to leave the port OFF or asleep. -/
  sleepGo : Bool := false
  off : Bool := false
deriving DecidableEq, Repr

/-- One HN-9016. -/
structure Sat where
  /-- Awake (R389), and STATUS.FRESH: CFG has not been written since it woke. -/
  awake : Bool := false
  fresh : Bool := true
  /-- Registers 0x04–0x07 and 0x0B. -/
  cfg : Nat := 0xF400
  owCfg : Nat := 0x2808
  balCfg : Nat := 0x0A64
  balEn : Nat := 0
  fault : Nat := 0
  /-- Causes of 0x0B that are present. -/
  cause : Nat := 0
  /-- OW_RES, bit k: line Ck. -/
  owRes : Nat := 0
  owdDone : Bool := false
  /-- An open-wire run: T at its start. -/
  owdT : Option Nat := none
  /-- The conversion window of the last valid SYNC: SEQ, T at the frame's end, BAL at the SYNC, OWD_DISTURB. -/
  win : Option (Nat × Nat × Nat × Bool) := none
  /-- Held results: SEQ, cells, temperatures, DIE_T, MODULE, BAL, OVR and OWD_DISTURB as FLAGS bits. -/
  seq : Nat := 0
  cells : List Nat := []
  temps : List Nat := []
  die : Nat := 0
  module : Nat := 0
  bal : Nat := 0
  flags : Nat := 0
  /-- A valid SYNC has arrived since the last GET_SET or the wake. -/
  synced : Bool := false
  /-- R379: STATUS.BAL_LIM and BAL_STOP; the even cells' turn, and T of its start. -/
  lim : Bool := false
  stop : Bool := false
  even : Bool := false
  altT : Nat := 0
  /-- The last die temperature, in 0.1 °C, and T of its measurement. -/
  dieT : Int := 0
  dieAt : Nat := 0
  /-- T of the last write of BAL_EN, of the last valid frame, and of the CMD_ACK to SLEEP. -/
  balT : Nat := 0
  frameT : Nat := 0
  sleepAt : Option Nat := none
deriving DecidableEq, Repr

/-- The sample set in progress (R366–R374). -/
structure ValSet where
  /-- T of the trigger. -/
  trigT : Nat
  /-- The trigger was a write of VAL_CTRL.TRIG. -/
  sw : Bool
  /-- SEQ of the set (R372). -/
  seq : Nat
  /-- T_SYNC, once SYNC has been sent, and the ports that received it; GET_SET has been sent. -/
  syncT : Option Nat := none
  mask : Nat := 0
  got : Bool := false
  /-- Its slot in the ring of VAL_BUF. -/
  slot : Nat := 0
deriving DecidableEq, Repr

structure Val where
  /-- The ports 0–31, and the sample set in progress. -/
  port : Tbl ValPort := []
  set : Option ValSet := none
  /-- SEQ of the last set started. -/
  seq : Nat := 0
  /-- The satellite of each port, and the satellites' own time in ns, which goes on while the main rails are off and T stands. -/
  sat : Tbl Sat := []
  now : Nat := 0
deriving DecidableEq, Repr

/-! ### Instances (14_instances.md) -/

/-- A reset or removal in progress (R543–R547). -/
structure InstReset where
  /-- T at its start, RESET_ID, and whether it ends in NONE. -/
  t0 : Nat
  id : Nat
  removal : Bool
  /-- Tokens of the manager's requests that await its end: OP and TOKEN. -/
  waiting : List (Nat × Nat) := []
  /-- The rings that the reset reached: global index, C, final TAIL, records written before step 2. -/
  rings : List (Nat × Nat × Nat × Nat) := []
  /-- Step 5 has squashed what was outstanding; the rings whose flush read has not returned. -/
  squashed : Bool := false
  flush : List Nat := []
deriving DecidableEq, Repr

/-- One instance. INSTATE and the Pantry live in the INS registers. -/
structure Inst where
  /-- The runs of global rings that its local indices 0, 1, … take in order: first ring and count. -/
  runs : List (Nat × Nat) := []
  /-- R546: the error log, oldest first, at most 64 entries of four words. -/
  log : List (List Nat) := []
  /-- A reset or removal that runs. -/
  rst : Option InstReset := none
  /-- A request is executing and its response has not been given; the ring that a RING_DISABLE awaits; the response that waits
  for D2H GO = 0. -/
  exec : Bool := false
  dis : Option Nat := none
  answer : Option (List Nat) := none
deriving DecidableEq, Repr

structure Ins where
  /-- The instances 0–127. -/
  inst : Tbl Inst := []
  /-- R540: T of the last setpoint of a channel that completed with OK. -/
  spT : Tbl (Option Nat) := []
  /-- R37: setpoints that a full queue holds: ring, SEQ, T of the first attempt. -/
  held : List (Nat × Nat × Nat) := []
deriving DecidableEq, Repr

/-! ### Clocks, supplies, resets and boot (19_clocks_power_boot.md) -/

/-- The always-on domain, the power sequencer and the reset controller. -/
structure Aon where
  /-- T as last stored (R42, R51). -/
  storedT : Nat := 0
  /-- R42: the 48-bit tick counter of OSC32K, counted since the last store; it saturates. -/
  ticks : Nat := 0
  /-- T from which the retained tamper events count their ticks (R43, R427). -/
  parkT : Nat := 0
  /-- R50: T has been started since the always-on domain started cold. -/
  tValid : Bool := true
  /-- T at which the parking sequence started (R691). -/
  parking : Option Nat := none
  /-- PWREN is low. -/
  parked : Bool := false
  /-- Wake sources latched during parking (R694), by the bits of PWR_WAKE_CAUSE. -/
  wake : Nat := 0
  /-- PORn is low; main power was lost without parking (R695); the always-on domain started cold (R50). -/
  off : Bool := false
  unplanned : Bool := false
  /-- The reset of POWER scope that PORn low brings has been made (R697). -/
  porDone : Bool := false
  cold : Bool := true
  /-- The ball RSTOUTn (R704). -/
  rstOut : Bool := false
  /-- T of the last kick of MC0 and MC1 (R700), and whether RST_WDOG has been written since its reset (WX). -/
  kick0 : Nat := 0
  kick1 : Nat := 0
  wdogSet : Bool := false
deriving DecidableEq, Repr

/-- The boot chain and the OSPI directory (R707–R715). -/
structure Boot where
  /-- The images of the OSPI device: component and bytes. -/
  ospi : List (Nat × List Byte) := []
  /-- The next stage that can end: 0 S0, 1 S1, 2 S2, 3 S3 and S4; 4 none. -/
  next : Nat := 0
  /-- The last reset was of MGMT scope and its restart is not complete (R702). -/
  mgmt : Bool := false
  /-- Sessions that a reset has cut; their SESSION_CLOSE is committed at the start of the security core (R403). -/
  cut : List Session := []
  /-- R706: the safety domain has started again and awaits image and set. -/
  resend : Bool := false
  /-- R21: the component whose image MC0 is loading; a program memory takes words of that image only. -/
  loading : Option Nat := none
deriving DecidableEq, Repr

end Sys2Proof.Machine
end

