-- ==== Sys2Proof/Machine/State.lean ====
section
/-! DEFINITION. The state of the controller as plain data: every register field (`regs`, with reset values in Machine/Regs.lean),
the bytes of its memories, T, and the typed internal state of each block (Machine/StateParts.lean); what it has sent out; the
queue of commands that wait; and the machine right after reset.

The controller is a block, not a processor that a rule stops: an access that the firewall refuses, a malformed message, a fault of
a DSP or of a packet thread all have an effect that the spec describes, and every command of the table has one. So no command
ends in a fault or a refusal. -/
namespace Sys2Proof.Machine

/-- The interrupts that a rule raises to MC0 (and MC1 where the rule names both). -/
inductive Irq where
  | tsp | mem | mbx | pxe | stall (cluster : Nat) | pwm | grd | saf | val | sec | ldg | agg | net | tsn | hif | ins | dsp (n : Nat) | adc | folio (inst : Nat) | clk | rst
  /-- A queue or doorbell interrupt of MC0 (0) or MC1 (1) (R468, R485). -/
  | queue (mc : Nat) | doorbell (mc : Nat)
deriving DecidableEq, Repr

/-- What the controller has sent to the outside, or to a party whose inside the spec does not describe, in order. -/
inductive Out where
  /-- An interrupt to the management complex. -/
  | irq (k : Irq)
  /-- R663: a Qoronami frame that MC0 sends on the depot port in TC 7: the bytes after the EtherType. -/
  | qor (port : Nat) (bytes : List Byte)
  /-- R496: a memory write of function `fn` to host memory. -/
  | dma (fn addr : Nat) (bytes : List Byte)
  /-- R519: an MSI-X message of function `fn`: the vector and its table entry's address and data. -/
  | msix (fn vec addr data : Nat)
  /-- A frame sent on external port `p`: T at its start and its bytes without FCS. -/
  | frame (p t : Nat) (bytes : List Byte)
  /-- R619: an NVMe command to the SSD: opcode, NSID, first LBA, block count, and the data of a write. -/
  | ssd (opc nsid lba blocks : Nat) (bytes : List Byte)
  /-- R361: a Valolo frame that port `p` sends (`up` = false), or that its satellite sends: the bytes from TYPE to CRC. -/
  | valolo (p : Nat) (up : Bool) (bytes : List Byte)
  /-- R386: a wake burst on port `p`. -/
  | wake (p : Nat)
  /-- R496: a failed DMA, logged in AER with the function that owns the ring. -/
  | aer (fn : Nat)
deriving DecidableEq, Repr

/-- Everything the spec gives the controller, and the model's own fields `resp`, `reply`, `out`, `free` and `refused`. -/
structure State where
  /-- Every register field that is not at its reset value (R11, R15; RegFile.get). -/
  regs : RegFile
  /-- Every byte of Table 11.1's memories that does not read as `unwritten`: Stockpot, PXE slices and instruction memories, the
  management SRAM, DRAM. -/
  mem : List Host.Cell
  /-- The time base T in ns (R49). -/
  T : Nat
  /-- What readers hold latched (R16–R18), by reader and value. -/
  shadows : Tbl Nat
  /-- The answer of the last read or request (the model's own). -/
  resp : Nat
  /-- What has left the part, in order (the model's own). -/
  out : List Out
  /-- How many free values have been taken (the model's own: Config.freeWord). -/
  free : Nat
  /-- R47: the violation log, oldest first, at most 16 entries. -/
  viol : List Viol
  /-- The firewall has refused the access in progress (R30). -/
  refused : Bool
  /-- 02_turnspit.md. -/
  tsp : Tsp
  /-- 03_continuous_acquisition.md. -/
  adc : Adc
  /-- 06_power_channels.md. -/
  pwm : Pwm
  /-- The IV scan engine (07_grid_and_solar.md). -/
  ivs : Ivs
  /-- 07_grid_and_solar.md. -/
  grd : Grd
  /-- The Ledger's queue, flash and head (10_security_and_ledger.md). -/
  ldg : Ldg
  /-- The gPTP clock (17_traffic_scheduling.md). -/
  gptp : Gptp
  /-- 18_qoronami_aggregation.md. -/
  agg : Agg
  /-- CD0–CD3 (04_control_dsp.md) and their program and data memories. -/
  dsp : Tbl Dsp
  dspMem : Tbl DspMem
  /-- 12_messaging.md. -/
  mbx : Mbx
  /-- The safety domain (08_machine_safety.md). -/
  saf : Saf
  /-- The packet engine's threads (15_packet_engine.md). -/
  pxe : Pxe
  /-- The host interface's rings, vectors and functions (13_host_rings.md). -/
  hif : Hif
  /-- The network datapath's frames, tables and storage commands (16_network_datapath.md). -/
  net : Net
  /-- The security core (10_security_and_ledger.md). -/
  sec : Sec
  /-- Queues, credits and gate lists (17_traffic_scheduling.md). -/
  tsn : Tsn
  /-- The fabric's arbiter and the memories' error state (01, 11). -/
  memSt : MemSt
  /-- The DRAM channels (11_memory.md). -/
  drm : Tbl DrmCh
  /-- The cell-monitoring engine and the satellites (09_cell_monitoring.md). -/
  val : Val
  /-- The instances (14_instances.md). -/
  ins : Ins
  /-- The always-on domain (01_one_part_four_scenes.md, 19_clocks_power_boot.md). -/
  aon : Aon
  /-- The boot chain (19_clocks_power_boot.md). -/
  boot : Boot
  /-- Bytes that the last command answered with, besides `resp` (the model's own). -/
  reply : List Byte
  /-- The commands that wait, first in, first out. -/
  pending : List Instr
deriving DecidableEq, Repr

/-- The reasons a step can stop with a fault. The spec stops the controller nowhere. -/
inductive Fault where
  /-- Raised by no command: kept so that a fault has a name. Safe. -/
  | unreachable
deriving DecidableEq, Repr

/-- The reasons a step can be refused. -/
inductive Refusal where
  /-- Raised by an arm of `exec` without a meaning; there is none. Safe. -/
  | notModelled (mnemonic : String)
deriving DecidableEq, Repr

/-- The controller right after a reset of COLD scope (Table 19.6) with PORn released: every register field at its reset value
(R15), every memory as nothing has written it, T at 0 (R50), every block at the start, no command waiting. -/
def State.reset : State :=
  { regs := [], mem := [], T := 0, shadows := [], resp := 0, out := [], free := 0, viol := [], refused := false, tsp := {}, adc := {},
    pwm := {}, ivs := {}, grd := {}, ldg := {}, gptp := {}, agg := {}, dsp := [], dspMem := [], mbx := {}, saf := {}, pxe := {},
    hif := {}, net := {}, sec := {}, tsn := {}, memSt := {}, drm := [], val := {}, ins := {}, aon := {}, boot := {}, reply := [],
    pending := [] }

end Sys2Proof.Machine
end

