-- ==== Sys2Proof/Machine/Ops.lean ====
section
/-! DEFINITION. The named operations every meaning is written over: register fields, bytes of memory, readers' shadows,
saturating counters, interrupts, free values. -/
namespace Sys2Proof.Machine

/-- The value a meaning answers with: the next state. -/
abbrev Result := Host.Outcome State Fault Refusal

/-! ### Register fields -/

/-- The value of a register field (R11, R15). -/
def State.get (s : State) (x : Fld) : Nat := s.regs.get x

/-- Sets a register field to the low bits of `v` that it holds. -/
def State.put (s : State) (x : Fld) (v : Nat) : State := { s with regs := s.regs.put x v }

/-- R724: counts `k` events in a saturating counter field. -/
def State.bumpBy (s : State) (x : Fld) (k : Nat) : State := s.put x (satAdd x.w (s.get x) k)

/-- R724: counts one event in a saturating counter field. -/
def State.bump (s : State) (x : Fld) : State := s.bumpBy x 1

/-- A one-bit field as a truth value. -/
def State.flag (s : State) (x : Fld) : Bool := s.get x == 1

/-- Several fields at once, in order. -/
def State.puts (s : State) (l : List (Fld × Nat)) : State := l.foldl (fun a e => a.put e.1 e.2) s

/-- A change made only when a condition holds. -/
def State.when (s : State) (c : Bool) (f : State → State) : State := if c then f s else s

/-! ### Interrupts and other outputs -/

def State.emit (s : State) (o : Out) : State := { s with out := s.out ++ [o] }

/-- An interrupt to the management complex. -/
def State.irq (s : State) (k : Irq) : State := s.emit (.irq k)

/-! ### Free values -/

/-- Takes a fresh free value of `w` bits: nothing constrains it (`Config.freeWord`), and the counter advances. -/
def State.fresh (s : State) (w : Nat) : Nat × State :=
  (wrap w (Config.freeWord s.free), { s with free := s.free + 1 })

/-! ### Bytes of the internal address space (Table 11.1) -/

/-- What an address that nothing has written reads as: zero (R437 and R441 for Stockpot and DRAM; elsewhere a choice named in
the assumption log). -/
def unwritten : Byte := 0

def memGet : List Host.Cell → Nat → Byte
  | [], _ => unwritten
  | (k, v) :: t, a => if k = a then v else memGet t a

def memInsert : List Host.Cell → Nat → Byte → List Host.Cell
  | [], a, v => [(a, v)]
  | (k, w) :: t, a, v =>
    if k = a then (a, v) :: t
    else if a < k then (a, v) :: (k, w) :: t
    else (k, w) :: memInsert t a v

/-- Writes one byte; a byte that reads as an unwritten one is not listed. -/
def memPut (m : List Host.Cell) (a : Nat) (v : Byte) : List Host.Cell :=
  if v = unwritten then m.filter (fun e => e.1 ≠ a) else memInsert m a v

/-- The canonical form: addresses strictly rising, no entry that reads as an unwritten byte. -/
def Memory.wf : List Host.Cell → Bool
  | [] => true
  | [(_, v)] => v != unwritten
  | (a, v) :: (b, w) :: t => v != unwritten && a < b && Memory.wf ((b, w) :: t)

def State.byte (s : State) (a : Nat) : Byte := memGet s.mem a

def State.setByte (s : State) (a : Nat) (v : Byte) : State := { s with mem := memPut s.mem a v }

def State.bytesAt (s : State) (a : Nat) : Nat → List Byte
  | 0 => []
  | n + 1 => s.byte a :: s.bytesAt (a + 1) n

def State.setBytes (s : State) (a : Nat) : List Byte → State
  | [] => s
  | b :: bs => (s.setByte a b).setBytes (a + 1) bs

/-- A little-endian word of `n` bytes. -/
def State.load (s : State) (a n : Nat) : Nat := ofLeBytes (s.bytesAt a n)

def State.store (s : State) (a n v : Nat) : State := s.setBytes a (leBytes n v)

/-- Every byte of [a, a + n) back to zero. -/
def State.clearRange (s : State) (a n : Nat) : State :=
  { s with mem := s.mem.filter (fun e => e.1 < a ∨ a + n ≤ e.1) }

/-! ### Readers' shadows (R16–R18) -/

/-- The key of a shadow: the reader's requester ID and the number of the latched value. -/
def shadowKey (reader v : Nat) : Nat := v * 256 + reader

/-- The value that `reader` holds latched, if it has latched one since the block's last reset (R17). -/
def State.shadow? (s : State) (reader v : Nat) : Option Nat :=
  (s.shadows.find? (fun e => e.1 == shadowKey reader v)).map (·.2)

def State.latch (s : State) (reader v x : Nat) : State :=
  { s with shadows := s.shadows.set (shadowKey reader v) x }

/-- The answer of the last read. -/
def State.answer (s : State) (v : Nat) : State := { s with resp := v }

/-! ### Per-unit state -/

def State.src (s : State) (n : Nat) : Src := s.tsp.src.get {} n
def State.setSrc (s : State) (n : Nat) (v : Src) : State := { s with tsp := { s.tsp with src := s.tsp.src.set n v } }
def State.cmp (s : State) (n : Nat) : Cmp := s.tsp.cmp.get {} n
def State.setCmp (s : State) (n : Nat) (v : Cmp) : State := { s with tsp := { s.tsp with cmp := s.tsp.cmp.set n v } }
def State.adcU (s : State) (u : Nat) : AdcUnit := s.adc.unit.get {} u
def State.setAdcU (s : State) (u : Nat) (v : AdcUnit) : State := { s with adc := { s.adc with unit := s.adc.unit.set u v } }
def State.chan (s : State) (n : Nat) : Chan := s.pwm.ch.get {} n
def State.setChan (s : State) (n : Nat) (v : Chan) : State := { s with pwm := { s.pwm with ch := s.pwm.ch.set n v } }
def State.cd (s : State) (n : Nat) : Dsp := s.dsp.get {} n
def State.setCd (s : State) (n : Nat) (v : Dsp) : State := { s with dsp := s.dsp.set n v }
def State.cdMem (s : State) (n : Nat) : DspMem := s.dspMem.get {} n
def State.setCdMem (s : State) (n : Nat) (v : DspMem) : State := { s with dspMem := s.dspMem.set n v }
def State.pt (s : State) (n : Nat) : Thread := s.pxe.pt.get {} n
def State.setPt (s : State) (n : Nat) (v : Thread) : State := { s with pxe := { s.pxe with pt := s.pxe.pt.set n v } }
def State.ring (s : State) (r : Nat) : Ring := s.hif.ring.get {} r
def State.setRing (s : State) (r : Nat) (v : Ring) : State := { s with hif := { s.hif with ring := s.hif.ring.set r v } }
def State.msix (s : State) (fn v : Nat) : Msix := s.hif.msix.get {} (128 * fn + v)
def State.setMsix (s : State) (fn v : Nat) (x : Msix) : State := { s with hif := { s.hif with msix := s.hif.msix.set (128 * fn + v) x } }

end Sys2Proof.Machine
end

