-- ==== Sys2Proof/Machine/Signals.lean ====
section
/-! DEFINITION. The signals one block gives another inside the controller: firewall violations, DSP releases and internal
vectors, thread wakes with the stall detector's bookkeeping. -/
namespace Sys2Proof.Machine
open Sys2Proof.Reg

/-! ### Masters (Table 1.2) -/

def reqMC0 : Nat := 0x01
def reqMC1 : Nat := 0x02
def reqSafety : Nat := 0x03
def reqSecurity : Nat := 0x04
def reqLedger : Nat := 0x05
def reqCD (n : Nat) : Nat := 0x08 + n
def reqPT (n : Nat) : Nat := 0x10 + n
def reqADC (u : Nat) : Nat := 0x50 + u
def reqVal : Nat := 0x58
def reqNet : Nat := 0x59
def reqCrypto : Nat := 0x5A
def reqNvme : Nat := 0x5B
def reqPwm : Nat := 0x5C
def reqHost (n : Nat) : Nat := 0x80 + n

/-- MC0 or MC1, which hold the manager's rights (R755). -/
def isMC (m : Nat) : Bool := m == 1 || m == 2
def isCD (m : Nat) : Bool := 0x08 ≤ m && m ≤ 0x0B
def isPT (m : Nat) : Bool := 0x10 ≤ m && m ≤ 0x4F
def isHost (m : Nat) : Bool := 0x80 ≤ m && m ≤ 0xFF
def isTenant (m : Nat) : Bool := 0x81 ≤ m && m ≤ 0xFF

/-- The requester IDs that Table 1.2 gives a master (R25). -/
def isMaster (m : Nat) : Bool :=
  (1 ≤ m && m ≤ 5) || isCD m || isPT m || (0x50 ≤ m && m ≤ 0x5C) || isHost m

/-- Real-time masters of Table 1.2. -/
def isRealTime (m : Nat) : Bool := isCD m || (0x50 ≤ m && m ≤ 0x57) || m == 0x5C

/-- Reserved-class masters of Table 1.2. -/
def isReserved (m : Nat) : Bool := 1 ≤ m && m ≤ 5

/-! ### Firewall violations -/

/-- R499: counts a refused or malformed host access in the status page of instance `n`. -/
def State.spViol (s : State) (n : Nat) : State :=
  { s with hif := { s.hif with viol := s.hif.viol.set n (satAdd 32 (s.hif.viol.get 0 n) 1) } }

/-- R30, R47: logs a refused access, counts it, and counts a host's against its instance. -/
def State.violation (s : State) (m : Nat) (write : Bool) (region addr : Nat) : State :=
  let s := { s with refused := true }
  let s := s.bump MEM_FAB_VIOL_CNT_COUNT
  let s := s.when (isHost m) (fun s => (s.bump (INS_CNT_VIOL_COUNT (m - 0x80))).spViol (m - 0x80))
  if s.viol.length < 16 then { s with viol := s.viol ++ [⟨write, m, region, addr⟩] }
  else s.bump MEM_FAB_VIOL_LOST_LOST

/-- Table 11.2: the base of a register block, by the block's number in `Machine/Regs.lean`; `n` tells CD0–CD3 apart. -/
def blockBase (b n : Nat) : Nat :=
  if b ≤ 16 then 0xF0000000 + (b - 1) * 0x100000
  else if b = 17 then 0xF1000000 + n * 0x100000
  else 0xF1400000 + (b - 18) * 0x100000

/-- Table 1.10: the REGION code of a register block; `chan` tells the block of a power channel. -/
def blockRegion (b : Nat) (chan : Bool) : Nat :=
  if b = 12 then 0x01 else if b = 14 ∨ b = 15 then 0x02 else if b = 10 ∧ chan then 0x0B else 0x0C

/-- R30: the firewall refuses a write to offset `off` of block `b`. -/
def State.refuseWrite (s : State) (m b off : Nat) : State :=
  s.violation m true (blockRegion b false) (blockBase b 0 + off)

/-- R30: the firewall refuses a write to offset `off` of the block of CDn. -/
def State.refuseCd (s : State) (m n off : Nat) : State :=
  s.violation m true (blockRegion 17 false) (blockBase 17 n + off)

/-- R30: the firewall refuses a read at offset `off` of block `b`; the word reads 0. -/
def State.refuseRead (s : State) (m b off : Nat) : State :=
  (s.violation m false (blockRegion b false) (blockBase b 0 + off)).answer 0

/-! ### DSP releases and vectors -/

/-- The number of the 600 MHz cycle in which T stands. -/
def dspCycle (t : Nat) : Nat := t * 3 / 5

/-- R187, R188, R192: an event on release line `l` of CDn with the time `t32`; a cancel of the same cycle wins. -/
def dspRelease (s : State) (n l t32 : Nat) : State :=
  let p := s.get (CD_REL_PEND_PEND n)
  let d := s.cd n
  if d.cancelCyc == dspCycle s.T && bit d.cancelled l then
    if bit d.counted l then s
    else (s.setCd n { d with counted := setBit d.counted l }).bump (CD_REL_CBS_COUNT n)
  else if bit p l then s.bump (CD_REL_LOST_COUNT n)
  else (s.put (CD_REL_PEND_PEND n) (setBit p l)).put (CD_RELT_T n l) t32

/-- R186: internal vector `v` (8–14) of CDn becomes pending. -/
def dspVector (s : State) (n v : Nat) : State :=
  s.put (CD_IRQ_PEND_PEND n) (setBit (s.get (CD_IRQ_PEND_PEND n)) (v - 8))

/-! ### Thread wakes -/

def ptHALTED : Nat := 0
def ptREADY : Nat := 1
def ptWAITING : Nat := 2
def ptBLOCKED : Nat := 3
def ptFAULTED : Nat := 4

def causeTIMER : Nat := 0
def causeDEADLINE : Nat := 1
def causePOKE : Nat := 2
def causeRING : Nat := 3
def causeDOORBELL : Nat := 4
def causeTSP : Nat := 5
def causeNOTIFY : Nat := 6
def causeSTALL : Nat := 7

/-- HALTED or FAULTED: takes no wake, and does not count for a stall (R560, R576). -/
def ptStopped (s : State) (n : Nat) : Bool :=
  s.get (PXE_PT_STAT_STATE n) == ptHALTED || s.get (PXE_PT_STAT_STATE n) == ptFAULTED

/-- R576: some thread of the cluster runs, and every thread that does is WAITING with NEVER. -/
def clusterStalled (s : State) (c : Nat) : Bool :=
  let ts := (List.range 16).map (fun j => 16 * c + j)
  ts.any (fun n => !ptStopped s n) &&
    ts.all (fun n => ptStopped s n || (s.get (PXE_PT_STAT_STATE n) == ptWAITING && s.flag (PXE_PT_STAT_NEVER n)))

/-- R576: keeps the instant from which the cluster has been stalled; a nanosecond in which it is not clears the count. -/
def noteStall (s : State) (c : Nat) : State :=
  let old := s.pxe.stallFrom.get none c
  let new := if clusterStalled s c then some (old.getD s.T) else none
  { s with pxe := { s.pxe with stallFrom := s.pxe.stallFrom.set c new } }

/-- The firing of a thread's wake compare (R568): the thread becomes READY; `flags` are bits 8–10 of Table 15.3. -/
def fireWake (s : State) (n flags : Nat) : State :=
  let t := s.pt n
  let s := s.setPt n { t with wake := none, wokenFlags := some flags, fireT := s.T, jumpT := none, moveT := none, heldFlag := false }
  let s := (s.put (PXE_PT_STAT_STATE n) ptREADY).put (PXE_PT_STAT_NEVER n) 0
  noteStall s (n / 16)

/-- R571: a wake of thread `n` with one cause bit. -/
def threadWake (s : State) (n cause : Nat) : State :=
  if ptStopped s n then s.bump (PXE_PT_CNT_POKE_DROPPED n)
  else
    let s := s.put (PXE_PT_STAT_PEND n) (setBit (s.get (PXE_PT_STAT_PEND n)) cause)
    if s.get (PXE_PT_STAT_STATE n) == ptWAITING then
      fireWake s n (b2n (s.pt n).heldFlag * 4)
    else s

end Sys2Proof.Machine
end

