-- ==== Sys2Proof/Machine/Ledger.lean ====
section
/-! DEFINITION. The Ledger's submission queue (R409, R410), gPTP time (R626) and the frames that the aggregation role sends
(Table 18.1): what several blocks share. -/
namespace Sys2Proof.Machine
open Sys2Proof.Reg

/-! ### Submissions -/

/-- The classes of the DROPPED record. -/
def clsSAFETY : Nat := 0
def clsTAMPER : Nat := 1
def clsGRID : Nat := 2
def clsVALOLO : Nat := 3
def clsBOOT : Nat := 4
def clsSESSION : Nat := 5
def clsODO : Nat := 6
def clsOTHER : Nat := 7

/-- The safety bridge and the tamper block, for which eight entries are reserved (R409). -/
def ldgReserved (r : LdgReq) : Bool := r.cls == clsSAFETY || r.cls == clsTAMPER

/-- R409: whether the queue has room for the submission. -/
def ldgRoom (s : State) (r : LdgReq) : Bool :=
  s.ldg.queue.length < 32 && (ldgReserved r || (s.ldg.queue.filter (fun q => !ldgReserved q)).length < 24)

def ldgPush (s : State) (r : LdgReq) : State := { s with ldg := { s.ldg with queue := s.ldg.queue ++ [r] } }

/-- R410: an unconfirmed submission; a full queue drops and counts it. -/
def ldgSubmit (s : State) (r : LdgReq) : State :=
  if ldgRoom s r then ldgPush s r
  else
    let s := s.bump LDG_DROPPED_COUNT
    { s with ldg := { s.ldg with dropped := s.ldg.dropped.set r.cls (satAdd 16 (s.ldg.dropped.get 0 r.cls) 1) } }

/-- An unconfirmed record of the security core that concerns no instance. -/
def ldgNote (s : State) (typ cls : Nat) (pl : List Byte) : State :=
  ldgSubmit s { typ := typ, pl := pl, source := reqSecurity, inst := 0xFF, cls := cls, after := none }

/-! ### gPTP time -/

/-- R626: G at time `t`, 64 bits. -/
def gAt (s : State) (t : Nat) : Nat :=
  unsigned 64 ((t : Int) + s.gptp.ofs + s.gptp.rate * ((t : Int) - (s.gptp.tc : Int)) / 2 ^ 40)

def gNow (s : State) : Nat := gAt s s.T

/-! ### Qoronami frames -/

def qorREF : Nat := 0x01
def qorISLAND : Nat := 0x02
def qorRESUME : Nat := 0x03
def qorJOIN : Nat := 0x10
def qorACCEPT : Nat := 0x11
def qorREJECT : Nat := 0x12
def qorLEAVE : Nat := 0x13
def qorSTATUS : Nat := 0x14

def roleNODE : Nat := 1
def roleCOORD : Nat := 2

def aggRole (s : State) : Nat := if s.flag AGG_CFG_EN then s.get AGG_CFG_ROLE else 0

/-- The EPOCH of the frames sent: a coordinator's own, or that of the coordinator a node follows. -/
def aggEpoch (s : State) : Nat := if s.get AGG_CFG_ROLE = roleCOORD then s.get AGG_CFG_EPOCH else s.agg.epoch

/-- Table 18.1, R663: sends a frame of the given type. -/
def qorSend (s : State) (typ target : Nat) (pl : List Byte) : State :=
  let hdr := leBytes 1 1 ++ leBytes 1 typ ++ leBytes 2 (s.get AGG_ID_GROUP) ++ leBytes 2 (s.get AGG_ID_NODE_ID) ++
    leBytes 2 (aggEpoch s) ++ leBytes 4 s.agg.seq ++ leBytes 2 target ++ leBytes 2 pl.length
  let s := s.emit (.qor (s.get AGG_CFG_PORT) (hdr ++ pl))
  { s with agg := { s.agg with seq := wrap 32 (s.agg.seq + 1) } }

end Sys2Proof.Machine
end

