-- ==== Sys2Proof/Machine/Turnspit.lean ====
section
/-! DEFINITION. Turnspit's source engines and the geometry of crossings (02_turnspit.md, sections 2.1–2.6): the live position
and SPEED of a source, updates, loss, recovery and switching, and the compare pool's due conditions. -/
namespace Sys2Proof.Machine
open Sys2Proof.Reg

def srcOFF : Nat := 0
def srcACQUIRING : Nat := 1
def srcTRACKING : Nat := 2
def srcCOASTING : Nat := 3
def srcLOST : Nat := 4
def srcFOLLOWING : Nat := 5

def kindRESOLVER : Nat := 1
def kindENCODER : Nat := 2
def kindHALL : Nat := 3
def kindMAINS : Nat := 4
def kindWHEEL : Nat := 5
def kindDERIVED : Nat := 6

def srcState (s : State) (n : Nat) : Nat := s.get (TSP_SRC_STAT_STATE n)
def srcKind (s : State) (n : Nat) : Nat := s.get (TSP_SRC_CFG_KIND n)

/-- One Hall sector, 0x2AAA_AAAA (Table 2.1). -/
def hallStep : Nat := 0x2AAAAAAA

/-- Lines per turn of an encoder, pulses per turn of a wheel (Table 2.12). -/
def encLines (s : State) (n : Nat) : Nat := s.get (TSP_SRC_SCALE_DEN_LINES n) + 1
def wheelPPR (s : State) (n : Nat) : Nat := s.get (TSP_SRC_SCALE_DEN_LINES n) % 1024 + 1

/-- Table 2.1: the angle of quadrature count `c`. -/
def encAngle (s : State) (n c : Nat) : Nat := c * 2 ^ 32 / (4 * encLines s n)

/-- R61: the angle of the next wheel pulse, with the remainder it leaves: PPR pulses make exactly one turn. -/
def wheelStep (ppr rem : Nat) (reverse : Bool) : Nat × Nat :=
  if reverse then
    let d := (2 ^ 32 - rem + ppr - 1) / ppr
    (d, d * ppr + rem - 2 ^ 32)
  else ((2 ^ 32 + rem) / ppr, (2 ^ 32 + rem) % ppr)

/-- R66: how far beyond the last edge the next edge is expected, forward or in reverse. -/
def edgeReach (s : State) (n : Nat) (reverse : Bool) : Nat :=
  let v := s.src n
  let k := srcKind s n
  if k = kindENCODER then
    let c := v.count
    let m := 4 * encLines s n
    if reverse then (if c = 0 then 2 ^ 32 - encAngle s n (m - 1) else encAngle s n c - encAngle s n (c - 1))
    else if c + 1 = m then 2 ^ 32 - encAngle s n c else encAngle s n (c + 1) - encAngle s n c
  else if k = kindHALL then
    if reverse then (if v.bound = 0 then 2 ^ 32 - 5 * hallStep else hallStep)
    else if v.bound = 5 then 2 ^ 32 - 5 * hallStep else hallStep
  else if k = kindWHEEL then (wheelStep (wheelPPR s n) v.rem reverse).1
  else 0

/-- A pulse source: ENCODER, HALL or WHEEL (R66, R67). -/
def isPulse (k : Nat) : Bool := k == kindENCODER || k == kindHALL || k == kindWHEEL

/-- R53: SPEED saturates at ±0x7FFF_FFFF. -/
def satSpeed (v : Int) : Int := clampI (-0x7FFFFFFF) 0x7FFFFFFF v

/-- R65, R66, R70: the position that extrapolation gives at time `t` from the last update, with the limit of the next edge
when `limited`. DESIGN CHOICE: the fraction of SPEED × time is floored (log entry 193). -/
def extrapolate (s : State) (n t : Nat) (limited : Bool) : Nat :=
  let v := s.src n
  let raw : Int := v.speed * ((t - v.baseT : Nat) : Int) / 65536
  let d : Int :=
    if limited && isPulse (srcKind s n) then
      (if v.speed < 0 then
        (let lim : Int := -((edgeReach s n true : Nat) : Int)
         if raw < lim then lim else raw)
      else
        (let lim : Int := ((edgeReach s n false : Nat) : Int)
         if raw > lim then lim else raw))
    else raw
  addW 64 v.pos d

/-- The position {TURN, ANG} that Sn presents at time `t` (R54, R65, R74); `fuel` bounds the chain of followed sources. -/
def livePosAux : Nat → State → Nat → Nat → Nat
  | 0, s, n, _ => (s.src n).pos
  | k + 1, s, n, t =>
    let st := srcState s n
    if st = srcTRACKING then extrapolate s n t true
    else if st = srcCOASTING then extrapolate s n t false
    else if st = srcFOLLOWING then
      wrap 64 (livePosAux k s (s.get (TSP_SRC_STAT_FOLLOW_SRC n)) t +
        (s.get (TSP_SRC_SWOFS_SWOFS n) + s.get (TSP_SRC_SWOFS_HI_SWOFS n) * 2 ^ 32))
    else (s.src n).pos

def livePos (s : State) (n t : Nat) : Nat := livePosAux 8 s n t

/-- The angle ANG of Sn at time `t`. -/
def liveAng (s : State) (n t : Nat) : Nat := wrap 32 (livePos s n t)

/-- R67: the angle that one edge interval of a pulse source stands for. DESIGN CHOICE: floored before it is divided (log entry 192). -/
def edgeAngle (s : State) (n : Nat) : Nat :=
  let k := srcKind s n
  if k = kindENCODER then 2 ^ 32 / (4 * encLines s n)
  else if k = kindHALL then hallStep
  else 2 ^ 32 / wheelPPR s n

/-- R67: the standstill timeout in ns. -/
def stillTimeout (s : State) (n : Nat) : Nat := 1000000 * 2 ^ s.get (TSP_SRC_CFG_STILL n)

/-- R67: SPEED of a source on its own input, at time `t`. -/
def ownSpeedAt (s : State) (n t : Nat) : Int :=
  let v := s.src n
  if isPulse (srcKind s n) then
    match v.edgeT with
    | none => 0
    | some e =>
      let dt := t - e
      if dt > stillTimeout s n then 0
      else if dt > v.edgeInt ∧ v.edgeInt ≠ 0 then
        let m : Int := (edgeAngle s n * 65536 / dt : Nat)
        satSpeed (if v.speed < 0 then -m else m)
      else v.speed
  else v.speed

/-- The SPEED that Sn reports at time `t` (R53, R57, R70, R72, R74). -/
def liveSpeedAux : Nat → State → Nat → Nat → Int
  | 0, _, _, _ => 0
  | k + 1, s, n, t =>
    let st := srcState s n
    if st = srcTRACKING then ownSpeedAt s n t
    else if st = srcCOASTING then (s.src n).speed
    else if st = srcFOLLOWING then liveSpeedAux k s (s.get (TSP_SRC_STAT_FOLLOW_SRC n)) t
    else 0

def liveSpeed (s : State) (n t : Nat) : Int := liveSpeedAux 8 s n t

/-- R90: the speed at which Sn's angle goes, or went when it was last held; `fuel` bounds the chain of followed sources. -/
def paceAux : Nat → State → Nat → Int
  | 0, _, _ => 0
  | k + 1, s, n =>
    let st := srcState s n
    if st = srcTRACKING then ownSpeedAt s n s.T
    else if st = srcCOASTING then (s.src n).speed
    else if st = srcFOLLOWING then paceAux k s (s.get (TSP_SRC_STAT_FOLLOW_SRC n))
    else (s.src n).lostSpeed

def pace (s : State) (n : Nat) : Int := paceAux 8 s n

/-- R67: whether the standstill timeout of a tracking pulse source has run out. -/
def standstillDue (s : State) (n : Nat) : Bool :=
  isPulse (srcKind s n) && srcState s n == srcTRACKING &&
    (match (s.src n).edgeT with
     | none => false
     | some e => s.T - e > stillTimeout s n)

/-! ### Crossings (R82, R83, R85) -/

/-- R82: whether a move of the angle from `a` to `b` crosses `tgt` in direction `dir` (0 forward, 1 reverse, 2 either). -/
def crossed (dir a b tgt : Nat) : Bool :=
  let d := angDiff b a
  let fwd := d > 0 && 0 < unsigned 32 ((tgt : Int) - a) && ((unsigned 32 ((tgt : Int) - a) : Nat) : Int) ≤ d
  let rev := d < 0 && 0 < unsigned 32 ((a : Int) - tgt) && ((unsigned 32 ((a : Int) - tgt) : Nat) : Int) ≤ -d
  (dir != 1 && fwd) || (dir != 0 && rev)

/-- R85: the remaining angle from `a` to `tgt` along a direction, modulo 2^32. -/
def remaining (reverse : Bool) (a tgt : Nat) : Nat :=
  if reverse then unsigned 32 ((a : Int) - tgt) else unsigned 32 ((tgt : Int) - a)

/-- R85: the lead distance |SPEED| × L in BAU. -/
def leadDist (speed : Int) (lead : Nat) : Nat := speed.natAbs * lead / 65536

/-- R83: how far, with its sign, the position `p` lies from the one at the arming. -/
def sinceArm (armPos p : Nat) : Int := signed 64 (unsigned 64 ((p : Int) - armPos))

/-- R83: a unit armed on its own target is not crossed before the source has gone a full turn away. -/
def turnedAway (atTgt : Bool) (armPos p : Nat) : Bool := !atTgt || 2 ^ 32 ≤ (sinceArm armPos p).natAbs

/-- R83, R85: the remaining angle from position `p` to the target; for a unit armed on its target, that of the full turn first. -/
def ahead (reverse atTgt : Bool) (armPos p tgt : Nat) : Nat :=
  let gone := if reverse then -sinceArm armPos p else sinceArm armPos p
  if atTgt && gone < 2 ^ 32 then (2 ^ 32 - gone).toNat else remaining reverse (wrap 32 p) tgt

/-- R82, R85: whether motion in the given sense is in the unit's direction. -/
def dirTakes (dir : Nat) (reverse : Bool) : Bool := if reverse then dir != 0 else dir != 1

/-- R85: whether a lead unit's condition holds at position `p`: the source moves in the unit's direction and the remaining angle
is within the lead distance. -/
def leadMet (dir lead p : Nat) (speed : Int) (tgt : Nat) (atTgt : Bool) (armPos : Nat) : Bool :=
  let reverse := decide (speed < 0)
  speed != 0 && dirTakes dir reverse && decide (ahead reverse atTgt armPos p tgt ≤ leadDist speed lead)

/-- R82, R83: whether a move of the source from position `p` to `q` crosses the target of an arming. -/
def crosses (dir tgt : Nat) (atTgt : Bool) (armPos p q : Nat) : Bool :=
  crossed dir (wrap 32 p) (wrap 32 q) tgt && turnedAway atTgt armPos q

/-- Whether a compare on source `k` (8: T) with the given settings is due at the present T: by its crossing in this
nanosecond (R84, R86) or by its lead (R85). -/
def dueNow (s : State) (src dir lead tgt armT : Nat) (atTgt : Bool) (armPos : Nat) : Bool :=
  if src ≥ 8 then tgt - lead ≤ s.T
  else if lead = 0 then
    armT < s.T && crosses dir tgt atTgt armPos (livePos s src (s.T - 1)) (livePos s src s.T)
  else leadMet dir lead (livePos s src s.T) (liveSpeed s src s.T) tgt atTgt armPos

/-- R90: whether a crossing of a LOST or ACQUIRING source was due since the arming at `armT`: its angle would have gone on from
where it is held at the speed that it had. -/
def wouldBeDue (s : State) (src dir lead tgt armT : Nat) : Bool :=
  let v := s.src src
  let reverse := decide (v.lostSpeed < 0)
  let way (t : Nat) : Nat := v.lostSpeed.natAbs * (t - v.baseT) / 65536
  let from0 := addW 32 v.pos (if reverse then -((way armT : Nat) : Int) else (way armT : Nat))
  let r := remaining reverse from0 tgt
  let r := if r = 0 then 2 ^ 32 else r
  v.lostSpeed != 0 && dirTakes dir reverse && decide (r ≤ way s.T - way armT + leadDist v.lostSpeed lead)

/-- LOST or ACQUIRING: nothing fires on the source by crossing (R90). -/
def srcHolds (s : State) (n : Nat) : Bool := srcState s n == srcLOST || srcState s n == srcACQUIRING

/-- Whether the move of Sn's angle by an update is continuous motion: that of a RESOLVER or MAINS source, or of one that
follows or derives from such a source, without a change of OFS (Table 2.1, R281). -/
def continuousMove : Nat → State → State → Nat → Bool
  | 0, _, _, _ => false
  | k + 1, s0, s1, n =>
    if srcState s0 n != srcState s1 n then false
    else if srcState s0 n == srcFOLLOWING then
      s0.get (TSP_SRC_STAT_FOLLOW_SRC n) == s1.get (TSP_SRC_STAT_FOLLOW_SRC n) &&
        continuousMove k s0 s1 (s0.get (TSP_SRC_STAT_FOLLOW_SRC n))
    else if srcKind s0 n == kindDERIVED then
      (s0.src n).ofsApplied == (s1.src n).ofsApplied && continuousMove k s0 s1 (s0.get (TSP_SRC_CFG_PARENT n))
    else (srcKind s0 n == kindRESOLVER || srcKind s0 n == kindMAINS) && (s0.src n).ofsApplied == (s1.src n).ofsApplied

/-- R89: the change `s0` to `s1` ended the ACQUIRING of Sn, whether or not it also began in it. -/
def acquired (s0 s1 : State) (n : Nat) : Bool :=
  srcState s1 n == srcTRACKING && srcState s0 n != srcTRACKING && srcState s0 n != srcFOLLOWING

/-- What a change `s0` to `s1` within one nanosecond is for a target on source `src`. -/
inductive Passing where
  /-- The target is not passed. -/
  | no
  /-- Passed by the step at the end of ACQUIRING (R89). -/
  | held
  /-- Passed by continuous motion: that of the update (Table 2.1, R281), or of the extrapolation up to it (R82). -/
  | move
  /-- Passed by a jump (R88). -/
  | jump
deriving DecidableEq, Repr

/-- R82, R88, R89: how the change `s0` to `s1` at the present T passes the target of a compare with the given settings. -/
def passing (s0 s1 : State) (src dir lead tgt armT : Nat) (atTgt : Bool) (armPos : Nat) : Passing :=
  if src ≥ 8 then .no
  else if crosses dir tgt atTgt armPos (livePos s0 src s0.T) (livePos s1 src s0.T) then
    if acquired s0 s1 src then .held
    else if continuousMove 8 s0 s1 src then .move
    else .jump
  else if lead = 0 && !srcHolds s0 src && dueNow s0 src dir lead tgt armT atTgt armPos then .move
  else .no

/-- R82, R88, R89, R94: after a change `s0` to `s1` within one nanosecond, marks every compare unit whose target the change
passed, and counts a firing that a write earlier in the nanosecond has cancelled. -/
def markUnits (s0 s1 : State) : State :=
  s1.tsp.cmp.foldl (fun acc e =>
    let acc := match e.2.dropped with
      | some (t, a) =>
        let p := passing s0 s1 a.src a.dir a.lead a.tgt a.armT a.atTgt a.armPos
        if t = s0.T ∧ (p = .move ∨ p = .jump) then
          (acc.setCmp e.1 { acc.cmp e.1 with dropped := none }).bump (TSP_CMP_STAT_CANCELLED_BEFORE_START e.1)
        else acc
      | none => acc
    match e.2.arm with
    | none => acc
    | some a =>
      match passing s0 s1 a.src a.dir a.lead a.tgt a.armT a.atTgt a.armPos with
      | .no => acc
      | .held => acc.put (TSP_CMP_STAT_HELD e.1) 1
      | .move => acc.setCmp e.1 { acc.cmp e.1 with moveT := some s0.T }
      | .jump => acc.setCmp e.1 { acc.cmp e.1 with jumpT := some s0.T }) s1

/-- The same for the threads' wake compares (R568, R570, Table 15.3). -/
def markThreads (s0 s1 : State) : State :=
  s1.pxe.pt.foldl (fun acc e =>
    match e.2.wake with
    | none => acc
    | some a =>
      match passing s0 s1 a.src a.dir a.lead a.tgt a.armT a.atTgt a.armPos with
      | .no => acc
      | .held => acc.setPt e.1 { e.2 with heldFlag := true }
      | .move => acc.setPt e.1 { e.2 with moveT := some s0.T }
      | .jump => acc.setPt e.1 { e.2 with jumpT := some s0.T }) s1

/-- Runs a change of the sources and marks the units whose targets the steps it makes have crossed. -/
def withJumps (s : State) (f : State → State) : State :=
  let s1 := f s
  markThreads s (markUnits s s1)

/-! ### Loss (R69–R71, R759) -/

/-- R70: the event on the consumer named in LOSS_CONS. -/
def lossEvent (s : State) (n : Nat) : State :=
  let c := s.get (TSP_SRC_LOSS_LOSS_CONS n)
  if 0x20 ≤ c ∧ c ≤ 0x9F then dspRelease s ((c - 0x20) / 32) ((c - 0x20) % 32) (wrap 32 s.T)
  else if 0xA0 ≤ c ∧ c ≤ 0xDF then threadWake s (c - 0xA0) causeTSP
  else s

/-- R71: the effects of each entry to LOST or COASTING. -/
def raiseLoss (s : State) (n : Nat) : State :=
  lossEvent ((s.put (TSP_SRC_STAT_LOSS_EV n) 1).irq .tsp) n

/-- Freezes the position at its live value (R70 HOLD). -/
def freeze (s : State) (n : Nat) : State :=
  let p := livePos s n s.T
  s.setSrc n { s.src n with pos := p, baseT := s.T }

/-- R76: `f` is a DERIVED source whose chain of parents reaches Sn; `fuel` bounds the chain. -/
def derivesFrom : Nat → State → Nat → Nat → Bool
  | 0, _, _, _ => false
  | k + 1, s, f, n =>
    srcKind s f == kindDERIVED && (s.get (TSP_SRC_CFG_PARENT f) == n || derivesFrom k s (s.get (TSP_SRC_CFG_PARENT f)) n)

/-- R76: whether the fallback `f` may be followed by Sn. -/
def switchOk (s : State) (n f : Nat) : Bool :=
  srcState s f == srcTRACKING && f != n && !derivesFrom 8 s f n

/-- STATE LOST with HOLD: the angle frozen, SPEED read as 0. A switch-back that waited is no longer one (R75). -/
def toLost (s : State) (n : Nat) : State :=
  let pc := pace s n
  let s := freeze s n
  let v := s.src n
  let s := s.setSrc n { v with lostSpeed := pc, pend := if v.pend = .back then .none else v.pend }
  let s := (s.put (TSP_SRC_STAT_STATE n) srcLOST).put (TSP_SRC_STAT_OWN_OK n) 0
  s.put (TSP_SRC_STAT_STANDSTILL n) 0

/-- R74, R76: drops the pending switches of the sources that wait for `n`, which has left TRACKING. -/
def dropPending (s : State) (n : Nat) : State :=
  (List.range 8).foldl (fun s m =>
    match (s.src m).pend with
    | .toFallback f _ _ =>
      if f = n then (s.setSrc m { s.src m with pend := .none }).put (TSP_SRC_STAT_CFG_IGN m) 1 else s
    | _ => s) s

/-- R70, R71, R74: Sn enters LOST, with the automatic switch that its ACTION orders. -/
def enterLost (s : State) (n : Nat) : State :=
  let f := s.get (TSP_SRC_CFG_FALLBACK n)
  let s := toLost (s.setSrc n { s.src n with ownLost := true, ownAcq := false }) n
  let s :=
    if s.get (TSP_SRC_LOSS_ACTION n) = 2 ∧ s.flag (TSP_SRC_CFG_FB_EN n) ∧ s.flag (TSP_SRC_CFG_FB_AUTO n) then
      if switchOk s n f then
        s.setSrc n { s.src n with pend := .toFallback f (s.flag (TSP_SRC_CFG_BUMPLESS n)) true }
      else s.put (TSP_SRC_STAT_CFG_IGN n) 1
    else s
  raiseLoss s n

/-- R70, R71: Sn enters COASTING until `e`. -/
def enterCoasting (s : State) (n e : Nat) : State :=
  let s := freeze s n
  let s := s.setSrc n { s.src n with coastEnd := e, ownLost := true, ownAcq := false }
  raiseLoss ((s.put (TSP_SRC_STAT_STATE n) srcCOASTING).put (TSP_SRC_STAT_OWN_OK n) 0) n

/-- R70: the behaviour that LOSS.ACTION selects. -/
def lossAction (s : State) (n : Nat) : State :=
  if s.get (TSP_SRC_LOSS_ACTION n) = 1 then enterCoasting s n (s.T + 1000 * s.get (TSP_SRC_LOSS_COAST_US n)) else enterLost s n

/-- R71, R74: the own input of a FOLLOWING source is lost. -/
def ownInputLost (s : State) (n : Nat) : State :=
  raiseLoss ((s.setSrc n { s.src n with ownLost := true, ownAcq := false }).put (TSP_SRC_STAT_OWN_OK n) 0) n

/-- Table 2.2, R57, R70: what the DERIVED source `m` does when its parent `n` has left TRACKING and FOLLOWING: it coasts with a
COASTING parent, applies its own ACTION when the parent is LOST, and enters LOST when the parent is OFF; the second value says
that it has left TRACKING itself. -/
def childLoss (s : State) (m n : Nat) : State × Bool :=
  let p := srcState s n
  let c := srcState s m
  if p == srcCOASTING && c == srcTRACKING then (enterCoasting s m (s.src n).coastEnd, true)
  else if p == srcLOST && c == srcTRACKING then (lossAction s m, true)
  else if (p == srcLOST && c == srcCOASTING) || (p == srcOFF && (c == srcTRACKING || c == srcCOASTING || c == srcACQUIRING)) then
    (enterLost s m, true)
  else if c == srcFOLLOWING &&
      (((p == srcLOST || p == srcOFF) && s.flag (TSP_SRC_STAT_OWN_OK m)) || (p == srcOFF && (s.src m).ownAcq)) then
    (ownInputLost s m, false)
  else (s, false)

/-- What follows when Sn has left TRACKING and FOLLOWING: followers enter LOST (R759) and DERIVED children follow Table 2.2 and
R57; `fuel` bounds the cascade. -/
def cascade : Nat → State → Nat → State
  | 0, s, _ => s
  | k + 1, s, n =>
    let s := dropPending s n
    (List.range 8).foldl (fun s m =>
      if srcState s m == srcFOLLOWING && s.get (TSP_SRC_STAT_FOLLOW_SRC m) == n then
        cascade k (raiseLoss (toLost s m) m) m
      else if s.flag (TSP_SRC_CFG_EN m) && srcKind s m == kindDERIVED && s.get (TSP_SRC_CFG_PARENT m) == n then
        let (s, left) := childLoss s m n
        if left then cascade k s m else s
      else s) s

/-- R69, R70, R71: the own input of Sn meets its loss condition. An input that is acquiring stays so (R72, R758). -/
def sourceLoss (s : State) (n : Nat) : State :=
  let st := srcState s n
  if st == srcFOLLOWING then
    if (s.src n).ownLost || (s.src n).ownAcq then s else ownInputLost s n
  else if st == srcTRACKING then cascade 8 (lossAction s n) n
  else if st == srcLOST then s.setSrc n { s.src n with ownLost := true }
  else s

/-! ### Updates -/

/-- The 64-bit position whose ANG is `ang` and which lies within half a turn of `pos` (R72). -/
def stepTo (pos ang : Nat) : Nat := addW 64 pos (angDiff ang (wrap 32 pos))

/-- R74: Sn begins to follow `f`. DESIGN CHOICE: UPD_T keeps the T of the last own update (log entry 195). -/
def takeSwitch (s : State) (n f : Nat) (bumpless : Bool) : State :=
  let here := livePos s n s.T
  let there := livePos s f s.T
  let off := if bumpless then unsigned 64 ((here : Int) - there) else 0
  let v := s.src n
  let acq := srcState s n == srcACQUIRING
  let s := s.setSrc n { v with pend := .none, ownPos := v.pos, ownSpeed := v.speed, ownT := v.updT, ownAcq := acq }
  s.puts [(TSP_SRC_SWOFS_SWOFS n, wrap 32 off), (TSP_SRC_SWOFS_HI_SWOFS n, off / 2 ^ 32), (TSP_SRC_STAT_FOLLOW_SRC n, f),
    (TSP_SRC_STAT_STATE n, srcFOLLOWING), (TSP_SRC_STAT_SWITCH_EV n, 1), (TSP_SRC_STAT_STANDSTILL n, 0),
    (TSP_SRC_STAT_OWN_OK n, b2n (!v.ownLost && !acq))]

/-- R75: Sn returns to its own input, whose position at this update is `own`. -/
def takeBack (s : State) (n own : Nat) (spd : Int) : State :=
  let here := livePos s n s.T
  let off := if s.flag (TSP_SRC_CFG_BUMPLESS n) then unsigned 64 ((here : Int) - own) else 0
  let s := s.setSrc n { s.src n with pend := .none, pos := wrap 64 (own + off), speed := spd, updT := s.T, baseT := s.T, ownOfs := off }
  s.puts [(TSP_SRC_SWOFS_SWOFS n, 0), (TSP_SRC_SWOFS_HI_SWOFS n, 0), (TSP_SRC_STAT_FOLLOW_SRC n, 0),
    (TSP_SRC_STAT_STATE n, srcTRACKING), (TSP_SRC_STAT_SWITCH_EV n, 1), (TSP_SRC_STAT_OWN_OK n, 1)]

/-- An update of the own input of Sn that gives the 64-bit position `own` (before any switch-back offset). -/
def ownUpdate (s : State) (n own : Nat) (spd : Int) : State :=
  let v := s.src n
  let st := srcState s n
  if st == srcTRACKING then
    s.setSrc n { v with pos := wrap 64 (own + v.ownOfs), ownPos := own, speed := satSpeed spd, updT := s.T, baseT := s.T }
  else if st == srcFOLLOWING then
    let s := s.setSrc n { v with ownPos := own, ownSpeed := satSpeed spd, ownT := s.T }
    match v.pend with
    | .back => if s.flag (TSP_SRC_STAT_OWN_OK n) then takeBack s n own (satSpeed spd) else s
    | _ => s
  else s

/-- R72: Sn leaves ACQUIRING for TRACKING at the angle `ang` (already with OFS). -/
def acquireAt (s : State) (n ang : Nat) (spd : Int) : State :=
  let v := s.src n
  if srcState s n == srcACQUIRING then
    let p := stepTo v.pos ang
    let s := s.setSrc n { v with pos := p, ownPos := p, speed := satSpeed spd, updT := s.T, baseT := s.T, ownOfs := 0, ownLost := false, badAmp := 0, badErr := 0, badUse := 0 }
    (s.put (TSP_SRC_STAT_STATE n) srcTRACKING).put (TSP_SRC_STAT_OWN_OK n) 1
  else if srcState s n == srcFOLLOWING ∧ v.ownAcq then
    let s := s.setSrc n { v with ownPos := stepTo v.ownPos ang, ownSpeed := spd, ownT := s.T, ownAcq := false, ownLost := false, badAmp := 0, badErr := 0, badUse := 0 }
    s.put (TSP_SRC_STAT_OWN_OK n) 1
  else s

/-- Sn's own input is acquiring: after enable or RESYNC, or in the background while FOLLOWING (R758). -/
def acquiring (s : State) (n : Nat) : Bool :=
  srcState s n == srcACQUIRING || (srcState s n == srcFOLLOWING && (s.src n).ownAcq)

/-- R62, Table 2.1: the position of a DERIVED source from its parent's position `pp`. -/
def derivedPos (s : State) (n pp : Nat) : Nat :=
  let num := signed 16 (s.get (TSP_SRC_SCALE_NUM n))
  let den := s.get (TSP_SRC_SCALE_DEN_LINES n)
  let d := signed 64 (unsigned 64 ((pp : Int) - (s.src n).p0))
  unsigned 64 ((s.get (TSP_SRC_OFS_OFS n) : Int) + d * num / (den : Int))

/-- Table 2.1: parent SPEED × NUM / DEN, truncated toward 0, saturated (R53). -/
def derivedSpeed (s : State) (n : Nat) (ps : Int) : Int :=
  let num := signed 16 (s.get (TSP_SRC_SCALE_NUM n))
  satSpeed (Int.tdiv (ps * num) (s.get (TSP_SRC_SCALE_DEN_LINES n) : Int))

/-- The update of a DERIVED source at an update of its parent, or the end of its ACQUIRING when the parent is TRACKING or
FOLLOWING (R72). DESIGN CHOICE: its SPEED is that of this update until the next one (log entry 194). -/
def derivedUpdate (s : State) (n : Nat) : State :=
  let p := s.get (TSP_SRC_CFG_PARENT n)
  let pst := srcState s p
  if pst == srcTRACKING || pst == srcFOLLOWING then
    let own := derivedPos s n (livePos s p s.T)
    let s := s.setSrc n { s.src n with ofsApplied := s.get (TSP_SRC_OFS_OFS n) }
    let spd := derivedSpeed s n (liveSpeed s p s.T)
    if acquiring s n then
      let s := acquireAt s n (wrap 32 own) spd
      -- the offset between the exact position and the one presented stays fixed from here on
      if srcState s n == srcTRACKING then
        s.setSrc n { s.src n with ownPos := own, ownOfs := unsigned 64 (((s.src n).pos : Int) - own) }
      else s
    else ownUpdate s n own spd
  else s

/-- What an update of Sf brings to the others in the same nanosecond: pending switches to it take place (R74), followers and
DERIVED children update; `fuel` bounds the chain. -/
def propagate : Nat → State → Nat → State
  | 0, s, _ => s
  | k + 1, s, f =>
    (List.range 8).foldl (fun s n =>
      let s := match (s.src n).pend with
        | .toFallback g b _ =>
          if g = f then
            (if srcState s f == srcTRACKING then takeSwitch s n f b
             else (s.setSrc n { s.src n with pend := .none }).put (TSP_SRC_STAT_CFG_IGN n) 1)
          else s
        | _ => s
      if s.flag (TSP_SRC_CFG_EN n) && srcKind s n == kindDERIVED && s.get (TSP_SRC_CFG_PARENT n) == f && n != f then
        propagate k (derivedUpdate s n) n
      else if srcState s n == srcFOLLOWING && s.get (TSP_SRC_STAT_FOLLOW_SRC n) == f then propagate k s n
      else s) s

/-- An own-input update of Sn with everything it brings in the same nanosecond. -/
def updateSource (s : State) (n own : Nat) (spd : Int) : State := propagate 8 (ownUpdate s n own spd) n

/-- The end of ACQUIRING of Sn at angle `ang` with everything it brings in the same nanosecond. -/
def acquireSource (s : State) (n ang : Nat) (spd : Int) : State := propagate 8 (acquireAt s n ang spd) n

/-- The position an own-input angle `ang` gives: within half a turn of the live own position (the sources that step by
edges move by far less). -/
def ownStep (s : State) (n ang : Nat) : Nat :=
  let v := s.src n
  let base := if srcState s n == srcFOLLOWING then v.ownPos else unsigned 64 ((livePos s n s.T : Int) - v.ownOfs)
  stepTo base ang

/-! ### The compare pool -/

/-- Disarms unit `u` without an event. -/
def disarmUnit (s : State) (u : Nat) : State :=
  (s.setCmp u { s.cmp u with arm := none, jumpT := none, moveT := none, lateT := none, firedT := none }).put (TSP_CMP_STAT_ARMED u) 0

/-- R80: every unit that requester `m` owns is disarmed without an event and freed. -/
def releaseUnits (s : State) (m : Nat) : State :=
  (List.range 120).foldl (fun s u =>
    if s.get (TSP_CMP_OWN_OWNER u) == m then (disarmUnit s u).put (TSP_CMP_OWN_OWNER u) 0 else s) s

/-- R103: a refused claim enters the conflict log (at most 8 entries) and the count. -/
def tspConflict (s : State) (claimant holder res : Nat) : State :=
  let s := s.bump TSP_CONFLICT_CNT_COUNT
  if s.tsp.log.length < 8 then { s with tsp := { s.tsp with log := s.tsp.log ++ [⟨claimant, holder, res⟩] } }
  else s.bump TSP_CONFLICT_CNT_LOST

/-- Unit `u`, armed with `a`, is due by a mark that an event of the present nanosecond has left. -/
def markedNow (s : State) (u : Nat) : Bool := (s.cmp u).jumpT == some s.T || (s.cmp u).moveT == some s.T

/-- Whether unit `u` is due in the present nanosecond, by its crossing, its lead, a jump or its arming. A crossing that has
fired in this nanosecond is due again only by a further mark (R93). -/
def unitDue (s : State) (u : Nat) : Bool :=
  match (s.cmp u).arm with
  | none => false
  | some a =>
    (s.cmp u).lateT == some s.T || markedNow s u ||
      ((s.cmp u).firedT != some s.T && dueNow s a.src a.dir a.lead a.tgt a.armT a.atTgt a.armPos)

/-- R92, R93: how many further targets of a PERIODIC unit that is due meet its firing condition in this nanosecond: on T those
with TGT − LEAD at or before T, on an angle those passed or within the lead distance. -/
def overruns (s : State) (u : Nat) (a : Arming) : Nat :=
  if a.step = 0 then 0
  else if a.src ≥ 8 then (s.T + a.lead - a.tgt) / a.step
  else
    let p := livePos s a.src s.T
    let reverse := a.dir == 1
    let beyond : Int := if reverse then angDiff a.tgt (wrap 32 p) else angDiff (wrap 32 p) a.tgt
    -- how far the fired target lies behind the source, less than 0 while it is still ahead
    let behind : Int := if a.lead = 0 || markedNow s u then beyond else -((ahead reverse a.atTgt a.armPos p a.tgt : Nat) : Int)
    ((behind + (leadDist (liveSpeed s a.src s.T) a.lead : Nat)) / (a.step : Int)).toNat

/-- R91, R92: the target after the firing that also passed `k` further ones. -/
def advanceTarget (a : Arming) (k : Nat) : Nat :=
  if a.src ≥ 8 then wrap 64 (a.tgt + (k + 1) * a.step)
  else if a.dir = 1 then unsigned 32 ((a.tgt : Int) - ((k + 1) * a.step : Nat))
  else wrap 32 (a.tgt + (k + 1) * a.step)

/-- R81, R92: unit `u` goes on from its fired target past `k` further ones, each counted as an OVERRUN. -/
def advanceUnit (s : State) (u : Nat) (a : Arming) (k missed : Nat) : State :=
  let c := s.cmp u
  let t := advanceTarget a k
  let s := s.bumpBy (TSP_CMP_STAT_OVERRUN u) missed
  let s := s.setCmp u { c with arm := some { a with tgt := t, atTgt := false, armT := s.T }, jumpT := none, moveT := none, lateT := none, firedT := some s.T }
  if c.tgtWritten then s
  else
    let s := s.put (TSP_CMP_TGT_LO_TGT_LO u) (wrap 32 t)
    if a.src ≥ 8 then
      (s.put (TSP_CMP_TGT_HI_TGT_HI u) (t / 2 ^ 32)).setCmp u { s.cmp u with committed := t }
    else s

/-- R85, R91–R93, R95: the unit's own effects of a firing; its event goes to the consumer separately. -/
def fireUnit (s : State) (u : Nat) (a : Arming) : State :=
  let c := s.cmp u
  let k := overruns s u a
  let s := s.when (c.lateT == some s.T) (fun s => s.put (TSP_CMP_STAT_LATE u) 1)
  let s := s.when (c.jumpT == some s.T) (fun s => s.put (TSP_CMP_STAT_JUMPED u) 1)
  let s := (s.put (TSP_CMP_STAT_FIRED u) 1).put (TSP_CMP_FIRE_T_FIRE_T u) (wrap 32 s.T)
  if a.periodic then advanceUnit s u a k k else disarmUnit s u

/-- R93: a further crossing of unit `u` in a nanosecond in which it has fired: its target advances without an event. -/
def overrunUnit (s : State) (u : Nat) (a : Arming) : State :=
  let k := overruns s u a
  advanceUnit s u a k (k + 1)

/-- R98: what a capture takes at the present nanosecond. -/
def captureSources (s : State) : Capture :=
  { t := s.T, srcs := (List.range 8).map (fun n => { state := srcState s n, pos := livePos s n s.T, speed := liveSpeed s n s.T }) }

end Sys2Proof.Machine
end

