-- ==== Sys2Proof/Machine/TurnspitCmds.lean ====
section
/-! DEFINITION. The commands and events of Turnspit (02_turnspit.md): configuration writes, sensor edges, timeouts, source
commands, claims, arming and the value reads. -/
namespace Sys2Proof.Machine
open Sys2Proof.Reg

/-- R102, R498: the masters whose writes the TSP firewall lets through to the rules of the chapter. -/
def tspWriter (m : Nat) : Bool := isMaster m && !isHost m

/-- R102: who reads the TSP block. -/
def tspReader (m : Nat) : Bool := isMaster m && !isTenant m

/-! ### Configuration (R56, R57, R64, R104) -/

/-- R64: the input that a source's settings claim: QIN group 0–3, 4 for WPULSE, 5 for the mains tracker. -/
def srcInput (s : State) (n : Nat) : Option Nat :=
  let k := srcKind s n
  if k = kindENCODER ∨ k = kindHALL then some (s.get (TSP_SRC_IN_QIN n))
  else if k = kindWHEEL then some 4
  else if k = kindMAINS then some 5
  else none

/-- The enabled source other than `n` that holds the input, if any. -/
def inputHolder (s : State) (n inp : Nat) : Option Nat :=
  (List.range 8).find? (fun m => m != n && s.flag (TSP_SRC_CFG_EN m) && srcInput s m == some inp)

/-- R104: the settings with which a source does not enable. -/
def srcBadCfg (s : State) (n : Nat) : Bool :=
  let k := srcKind s n
  let p := s.get (TSP_SRC_CFG_PARENT n)
  let den := s.get (TSP_SRC_SCALE_DEN_LINES n)
  k == 0 || k == 7 ||
    (k == kindDERIVED && (s.get (TSP_SRC_SCALE_NUM n) == 0 || den == 0 || p == n || srcKind s p == kindDERIVED)) ||
    (k == kindWHEEL && (den ≥ 1024 || (s.flag (TSP_SRC_CFG_REF_EN n) && p == n)))

/-- R62, R72: Sn starts to acquire with its own input. A switch that is pending stays so (R74; log entry 196). -/
def startAcquire (s : State) (n : Nat) : State :=
  let v := s.src n
  s.setSrc n { v with
    p0 := livePos s (s.get (TSP_SRC_CFG_PARENT n)) s.T, zSeen := false, ownLost := false, badAmp := 0, badErr := 0, badUse := 0, good := 0,
    edges := 0, faultsAt := [], edgeT := none, edgeInt := 0, speed := 0, ownOfs := 0 }

/-- R104, R64: a write of EN = 1 by `m` enables the source or refuses. -/
def enableSource (s : State) (m n : Nat) : State :=
  if srcBadCfg s n then s.put (TSP_SRC_STAT_CFG_IGN n) 1
  else
    match (srcInput s n).bind (fun i => (inputHolder s n i).map (fun h => (i, h))) with
    | some (i, h) => tspConflict (s.put (TSP_SRC_STAT_CONFLICT n) 1) m (s.src h).enabledBy (0x80 + i)
    | none =>
      let s := s.puts [(TSP_SRC_CFG_EN n, 1), (TSP_SRC_STAT_STATE n, srcACQUIRING), (TSP_SRC_STAT_OWN_OK n, 0)]
      let s := startAcquire s n
      let s := s.setSrc n { s.src n with enabledBy := m, lastNeg := false, rem := 0, lostSpeed := 0, pend := .none }
      -- R144: the resolver path forms pairs of results offered from now on
      let s := { s with adc := { s.adc with half := (s.adc.half.erase (2 * n)).erase (2 * n + 1), pair := s.adc.pair.erase n } }
      if srcKind s n = kindDERIVED then propagate 8 (derivedUpdate s n) n else s

/-- R57: every compare unit armed on Sn is disarmed and marked HELD; a thread's wake compare on it keeps waiting. -/
def disarmOn (s : State) (n : Nat) : State :=
  s.tsp.cmp.foldl (fun acc e =>
    match e.2.arm with
    | some a => if a.src = n then (disarmUnit acc e.1).put (TSP_CMP_STAT_HELD e.1) 1 else acc
    | none => acc) s

/-- R57: a write of EN = 0. -/
def disableSource (s : State) (n : Nat) : State :=
  let pc := pace s n
  let s := freeze s n
  let s := s.setSrc n { s.src n with pend := .none, ownAcq := false, lostSpeed := pc }
  let s := s.puts [(TSP_SRC_CFG_EN n, 0), (TSP_SRC_STAT_STATE n, srcOFF), (TSP_SRC_STAT_OWN_OK n, 0), (TSP_SRC_STAT_STANDSTILL n, 0),
    (TSP_SRC_STAT_FOLLOW_SRC n, 0), (TSP_SRC_SWOFS_SWOFS n, 0), (TSP_SRC_SWOFS_HI_SWOFS n, 0)]
  cascade 8 (disarmOn s n) n

/-- The fields of TSP_SRCn_CFG that change only while EN is 0, with their lowest bits (R56). -/
def srcLocked (n : Nat) : List (Fld × Nat) :=
  [(TSP_SRC_CFG_KIND n, 28), (TSP_SRC_CFG_DIRINV n, 27), (TSP_SRC_CFG_PARENT n, 18), (TSP_SRC_CFG_REF_EN n, 17),
   (TSP_SRC_CFG_TRK_BW n, 12), (TSP_SRC_CFG_FILT n, 0)]

/-- The fields of TSP_SRCn_CFG that may be written at any time (R56). -/
def srcOpen (n : Nat) : List (Fld × Nat) :=
  [(TSP_SRC_CFG_FALLBACK n, 24), (TSP_SRC_CFG_FB_EN n, 23), (TSP_SRC_CFG_FB_AUTO n, 22), (TSP_SRC_CFG_BUMPLESS n, 21),
   (TSP_SRC_CFG_STILL n, 8)]

/-- Writes the fields of a register word that the list names. -/
def State.putWord (s : State) (l : List (Fld × Nat)) (v : Nat) : State :=
  l.foldl (fun a e => a.put e.1 (bits v e.2 e.1.w)) s

/-- Whether a word carries a value other than the present one for any of the fields. -/
def State.differs (s : State) (l : List (Fld × Nat)) (v : Nat) : Bool :=
  l.any (fun e => s.get e.1 != bits v e.2 e.1.w)

/-- R56: fields that are locked while the source is enabled. -/
def writeLocked (s : State) (n : Nat) (en : Bool) (l : List (Fld × Nat)) (v : Nat) : State :=
  if en then s.when (s.differs l v) (fun s => s.put (TSP_SRC_STAT_CFG_IGN n) 1) else s.putWord l v

/-- R56: a write of TSP_SRCn_CFG by the manager's cores. -/
def srcCfgWrite (s : State) (m n v : Nat) : State :=
  let en := s.flag (TSP_SRC_CFG_EN n)
  let s := (writeLocked s n en (srcLocked n) v).putWord (srcOpen n) v
  if en && !bit v 31 then withJumps s (fun s => disableSource s n)
  else if !en && bit v 31 then withJumps s (fun s => enableSource s m n)
  else s

def tspSrcCfgWrite (s : State) (m n v : Nat) : State :=
  if isMC m then srcCfgWrite s m n v else s.refuseWrite m 8 (0x100 + 0x40 * n)

/-- R56: TSP_SRCn_IN and TSP_SRCn_SCALE. -/
def tspSrcInWrite (s : State) (m n v : Nat) : State :=
  if isMC m then
    writeLocked s n (s.flag (TSP_SRC_CFG_EN n))
      [(TSP_SRC_IN_SIN_UNIT n, 29), (TSP_SRC_IN_SIN_INPUT n, 24), (TSP_SRC_IN_COS_UNIT n, 21), (TSP_SRC_IN_COS_INPUT n, 16), (TSP_SRC_IN_QIN n, 0)] v
  else s.refuseWrite m 8 (0x104 + 0x40 * n)

def tspSrcScaleWrite (s : State) (m n v : Nat) : State :=
  if isMC m then
    writeLocked s n (s.flag (TSP_SRC_CFG_EN n)) [(TSP_SRC_SCALE_NUM n, 16), (TSP_SRC_SCALE_DEN_LINES n, 0)] v
  else s.refuseWrite m 8 (0x108 + 0x40 * n)

/-- R70: a write of TSP_SRCn_LOSS. -/
def tspSrcLossWrite (s : State) (m n v : Nat) : State :=
  let cons := bits v 8 8
  if !isMC m then s.refuseWrite m 8 (0x10C + 0x40 * n)
  else if bits v 30 2 = 3 ∨ ¬ (cons = 0 ∨ (0x20 ≤ cons ∧ cons ≤ 0xDF)) then s.put (TSP_SRC_STAT_CFG_IGN n) 1
  else s.putWord [(TSP_SRC_LOSS_ACTION n, 30), (TSP_SRC_LOSS_COAST_US n, 16), (TSP_SRC_LOSS_LOSS_CONS n, 8),
    (TSP_SRC_LOSS_CMD_DSP_EN n, 7), (TSP_SRC_LOSS_CMD_DSP n, 5)] v

/-- R59: a write of TSP_SRCn_OFS, used from the next update. -/
def tspSrcOfsWrite (s : State) (m n v : Nat) : State :=
  if isMC m then s.put (TSP_SRC_OFS_OFS n) v else s.refuseWrite m 8 (0x110 + 0x40 * n)

/-! ### Sensor edges (R58, R60, R61, R63, R756) -/

/-- R63: a level that lasted fewer samples than FILT is counted and otherwise ignored. -/
def filtered (s : State) (n samples : Nat) : Bool := samples < s.get (TSP_SRC_CFG_FILT n)

def countIllegal (s : State) (n : Nat) : State := s.bump (TSP_SRC_STAT_ILLEGAL_CNT n)

/-- Whether Sn is enabled with the kind `k`. -/
def srcIs (s : State) (n k : Nat) : Bool := s.flag (TSP_SRC_CFG_EN n) && srcKind s n == k

/-- R67: what an accepted edge in the given direction does to the interval and the speed estimate. -/
def noteEdge (s : State) (n : Nat) (reverse : Bool) : State :=
  let v := s.src n
  let dt := match v.edgeT with | some e => s.T - e | none => 0
  let mag : Int := if dt = 0 then 0 else ((edgeAngle s n * 65536 / dt : Nat) : Int)
  -- a held or coasting angle keeps its speed (R70, R72)
  let held := srcState s n == srcCOASTING || srcState s n == srcLOST
  let spd := if dt = 0 ∨ held = true then v.speed else satSpeed (if reverse then -mag else mag)
  (s.setSrc n { v with edgeT := some s.T, edgeInt := dt, speed := spd, edges := v.edges + 1 }).put (TSP_SRC_STAT_STANDSTILL n) 0

/-- Table 2.2: an illegal transition or skip; the fourth within `win` counts is a loss. -/
def noteFault (s : State) (n win : Nat) : State :=
  let v := s.src n
  let recent := (v.edges :: v.faultsAt).filter (fun e => v.edges - e < win)
  let s := countIllegal (s.setSrc n { v with faultsAt := recent.take 4 }) n
  if recent.length ≥ 4 then sourceLoss (s.setSrc n { s.src n with faultsAt := [] }) n else s

/-- Table 2.1: the next count of the quadrature, with the direction of the edge after DIRINV. -/
def quadStep (s : State) (n : Nat) (a b : Bool) : Bool :=
  let v := s.src n
  -- one edge of the sequence 00, 10, 11, 01 in which A leads B
  let aLeads := (v.lvlA != a) == (a != b)
  let native := aLeads == Config.quadForward
  !(native != s.flag (TSP_SRC_CFG_DIRINV n))

/-- R58: the levels of A and B after a change that lasted `samples` samples. While Sn is no enabled ENCODER source only the levels
are followed. -/
def encoderEdge (s : State) (n : Nat) (a b : Bool) (samples : Nat) : State :=
  if !srcIs s n kindENCODER then s.setSrc n { s.src n with lvlA := a, lvlB := b }
  else if filtered s n samples then countIllegal s n
  else
    let v := s.src n
    let both := v.lvlA != a && v.lvlB != b
    let none := v.lvlA == a && v.lvlB == b
    if none then s
    else if both then noteFault (s.setSrc n { v with lvlA := a, lvlB := b }) n 1024
    else
      let reverse := quadStep s n a b
      let m := 4 * encLines s n
      let c := if reverse then (v.count + m - 1) % m else (v.count + 1) % m
      let s := noteEdge s n reverse
      let own := ownStep s n (wrap 32 (encAngle s n c + s.get (TSP_SRC_OFS_OFS n)))
      let s := s.setSrc n { s.src n with count := c, lvlA := a, lvlB := b }
      updateSource s n own (s.src n).speed

def tspEncoderEdge (s : State) (n : Nat) (a b : Bool) (samples : Nat) : State :=
  withJumps s (fun s => encoderEdge s n a b samples)

/-- R60: a Z edge. -/
def encoderZ (s : State) (n samples : Nat) : State :=
  if !srcIs s n kindENCODER then s
  else if filtered s n samples then countIllegal s n
  else
    let v := s.src n
    if !v.zSeen then
      let s := s.setSrc n { v with count := 0, zSeen := true, edgeT := some (v.edgeT.getD s.T) }
      if acquiring s n then acquireSource s n (s.get (TSP_SRC_OFS_OFS n)) v.speed else s
    else
      let m := 4 * encLines s n
      if 2 < v.count ∧ 2 < m - v.count then s.bump (TSP_SRC_STAT_ZERR_CNT n) else s

def tspEncoderZ (s : State) (n samples : Nat) : State := withJumps s (fun s => encoderZ s n samples)

/-- The sector of a Hall code in the sensor's native order. -/
def hallNative (code : Nat) : Nat := Config.hallSector code % 6

/-- R55, R756: a native sector of Sn after DIRINV. -/
def hallDir (s : State) (n k : Nat) : Nat := if s.flag (TSP_SRC_CFG_DIRINV n) then 5 - k else k

/-- R756: the sector that an accepted code names, after DIRINV. -/
def hallSectorOf (s : State) (n code : Nat) : Nat := hallDir s n (hallNative code)

/-- R756: an accepted change from sector `old` to `new`: the update boundary, whether it is reverse, and whether it is a
skip; no boundary when the direction cannot be told. -/
def hallMove (old new : Nat) : Option (Nat × Bool) × Bool :=
  let d := (new + 6 - old) % 6
  if d = 1 then (some (new, false), false)
  else if d = 5 then (some (old, true), false)
  else if d = 2 then (some (new, false), true)
  else if d = 4 then (some ((new + 1) % 6, true), true)
  else (none, true)

/-- R756, Table 2.2: an accepted Hall code. While Sn is no enabled HALL source only the code is followed. -/
def hallCode (s : State) (n code samples : Nat) : State :=
  if !srcIs s n kindHALL then
    if code % 8 = 0 ∨ code % 8 = 7 then s else s.setSrc n { s.src n with sector := some (hallNative code) }
  else if filtered s n samples then countIllegal s n
  else if code % 8 = 0 ∨ code % 8 = 7 then sourceLoss s n
  else
    let new := hallSectorOf s n code
    match (s.src n).sector with
    | none => s.setSrc n { s.src n with sector := some (hallNative code) }
    | some k =>
      let old := hallDir s n k
      if old = new then s
      else
        let s := s.setSrc n { s.src n with sector := some (hallNative code) }
        match hallMove old new with
        | (none, _) => noteFault s n 64
        | (some (b, reverse), skip) =>
          let s := noteEdge s n reverse
          let s := s.setSrc n { s.src n with bound := b }
          let ang := wrap 32 (b * hallStep + s.get (TSP_SRC_OFS_OFS n))
          let s :=
            if acquiring s n then acquireSource s n ang (s.src n).speed
            else updateSource s n (ownStep s n ang) (s.src n).speed
          if skip then noteFault s n 64 else s

def tspHallCode (s : State) (n code samples : Nat) : State := withJumps s (fun s => hallCode s n code samples)

/-- R61: keeps the sign of the last non-zero SPEED of a WHEEL source's reference. -/
def noteRefSign (s : State) (n : Nat) : State :=
  if srcIs s n kindWHEEL && s.flag (TSP_SRC_CFG_REF_EN n) then
    let r := liveSpeed s (s.get (TSP_SRC_CFG_PARENT n)) s.T
    if r = 0 then s else s.setSrc n { s.src n with lastNeg := decide (r < 0) }
  else s

/-- R61: an accepted pulse on WPULSE. -/
def wheelPulse (s : State) (n samples : Nat) : State :=
  if !srcIs s n kindWHEEL then s
  else if filtered s n samples then countIllegal s n
  else
    let s := noteRefSign s n
    let reverse := s.flag (TSP_SRC_CFG_REF_EN n) && (s.src n).lastNeg
    let reverse := reverse != s.flag (TSP_SRC_CFG_DIRINV n)
    let s := noteEdge s n reverse
    let v := s.src n
    let (d, r) := wheelStep (wheelPPR s n) v.rem reverse
    let ofs := s.get (TSP_SRC_OFS_OFS n)
    let dOfs := angDiff ofs v.ofsApplied
    let step : Int := (if reverse then -(d : Int) else (d : Int)) + dOfs
    let own := addW 64 (if srcState s n == srcACQUIRING then v.pos else v.ownPos) step
    let s := s.setSrc n { v with rem := r, ofsApplied := ofs }
    if srcState s n == srcACQUIRING then
      let s := s.setSrc n { s.src n with pos := own, ownPos := own, updT := s.T, baseT := s.T, ownOfs := 0, ownLost := false }
      propagate 8 ((s.put (TSP_SRC_STAT_STATE n) srcTRACKING).put (TSP_SRC_STAT_OWN_OK n) 1) n
    else if acquiring s n then
      propagate 8 ((s.setSrc n { s.src n with ownPos := own, ownAcq := false, ownLost := false }).put (TSP_SRC_STAT_OWN_OK n) 1) n
    else updateSource s n own v.speed

def tspWheelPulse (s : State) (n samples : Nat) : State := withJumps s (fun s => wheelPulse s n samples)

/-! ### Timeouts -/

/-- R70: the end of COASTING. -/
def tspCoastTimeout (s : State) (n : Nat) : State :=
  if srcState s n == srcCOASTING && (s.src n).coastEnd ≤ s.T then
    withJumps s (fun s => cascade 8 (raiseLoss (toLost s n) n) n)
  else s

/-- R67: the standstill timeout. -/
def tspStandstill (s : State) (n : Nat) : State := s.when (standstillDue s n) (fun s => s.put (TSP_SRC_STAT_STANDSTILL n) 1)

/-! ### Commands (R73–R76, R105, R758) -/

def cfgIgn (s : State) (n : Nat) : State := s.put (TSP_SRC_STAT_CFG_IGN n) 1

/-- R758: RESYNC. -/
def resyncCmd (s : State) (n : Nat) : State :=
  let st := srcState s n
  if st == srcLOST || st == srcCOASTING then
    -- a COASTING angle is held from here on; a LOST one is already held
    let s := s.when (st == srcCOASTING) (fun s => (freeze s n).setSrc n { (freeze s n).src n with lostSpeed := (s.src n).speed })
    let s := (s.put (TSP_SRC_STAT_STATE n) srcACQUIRING).put (TSP_SRC_STAT_STANDSTILL n) 0
    let s := cascade 8 (startAcquire s n) n
    if srcKind s n = kindDERIVED then propagate 8 (derivedUpdate s n) n else s
  else if st == srcFOLLOWING && !s.flag (TSP_SRC_STAT_OWN_OK n) then
    let s := startAcquire s n
    let s := s.setSrc n { s.src n with ownAcq := true }
    if srcKind s n = kindDERIVED then propagate 8 (derivedUpdate s n) n else s
  else cfgIgn s n

/-- R74, R76, R758: SWITCH. -/
def switchCmd (s : State) (n : Nat) : State :=
  let st := srcState s n
  let f := s.get (TSP_SRC_CFG_FALLBACK n)
  if (st == srcTRACKING || st == srcCOASTING || st == srcLOST) && s.flag (TSP_SRC_CFG_FB_EN n) && (s.src n).pend == .none && switchOk s n f then
    s.setSrc n { s.src n with pend := .toFallback f (s.flag (TSP_SRC_CFG_BUMPLESS n)) false }
  else cfgIgn s n

/-- R75, R758: SWBACK. -/
def swbackCmd (s : State) (n : Nat) : State :=
  match (s.src n).pend with
  | .toFallback _ _ _ => s.setSrc n { s.src n with pend := .none }
  | _ =>
    if srcState s n == srcFOLLOWING && s.flag (TSP_SRC_STAT_OWN_OK n) then s.setSrc n { s.src n with pend := .back }
    else cfgIgn s n

/-- R73: who may write TSP_SRCn_CMD and clear the W1C bits of TSP_SRCn_STAT. -/
def srcCommander (s : State) (m n : Nat) : Bool :=
  isMC m || (s.flag (TSP_SRC_LOSS_CMD_DSP_EN n) && m == reqCD (s.get (TSP_SRC_LOSS_CMD_DSP n)))

/-- R73, R105, R758: a write of TSP_SRCn_CMD. -/
def tspSrcCmdWrite (s : State) (m n v : Nat) : State :=
  if !srcCommander s m n then s.refuseWrite m 8 (0x114 + 0x40 * n)
  else
    let c := bits v 0 3
    if c = 1 then withJumps s (fun s => resyncCmd s n)
    else if c = 2 then switchCmd s n
    else if c = 4 then swbackCmd s n
    else if c = 0 then s
    else cfgIgn s n

/-! ### Compare units (R78–R94, R757) -/

/-- R79: a CLAIM; one of a reserved unit is refused whoever makes it (R78). -/
def claimUnit (s : State) (m u : Nat) : State :=
  let o := s.get (TSP_CMP_OWN_OWNER u)
  if 120 ≤ u then tspConflict s m o u
  else if o = 0 then s.put (TSP_CMP_OWN_OWNER u) m
  else if o = m then s
  else tspConflict s m o u

/-- R79: whether `m` writes a unit as its owner; units 120–127 take no write over the fabric (R78). -/
def ownsUnit (s : State) (m u : Nat) : Bool := u < 120 && s.get (TSP_CMP_OWN_OWNER u) == m

/-- R79: a discarded write of a master that does not own the unit. -/
def discardUnitWrite (s : State) : State := s.bump TSP_CONFLICT_CNT_COUNT

/-- R79: a RELEASE. -/
def releaseUnit (s : State) (m u : Nat) : State :=
  if ownsUnit s m u then (disarmUnit s u).put (TSP_CMP_OWN_OWNER u) 0 else discardUnitWrite s

/-- R79, R106: a write of TSP_CMPn_OWN. DESIGN CHOICE: CLAIM with RELEASE counts nothing, whoever writes it (log entry 198). -/
def tspCmpOwnWrite (s : State) (m u v : Nat) : State :=
  if !tspWriter m then s.refuseWrite m 8 (0x1000 + 0x20 * u)
  else if bit v 31 && bit v 30 then s
  else if bit v 31 then claimUnit s m u
  else if bit v 30 then releaseUnit s m u
  else if ownsUnit s m u then s
  else discardUnitWrite s

/-- Table 2.5: whether the arming master may bind the consumer code. -/
def mayBind (s : State) (m u c : Nat) : Bool :=
  if c = 0 then true
  else if 0x10 ≤ c ∧ c ≤ 0x13 then
    isMC m || (s.flag (PWM_BIND_BOUND (c - 0x10)) && m == reqCD (s.get (PWM_BIND_DSP (c - 0x10))))
  else if 0x18 ≤ c ∧ c ≤ 0x1F then isMC m || m == reqCD (s.get (ADC_UNIT_CFG_DSP (c - 0x18)))
  else if 0x20 ≤ c ∧ c ≤ 0x9F then isMC m || m == reqCD ((c - 0x20) / 32)
  else if 0xA0 ≤ c ∧ c ≤ 0xDF then isMC m || isPT m
  else if 0xE0 ≤ c ∧ c ≤ 0xE8 then isMC m
  else if c = 0xF0 then 124 ≤ u
  else if c = 0xF1 then 120 ≤ u ∧ u < 124
  else false

/-- R92, R57, R97: the settings with which an ARM is refused. -/
def armRefused (s : State) (m u : Nat) : Bool :=
  let src := s.get (TSP_CMP_CFG_SRC u)
  let dir := s.get (TSP_CMP_CFG_DIR u)
  let mode := s.get (TSP_CMP_CFG_MODE u)
  mode ≥ 2 || src > 8 || (src < 8 && (dir == 3 || (mode == 1 && dir == 2) || srcState s src == srcOFF)) ||
    (mode == 1 && s.get (TSP_CMP_STEP_STEP u) == 0) || !mayBind s m u (s.get (TSP_CMP_CFG_CONS u))

/-- R81, R83, R87: takes the snapshot and arms the unit. -/
def armNow (s : State) (u : Nat) : State :=
  let src := s.get (TSP_CMP_CFG_SRC u)
  let dir := s.get (TSP_CMP_CFG_DIR u)
  let lead := s.get (TSP_CMP_CFG_LEAD u)
  let tgt := if src = 8 then (s.cmp u).committed else s.get (TSP_CMP_TGT_LO_TGT_LO u)
  let pos := livePos s src s.T
  let atTgt := src != 8 && wrap 32 pos == tgt
  let late :=
    if src = 8 then tgt - lead ≤ s.T
    else lead != 0 && !srcHolds s src && leadMet dir lead pos (liveSpeed s src s.T) tgt atTgt pos
  let a : Arming := { src := src, dir := dir, periodic := s.get (TSP_CMP_CFG_MODE u) == 1, cons := s.get (TSP_CMP_CFG_CONS u), lead := lead, tgt := tgt, step := s.get (TSP_CMP_STEP_STEP u), armT := s.T, atTgt := atTgt, armPos := pos }
  (s.setCmp u { s.cmp u with arm := some a, jumpT := none, moveT := none, lateT := if late then some s.T else none, firedT := none, tgtWritten := false }).put (TSP_CMP_STAT_ARMED u) 1

/-- R94: a cancel in the nanosecond in which the unit would fire: it is due now, or by what the nanosecond still brings. -/
def cancelIfDue (s : State) (u : Nat) : State :=
  match (s.cmp u).arm with
  | none => s
  | some a =>
    if unitDue s u && !(a.src < 8 && srcHolds s a.src) then s.bump (TSP_CMP_STAT_CANCELLED_BEFORE_START u)
    else s.setCmp u { s.cmp u with dropped := some (s.T, a) }

/-- An ARM made by the owner `m`, or by a domain through its arming port (R78). -/
def armUnit (s : State) (m u : Nat) : State :=
  if armRefused s m u then s.put (TSP_CMP_STAT_CFG_ERR u) 1 else armNow (cancelIfDue s u) u

/-- A DISARM made by the owner or through an arming port. -/
def disarmCmd (s : State) (u : Nat) : State := disarmUnit (cancelIfDue s u) u

/-- R79, R108: a write of TSP_CMPn_CTRL. -/
def tspCmpCtrlWrite (s : State) (m u v : Nat) : State :=
  if !tspWriter m then s.refuseWrite m 8 (0x1014 + 0x20 * u)
  else if !ownsUnit s m u then discardUnitWrite s
  else if bit v 1 then disarmCmd s u
  else if bit v 0 then armUnit s m u
  else s

/-- R81, R107: the owner's write of a target word; the low word commits the target of a unit on T. -/
def writeTarget (s : State) (u : Nat) (high : Bool) (v : Nat) : State :=
  let s := if high then s.put (TSP_CMP_TGT_HI_TGT_HI u) v else s.put (TSP_CMP_TGT_LO_TGT_LO u) v
  let c := s.cmp u
  if high then s.setCmp u { c with tgtWritten := true }
  else s.setCmp u { c with tgtWritten := true, committed := wrap 32 v + s.get (TSP_CMP_TGT_HI_TGT_HI u) * 2 ^ 32 }

/-- R79: the owner's writes of the unit's other registers, by offset in the unit. -/
def tspCmpRegWrite (s : State) (m u off v : Nat) : State :=
  if !tspWriter m then s.refuseWrite m 8 (0x1000 + 0x20 * u + off)
  else if !ownsUnit s m u then discardUnitWrite s
  else if off = 0x04 then
    s.putWord [(TSP_CMP_CFG_SRC u, 28), (TSP_CMP_CFG_DIR u, 26), (TSP_CMP_CFG_MODE u, 24), (TSP_CMP_CFG_CONS u, 16), (TSP_CMP_CFG_LEAD u, 0)] v
  else if off = 0x08 then writeTarget s u false v
  else if off = 0x0C then writeTarget s u true v
  else if off = 0x10 then s.put (TSP_CMP_STEP_STEP u) v
  else if off = 0x18 then
    [(TSP_CMP_STAT_FIRED u, 30), (TSP_CMP_STAT_LATE u, 29), (TSP_CMP_STAT_JUMPED u, 28), (TSP_CMP_STAT_HELD u, 27), (TSP_CMP_STAT_CFG_ERR u, 26)].foldl
      (fun s e => if bit v e.2 then s.put e.1 0 else s) s
  else s

/-! ### Reads -/

/-- The shadow numbers of the block's registers are their addresses. -/
def srcShadow (n k : Nat) : Nat := blockBase 8 0 + 0x120 + 0x40 * n + 4 * k

/-- R99: a read of TSP_SRCn_ANG latches TURN, SPEED and UPD_T of the same nanosecond. -/
def tspAngRead (s : State) (m n : Nat) : State :=
  if !tspReader m then s.refuseRead m 8 (0x120 + 0x40 * n)
  else
    let s := s.latch m (srcShadow n 1) (livePos s n s.T / 2 ^ 32)
    let s := s.latch m (srcShadow n 2) (unsigned 32 (liveSpeed s n s.T))
    let s := s.latch m (srcShadow n 3) (wrap 32 (s.src n).updT)
    s.answer (liveAng s n s.T)

/-- Table 2.8: the oldest conflict entry as a register word; 0 when the log is empty. -/
def conflictWord : List Conflict → Nat
  | [] => 0
  | c :: _ => 0x80000000 + c.claimant * 65536 + c.holder * 256 + c.resource

/-- R103: a read of TSP_CONFLICT_INFO returns the oldest entry and removes it. -/
def tspConflictRead (s : State) (m : Nat) : State :=
  if !tspReader m then s.refuseRead m 8 0x10
  else ({ s with tsp := { s.tsp with log := s.tsp.log.drop 1 } } : State).answer (conflictWord s.tsp.log)

/-- The values of the TSP block that are computed when they are read (R54, R67, R103, Table 2.7). -/
def liveTsp (s : State) (k : FKey) : Option Nat :=
  if k = TSP_T_LO_T.key then some (wrap 32 s.T)
  else if k = TSP_T_HI_T.key then some (wrap 32 (s.T / 2 ^ 32))
  else if k = TSP_SRC_SUM_TRACKING.key then
    some ((List.range 8).foldl (fun a n => if srcState s n == srcTRACKING || srcState s n == srcFOLLOWING then setBit a n else a) 0)
  else if k = TSP_SRC_SUM_LOST.key then
    some ((List.range 8).foldl (fun a n => if srcState s n == srcLOST || srcState s n == srcCOASTING then setBit a n else a) 0)
  else if k = (TSP_SRC_STAT_REVERSE k.i).key then some (b2n (liveSpeed s k.i s.T < 0))
  else if k = (TSP_SRC_ANG_ANG k.i).key then some (liveAng s k.i s.T)
  else if k = (TSP_SRC_TURN_TURN k.i).key then some (livePos s k.i s.T / 2 ^ 32)
  else if k = (TSP_SRC_SPEED_SPEED k.i).key then some (unsigned 32 (liveSpeed s k.i s.T))
  else if k = (TSP_SRC_UPD_T_UPD_T k.i).key then some (wrap 32 (s.src k.i).updT)
  else if k = TSP_CONFLICT_INFO_VALID.key then some (b2n (!s.tsp.log.isEmpty))
  else if k = TSP_CONFLICT_INFO_CLAIMANT.key then some (bits (conflictWord s.tsp.log) 16 8)
  else if k = TSP_CONFLICT_INFO_HOLDER.key then some (bits (conflictWord s.tsp.log) 8 8)
  else if k = TSP_CONFLICT_INFO_RESOURCE.key then some (bits (conflictWord s.tsp.log) 0 8)
  else none

/-! ### Time -/

/-- R49: one nanosecond; every source extrapolates (its angle is a function of T), and a WHEEL source keeps its reference's
sign (R61). T stands still from parking or loss of power to the release of PORn (R42); the satellites' time does not (R390). -/
def nsTick (s : State) : State :=
  let s := { s with val := { s.val with now := s.val.now + 1 } }
  if s.aon.off then s else (List.range 8).foldl noteRefSign ({ s with T := wrap 64 (s.T + 1) } : State)

end Sys2Proof.Machine
end

