-- ==== Sys2Proof/Machine/Pwm.lean ====
section
/-! DEFINITION. The power channels (06_power_channels.md): states, carrier, legs and output balls, shadow sets and transfers,
the trip latch, DSP loss, and the commands on them. -/
namespace Sys2Proof.Machine
open Sys2Proof.Reg

/-- R755: a party that acts as the manager in a block that the manager also writes through BAR0. -/
def isManager (m : Nat) : Bool := isMC m || m == reqHost 0

/-! ### Steps and cycles (R232) -/

/-- The step of 1/9.6 GHz in progress at T. -/
def stepAt (t : Nat) : Nat := t * 48 / 5

/-- The PWM clock cycle in progress at T. -/
def pwmCycle (t : Nat) : Nat := t * 3 / 5

/-- R245, R250: 30 ns after `t`, rounded to the nearest step. -/
def effectiveStep (t : Nat) : Nat := ((t + 30) * 96 + 5) / 10

/-! ### Channel states (Table 6.6) -/

def chUNBOUND : Nat := 0
def chSTO : Nat := 1
def chTRIPPED : Nat := 2
def chDSPLOSS : Nat := 3
def chSTOPPED : Nat := 4
def chRUNNING : Nat := 5

def roleTRACTION : Nat := 1
def roleMACHINE : Nat := 2
def roleGRID : Nat := 3
def roleDCDC : Nat := 4

/-- R249: STAT.STATE, by the first row of Table 6.6 that applies. -/
def chState (s : State) (n : Nat) : Nat :=
  if !s.flag (PWM_BIND_BOUND n) then chUNBOUND
  else if !s.flag (PWM_CH_STAT_STO_PERMIT n) then chSTO
  else if s.flag (PWM_CH_TRIP_LATCHED n) then chTRIPPED
  else if (s.chan n).dsploss then chDSPLOSS
  else if (s.chan n).running then chRUNNING
  else chSTOPPED

/-! ### Legs and output balls (R234–R238, R254) -/

/-- The leg modes of a mode word, U first. -/
def modeOf (s : State) (n j : Nat) (active : Bool) : Nat :=
  if active then
    s.get (if j = 0 then PWM_CH_ACT_MODE_U n else if j = 1 then PWM_CH_ACT_MODE_V n else if j = 2 then PWM_CH_ACT_MODE_W n else PWM_CH_ACT_MODE_X n)
  else
    s.get (if j = 0 then PWM_CH_SH_MODE_U n else if j = 1 then PWM_CH_SH_MODE_V n else if j = 2 then PWM_CH_SH_MODE_W n else PWM_CH_SH_MODE_X n)

/-- R234: a leg's command at position `pos`. -/
def legCommand (rise fall pos : Nat) : Bool :=
  if rise ≤ fall then rise ≤ pos && pos < fall else rise ≤ pos || pos < fall

/-- POS of a running channel in steps, before its wrap is taken; none before POS 0 (R233, R250). -/
def rawPos (s : State) (n : Nat) : Option Nat :=
  let c := s.chan n
  if chState s n = chRUNNING ∧ c.pos0 ≤ stepAt s.T then some (stepAt s.T - c.pos0) else none

/-- R235–R237: the outputs (high, low) of a leg whose command has been `cmd` for `el` steps. -/
def legOutputs (mode : Nat) (cmd : Bool) (el dtr dtf : Nat) : Bool × Bool :=
  if mode = 1 then (cmd && dtr ≤ el, !cmd && dtf ≤ el)
  else if mode = 2 then (cmd, false)
  else if mode = 3 then (false, cmd)
  else (false, false)

/-- Keeps the instants of level changes that a QUIET window can still reach (Table 3.6). -/
def noteBallEdge (s : State) (n : Nat) : State :=
  let c := s.chan n
  s.setChan n { c with edges := s.T :: c.edges.filter (fun e => s.T ≤ e + 4000) }

/-- R268, R269: whether the leg's outputs reach the balls; those of leg X only while the channel holds them. -/
def legAtBall (s : State) (n j : Nat) : Bool := j < 3 || s.get (PWM_PIN_OWN_FUNC (2 * n)) == 1

/-- Sets the two outputs of a leg and notes a change of level at the balls. -/
def setLegOut (s : State) (n j : Nat) (l : Leg) (o : Bool × Bool) : State :=
  let s' := s.setChan n { s.chan n with leg := (s.chan n).leg.set j { l with hi := o.1, lo := o.2 } }
  s'.when ((l.hi != o.1 || l.lo != o.2) && legAtBall s n j) (fun s => noteBallEdge s n)

/-- Brings one leg's command and outputs to the present T (R234–R237, R249, R254). -/
def refreshLeg (s : State) (n j : Nat) : State :=
  let c := s.chan n
  let l := c.leg.get {} j
  let dtr := s.get (PWM_CH_DT_DTR n)
  let dtf := s.get (PWM_CH_DT_DTF n)
  if chState s n = chDSPLOSS then
    let el := stepAt s.T - c.lossStep
    let act := s.get (PWM_CH_CFG_DSPLOSS n)
    if act = 1 ∧ j < 3 then setLegOut s n j l (false, l.lo || dtf ≤ el)
    else if act = 2 ∧ j < 3 then setLegOut s n j l (l.hi || dtr ≤ el, false)
    else setLegOut s n j l (false, false)
  else
    match rawPos s n with
    | none => setLegOut s n j l (false, false)
    | some pos =>
      let rise := s.get (PWM_CH_ACT_RISE_RISE n j)
      let fall := s.get (PWM_CH_ACT_FALL_FALL n j)
      -- R233: POS reaches PER - 1 and then wraps, so a wrap not yet taken shows the last step of its period
      let pos := if s.get (PWM_CH_ACT_PER_PER n) ≤ pos then s.get (PWM_CH_ACT_PER_PER n) - 1 else pos
      let cmd := legCommand rise fall pos
      -- the step of the last compare at or before POS
      let at0 := if rise = fall then 0 else if rise ≤ pos ∧ fall ≤ rise then rise else if fall ≤ pos ∧ rise ≤ fall then fall else if rise ≤ pos then rise else if fall ≤ pos then fall else 0
      let l := if cmd = l.cmd then l else { l with cmd := cmd, since := c.pos0 + at0 }
      setLegOut s n j l (legOutputs (modeOf s n j true) cmd (stepAt s.T - l.since) dtr dtf)

def refreshLegs (s : State) (n : Nat) : State := (List.range 4).foldl (fun s j => refreshLeg s n j) s

/-- The level of ball `b` of channel n, in the order UH, UL, VH, VL, WH, WL, XH, XL (R238, R268, R269). -/
def ballLevel (s : State) (n b : Nat) : Bool :=
  let l := (s.chan n).leg.get {} (b / 2)
  let out := if b % 2 = 0 then l.hi else l.lo
  if b < 6 then out
  else
    let k := 2 * n + (b - 6)
    let f := s.get (PWM_PIN_OWN_FUNC k)
    if f = 2 then s.flag (PWM_PIN_OWN_LEVEL k) else f == 1 && out

/-! ### Ending RUN (R251–R255) -/

/-- R308: the channel has left RUNNING, which ends a scan on it. -/
def ivsLeave (s : State) (n : Nat) : State :=
  if s.get GRD_CFG_IVS_PC = n ∧ s.get GRD_IVS_STAT_STATE = 1 then
    ({ s with ivs := { s.ivs with waitXfer := false } } : State).put GRD_IVS_STAT_STATE 3
  else s

/-- RUN ends: events are forgotten (R247), a scan ends (R308). -/
def endRun (s : State) (n : Nat) (loss : Bool) : State :=
  let was := (s.chan n).running
  let s := s.setChan n { s.chan n with running := false, dsploss := loss, evs := [], stale := 0 }
  s.when was (fun s => ivsLeave s n)

/-- R253, R254: a RUNNING channel declares DSP loss. -/
def dspLoss (s : State) (n : Nat) : State :=
  if chState s n = chRUNNING then
    let s := s.setChan n { s.chan n with lossStep := stepAt s.T }
    (refreshLegs (endRun s n true) n).irq .pwm
  else s

/-- R253: the DSP `d` has left RUNNING. -/
def dspStopped (s : State) (d : Nat) : State :=
  (List.range 4).foldl (fun s n => if s.flag (PWM_BIND_BOUND n) && s.get (PWM_BIND_DSP n) == d then dspLoss s n else s) s

/-! ### The sets (R240, R242) -/

/-- The shadow set as it stands. -/
def shadowSet (s : State) (n : Nat) : ShSet :=
  { per := s.get (PWM_CH_SH_PER_PER n)
    mode := (List.range 4).map (fun j => modeOf s n j false)
    rise := (List.range 4).map (fun j => s.get (PWM_CH_SH_RISE_RISE n j))
    fall := (List.range 4).map (fun j => s.get (PWM_CH_SH_FALL_FALL n j)) }

/-- Writes a set into the shadow registers. -/
def putShadow (s : State) (n : Nat) (v : ShSet) : State :=
  s.puts ([(PWM_CH_SH_PER_PER n, v.per), (PWM_CH_SH_MODE_U n, v.mode.getD 0 0), (PWM_CH_SH_MODE_V n, v.mode.getD 1 0),
      (PWM_CH_SH_MODE_W n, v.mode.getD 2 0), (PWM_CH_SH_MODE_X n, v.mode.getD 3 0)] ++
    (List.range 4).map (fun j => (PWM_CH_SH_RISE_RISE n j, v.rise.getD j 0)) ++
    (List.range 4).map (fun j => (PWM_CH_SH_FALL_FALL n j, v.fall.getD j 0)))

/-- Writes a set into the active registers. -/
def putActive (s : State) (n : Nat) (v : ShSet) : State :=
  s.puts ([(PWM_CH_ACT_PER_PER n, v.per), (PWM_CH_ACT_MODE_U n, v.mode.getD 0 0), (PWM_CH_ACT_MODE_V n, v.mode.getD 1 0),
      (PWM_CH_ACT_MODE_W n, v.mode.getD 2 0), (PWM_CH_ACT_MODE_X n, v.mode.getD 3 0)] ++
    (List.range 4).map (fun j => (PWM_CH_ACT_RISE_RISE n j, v.rise.getD j 0)) ++
    (List.range 4).map (fun j => (PWM_CH_ACT_FALL_FALL n j, v.fall.getD j 0)))

/-- The active set as it stands. -/
def activeSet (s : State) (n : Nat) : ShSet :=
  { per := s.get (PWM_CH_ACT_PER_PER n)
    mode := (List.range 4).map (fun j => modeOf s n j true)
    rise := (List.range 4).map (fun j => s.get (PWM_CH_ACT_RISE_RISE n j))
    fall := (List.range 4).map (fun j => s.get (PWM_CH_ACT_FALL_FALL n j)) }

/-- Chapter 6, Edges: a trip outranks a RUN of the same PWM clock cycle, which it refuses: the active set is the one before
the RUN, and a shadow set untouched since is VALID still (DEDUCED, log entry 208). -/
def unrun (s : State) (n : Nat) : State :=
  match (s.chan n).ranFrom with
  | none => s
  | some (cyc, v) =>
    if cyc = pwmCycle s.T ∧ (s.chan n).running then
      let s := if (s.chan n).hist.isEmpty then s.put (PWM_CH_STAT_VALID n) 1 else s
      ((putActive s n v).setChan n { s.chan n with ranFrom := none }).put (PWM_CH_STAT_RUN_REFUSED n) 1
    else s

/-! ### The trip latch (R256–R261) -/

/-- R140, R141: whether comparator m presents a trip request. -/
def refSettled (s : State) : Bool :=
  s.flag ADC_REF_CTRL_EN && !s.adc.deviating &&
    (s.flag ADC_REF_STAT_SETTLED || (match s.adc.settleAt with | some t => t ≤ s.T | none => false))

def cmpPresents (s : State) (m : Nat) : Bool :=
  s.adc.req.get 0 (2 * m) == 1 || s.adc.req.get 0 (2 * m + 1) == 1 ||
    (!refSettled s && (s.flag (ADC_CMP_CFG_EN_HI m) || s.flag (ADC_CMP_CFG_EN_LO m)))

/-- Table 6.7, bit 5. -/
def cmpTrips (s : State) (n : Nat) : Bool :=
  (List.range 64).any (fun m => bit (s.get (ADC_CMP_CFG_TRIP m)) n && cmpPresents s m)

/-- Table 6.7: the live sources of channel n; `force` while a FORCE_TRIP write acts. -/
def tripLive (s : State) (n : Nat) (force : Bool) : Nat :=
  (s.chan n).pins % 32 + 32 * b2n (cmpTrips s n) + 64 * b2n force +
    128 * b2n (s.get (PWM_BIND_ROLE n) == roleGRID && s.flag (PWM_BIND_BOUND n) && s.flag GRD_STAT_CEASE)

/-- Table 6.7: the sources that the binding masks. -/
def tripMask (s : State) (n : Nat) : Nat := s.get (PWM_BIND_MTRIP n) + 2 * s.get (PWM_BIND_MDESAT n)

/-- The lowest set bit among bits 0–7, plus one; 0 for none. -/
def firstBit (v : Nat) : Nat := match (List.range 8).find? (bit v) with | some k => k + 1 | none => 0

/-- R258: sets the trip latch when an unmasked source is asserted and records every such source. -/
def tripScan (s : State) (n : Nat) (force : Bool) : State :=
  let new := bitsMinus 8 (tripLive s n force) (tripMask s n)
  if new = 0 then s
  else
    let old := s.get (PWM_CH_TRIP_SRC n)
    let s :=
      if old = 0 then
        (s.puts [(PWM_CH_TRIP_FIRST n, firstBit new), (PWM_CH_TRIP_T_T n, wrap 32 s.T)]).setChan n { s.chan n with firstT := s.T }
      else if (s.chan n).firstT / 4 = s.T / 4 ∧ firstBit new < s.get (PWM_CH_TRIP_FIRST n) then s.put (PWM_CH_TRIP_FIRST n) (firstBit new)
      else s
    let s := s.put (PWM_CH_TRIP_SRC n) (bitsMinus 8 old new + new)
    if s.flag (PWM_CH_TRIP_LATCHED n) then s
    else
      let s := ((unrun s n).put (PWM_CH_TRIP_LATCHED n) 1).bump (PWM_CH_CNT_TRIP_CNT n)
      let s := refreshLegs (endRun s n false) n
      let s := s.when (s.flag (PWM_BIND_BOUND n)) (fun s => dspVector s (s.get (PWM_BIND_DSP n)) 12)
      s.irq .pwm

/-- The channels after a change of the comparators, of REFBUF or of the grid monitor. -/
def tripScanAll (s : State) : State := (List.range 4).foldl (fun s n => tripScan s n false) s

/-- ADC_CMP_STAT: a comparator's bit is set in every nanosecond in which it presents a request. -/
def noteCmpStat (s : State) : State :=
  (List.range 64).foldl (fun s m =>
    if cmpPresents s m then
      let f := ADC_CMP_STAT_M (m / 32)
      s.put f (setBit (s.get f) (m % 32))
    else s) s

/-- What follows a change of any comparator's request (R140, R141, R257). -/
def cmpChanged (s : State) : State := tripScanAll (noteCmpStat s)

/-- R257, R259: a TRIPn or DESATn ball goes low (`k` 0 TRIPn, 1–4 DESATn of legs U, V, W, X) for a pulse that the input lets
through (DEDUCED, log entry 207). -/
def hardTrip (s : State) (n k : Nat) : State :=
  tripScan (s.setChan n { s.chan n with pins := setBit (s.chan n).pins k }) n false

/-- The ball returns high: its bit leaves TRIP.LIVE. -/
def tripRelease (s : State) (n k : Nat) : State :=
  s.setChan n { s.chan n with pins := clrBit (s.chan n).pins k }

/-- R264: the safety pair gives or withdraws the permit of channel n. -/
def setPermit (s : State) (n : Nat) (on : Bool) : State :=
  let was := s.flag (PWM_CH_STAT_STO_PERMIT n)
  let s := s.put (PWM_CH_STAT_STO_PERMIT n) (b2n on)
  if was && !on then refreshLegs (endRun s n false) n else s

/-! ### Shadow set, COMMIT and transfer (R240–R248) -/

/-- R243: keeps the set and VALID as they stood before the first change in this PWM clock cycle; a transfer is taken in the
nanosecond of its step or the next, so the cycles of the last two hold all that it needs. -/
def beforeShadow (s : State) (n : Nat) : State :=
  let c := s.chan n
  let now := pwmCycle s.T
  if c.hist.any (fun e => e.1 == now) then s
  else s.setChan n { c with hist := (now, shadowSet s n, s.flag (PWM_CH_STAT_VALID n)) :: c.hist.filter (fun e => now ≤ e.1 + 2) }

/-- R241: the sets that a COMMIT refuses. -/
def commitRefused (s : State) (n : Nat) : Bool :=
  let v := shadowSet s n
  v.per < 48000 || v.mode.any (fun k => k ≥ 4) || (v.mode.getD 3 0 != 0 && !s.flag (PWM_CH_STAT_X_HELD n))

/-- R241: a COMMIT of the shadow set. -/
def commitSet (s : State) (n : Nat) : State :=
  let s := beforeShadow s n
  if commitRefused s n then s.puts [(PWM_CH_STAT_VALID n, 0), (PWM_CH_STAT_CFG_ERR n, 1)] else s.put (PWM_CH_STAT_VALID n) 1

/-- R305: a transfer in PWM clock cycle `cyc` that takes the set of a waiting scan step, committed in an earlier cycle, begins
its dwell. -/
def ivsTransfer (s : State) (n cyc : Nat) : State :=
  if s.get GRD_CFG_IVS_PC = n ∧ s.ivs.waitXfer ∧ s.ivs.stepCyc < cyc then { s with ivs := { s.ivs with waitXfer := false, dwell := s.T } }
  else s

/-- R243: the set and VALID at the end of the PWM clock cycle before `cyc`, where they have been written since. -/
def setBefore (c : Chan) (cyc : Nat) : Option (Nat × ShSet × Bool) := (c.hist.filter (fun e => cyc ≤ e.1)).getLast?

/-- R242, R243, R248: a transfer in PWM clock cycle `cyc`. -/
def transfer (s : State) (n cyc : Nat) : State :=
  let c := s.chan n
  let old := setBefore c cyc
  let (v, valid) := match old with
    | some (_, v, valid) => (v, valid)
    | none => (shadowSet s n, s.flag (PWM_CH_STAT_VALID n))
  let s := match old with
    | some (k, _, _) => s.setChan n { c with hist := c.hist.map (fun (e : Nat × ShSet × Bool) => if e.1 = k then (e.1, e.2.1, false) else e) }
    | none => s.put (PWM_CH_STAT_VALID n) 0
  if valid then
    let s := s.setChan n { s.chan n with stale := 0 }
    ivsTransfer (putActive s n v) n cyc
  else (s.setChan n { s.chan n with stale := (s.chan n).stale + 1 }).bump (PWM_CH_CNT_XFER_STALE n)

/-- R248: a period start without a transfer. -/
def staleStart (s : State) (n : Nat) : State := s.setChan n { s.chan n with stale := (s.chan n).stale + 1 }

/-- R233, Table 6.4: POS has reached PER: a period start. -/
def periodWrap (s : State) (n : Nat) : State :=
  match rawPos s n with
  | none => s
  | some pos =>
    let per := s.get (PWM_CH_ACT_PER_PER n)
    if pos < per then s
    else
      let c := s.chan n
      let at0 := c.pos0 + per
      let s := refreshLegs s n
      let s := s.setChan n { s.chan n with pos0 := at0 }
      let x := s.get (PWM_CH_CFG_XFER n)
      let due := c.evs.filter (fun e => e ≤ at0)
      let s :=
        if x = 0 then transfer s n (at0 / 16)
        else if x = 1 ∧ due ≠ [] then transfer (s.setChan n { s.chan n with evs := c.evs.filter (fun e => at0 < e) }) n (at0 / 16)
        else staleStart s n
      refreshLegs s n

/-- R246: whether an event effective at step `e` merges with one effective at `k`: in one PWM clock cycle, or, in EVENT_NEXT,
waiting for the same wrap (`wrapAt` is the next one). -/
def merges (next : Bool) (wrapAt e k : Nat) : Bool := k / 16 == e / 16 || (next && (k ≤ wrapAt) == (e ≤ wrapAt))

/-- R245–R247: a shadow-transfer event for channel n fired at the present T. -/
def xferEvent (s : State) (n : Nat) : State :=
  if chState s n ≠ chRUNNING then s
  else
    let e := effectiveStep s.T
    let x := s.get (PWM_CH_CFG_XFER n)
    let c := s.chan n
    if x = 1 ∨ x = 2 then
      if c.evs.any (merges (x == 1) (c.pos0 + s.get (PWM_CH_ACT_PER_PER n)) e) then s.bump (PWM_CH_CNT_XFER_MERGED n)
      else s.setChan n { c with evs := c.evs ++ [e] }
    else s

/-- R245, Table 6.4: the effective instant of the oldest event has come; in EVENT_NOW the channel transfers and POS restarts. -/
def xferEffective (s : State) (n : Nat) : State :=
  let c := s.chan n
  match c.evs with
  | [] => s
  | e :: rest =>
    if chState s n = chRUNNING ∧ s.get (PWM_CH_CFG_XFER n) = 2 ∧ e ≤ stepAt s.T then
      let s := refreshLegs s n
      let s := s.setChan n { s.chan n with evs := rest, pos0 := e }
      refreshLegs (transfer s n (e / 16)) n
    else s

/-- R248: N period starts without a valid transfer declare DSP loss. -/
def pwmWatchdog (s : State) (n : Nat) : State :=
  let w := s.get (PWM_CH_CFG_WDOG n)
  if chState s n = chRUNNING ∧ w ≠ 0 ∧ w ≤ (s.chan n).stale then
    dspLoss ((s.put (PWM_CH_STAT_WDOG n) 1).bump (PWM_CH_CNT_WDOG_CNT n)) n
  else s

/-! ### Commands of PWM_CHn_CTRL (R250, R251, R261, R266, R272) -/

def pwmIgn (s : State) (n : Nat) : State := s.put (PWM_CH_STAT_CFG_IGN n) 1

/-- R240: the IV-scan sequencer writes and commits the shadow set. -/
def ivsOwns (s : State) (n : Nat) : Bool := s.flag (PWM_CH_CFG_IVS_EN n) && s.get (PWM_BIND_ROLE n) == roleDCDC

/-- R240, R241: COMMIT by the bound DSP. -/
def dspCommit (s : State) (n : Nat) : State := if ivsOwns s n then pwmIgn s n else commitSet s n

/-- R236, R250: at an accepted RUN every leg's command is 0 from POS 0 on, until a compare. -/
def startLegs (l : Tbl Leg) (p0 : Nat) : Tbl Leg :=
  (List.range 4).foldl (fun l j => l.set j { l.get {} j with cmd := false, since := p0 }) l

/-- R250: RUN takes the set and VALID as R272 leaves them after the COMMIT bit of its own write (DEDUCED, log entry 22). -/
def runCmd (s : State) (n : Nat) : State :=
  let st := chState s n
  if (st = chSTOPPED ∨ st = chDSPLOSS) ∧ s.flag (PWM_CH_STAT_VALID n) then
    let act := activeSet s n
    let s := putActive (s.put (PWM_CH_STAT_VALID n) 0) n (shadowSet s n)
    let c := s.chan n
    let p0 := effectiveStep s.T
    let s := s.setChan n { c with running := true, dsploss := false, pos0 := p0, evs := [], stale := 0, hist := [],
                                   ranFrom := some (pwmCycle s.T, act), leg := startLegs c.leg p0 }
    refreshLegs (ivsTransfer s n (pwmCycle s.T + 1)) n
  else s.put (PWM_CH_STAT_RUN_REFUSED n) 1

/-- R251: STOP. -/
def stopCmd (s : State) (n : Nat) : State :=
  if chState s n = chRUNNING ∨ chState s n = chDSPLOSS then refreshLegs (endRun s n false) n else s

/-- R261: TRIP_CLR, with `force` when the same write carries FORCE_TRIP. -/
def tripClr (s : State) (n : Nat) (force : Bool) : State :=
  if bitsMinus 8 (tripLive s n force) (tripMask s n) = 0 then
    s.puts [(PWM_CH_TRIP_LATCHED n, 0), (PWM_CH_TRIP_SRC n, 0), (PWM_CH_TRIP_FIRST n, 0)]
  else s.put (PWM_CH_STAT_CLR_REFUSED n) 1

/-- R266: DRVRST. -/
def drvRst (s : State) (n : Nat) : State :=
  let st := chState s n
  let w := s.get (PWM_CH_DRV_WIDTH n)
  if st = chRUNNING ∨ st = chDSPLOSS ∨ w = 0 then pwmIgn s n
  else s.setChan n { s.chan n with drv := false, drvEnd := some (s.T + 1000 * w) }

/-- R266: the pulse ends; the ball is high once the channel is bound. -/
def drvEnd (s : State) (n : Nat) : State :=
  match (s.chan n).drvEnd with
  | none => s
  | some t => if t ≤ s.T then s.setChan n { s.chan n with drv := s.flag (PWM_BIND_BOUND n), drvEnd := none } else s

/-- R230: the DSP that writes the registers of channel n. -/
def isChanDsp (s : State) (m n : Nat) : Bool := m == reqCD (s.get (PWM_BIND_DSP n))

/-- R30, R230: a refused write to the block of channel n. -/
def refuseChan (s : State) (m n off : Nat) : State :=
  s.violation m true (blockRegion 10 true) (blockBase 10 0 + 0x100 + 0x100 * n + off)

/-- R272: the bits of one PWM_CHn_CTRL write, in order. -/
def pwmCtrlWrite (s : State) (m n v : Nat) : State :=
  if !isChanDsp s m n then refuseChan s m n 0x04
  else
    let force := bit v 4
    let s := s.when force (fun s => tripScan s n true)
    let s := s.when (bit v 3) (fun s => tripClr s n force)
    let s := s.when (bit v 2) (fun s => dspCommit s n)
    let s := s.when (bit v 1) (fun s => stopCmd s n)
    let s := s.when (bit v 0) (fun s => if bit v 1 then s.put (PWM_CH_STAT_RUN_REFUSED n) 1 else runCmd s n)
    s.when (bit v 5) (fun s => drvRst s n)

/-! ### Register writes -/

/-- R228, R266: a write of PWM_BINDn, by MC0 or MC1 for the manager (R755: chapter 6 names no write through BAR0). -/
def pwmBindWrite (s : State) (m n v : Nat) : State :=
  let role := bits v 28 3
  if !isMC m then s.refuseWrite m 10 (4 * n)
  else if s.flag (PWM_BIND_BOUND n) || !bit v 31 || role == 0 || role ≥ 5 then s
  else
    let s := s.putWord [(PWM_BIND_BOUND n, 31), (PWM_BIND_ROLE n, 28), (PWM_BIND_DSP n, 26), (PWM_BIND_MTRIP n, 20), (PWM_BIND_MDESAT n, 16)] v
    tripScan (s.setChan n { s.chan n with drv := true }) n false

/-- R241: a write to shadow register `r`: 0 SH_PER, 1 SH_MODE, 2 + 2j SH_RISE and 3 + 2j SH_FALL of leg j. -/
def shadowWrite (s : State) (m n r v : Nat) : State :=
  if !isChanDsp s m n then refuseChan s m n (0x20 + 4 * r)
  else if ivsOwns s n then pwmIgn s n
  else
    let s := (beforeShadow s n).put (PWM_CH_STAT_VALID n) 0
    if r = 0 then s.put (PWM_CH_SH_PER_PER n) v
    else if r = 1 then s.putWord [(PWM_CH_SH_MODE_U n, 0), (PWM_CH_SH_MODE_V n, 4), (PWM_CH_SH_MODE_W n, 8), (PWM_CH_SH_MODE_X n, 12)] v
    else if r % 2 = 0 then s.put (PWM_CH_SH_RISE_RISE n ((r - 2) / 2)) v
    else s.put (PWM_CH_SH_FALL_FALL n ((r - 2) / 2)) v

/-- R270: a refused claim of ball `k`. -/
def pwmConflict (s : State) (claimant holder k : Nat) : State :=
  let s := s.bump PWM_CONFLICT_CNT_COUNT
  if s.pwm.log.length < 8 then { s with pwm := { s.pwm with log := s.pwm.log ++ [⟨claimant, holder, k⟩] } }
  else s.bump PWM_CONFLICT_CNT_LOST

/-- R268: the bound DSP claims both balls of the channel's X leg. -/
def claimX (s : State) (m n : Nat) : State :=
  let busy := [2 * n, 2 * n + 1].filter (fun k => s.get (PWM_PIN_OWN_FUNC k) != 0)
  match busy with
  | [] =>
    s.puts [(PWM_PIN_OWN_FUNC (2 * n), 1), (PWM_PIN_OWN_OWNER (2 * n), m), (PWM_PIN_OWN_FUNC (2 * n + 1), 1),
      (PWM_PIN_OWN_OWNER (2 * n + 1), m), (PWM_CH_STAT_X_HELD n, 1)]
  | k :: _ => (pwmConflict s m (s.get (PWM_PIN_OWN_OWNER k)) k).put (PWM_CH_STAT_CONFLICT n) 1

/-- R268: X_EN = 0 releases the balls that the channel holds. -/
def releaseX (s : State) (n : Nat) : State :=
  if s.flag (PWM_CH_STAT_X_HELD n) then
    s.puts [(PWM_PIN_OWN_FUNC (2 * n), 0), (PWM_PIN_OWN_OWNER (2 * n), 0), (PWM_PIN_OWN_FUNC (2 * n + 1), 0),
      (PWM_PIN_OWN_OWNER (2 * n + 1), 0), (PWM_CH_STAT_X_HELD n, 0)]
  else s

/-- Table 6.1: the DSP-loss actions that a role allows. -/
def lossAllowed (role act : Nat) : Bool := act == 0 || (act != 3 && (role == roleTRACTION || role == roleMACHINE))

/-- R253, R271: a write of PWM_CHn_CFG. -/
def pwmCfgWrite (s : State) (m n v : Nat) : State :=
  let st := chState s n
  if !isChanDsp s m n then refuseChan s m n 0x00
  else if st = chDSPLOSS ∨ st = chRUNNING ∨ !lossAllowed (s.get (PWM_BIND_ROLE n)) (bits v 28 2) then pwmIgn s n
  else
    let s := s.putWord [(PWM_CH_CFG_XFER n, 30), (PWM_CH_CFG_DSPLOSS n, 28), (PWM_CH_CFG_X_EN n, 27), (PWM_CH_CFG_IVS_EN n, 26), (PWM_CH_CFG_WDOG n, 16)] v
    if !bit v 27 then releaseX s n
    else if s.flag (PWM_CH_STAT_X_HELD n) then s
    else claimX s m n

/-- R271: a write of PWM_CHn_DT. -/
def pwmDtWrite (s : State) (m n v : Nat) : State :=
  let st := chState s n
  if !isChanDsp s m n then refuseChan s m n 0x18
  else if st = chDSPLOSS ∨ st = chRUNNING ∨ 38400 < bits v 16 16 ∨ 38400 < bits v 0 16 then pwmIgn s n
  else s.putWord [(PWM_CH_DT_DTF n, 16), (PWM_CH_DT_DTR n, 0)] v

/-- The other registers of the channel block: the pulse width and the W1C bits of STAT. -/
def pwmRegWrite (s : State) (m n off v : Nat) : State :=
  if !isChanDsp s m n then refuseChan s m n off
  else if off = 0x1C then s.put (PWM_CH_DRV_WIDTH n) v
  else if off = 0x08 then
    [(PWM_CH_STAT_WDOG n, 19), (PWM_CH_STAT_CONFLICT n, 18), (PWM_CH_STAT_CLR_REFUSED n, 17), (PWM_CH_STAT_RUN_REFUSED n, 16),
      (PWM_CH_STAT_CFG_ERR n, 15), (PWM_CH_STAT_CFG_IGN n, 14)].foldl (fun s e => if bit v e.2 then s.put e.1 0 else s) s
  else s

/-- R268, Table 6.12: who writes PWM_PINk_OWN: any DSP, and MC0 or MC1 for the manager (R755). -/
def pinWriter (m : Nat) : Bool := isMC m || isCD m

/-- R268: a static-output claim of ball `k`. -/
def pinClaim (s : State) (m k : Nat) : State :=
  let f := s.get (PWM_PIN_OWN_FUNC k)
  let o := s.get (PWM_PIN_OWN_OWNER k)
  if f = 0 then s.puts [(PWM_PIN_OWN_FUNC k, 2), (PWM_PIN_OWN_OWNER k, m)]
  else if f = 2 ∧ o = m then s
  else pwmConflict s m o k

/-- R268: the owner of a static output releases it; another's RELEASE is discarded and counted. -/
def pinRelease (s : State) (m k : Nat) : State :=
  if s.get (PWM_PIN_OWN_FUNC k) = 2 ∧ s.get (PWM_PIN_OWN_OWNER k) = m then
    s.puts [(PWM_PIN_OWN_FUNC k, 0), (PWM_PIN_OWN_OWNER k, 0)]
  else s.bump PWM_CONFLICT_CNT_COUNT

/-- Table 6.12: LEVEL of a static output, written by its owner only. -/
def pinLevel (s : State) (m k v : Nat) : State :=
  if s.get (PWM_PIN_OWN_FUNC k) = 2 ∧ s.get (PWM_PIN_OWN_OWNER k) = m then s.put (PWM_PIN_OWN_LEVEL k) v
  else s.bump PWM_CONFLICT_CNT_COUNT

/-- Table 6.12: what a write of PWM_PINk_OWN does to the ball's ownership: the claim first, then a release, else the level. -/
def pinOwn (s : State) (m k v : Nat) : State :=
  if bit v 31 then
    let s := pinClaim s m k
    if s.get (PWM_PIN_OWN_FUNC k) = 2 ∧ s.get (PWM_PIN_OWN_OWNER k) = m then pinLevel s m k (bits v 8 1) else s
  else if bit v 30 then pinRelease s m k
  else pinLevel s m k (bits v 8 1)

/-- A write of PWM_PINk_OWN; the instant of a change of the ball's level is noted (Table 3.6). -/
def pinOwnWrite (s : State) (m k v : Nat) : State :=
  if !pinWriter m then s.refuseWrite m 10 (0x20 + 4 * k)
  else
    let s' := pinOwn s m k v
    s'.when (ballLevel s (k / 2) (6 + k % 2) != ballLevel s' (k / 2) (6 + k % 2)) (fun s => noteBallEdge s (k / 2))

/-! ### Reads -/

/-- R230: who reads the common registers, and the block of channel n. -/
def pwmCommonReader (m : Nat) : Bool := isManager m || isCD m
def pwmChanReader (s : State) (m n : Nat) : Bool := isManager m || isChanDsp s m n

/-- R270: a read of PWM_CONFLICT_INFO returns the oldest entry and removes it. -/
def pwmConflictRead (s : State) (m : Nat) : State :=
  if !pwmCommonReader m then s.refuseRead m 10 0x10
  else ({ s with pwm := { s.pwm with log := s.pwm.log.drop 1 } } : State).answer (conflictWord s.pwm.log)

/-- The values of the PWM block that are computed when they are read. -/
def livePwm (s : State) (k : FKey) : Option Nat :=
  if k = (PWM_CH_STAT_STATE k.i).key then some (chState s k.i)
  else if k = PWM_SUM_STATES.key then some ((List.range 4).foldl (fun a j => a + chState s j * 8 ^ j) 0)
  else if k = (PWM_CH_TRIP_LIVE k.i).key then some (tripLive s k.i false)
  else if k = (PWM_CH_POS_POS k.i).key then
    some (match rawPos s k.i with | some p => p % 2 ^ 24 | none => 0)
  else if k = PWM_CONFLICT_INFO_VALID.key then some (b2n (!s.pwm.log.isEmpty))
  else if k = PWM_CONFLICT_INFO_CLAIMANT.key then some (bits (conflictWord s.pwm.log) 16 8)
  else if k = PWM_CONFLICT_INFO_HOLDER.key then some (bits (conflictWord s.pwm.log) 8 8)
  else if k = PWM_CONFLICT_INFO_RESOURCE.key then some (bits (conflictWord s.pwm.log) 0 8)
  else if k = (ADC_CMP_LIVE_M k.i).key then
    some ((List.range 32).foldl (fun a m => if cmpPresents s (32 * k.i + m) then setBit a m else a) 0)
  else if k = ADC_REF_STAT_SETTLED.key then some (b2n (refSettled s))
  else none

end Sys2Proof.Machine
end

