-- ==== Sys2Proof/Machine/Grid.lean ====
section
/-! DEFINITION. The grid block (07_grid_and_solar.md): the phase tracker's publications, the grid monitor's measurements, the
ride-through engine, cease logic, islanding detection, reference angles and the IV-scan sequencer. -/
namespace Sys2Proof.Machine
open Sys2Proof.Reg

/-! ### Profile (Table 7.4) -/

/-- Word `w` of the active bank. -/
def pw (s : State) (w : Nat) : Nat := s.get (GRD_PROFILE_WORD (s.get GRD_STAT_BANK) w)

def profId (s : State) : Nat := pw s 0
/-- Nominal frequency in µHz. -/
def nominal (s : State) : Nat := if bit (pw s 1) 31 then 60000000 else 50000000
def actEn (s : State) : Bool := s.grd.active && bit (pw s 1) 29
def injPeriod (s : State) : Nat := bits (pw s 7) 24 8
/-- R282: F_WIN and R_WIN, 4 and 10 cycles before the first activation. -/
def fWin (s : State) : Nat := if s.grd.active then bits (pw s 7) 0 8 else 4
def rWin (s : State) : Nat := if s.grd.active then bits (pw s 5) 8 8 else 10

/-- The phases that are computed (R283). -/
def gridPhases (s : State) : List Nat := if s.flag GRD_CFG_THREE_PH then [0, 1, 2] else [0]

def gridLocked (s : State) : Bool := s.flag GRD_STAT_LOCKED

/-! ### Causes and CEASE (R291–R294) -/

def causeVS : Nat := 0
def causeROCOF : Nat := 1
def causeMAY : Nat := 2
def causeFTRIP : Nat := 3
def causeVTRIP : Nat := 4
def causeINVALID : Nat := 5
def causeUNLOCK : Nat := 6
def causeCMD : Nat := 7
def causeACTIVE : Nat := 8
def causeNOPROF : Nat := 9

def gridLive (s : State) (b : Nat) : Bool := bit (s.get GRD_CAUSE_LIVE) b

/-- A signed field of a profile word. -/
def s16 (v : Nat) : Int := signed 16 v

/-- R292: the enter-service condition, causes apart. -/
def esCond (s : State) : Bool :=
  gridLocked s && s.get GRD_STAT_REGION == 0 &&
    (gridPhases s).all (fun k => !s.flag (GRD_RMS_VALID k) ||
      (bits (pw s 2) 16 16 ≤ s.get (GRD_RMS_RMS k) && s.get (GRD_RMS_RMS k) ≤ bits (pw s 2) 0 16)) &&
    (let d : Int := (s.get GRD_FREQ_F : Int) - nominal s
     s16 (bits (pw s 3) 16 16) * 1000 ≤ d && d ≤ s16 (bits (pw s 3) 0 16) * 1000)

/-- R292, R298: keeps the instants from which the enter-service condition has held. -/
def esUpdate (s : State) : State :=
  let c := esCond s
  let act := if c then some (s.grd.actFrom.getD s.T) else none
  let es := if c && s.get GRD_CAUSE_LIVE == 0 then some (s.grd.esFrom.getD s.T) else none
  ({ s with grd := { s.grd with actFrom := act, esFrom := es } } : State).put GRD_STAT_ES_RUN (b2n (es.isSome && s.flag GRD_STAT_CEASE))

/-- R291, R294: CEASE goes to 1. -/
def ceaseAssert (s : State) : State :=
  if s.flag GRD_STAT_CEASE then s
  else
    let s := ((s.put GRD_STAT_CEASE 1).bump GRD_CNT_CEASE_CNT).irq .grd
    let s := ldgNote s 0x0041 clsGRID (leBytes 4 (s.get GRD_CAUSE_SEEN * 65536 + s.get GRD_CAUSE_LIVE) ++ leBytes 8 s.T)
    tripScanAll s

/-- Asserts a cause. -/
def causeOn (s : State) (b : Nat) : State :=
  if gridLive s b then s
  else
    let s := s.puts [(GRD_CAUSE_LIVE, setBit (s.get GRD_CAUSE_LIVE) b), (GRD_CAUSE_SEEN, setBit (s.get GRD_CAUSE_SEEN) b)]
    -- R298: the ES_DELAY that ends ACTIVE counts from its assertion
    let s := if b = causeACTIVE then { s with grd := { s.grd with actFrom := none } } else s
    esUpdate (ceaseAssert s)

/-- Withdraws a cause. -/
def causeOff (s : State) (b : Nat) : State :=
  if gridLive s b then esUpdate (s.put GRD_CAUSE_LIVE (clrBit (s.get GRD_CAUSE_LIVE) b)) else s

/-- R680: a coordinator declares an island: its own cease is held and ISLAND is sent. -/
def declareIsland (s : State) : State :=
  if aggRole s = roleCOORD ∧ !s.flag AGG_STAT_ISLAND then
    let s := s.put AGG_STAT_ISLAND 1
    let s := { s with agg := { s.agg with islHold := true } }
    qorSend (causeOn s causeCMD) qorISLAND 0xFFFF (leBytes 8 (gNow s))
  else s

/-- Asserts a cause of the monitor; ACTIVE, ROCOF, VS and UNLOCK make a coordinator declare (R680). -/
def gridCause (s : State) (b : Nat) (on : Bool) : State :=
  if on then
    let new := !gridLive s b
    let s := causeOn s b
    s.when (new && (b == causeACTIVE || b == causeROCOF || b == causeVS || b == causeUNLOCK)) declareIsland
  else causeOff s b

/-- R678: MC0 lets CEASE_CLR through only when neither the manager, nor gating, nor an island holds the cease. -/
def aggCease (s : State) : State :=
  if s.agg.mgrHold || s.agg.gateHold || s.agg.islHold then causeOn s causeCMD else causeOff s causeCMD

/-- R678: the states in which gating holds the cease (1 SEEKING, 2 ALIGNING, 3 JOINING, 7 ALIGN_FAIL). -/
def aggGate (s : State) : State :=
  let st := s.get AGG_STAT_STATE
  let g := aggRole s == roleNODE && s.flag AGG_CFG_EXPORT_GATE && (st == 1 || st == 2 || st == 3 || st == 7)
  if g = s.agg.gateHold then s else aggCease ({ s with agg := { s.agg with gateHold := g } } : State)

/-- The node's new state (Table 18.6), with what gating makes of it. -/
def aggState (s : State) (st : Nat) : State := aggGate (s.put AGG_STAT_STATE st)

/-- R676: a JOINED node leaves its group: LEAVE, trim 0, SEEKING. -/
def aggLeaveGroup (s : State) (reason : Nat) : State :=
  let s := qorSend s qorLEAVE (s.get AGG_STAT_COORD) (leBytes 1 reason ++ leBytes 3 0)
  let s := (s.put GRD_TRK_TRIM_TRIM 0).put AGG_STAT_ALIGNED 0
  aggState ({ s with agg := { s.agg with errs := [], good := 0, limited := 0, refs := 0 } } : State) 1

/-- R293, R678: CEASE_CMD and CEASE_CLR of the manager. -/
def ceaseCmd (s : State) : State := causeOn ({ s with agg := { s.agg with mgrHold := true } } : State) causeCMD

def ceaseClr (s : State) : State :=
  let s := { s with agg := { s.agg with mgrHold := false } }
  if aggRole s = 0 then causeOff s causeCMD else aggCease s

/-! ### Ride-through (R287–R289) -/

/-- Table 7.5: the TIME of a point in ns. -/
def pointTime (p : Nat) : Nat := bits p 0 15 * (if bit p 15 then 100000000 else 1000000)

/-- Whether the quantity of curve `c` is beyond the LEVEL of point word `p`. -/
def beyond (s : State) (c p : Nat) : Bool :=
  let lev := bits p 16 16
  let rms := (gridPhases s).map (fun k => s.get (GRD_RMS_RMS k))
  let d : Int := (s.get GRD_FREQ_F : Int) - nominal s
  if c % 4 = 0 then rms.foldl min 65535 < lev
  else if c % 4 = 1 then lev < rms.foldl max 0
  else if c % 4 = 2 then d < s16 lev * 1000
  else s16 lev * 1000 < d

/-- R287: one point's timer and whether it is exceeded. -/
def evalPoint (s : State) (c i : Nat) : State :=
  let key := 16 * c + i
  let p := pw s (17 + 32 * c + i)
  let g := s.grd
  if beyond s c p then
    let st := (g.timer.get none key).getD s.T
    { s with grd := { g with timer := g.timer.set key (some st), exceeded := g.exceeded.set key (b2n (decide (pointTime p ≤ s.T - st))) } }
  else { s with grd := { g with timer := g.timer.erase key, exceeded := g.exceeded.erase key } }

/-- Whether a point of one of the curves is exceeded. -/
def anyExceeded (s : State) (cs : List Nat) : Bool := s.grd.exceeded.any (fun e => e.2 == 1 && cs.contains (e.1 / 16))

/-- R289: the region and its causes. -/
def setRegion (s : State) : State :=
  let must := anyExceeded s [0, 1, 2, 3]
  let may := !must && anyExceeded s [4, 5, 6, 7]
  let s := s.put GRD_STAT_REGION (if must then 2 else if may then 1 else 0)
  let s := gridCause s causeVTRIP (anyExceeded s [0, 1])
  let s := gridCause s causeFTRIP (anyExceeded s [2, 3])
  let s := gridCause s causeMAY (may && bit (pw s 1) 30)
  esUpdate s

/-- R288: evaluates the voltage curves or the frequency curves. -/
def evalCurves (s : State) (volt : Bool) : State :=
  let cs := if volt then [0, 1, 4, 5] else [2, 3, 6, 7]
  let s := cs.foldl (fun s c =>
    (List.range (if s.grd.active then min 16 (bits (pw s (16 + 32 * c)) 0 5) else 0)).foldl (fun s i => evalPoint s c i) s) s
  setRegion s

/-! ### Results offered by acquisition (R275, R282, R306) -/

/-- The number of results of a window, the sum of their squares, and whether any carries REFU or OVR (R282–R284). -/
def HalfWin.n (w : HalfWin) : Nat := w.rs.length
def HalfWin.sum (w : HalfWin) : Nat := w.rs.foldl (fun a r => a + (r.x * r.x).toNat) 0
def HalfWin.refu (w : HalfWin) : Bool := w.rs.any (fun r => r.refu)
def HalfWin.ovr (w : HalfWin) : Bool := w.rs.any (fun r => r.ovr)

/-- Adds a result to the half-cycle window in which its sample instant falls: the one being filled, or the one that has ended
and is not yet evaluated. -/
def addHalf (s : State) (k : Nat) (r : HalfRes) : State :=
  let add (w : HalfWin) : HalfWin := { w with rs := w.rs ++ [r] }
  match s.grd.win.get none k with
  | none => s
  | some w =>
    if w.start ≤ r.t then { s with grd := { s.grd with win := s.grd.win.set k (some (add w)) } }
    else
      match s.grd.done.get none k with
      | some d => if d.start ≤ r.t ∧ r.t < d.stop then { s with grd := { s.grd with done := s.grd.done.set k (some (add d)) } } else s
      | none => s

/-- The results of all units that have passed their sample instants and are not yet delivered: those of conversions in
progress, and those that wait for a QUIET window (R761). -/
def adcInFlight (s : State) : List (Nat × AdcRes) :=
  (List.range 8).flatMap (fun u => ((s.adcU u).sample.toList ++ (s.adcU u).held).map (fun r => (u, r)))

/-- Table 7.3, vector shift: the raw positive-going zero crossing between two results of phase A, in 1/1,024 ns. -/
def rawCrossing (s : State) (t : Nat) (x : Int) : State :=
  let g := s.grd
  let s' := { s with grd := { g with lastA := some (t, x) } }
  match g.lastA with
  | none => s'
  | some (t0, x0) =>
    if x0 < 0 ∧ 0 ≤ x then
      let c := (1024 * t0 : Int) + (-x0) * 1024 * ((t : Int) - t0) / (x - x0)
      let c := c.toNat
      match g.rawCross with
      | none => { s' with grd := { s'.grd with rawCross := some c } }
      | some p => { s' with grd := { s'.grd with rawCross := some c, periods := ((c - p) :: g.periods).take 10, newPeriod := true } }
    else s'

/-- Whether a result of input `input` of unit `u` is the V, and the I, of string j (IVS_INj). -/
def ivsIsV (s : State) (j u input : Nat) : Bool := s.get (GRD_IVS_IN_V_UNIT j) == u && s.get (GRD_IVS_IN_V_INPUT j) == input
def ivsIsI (s : State) (j u input : Nat) : Bool := s.get (GRD_IVS_IN_I_UNIT j) == u && s.get (GRD_IVS_IN_I_INPUT j) == input

/-- R306: keeps a result named in IVS_INj, sampled since the dwell began. -/
def ivsSample (s : State) (u input t code : Nat) (bad : Bool) : State :=
  let v := s.ivs
  let r : IvsRes := ⟨ivsIsV s v.leg u input, ivsIsI s v.leg u input, t, code, bad⟩
  if s.get GRD_IVS_STAT_STATE = 1 ∧ !v.waitXfer ∧ v.dwell ≤ t ∧ (r.isV || r.isI) then { s with ivs := { v with res := v.res ++ [r] } } else s

/-- A result of unit `u` offered to the grid block: the unsigned code at sample instant `t`. -/
def gridResult (s : State) (u input t code : Nat) (refu ovr : Bool) : State :=
  let s := ivsSample s u input t code (refu || ovr)
  if !s.flag GRD_CFG_EN then s
  else
    let x : Int := (code : Int) - 0x800
    (gridPhases s).foldl (fun s k =>
      if s.get (GRD_VIN_UNIT k) = u ∧ s.get (GRD_VIN_INPUT k) = input then
        let s := addHalf s k ⟨t, x, refu, ovr⟩
        if k = 0 then rawCrossing s t x else s
      else s) s

/-! ### Tracker (R276–R281, R301) -/

/-- R282: θ of phase k. -/
def thetaOf (s : State) (k theta : Nat) : Nat :=
  let swap := s.flag GRD_TRK_STAT_SEQ
  if k = 0 then theta
  else if (k = 1) = (swap = false) then wrap 32 (theta + 0xAAAAAAAB)
  else wrap 32 (theta + 0x55555555)

/-- R296: δ of the present f and injection. -/
def nudge (s : State) : Int :=
  if actEn s then
    let df : Int := (s.get GRD_FREQ_F : Int) - nominal s
    let lim : Int := pw s 10
    let pf := clampI (-lim) lim ((bits (pw s 9) 0 16 : Int) * df / 1000)
    pf + (if s.grd.inj.isSome then signed 32 (pw s 8) else 0)
  else 0

def setNudge (s : State) : State := s.put GRD_NUDGE_DELTA (unsigned 32 (nudge s))

/-- R281: TRIM_ACT after θ has advanced by `d` BAU. -/
def slewTrim (s : State) (d : Int) : State :=
  let tgt := signed 32 (s.get GRD_TRK_TRIM_TRIM)
  let act := signed 32 (s.get GRD_TRK_TRIM_ACT_ACT)
  let budget := s.grd.trimAcc + 1193046 * d.toNat
  let lim : Int := (budget / 2 ^ 32 : Nat)
  let mv := clampI (-lim) lim (tgt - act)
  ({ s with grd := { s.grd with trimAcc := budget % 2 ^ 32 } } : State).put GRD_TRK_TRIM_ACT_ACT (unsigned 32 (act + mv))

/-- R278, R676: the tracker unlocks. -/
def trackerUnlock (s : State) : State :=
  let s := s.puts [(GRD_STAT_LOCKED, 0), (GRD_TRK_STAT_LOCKED, 0), (GRD_TRK_TRIM_ACT_ACT, 0)]
  let s := (s.bump GRD_CNT_UNLOCK_CNT).irq .grd
  let s := { s with grd := { s.grd with goodPos := none, perrT := none, ampPos := none, trimAcc := 0 } }
  let s := gridCause (gridCause s causeUNLOCK true) causeACTIVE false
  let s := esUpdate s
  if aggRole s = roleNODE ∧ s.get AGG_STAT_STATE = 4 then aggLeaveGroup s 1 else s

/-- R277: the tracker locks. -/
def trackerLock (s : State) : State :=
  esUpdate (gridCause (s.puts [(GRD_STAT_LOCKED, 1), (GRD_TRK_STAT_LOCKED, 1)]) causeUNLOCK false)

/-- R277, R278: what a publication with phase error `perr` (units of 2^16 BAU), frequency and amplitude (PU16) does to the
lock. -/
def judgeLock (s : State) (perr : Int) (freq amp : Nat) : State :=
  let g := s.grd
  let mag := perr.natAbs * 65536
  let perrT := if mag > 59652323 then some (g.perrT.getD s.T) else none
  let ampPos := if amp < 6554 then some (g.ampPos.getD g.pos) else none
  let goodPos := if mag < 11930465 then some (g.goodPos.getD g.pos) else none
  let s := { s with grd := { g with perrT := perrT, ampPos := ampPos, goodPos := goodPos } }
  if gridLocked s then
    let bad := (match perrT with | some t => t + 2000000 ≤ s.T | none => false) || freq < 40000000 || freq > 70000000 ||
      (match ampPos with | some p => 2 ^ 31 ≤ signed 64 (unsigned 64 ((g.pos : Int) - p)) | none => false)
    if bad then trackerUnlock s else s
  else
    match goodPos with
    | some p => if 2 ^ 32 ≤ signed 64 (unsigned 64 ((g.pos : Int) - p)) then trackerLock s else s
    | none => s

/-- The MAINS source at a publication (Tables 2.1, 2.2): `was` tells whether the tracker was locked before it. -/
def mainsUpdate (s : State) (was : Bool) (theta freq : Nat) : State :=
  (List.range 8).foldl (fun s n =>
    if srcIs s n kindMAINS then
      let ang := if s.flag (TSP_SRC_CFG_DIRINV n) then unsigned 32 (-(theta : Int)) else theta
      let ang := wrap 32 (ang + s.get (TSP_SRC_OFS_OFS n))
      let spd : Int := (freq * 2 ^ 48 / 10 ^ 15 : Nat)
      let spd := satSpeed (if s.flag (TSP_SRC_CFG_DIRINV n) then -spd else spd)
      if !was && !gridLocked s then sourceLoss s n
      else if gridLocked s then
        let s' := s.setSrc n { s.src n with ofsApplied := s.get (TSP_SRC_OFS_OFS n) }
        if acquiring s n then acquireSource s' n ang spd else updateSource s' n (ownStep s n ang) spd
      else s
    else s) s

/-- R282: phase k's window ends at `t` and the next begins: a result sampled at `t` or after belongs to the next. -/
def turnHalf (s : State) (k t : Nat) : State :=
  let old := s.grd.win.get none k
  let late := match old with | some w => w.rs.filter (fun r => t ≤ r.t) | none => []
  let s := { s with grd := { s.grd with win := s.grd.win.set k (some { start := t, rs := late }) } }
  match old with
  | some w => { s with grd := { s.grd with done := s.grd.done.set k (some { w with stop := t, rs := w.rs.filter (fun r => r.t < t) }) } }
  | none => s

/-- Table 7.3: closes the window of phase k when θ_k has crossed 0 or a half turn; the first crossing only begins one. -/
def closeHalf (s : State) (k old new freq : Nat) : State :=
  let a := thetaOf s k old
  let b := thetaOf s k new
  let hit := if crossed 0 a b 0 then some b else if crossed 0 a b 0x80000000 then some (b - 0x80000000) else none
  match hit with
  | none => s
  | some past => turnHalf s k (s.T - past * 10 ^ 15 / (max freq 1 * 2 ^ 32))

/-- R278, Table 2.2: a MAINS source is lost 1.00 µs after the unlock, which is the instant of the next publication. -/
def mainsLoss (s : State) : State :=
  (List.range 8).foldl (fun s n => if srcIs s n kindMAINS && !gridLocked s then sourceLoss s n else s) s

/-- R297: TURN is the count that a MAINS source reports: `turnOfs` is what its count, with its OFS taken off, is above the
tracker's own (DEDUCED, log entry 209). -/
def tieTurn (s : State) : State :=
  (List.range 8).foldl (fun s n =>
    if srcIs s n kindMAINS && srcState s n == srcTRACKING && !s.flag (TSP_SRC_CFG_DIRINV n) && (s.src n).ownOfs == 0 then
      let own := unsigned 64 (((s.src n).pos : Int) - s.get (TSP_SRC_OFS_OFS n))
      { s with grd := { s.grd with turnOfs := unsigned 32 (((own / 2 ^ 32 : Nat) : Int) - (s.grd.pos / 2 ^ 32 : Nat)) } }
    else s) s

/-- R276, R301: a publication of the tracker: the phase it has measured, its frequency in µHz, its phase error, the amplitude
and the phase order (DESIGN CHOICE, log entry 29). With EN = 0 nothing is published; a MAINS source is lost 1.00 µs after EN
unlocked the tracker (log entry 31). -/
def gridPublish (s : State) (theta freq : Nat) (perr : Int) (amp : Nat) (seq : Bool) : State :=
  if !s.flag GRD_CFG_EN then mainsLoss s
  else
    let was := gridLocked s
    let old := wrap 32 s.grd.pos
    let s := s.when was (fun s => slewTrim s (angDiff theta s.grd.raw))
    let new := unsigned 32 ((theta : Int) + signed 32 (s.get GRD_TRK_TRIM_ACT_ACT))
    let zero := crossed 0 old new 0
    let ph := crossed 0 old new (s.get GRD_INJ_PHASE_PHASE)
    let s := s.puts [(GRD_TRK_STAT_SEQ, b2n seq), (GRD_TRK_STAT_PERR, unsigned 16 perr)]
    let s := (gridPhases s).foldl (fun s k => closeHalf s k old new freq) s
    let g := s.grd
    let tc := s.T - new * 10 ^ 15 / (max freq 1 * 2 ^ 32)
    let past := wrap 32 (new + 2 ^ 32 - s.get GRD_INJ_PHASE_PHASE)
    let s := { s with grd := { g with phasePos := if ph then unsigned 64 ((stepTo g.pos new : Int) - past) else g.phasePos,
                                      phaseFirst := ph && zero && decide (new < past),
                                      raw := theta, pos := stepTo g.pos new, freq := freq, pubT := s.T, zeroCross := zero, phaseCross := ph,
                                      cross := if zero then (tc :: g.cross).take 20 else g.cross, newCycle := g.newCycle || zero,
                                      inj := if ph then g.inj.map (fun e => (e.1, e.2 - 1)) else g.inj } }
    let s := judgeLock s perr freq amp
    let s := tieTurn (mainsUpdate s was new freq)
    let d := signed 32 (s.get GRD_NUDGE_DELTA)
    let ref (k : Nat) := unsigned 32 ((thetaOf s k new : Int) + d)
    s.puts [(GRD_REF_ANG 0, ref 0), (GRD_REF_ANG 1, ref 1), (GRD_REF_ANG 2, ref 2), (GRD_REF_T_T, wrap 32 s.T)]

def trackerPublish (s : State) (theta freq : Nat) (perr : Int) (amp : Nat) (seq : Bool) : State :=
  withJumps s (fun s => gridPublish s theta freq perr amp seq)

/-! ### Measurements -/

/-- The window of phase k that has ended, with the results of its span that are not delivered yet (R282 goes by their sample
instants). -/
def endedHalf (s : State) (k : Nat) : Option HalfWin :=
  (s.grd.done.get none k).map (fun w =>
    { w with rs := w.rs ++ ((adcInFlight s).filter (fun e => e.1 == s.get (GRD_VIN_UNIT k) && e.2.c.input == s.get (GRD_VIN_INPUT k) &&
        decide (w.start ≤ e.2.t ∧ e.2.t < w.stop))).map (fun e => ⟨e.2.t, (e.2.code : Int) - 0x800, e.2.refu, e.2.ovr⟩) })

/-- R282–R284: the evaluation of a half-cycle window of phase k that has ended; a phase that is not computed has none. -/
def halfCycleEnd (s : State) (k : Nat) : State :=
  match endedHalf s k with
  | none => s
  | some w =>
    let s := { s with grd := { s.grd with done := s.grd.done.erase k } }
    if !(gridPhases s).contains k then s
    else if w.n < 20 || w.refu || !gridLocked s then
      let n := s.grd.bad.get 0 k + 1
      let s := (s.put (GRD_RMS_VALID k) 0).bump GRD_CNT_INVALID_HC
      let s := { s with grd := { s.grd with bad := s.grd.bad.set k n } }
      let s := s.put (GRD_RMS_OVR k) (b2n w.ovr)
      evalCurves (if n ≥ 2 then gridCause s causeINVALID true else s) true
    else
      let g := s.get (GRD_VIN_GAIN k)
      let rms := min 65535 (isqrt (w.sum * g * g / (w.n * 2 ^ 24)))
      let s := s.puts [(GRD_RMS_VALID k, 1), (GRD_RMS_OVR k, b2n w.ovr), (GRD_RMS_RMS k, rms)]
      let s := { s with grd := { s.grd with bad := s.grd.bad.erase k } }
      let s := gridCause s causeINVALID ((gridPhases s).any (fun j => s.grd.bad.get 0 j ≥ 2))
      evalCurves s true

/-- R282, R288, R295, R296: the update at a forward crossing of θ through 0. -/
def freqUpdate (s : State) : State :=
  let g := s.grd
  if !g.newCycle then s
  else
    let s := { s with grd := { g with newCycle := false, resps := g.resps.map (fun e => (e.1, e.2 - 1)) } }
    match g.cross.head?, g.cross[fWin s]? with
    | some t, some t0 =>
      let f := fWin s * 10 ^ 15 / (t - t0)
      let s := s.put GRD_FREQ_F f
      let hist := ((t, f) :: g.fHist).take 52
      let s := { s with grd := { s.grd with fHist := hist } }
      let s :=
        match hist[rWin s]? with
        | none => s
        | some (t1, f1) =>
          let r := Int.tdiv (((f : Int) - f1) * 10 ^ 6) ((t : Int) - t1)
          let s := s.put GRD_ROCOF_R (unsigned 32 r)
          let thr := bits (pw s 5) 16 16
          let hit := s.grd.active && thr != 0 && thr < r.natAbs
          let n := if hit then s.grd.rocofN + 1 else 0
          let s := { s with grd := { s.grd with rocofN := n } }
          gridCause s causeROCOF (hit && (bits (pw s 5) 0 8 ≤ n || gridLive s causeROCOF))
      evalCurves (setNudge s) false
    | _, _ => s

/-- R282, R295: the update at a raw crossing of phase A. -/
def vectorShift (s : State) : State :=
  let g := s.grd
  if !g.newPeriod then s
  else
    let s := { s with grd := { g with newPeriod := false } }
    match g.periods with
    | p :: rest =>
      if rest.length < 8 then s
      else
        let sum : Int := (rest.take 8).foldl (fun (a : Int) (x : Nat) => a + (x : Int)) (0 : Int)
        let vs := Int.tdiv (2 ^ 32 * (8 * (p : Int) - sum)) sum
        let vs := clampI (-2 ^ 31) (2 ^ 31 - 1) vs
        let s := s.put GRD_VS_VS (unsigned 32 vs)
        let thr := pw s 6
        gridCause s causeVS (s.grd.active && thr != 0 && thr < vs.natAbs)
    | [] => s

/-- R292, R298: the enter-service delay has run. -/
def esExpiry (s : State) : State :=
  let delay := bits (pw s 4) 0 16 * 1000000000
  let due (o : Option Nat) : Bool := match o with | some t => t + delay ≤ s.T | none => false
  let s1 := s.when (gridLive s causeACTIVE && due s.grd.actFrom) (fun s => gridCause s causeACTIVE false)
  if due s.grd.esFrom ∧ s.flag GRD_STAT_CEASE then s1.puts [(GRD_STAT_CEASE, 0), (GRD_STAT_ES_RUN, 0)] else s1

/-! ### Profile activation (R286) -/

/-- Table 7.4: whether every field of bank `b` lies in its range. -/
def bankRanges (s : State) (b : Nat) : Bool :=
  let w (k : Nat) := s.get (GRD_PROFILE_WORD b k)
  let act := bit (w 1) 29
  w 0 != 0 && bits (w 1) 0 29 == 0 && bits (w 2) 16 16 < bits (w 2) 0 16 && s16 (bits (w 3) 16 16) < s16 (bits (w 3) 0 16) &&
    bits (w 4) 16 16 == 0 && bits (w 4) 0 16 ≤ 1000 && 1 ≤ bits (w 5) 8 8 && bits (w 5) 8 8 ≤ 50 && 1 ≤ bits (w 5) 0 8 &&
    w 6 ≤ 0x7FFFFFFF && 2 ≤ bits (w 7) 24 8 && 1 ≤ bits (w 7) 16 8 && bits (w 7) 16 8 < bits (w 7) 24 8 &&
    1 ≤ bits (w 7) 8 8 && bits (w 7) 8 8 ≤ 15 && 1 ≤ bits (w 7) 0 8 && bits (w 7) 0 8 ≤ 16 &&
    (!act || (w 8 != 0 && bits (w 9) 16 16 ≥ 1)) && w 10 ≤ 0x05555555 &&
    [11, 12, 13, 14, 15].all (fun k => w k == 0) && (List.range 8).all (fun c => w (16 + 32 * c) ≤ 16)

/-- R299: the bound B of bank `b` in cycles. -/
def islBound (s : State) (b : Nat) : Nat :=
  let w := s.get (GRD_PROFILE_WORD b 7)
  bits w 8 8 * bits w 24 8 + bits w 16 8 + bits w 0 8

/-- A GRID channel is RUNNING or DSPLOSS. -/
def gridChannelLive (s : State) : Bool :=
  (List.range 4).any (fun n => s.get (PWM_BIND_ROLE n) == roleGRID && (chState s n == chRUNNING || chState s n == chDSPLOSS))

def profErr (s : State) (code : Nat) : State := s.puts [(GRD_STAT_PROF_ERR, 1), (GRD_STAT_PROF_CODE, code)]

/-- The code of `LdgAfter` that a profile's record carries. -/
def afterPROFILE : Nat := 1

/-- The GRID_PROFILE record of bank `b`. -/
def profileRec (s : State) (b : Nat) : LdgReq :=
  let img := (List.range 512).flatMap (fun k => leBytes 4 (s.get (GRD_PROFILE_WORD b k)))
  { typ := 0x0040, pl := leBytes 4 (s.get (GRD_PROFILE_WORD b 0)) ++ Config.sha256 img, source := reqSecurity, inst := 0xFF, cls := clsGRID,
    after := some { code := afterPROFILE, args := [] } }

/-- R286: ACTIVATE. -/
def activate (s : State) : State :=
  let b := 1 - s.get GRD_STAT_BANK
  if s.grd.committing || s.grd.swap then s.put GRD_STAT_CFG_IGN 1
  else if !bankRanges s b then profErr s 1
  else if bit (s.get (GRD_PROFILE_WORD b 1)) 29 && islBound s b > 89 then profErr s 2
  else if gridChannelLive s then profErr s 3
  else if !ldgRoom s (profileRec s b) then profErr s 4
  else ({ ldgPush s (profileRec s b) with grd := { s.grd with committing := true } } : State)

/-- R286, R290: the banks swap. -/
def bankSwap (s : State) : State :=
  let s := s.put GRD_STAT_BANK (1 - s.get GRD_STAT_BANK)
  let s := { s with grd := { s.grd with swap := false, active := true, timer := [], exceeded := [] } }
  let s := s.puts [(GRD_STAT_ISL_CNT, 0), (GRD_STAT_ISL_BOUND, if bit (pw s 1) 29 then islBound s (s.get GRD_STAT_BANK) else 0)]
  setNudge (setRegion (gridCause s causeNOPROF false))

/-- R286: the profile's record is committed, or its commit has failed. -/
def profileCommitted (s : State) (ok : Bool) : State :=
  if !s.grd.committing then s
  else if !ok then profErr ({ s with grd := { s.grd with committing := false } } : State) 4
  else
    -- a crossing before the commit is not "the next"
    let s := { s with grd := { s.grd with committing := false, swap := true, zeroCross := false } }
    if gridLocked s then s else bankSwap s

/-- PROFILE_BANK_SWAP: at a forward crossing of θ through 0, or at once while the tracker is unlocked. -/
def profileSwap (s : State) : State :=
  if s.grd.swap && (s.grd.zeroCross || !gridLocked s) then bankSwap s else s

/-! ### Active islanding (R297, R298) -/

/-- R297: TURN of the cycle in which θ last passed INJ_PHASE. -/
def injTurn (s : State) : Nat := wrap 32 (s.grd.phasePos / 2 ^ 32 + s.grd.turnOfs)

/-- INJECTION_START. -/
def injStart (s : State) : State :=
  let turn := injTurn s
  let p := injPeriod s
  if actEn s && s.grd.phaseCross && s.grd.inj.isNone && p != 0 && turn % p == s.get GRD_INJ_SLOT_SLOT % p then
    setNudge ({ s with grd := { s.grd with inj := some (s.get GRD_FREQ_F, bits (pw s 7) 16 8), phaseCross := false } } : State)
  else s

/-- Writes a pending INJ_PHASE and INJ_SLOT. -/
def applyInjLate (s : State) : State :=
  match s.grd.injLate with
  | none => s
  | some (p, k) => ({ s with grd := { s.grd with injLate := none } } : State).puts [(GRD_INJ_PHASE_PHASE, p), (GRD_INJ_SLOT_SLOT, k)]

/-- R298: the updates of f from now to the response: F_WIN cycles after the end, not counting an update still to come of a
crossing of 0 that fell before or at the end itself. -/
def respWait (s : State) : Nat := fWin s + b2n (s.grd.newCycle && !s.grd.phaseFirst)

/-- INJECTION_END. -/
def injEnd (s : State) : State :=
  match s.grd.inj with
  | some (f0, 0) =>
    setNudge (applyInjLate ({ s with grd := { s.grd with inj := none, resps := s.grd.resps ++ [(f0, respWait s)] } } : State))
  | _ => s

/-- INJECTION_RESPONSE. -/
def injResponse (s : State) : State :=
  match s.grd.resps with
  | (f0, 0) :: rest =>
    let s := { s with grd := { s.grd with resps := rest } }
    let r : Int := (s.get GRD_FREQ_F : Int) - f0
    let amp := signed 32 (pw s 8)
    let hit := bits (pw s 9) 16 16 * 1000 ≤ r.natAbs && decide ((0 < r) = (0 < amp)) && r != 0
    if hit then
      let n := s.get GRD_STAT_ISL_CNT + 1
      if bits (pw s 7) 8 8 ≤ n then gridCause (s.put GRD_STAT_ISL_CNT 0) causeACTIVE true else s.put GRD_STAT_ISL_CNT n
    else s.put GRD_STAT_ISL_CNT 0
  | _ => s

/-- R297: a write of INJ_PHASE (`slot` false) or INJ_SLOT. -/
def injWrite (s : State) (slot : Bool) (v : Nat) : State :=
  if s.grd.inj.isSome then
    let (p, k) := s.grd.injLate.getD (s.get GRD_INJ_PHASE_PHASE, s.get GRD_INJ_SLOT_SLOT)
    { s with grd := { s.grd with injLate := some (if slot then (p, v % 256) else (v, k)) } }
  else if slot then s.put GRD_INJ_SLOT_SLOT v else s.put GRD_INJ_PHASE_PHASE v

/-! ### Writes of the manager (R273, R274, R281, R293) -/

def grdIgn (s : State) : State := s.put GRD_STAT_CFG_IGN 1

/-- A write of GRD_TRK_TRIM. -/
def setTrim (s : State) (v : Nat) : State :=
  if (signed 32 v).natAbs ≤ 23860929 then s.put GRD_TRK_TRIM_TRIM v else grdIgn s

/-- A write of GRD_CTRL: a write that sets CEASE_CMD and CEASE_CLR leaves CMD set. -/
def grdCtrl (s : State) (v : Nat) : State :=
  let s := s.when (bit v 1) ceaseClr
  let s := s.when (bit v 0) ceaseCmd
  s.when (bit v 2) activate

/-- R274: the configuration may change. -/
def grdCfgFree (s : State) : Bool := !gridChannelLive s && s.get GRD_IVS_STAT_STATE == 0

/-- A write of GRD_CFG; EN going to 0 stops the tracker. -/
def grdCfgWrite (s : State) (v : Nat) : State :=
  if !grdCfgFree s then grdIgn s
  else
    let was := s.flag GRD_CFG_EN
    let s := s.putWord [(GRD_CFG_EN, 31), (GRD_CFG_THREE_PH, 30), (GRD_CFG_IVS_PC, 28)] v
    if was && !bit v 31 then
      let s := s.when (gridLocked s) trackerUnlock
      { s with grd := { s.grd with goodPos := none, win := [], done := [], cross := [], newCycle := false, fHist := [], lastA := none, rawCross := none, periods := [], newPeriod := false } }
    -- R283: phases B and C have windows only while they are computed
    else if !bit v 30 then
      { s with grd := { s.grd with win := s.grd.win.filter (fun e => e.1 == 0), done := s.grd.done.filter (fun e => e.1 == 0), bad := s.grd.bad.filter (fun e => e.1 == 0) } }
    else s

/-- A write of GRD_VINk. -/
def grdVinWrite (s : State) (k v : Nat) : State :=
  if grdCfgFree s then s.putWord [(GRD_VIN_UNIT k, 29), (GRD_VIN_INPUT k, 25), (GRD_VIN_GAIN k, 0)] v else grdIgn s

/-- A write of a word of profile bank `b`: nobody writes the active bank (Table 7.1), so R273 refuses it. -/
def profileWrite (s : State) (m b w v : Nat) : State :=
  if b = s.get GRD_STAT_BANK then s.refuseWrite m 11 (0x1000 + 0x800 * b + 4 * w) else s.put (GRD_PROFILE_WORD b w) v

/-! ### IV scan (R302–R309) -/

def ivsIDLE : Nat := 0
def ivsSCANNING : Nat := 1
def ivsDONE : Nat := 2
def ivsABORTED : Nat := 3

def ivsIgn (s : State) : State := s.put GRD_IVS_STAT_CFG_IGN 1

/-- The channel that the sequencer serves. -/
def ivsPc (s : State) : Nat := s.get GRD_CFG_IVS_PC

/-- The set that the IVS registers hold. -/
def ivsRegs (s : State) : ShSet :=
  let m := s.get GRD_IVS_MODE_MODE
  { per := s.get GRD_IVS_PER_VALUE, mode := (List.range 4).map (fun j => bits m (4 * j) 3),
    rise := (List.range 4).map (fun j => s.get (GRD_IVS_RISE_VALUE j)), fall := (List.range 4).map (fun j => s.get (GRD_IVS_FALL_VALUE j)) }

/-- Writes a set into the served channel's shadow and commits it; whether the COMMIT is accepted. -/
def ivsCommit (s : State) (v : ShSet) : State × Bool :=
  let n := ivsPc s
  let s := putShadow ((beforeShadow s n).put (PWM_CH_STAT_VALID n) 0) n v
  let ok := !commitRefused s n
  (commitSet s n, ok)

/-- The IVS registers as they stand. -/
def ivsLive (s : State) : IvsView :=
  { set := ivsRegs s, mask := s.get GRD_IVS_SCAN_MASK, restore := s.flag GRD_IVS_SCAN_RESTORE, w0 := s.get GRD_IVS_WSTART_W,
    w1 := s.get GRD_IVS_WEND_W, nm1 := s.get GRD_IVS_STEP_NM1, dwell := s.get GRD_IVS_STEP_DWELL }

/-- R309: the IVS registers as they stood at the end of the previous PWM clock cycle. -/
def ivsView (s : State) : IvsView :=
  match s.ivs.snap with
  | some (c, v) => if c = pwmCycle s.T then v else ivsLive s
  | none => ivsLive s

/-- R309: keeps the IVS registers as they stood before the first write in this cycle. -/
def beforeIvs (s : State) : State :=
  match s.ivs.snap with
  | some (c, _) => if c = pwmCycle s.T then s else { s with ivs := { s.ivs with snap := some (pwmCycle s.T, ivsLive s) } }
  | none => { s with ivs := { s.ivs with snap := some (pwmCycle s.T, ivsLive s) } }

/-- R303: APPLY; during a scan its values are kept for the next step's commit. -/
def ivsApply (s : State) : State :=
  if s.get GRD_IVS_STAT_STATE = ivsSCANNING then { s with ivs := { s.ivs with held := some (ivsRegs s) } }
  else (ivsCommit s (ivsRegs s)).1

/-- R305: W_k. -/
def ivsWidth (r : IvsView) (k : Nat) : Nat :=
  ((r.w0 : Int) + (if r.nm1 = 0 then 0 else (k : Int) * ((r.w1 : Int) - r.w0) / r.nm1)).toNat

/-- The set with leg j's FALL replaced. -/
def ShSet.withFall (v : ShSet) (j f : Nat) : ShSet := { v with fall := v.fall.set j f }

/-- The set with leg j as it is in `c`. -/
def ShSet.withLeg (v : ShSet) (j : Nat) (c : ShSet) : ShSet :=
  { v with mode := v.mode.set j (c.mode.getD j 0), rise := v.rise.set j (c.rise.getD j 0), fall := v.fall.set j (c.fall.getD j 0) }

/-- (RISE_j + w) mod PER. -/
def ShSet.fallAt (v : ShSet) (j w : Nat) : Nat := if v.per = 0 then v.rise.getD j 0 + w else (v.rise.getD j 0 + w) % v.per

/-- R305: commits the present step's set; a refused commit ends the scan (R308). -/
def ivsStepCommit (s : State) (r : IvsView) : State :=
  let v := s.ivs
  let j := v.leg
  let cur := v.cur.getD r.set
  let cur := match v.held with | some h => h.withLeg j cur | none => cur
  let w := ivsWidth r v.step
  let (s, ok) := ivsCommit s (cur.withFall j (cur.fallAt j w))
  let s := { s with ivs := { v with cur := some cur, held := none, waitXfer := true, stepCyc := pwmCycle s.T, w := w, res := [] } }
  let s := s.puts [(GRD_IVS_STAT_LEG, j), (GRD_IVS_STAT_STEP, v.step)]
  if ok then s
  else ({ s with ivs := { s.ivs with waitXfer := false } } : State).puts [(GRD_IVS_STAT_STATE, ivsABORTED), (GRD_IVS_STAT_ERR, 1)]

/-- R304: SCAN. -/
def ivsScan (s : State) : State :=
  let n := ivsPc s
  let dw := s.get GRD_IVS_STEP_DWELL
  match setBits 4 (s.get GRD_IVS_SCAN_MASK) with
  | [] => ivsIgn s
  | j :: _ =>
    if s.get GRD_IVS_STAT_STATE ≠ ivsSCANNING ∧ chState s n = chRUNNING ∧ s.get (PWM_CH_CFG_XFER n) = 0 ∧ 10 ≤ dw ∧ dw ≤ 10000 then
      let r := ivsLive s
      let s := s.puts [(GRD_IVS_STAT_STATE, ivsSCANNING), (GRD_IVS_STAT_MPP_VALID, bitsMinus 4 (s.get GRD_IVS_STAT_MPP_VALID) r.mask)]
      ivsStepCommit { s with ivs := { leg := j, pre := some r.set, cur := some r.set, snap := s.ivs.snap } } r
    else ivsIgn s

/-- R308: ABORT. -/
def ivsAbort (s : State) : State :=
  if s.get GRD_IVS_STAT_STATE = ivsSCANNING then
    let s := s.put GRD_IVS_STAT_STATE ivsABORTED
    let s := (ivsCommit s (s.ivs.pre.getD (ivsRegs s))).1
    { s with ivs := { s.ivs with waitXfer := false, held := none } }
  else s

/-- R302, R309: a write of IVS_CTRL. The bits act in the cycle after the write, on the IVS registers at the write's own cycle
(log entry 36). -/
def ivsCtrl (s : State) (v : Nat) : State :=
  if ivsOwns s (ivsPc s) then
    let s := s.when (bit v 2) ivsAbort
    let s := s.when (bit v 1) ivsScan
    s.when (bit v 0) ivsApply
  else ivsIgn s

/-- R307: the index and the point with the greatest product so far. -/
def bestPoint : List (Option IvsPoint) → Nat → Option (Nat × IvsPoint) → Option (Nat × IvsPoint)
  | [], _, b => b
  | none :: t, i, b => bestPoint t (i + 1) b
  | some p :: t, i, b =>
    bestPoint t (i + 1) (match b with | some (k, q) => if q.v * q.i < p.v * p.i then some (i, p) else some (k, q) | none => some (i, p))

/-- R307: the end of string j. -/
def ivsStringDone (s : State) (r : IvsView) : State :=
  let v := s.ivs
  let j := v.leg
  let npts := if j = 0 then GRD_IVS_NPTS_NPTS0 else if j = 1 then GRD_IVS_NPTS_NPTS1 else if j = 2 then GRD_IVS_NPTS_NPTS2 else GRD_IVS_NPTS_NPTS3
  let s := s.put npts (v.pts.length - 1)
  let cur := v.cur.getD r.set
  let s :=
    match bestPoint v.pts 0 none with
    | none => s
    | some (i, p) =>
      let s := s.puts [(GRD_IVS_MPP_INDEX j, i), (GRD_IVS_MPP_W j, p.w), (GRD_IVS_STAT_MPP_VALID, setBit (s.get GRD_IVS_STAT_MPP_VALID) j)]
      if r.restore then s.put (GRD_IVS_FALL_VALUE j) (cur.fallAt j p.w) else s
  let fall := s.get (GRD_IVS_FALL_VALUE j)
  let cur := cur.withFall j fall
  let held := v.held.map (fun h => (h.withLeg j cur))
  let s := { s with ivs := { v with cur := some cur, held := held, pts := [], step := 0 } }
  match (setBits 4 r.mask).find? (fun k => j < k) with
  | some k => ivsStepCommit { s with ivs := { s.ivs with leg := k } } r
  | none =>
    let (s, ok) := ivsCommit s (held.getD cur)
    let s := { s with ivs := { s.ivs with held := none, waitXfer := false } }
    if ok then (s.put GRD_IVS_STAT_STATE ivsDONE).irq .grd
    else s.puts [(GRD_IVS_STAT_STATE, ivsABORTED), (GRD_IVS_STAT_ERR, 1)]

/-- R306: all results that fall in the window of the present step: those delivered, and those sampled and not yet delivered. -/
def ivsResults (s : State) (r : IvsView) : List IvsRes :=
  let v := s.ivs
  let fly := (adcInFlight s).map (fun e =>
    (⟨ivsIsV s v.leg e.1 e.2.c.input, ivsIsI s v.leg e.1 e.2.c.input, e.2.t, e.2.code, e.2.refu || e.2.ovr⟩ : IvsRes))
  (v.res ++ fly).filter (fun e => decide (2 * v.dwell + r.dwell * 1000 ≤ 2 * e.t ∧ e.t < v.dwell + r.dwell * 1000))

/-- The mean of codes × 16, none without a result. -/
def ivsMean (l : List IvsRes) : Option Nat :=
  if l.isEmpty then none else some (16 * l.foldl (fun a e => a + e.code) 0 / l.length)

/-- R306: the point that the results of a window give; none for an unusable one. -/
def ivsPoint (l : List IvsRes) (w : Nat) : Option IvsPoint :=
  match ivsMean (l.filter (fun e => e.isV)), ivsMean (l.filter (fun e => e.isI)) with
  | some v, some i => if l.any (fun e => (e.isV || e.isI) && e.bad) then none else some ⟨v, i, w⟩
  | _, _ => none

/-- R306: the word of a point in the IV table. -/
def ivsWord (p : Option IvsPoint) : Nat := match p with | some p => p.v * 65536 + p.i | none => 0

/-- R306: the dwell of a step ends. -/
def ivsDwellEnd (s : State) : State :=
  let v := s.ivs
  let r := ivsView s
  if s.get GRD_IVS_STAT_STATE = ivsSCANNING ∧ !v.waitXfer ∧ v.dwell + r.dwell * 1000 ≤ s.T then
    let p := ivsPoint (ivsResults s r) v.w
    let s := s.put (GRD_IV_POINT v.leg v.step) (ivsWord p)
    let s := { s with ivs := { v with pts := v.pts ++ [p] } }
    let low := match p with | some p => decide (p.v < s.get (GRD_IVS_IN_VMIN v.leg) * 16) | none => false
    if low || v.step == r.nm1 then ivsStringDone s r
    else ivsStepCommit { s with ivs := { s.ivs with step := v.step + 1 } } r
  else s

/-- R273: the DSP that writes the IVS registers. -/
def isIvsDsp (s : State) (m : Nat) : Bool := s.flag (PWM_BIND_BOUND (ivsPc s)) && isChanDsp s m (ivsPc s)

/-- R309: a write of IVS_RISEj (`fall` false) or IVS_FALLj. -/
def ivsCompareWrite (s : State) (j : Nat) (fall : Bool) (v : Nat) : State :=
  if s.get GRD_IVS_STAT_STATE = ivsSCANNING ∧ s.ivs.leg = j then ivsIgn s
  else
    let s := beforeIvs s
    if fall then s.put (GRD_IVS_FALL_VALUE j) v else s.put (GRD_IVS_RISE_VALUE j) v

/-- R274: the manager's writes of IVS_INj. -/
def ivsInWrite (s : State) (j v : Nat) : State :=
  if grdCfgFree s then
    s.putWord [(GRD_IVS_IN_V_UNIT j, 29), (GRD_IVS_IN_V_INPUT j, 25), (GRD_IVS_IN_I_UNIT j, 22), (GRD_IVS_IN_I_INPUT j, 18), (GRD_IVS_IN_VMIN j, 0)] v
  else ivsIgn s

/-! ### Reads -/

/-- R273: who reads the block. -/
def grdReader (s : State) (m : Nat) : Bool :=
  isManager m || (List.range 4).any (fun n => s.flag (PWM_BIND_BOUND n) && isChanDsp s m n &&
    (s.get (PWM_BIND_ROLE n) == roleGRID || s.get (PWM_BIND_ROLE n) == roleDCDC))

/-- R301: a read of GRD_REF_A latches REF_B, REF_C and REF_T. -/
def grdRefRead (s : State) (m : Nat) : State :=
  if !grdReader s m then s.refuseRead m 11 0x50
  else
    let b := blockBase 11 0
    let s := (s.latch m (b + 0x54) (s.get (GRD_REF_ANG 1))).latch m (b + 0x58) (s.get (GRD_REF_ANG 2))
    let s := s.latch m (b + 0x5C) (s.get GRD_REF_T_T)
    s.answer (s.get (GRD_REF_ANG 0))

end Sys2Proof.Machine
end

