-- ==== Sys2Proof/Machine/RegMap.lean ====
section
/-! DEFINITION. The register maps: for each block of Table 11.2 the rows of its register map, each row an address
(with up to two index strides), the bank index field where the register is banked, and its fields with their access codes (Table 0.3). -/
namespace Sys2Proof.RegMap
open Sys2Proof.Machine Sys2Proof.Reg

/-! The register map of block BOOT. -/
def mapBoot0 : List RegRow := [
  ⟨0x0, 0x4, 1, 0x4, 1, none, [(16, .ro, fun _ _ _ => BOOT_CHIP_ID_PART), (8, .ro, fun _ _ _ => BOOT_CHIP_ID_FAMILY)]⟩,
  ⟨0x4, 0x4, 1, 0x4, 1, none, [(4, .ro, fun _ _ _ => BOOT_CHIP_REV_MAJOR), (0, .ro, fun _ _ _ => BOOT_CHIP_REV_MINOR)]⟩,
  ⟨0x8, 0x4, 1, 0x4, 1, none, [(28, .ro, fun _ _ _ => BOOT_STAGE_STAGE), (27, .ro, fun _ _ _ => BOOT_STAGE_DRAM_READY), (26, .ro, fun _ _ _ => BOOT_STAGE_RT_READY), (25, .ro, fun _ _ _ => BOOT_STAGE_HOST_READY), (24, .ro, fun _ _ _ => BOOT_STAGE_RESTRICTED), (23, .ro, fun _ _ _ => BOOT_STAGE_ACKED), (0, .ro, fun _ _ _ => BOOT_STAGE_FAIL_COMP)]⟩,
  ⟨0xC, 0x4, 1, 0x4, 1, none, [(24, .ro, fun _ _ _ => BOOT_VERDICT_VERDICT), (16, .ro, fun _ _ _ => BOOT_VERDICT_COUNT), (0, .ro, fun _ _ _ => BOOT_VERDICT_FIRST)]⟩,
  ⟨0x10, 0x4, 1, 0x4, 1, none, [(0, .rw, fun _ _ _ => BOOT_COMP_IDX_IDX)]⟩,
  ⟨0x14, 0x4, 1, 0x4, 1, some BOOT_COMP_IDX_IDX, [(16, .ro, fun i _ _ => BOOT_COMP_COMPONENT i), (12, .ro, fun i _ _ => BOOT_COMP_STATUS i)]⟩,
  ⟨0x18, 0x4, 1, 0x4, 1, some BOOT_COMP_IDX_IDX, [(0, .ro, fun i _ _ => BOOT_COMP_VER_VERSION i)]⟩,
  ⟨0x20, 0x4, 5, 0x4, 1, none, [(0, .ro, fun _ a _ => BOOT_STAGE_T_T a)]⟩]
def mapBoot : List RegRow := mapBoot0

/-! The register map of block CLK. -/
def mapClk0 : List RegRow := [
  ⟨0x0, 0x4, 1, 0x4, 1, none, [(31, .ro, fun _ _ _ => CLK_STAT_REF_OK), (30, .w1c, fun _ _ _ => CLK_STAT_REF_LOST), (29, .ro, fun _ _ _ => CLK_STAT_OSC32_OK), (0, .ro, fun _ _ _ => CLK_STAT_LOCK)]⟩,
  ⟨0x4, 0x4, 1, 0x4, 1, none, [(28, .ro, fun _ _ _ => CLK_LOSS_LAST_PLL), (0, .rc, fun _ _ _ => CLK_LOSS_COUNT)]⟩,
  ⟨0x8, 0x4, 1, 0x4, 1, none, [(31, .rw, fun _ _ _ => CLK_REFOUT_EN)]⟩,
  ⟨0xC, 0x4, 1, 0x4, 1, none, [(0, .rw, fun _ _ _ => CLK_DOM_IDX_DOM)]⟩,
  ⟨0x10, 0x4, 1, 0x4, 1, some CLK_DOM_IDX_DOM, [(31, .ro, fun i _ _ => CLK_DOM_STAT_GATED i), (30, .ro, fun i _ _ => CLK_DOM_STAT_NOGATE i), (24, .ro, fun i _ _ => CLK_DOM_STAT_PLL i), (0, .rc, fun i _ _ => CLK_DOM_STAT_UNGATE_CNT i)]⟩,
  ⟨0x14, 0x4, 1, 0x4, 1, some CLK_DOM_IDX_DOM, [(0, .rw, fun i _ _ => CLK_DOM_CFG_HOLD i)]⟩]
def mapClk : List RegRow := mapClk0

/-! The register map of block PWR. -/
def mapPwr0 : List RegRow := [
  ⟨0x0, 0x4, 1, 0x4, 1, none, [(30, .ro, fun _ _ _ => PWR_STAT_STATE), (29, .w1c, fun _ _ _ => PWR_STAT_PARK_REFUSED), (28, .w1c, fun _ _ _ => PWR_STAT_UNPLANNED), (0, .ro, fun _ _ _ => PWR_STAT_RAIL_OK)]⟩,
  ⟨0x4, 0x4, 1, 0x4, 1, none, [(0, .wo, fun _ _ _ => PWR_CTRL_PARK)]⟩,
  ⟨0x8, 0x4, 1, 0x4, 1, none, [(31, .rw, fun _ _ _ => PWR_WAKE_CFG_WAKE0_EN), (30, .rw, fun _ _ _ => PWR_WAKE_CFG_WAKE0_POL), (29, .rw, fun _ _ _ => PWR_WAKE_CFG_WAKE1_EN), (28, .rw, fun _ _ _ => PWR_WAKE_CFG_WAKE1_POL), (27, .rw, fun _ _ _ => PWR_WAKE_CFG_ALARM_EN), (26, .rw, fun _ _ _ => PWR_WAKE_CFG_TAMPER_EN)]⟩,
  ⟨0xC, 0x4, 1, 0x4, 1, none, [(0, .ro, fun _ _ _ => PWR_WAKE_CAUSE_CAUSE)]⟩,
  ⟨0x10, 0x4, 1, 0x4, 1, none, [(0, .rw, fun _ _ _ => PWR_ALARM_S)]⟩,
  ⟨0x14, 0x4, 1, 0x4, 1, none, [(0, .ro, fun _ _ _ => PWR_PARK_CNT_COUNT)]⟩]
def mapPwr : List RegRow := mapPwr0

/-! The register map of block RST. -/
def mapRst0 : List RegRow := [
  ⟨0x0, 0x4, 1, 0x4, 1, none, [(0, .w1c, fun _ _ _ => RST_CAUSE_CAUSE)]⟩,
  ⟨0x4, 0x4, 1, 0x4, 1, none, [(1, .wo, fun _ _ _ => RST_CTRL_MGMT), (0, .wo, fun _ _ _ => RST_CTRL_WARM)]⟩,
  ⟨0x8, 0x4, 1, 0x4, 1, none, [(31, .w1c, fun _ _ _ => RST_STAT_REFUSED)]⟩,
  ⟨0xC, 0x4, 1, 0x4, 1, none, [(31, .wx, fun _ _ _ => RST_WDOG_EN), (0, .wx, fun _ _ _ => RST_WDOG_MS)]⟩,
  ⟨0x10, 0x4, 1, 0x4, 1, none, [(0, .wo, fun _ _ _ => RST_WDOG_KICK_KICK)]⟩,
  ⟨0x14, 0x4, 1, 0x4, 1, none, [(24, .rc, fun _ _ _ => RST_CNT_WARM), (16, .rc, fun _ _ _ => RST_CNT_MGMT), (8, .rc, fun _ _ _ => RST_CNT_HOST), (0, .rc, fun _ _ _ => RST_CNT_SAFETY)]⟩]
def mapRst : List RegRow := mapRst0

/-! The register map of block MEM. -/
def mapMem0 : List RegRow := [
  ⟨0x0, 0x4, 1, 0x4, 1, none, [(31, .w1c, fun _ _ _ => MEM_STAT_CFG_IGN)]⟩,
  ⟨0x4, 0x4, 1, 0x4, 1, none, [(31, .rw, fun _ _ _ => MEM_SP_IDX_AUTOINC), (0, .rw, fun _ _ _ => MEM_SP_IDX_INDEX)]⟩,
  ⟨0x8, 0x4, 1, 0x4, 1, some MEM_SP_IDX_INDEX, [(0, .rw, fun i _ _ => MEM_SP_TAG_TAG i)]⟩,
  ⟨0xC, 0x4, 1, 0x4, 1, none, [(31, .rw, fun _ _ _ => MEM_DR_IDX_AUTOINC), (0, .rw, fun _ _ _ => MEM_DR_IDX_INDEX)]⟩,
  ⟨0x10, 0x4, 1, 0x4, 1, some MEM_DR_IDX_INDEX, [(0, .rw, fun i _ _ => MEM_DR_TAG_TAG i)]⟩,
  ⟨0x20, 0x4, 1, 0x4, 1, none, [(31, .ro, fun _ _ _ => MEM_ERR_INFO_VALID), (28, .ro, fun _ _ _ => MEM_ERR_INFO_KIND), (16, .ro, fun _ _ _ => MEM_ERR_INFO_REQID), (8, .ro, fun _ _ _ => MEM_ERR_INFO_REGION), (0, .ro, fun _ _ _ => MEM_ERR_INFO_ADDR_HI)]⟩,
  ⟨0x24, 0x4, 1, 0x4, 1, none, [(0, .ro, fun _ _ _ => MEM_ERR_ADDR_ADDR_LO)]⟩,
  ⟨0x28, 0x4, 1, 0x4, 1, none, [(0, .wo, fun _ _ _ => MEM_ERR_POP_POP)]⟩,
  ⟨0x2C, 0x4, 1, 0x4, 1, none, [(0, .rc, fun _ _ _ => MEM_ERR_LOST_LOST)]⟩,
  ⟨0x30, 0x4, 1, 0x4, 1, none, [(31, .ro, fun _ _ _ => MEM_RST_INFO_VALID), (30, .ro, fun _ _ _ => MEM_RST_INFO_READS_DISCARDED), (16, .ro, fun _ _ _ => MEM_RST_INFO_BYTES), (8, .ro, fun _ _ _ => MEM_RST_INFO_REQID), (0, .ro, fun _ _ _ => MEM_RST_INFO_ADDR_HI)]⟩,
  ⟨0x34, 0x4, 1, 0x4, 1, none, [(0, .ro, fun _ _ _ => MEM_RST_ADDR_ADDR_LO)]⟩,
  ⟨0x38, 0x4, 1, 0x4, 1, none, [(0, .wo, fun _ _ _ => MEM_RST_POP_POP)]⟩]
def mapMem1 : List RegRow := [
  ⟨0x3C, 0x4, 1, 0x4, 1, none, [(0, .rc, fun _ _ _ => MEM_RST_LOST_LOST)]⟩,
  ⟨0x40, 0x4, 1, 0x4, 1, none, [(0, .rw, fun _ _ _ => MEM_CE_THR_THR)]⟩,
  ⟨0xF00, 0x4, 1, 0x4, 1, none, [(31, .ro, fun _ _ _ => MEM_FAB_VIOL_INFO_VALID), (30, .ro, fun _ _ _ => MEM_FAB_VIOL_INFO_WRITE), (16, .ro, fun _ _ _ => MEM_FAB_VIOL_INFO_REQID), (8, .ro, fun _ _ _ => MEM_FAB_VIOL_INFO_REGION), (0, .ro, fun _ _ _ => MEM_FAB_VIOL_INFO_ADDR_HI)]⟩,
  ⟨0xF04, 0x4, 1, 0x4, 1, none, [(0, .ro, fun _ _ _ => MEM_FAB_VIOL_ADDR_ADDR_LO)]⟩,
  ⟨0xF08, 0x4, 1, 0x4, 1, none, [(0, .wo, fun _ _ _ => MEM_FAB_VIOL_POP_POP)]⟩,
  ⟨0xF0C, 0x4, 1, 0x4, 1, none, [(0, .rc, fun _ _ _ => MEM_FAB_VIOL_CNT_COUNT)]⟩,
  ⟨0xF10, 0x4, 1, 0x4, 1, none, [(0, .rc, fun _ _ _ => MEM_FAB_VIOL_LOST_LOST)]⟩,
  ⟨0xF14, 0x4, 1, 0x4, 1, none, [(0, .ro, fun _ _ _ => MEM_FAB_REQID_REQID)]⟩]
def mapMem : List RegRow := mapMem0 ++ mapMem1

/-! The register map of block DRM. -/
def mapDrm0 : List RegRow := [
  ⟨0x0, 0x4, 1, 0x4, 1, none, [(30, .rw, fun _ _ _ => DRM_CFG_TYPE), (28, .rw, fun _ _ _ => DRM_CFG_RATE), (27, .rw, fun _ _ _ => DRM_CFG_RANKS), (22, .rw, fun _ _ _ => DRM_CFG_ROWS), (20, .rw, fun _ _ _ => DRM_CFG_ORDER), (19, .rw, fun _ _ _ => DRM_CFG_CHSEL)]⟩,
  ⟨0x4, 0x4, 1, 0x4, 1, none, [(2, .wo, fun _ _ _ => DRM_CTRL_SR_EXIT), (1, .wo, fun _ _ _ => DRM_CTRL_SR_ENTER), (0, .wo, fun _ _ _ => DRM_CTRL_INIT)]⟩,
  ⟨0x8, 0x4, 1, 0x4, 1, none, [(29, .ro, fun _ _ _ => DRM_STAT_STATE), (28, .w1c, fun _ _ _ => DRM_STAT_CFG_IGN), (26, .ro, fun _ _ _ => DRM_STAT_FAIL_CH)]⟩,
  ⟨0xC, 0x4, 1, 0x4, 1, none, [(16, .ro, fun _ _ _ => DRM_SIZE_U1), (0, .ro, fun _ _ _ => DRM_SIZE_U0)]⟩,
  ⟨0x10, 0x4, 1, 0x4, 1, none, [(0, .rw, fun _ _ _ => DRM_SCRUB_HOURS)]⟩,
  ⟨0x100, 0x100, 2, 0x4, 1, none, [(31, .rw, fun _ a _ => DRM_CH_TRAIN_MODE a), (30, .wo, fun _ a _ => DRM_CH_TRAIN_RETRAIN a), (16, .rw, fun _ a _ => DRM_CH_TRAIN_INTV a), (8, .rw, fun _ a _ => DRM_CH_TRAIN_DRIFT_LIM a)]⟩,
  ⟨0x104, 0x100, 2, 0x4, 1, none, [(0, .rw, fun _ a _ => DRM_CH_CFG_REFMODE a)]⟩,
  ⟨0x108, 0x100, 2, 0x4, 1, none, [(31, .w1c, fun _ a _ => DRM_CH_STAT_DRIFT_WARN a), (24, .rc, fun _ a _ => DRM_CH_STAT_OWED_MAX a)]⟩,
  ⟨0x10C, 0x100, 2, 0x4, 1, none, [(16, .rc, fun _ a _ => DRM_CH_PAUSE_COUNT a), (0, .rc, fun _ a _ => DRM_CH_PAUSE_MAX_NS a)]⟩,
  ⟨0x110, 0x100, 2, 0x4, 1, none, [(0, .rc, fun _ a _ => DRM_CH_RT_DRIFT_CNT_COUNT a)]⟩,
  ⟨0x114, 0x100, 2, 0x4, 1, none, [(0, .rc, fun _ a _ => DRM_CH_CE_CNT_COUNT a)]⟩,
  ⟨0x118, 0x100, 2, 0x4, 1, none, [(0, .rc, fun _ a _ => DRM_CH_UE_CNT_COUNT a)]⟩]
def mapDrm1 : List RegRow := [
  ⟨0x120, 0x100, 2, 0x4, 8, none, [(0, .rw, fun _ a b => DRM_CH_DLY_DELAY a b)]⟩]
def mapDrm : List RegRow := mapDrm0 ++ mapDrm1

/-! The register map of block MBX. -/
def mapMbx0 : List RegRow := [
  ⟨0x0, 0x4, 1, 0x4, 1, none, [(31, .w1c, fun _ _ _ => MBX_STAT_CFG_IGN)]⟩,
  ⟨0x4, 0x4, 1, 0x4, 1, none, [(31, .wo, fun _ _ _ => MBX_LOCK_FORCE_FORCE), (0, .wo, fun _ _ _ => MBX_LOCK_FORCE_LOCK)]⟩,
  ⟨0x8, 0x4, 1, 0x4, 1, none, [(24, .rc, fun _ _ _ => MBX_LOCK_EVT_IGN_CNT), (16, .rc, fun _ _ _ => MBX_LOCK_EVT_BRK_CNT), (8, .ro, fun _ _ _ => MBX_LOCK_EVT_LAST_REQID), (6, .ro, fun _ _ _ => MBX_LOCK_EVT_LAST_KIND), (0, .ro, fun _ _ _ => MBX_LOCK_EVT_LAST_LOCK)]⟩,
  ⟨0x100, 0x4, 64, 0x4, 1, none, [(0, .rl, fun _ a _ => MBX_LOCK_OWNER a)]⟩,
  ⟨0x200, 0x4, 64, 0x4, 1, none, [(0, .ro, fun _ a _ => MBX_LOCK_VIEW_OWNER a)]⟩,
  ⟨0x400, 0x10, 16, 0x4, 1, none, [(0, .wo, fun _ a _ => MBX_Q_PUSH_WORD a)]⟩,
  ⟨0x404, 0x10, 16, 0x4, 1, none, [(0, .ro, fun _ a _ => MBX_Q_POP_WORD a)]⟩,
  ⟨0x408, 0x10, 16, 0x4, 1, none, [(31, .ro, fun _ a _ => MBX_Q_STAT_LAST_PUSH_FULL a), (30, .ro, fun _ a _ => MBX_Q_STAT_LAST_POP_EMPTY a), (0, .ro, fun _ a _ => MBX_Q_STAT_DEPTH a)]⟩,
  ⟨0x40C, 0x10, 16, 0x4, 1, none, [(24, .rc, fun _ a _ => MBX_Q_CNT_FULL a), (16, .rc, fun _ a _ => MBX_Q_CNT_EMPTY a), (0, .rc, fun _ a _ => MBX_Q_CNT_FLUSHED a)]⟩,
  ⟨0x800, 0x10, 64, 0x4, 1, none, [(31, .rw, fun _ a _ => MBX_DB_CFG_EN a), (28, .rw, fun _ a _ => MBX_DB_CFG_TKIND a), (22, .rw, fun _ a _ => MBX_DB_CFG_TIDX a), (16, .rw, fun _ a _ => MBX_DB_CFG_RINGER_ANY a), (0, .rw, fun _ a _ => MBX_DB_CFG_RINGER a)]⟩,
  ⟨0x804, 0x10, 64, 0x4, 1, none, [(0, .wo, fun _ a _ => MBX_DB_SET_SET a)]⟩,
  ⟨0x808, 0x10, 64, 0x4, 1, none, [(0, .w1c, fun _ a _ => MBX_DB_PEND_PEND a)]⟩]
def mapMbx1 : List RegRow := [
  ⟨0x80C, 0x10, 64, 0x4, 1, none, [(0, .rw, fun _ a _ => MBX_DB_MASK_MASK a)]⟩,
  ⟨0x10000, 0x200, 128, 0x4, 16, none, [(0, .rw, fun _ a b => MBX_FOLIO_H2D_F_DATA a b)]⟩,
  ⟨0x10080, 0x200, 128, 0x4, 1, none, [(31, .ro, fun _ a _ => MBX_FOLIO_H2D_CTRL_GO a), (30, .wo, fun _ a _ => MBX_FOLIO_H2D_CTRL_POST a), (29, .wo, fun _ a _ => MBX_FOLIO_H2D_CTRL_DONE a), (0, .rc, fun _ a _ => MBX_FOLIO_H2D_CTRL_IGN a)]⟩,
  ⟨0x10100, 0x200, 128, 0x4, 16, none, [(0, .rw, fun _ a b => MBX_FOLIO_D2H_F_DATA a b)]⟩,
  ⟨0x10180, 0x200, 128, 0x4, 1, none, [(31, .ro, fun _ a _ => MBX_FOLIO_D2H_CTRL_GO a), (30, .wo, fun _ a _ => MBX_FOLIO_D2H_CTRL_POST a), (29, .wo, fun _ a _ => MBX_FOLIO_D2H_CTRL_DONE a), (0, .rc, fun _ a _ => MBX_FOLIO_D2H_CTRL_IGN a)]⟩]
def mapMbx : List RegRow := mapMbx0 ++ mapMbx1

/-! The register map of block TSP. -/
def mapTsp0 : List RegRow := [
  ⟨0x0, 0x4, 1, 0x4, 1, none, [(0, .ro, fun _ _ _ => TSP_T_LO_T)]⟩,
  ⟨0x4, 0x4, 1, 0x4, 1, none, [(0, .ro, fun _ _ _ => TSP_T_HI_T)]⟩,
  ⟨0x8, 0x4, 1, 0x4, 1, none, [(8, .ro, fun _ _ _ => TSP_SRC_SUM_TRACKING), (0, .ro, fun _ _ _ => TSP_SRC_SUM_LOST)]⟩,
  ⟨0x10, 0x4, 1, 0x4, 1, none, [(31, .rc, fun _ _ _ => TSP_CONFLICT_INFO_VALID), (16, .rc, fun _ _ _ => TSP_CONFLICT_INFO_CLAIMANT), (8, .rc, fun _ _ _ => TSP_CONFLICT_INFO_HOLDER), (0, .rc, fun _ _ _ => TSP_CONFLICT_INFO_RESOURCE)]⟩,
  ⟨0x14, 0x4, 1, 0x4, 1, none, [(16, .rc, fun _ _ _ => TSP_CONFLICT_CNT_LOST), (0, .rc, fun _ _ _ => TSP_CONFLICT_CNT_COUNT)]⟩,
  ⟨0x100, 0x40, 8, 0x4, 1, none, [(31, .rw, fun _ a _ => TSP_SRC_CFG_EN a), (28, .rw, fun _ a _ => TSP_SRC_CFG_KIND a), (27, .rw, fun _ a _ => TSP_SRC_CFG_DIRINV a), (24, .rw, fun _ a _ => TSP_SRC_CFG_FALLBACK a), (23, .rw, fun _ a _ => TSP_SRC_CFG_FB_EN a), (22, .rw, fun _ a _ => TSP_SRC_CFG_FB_AUTO a), (21, .rw, fun _ a _ => TSP_SRC_CFG_BUMPLESS a), (18, .rw, fun _ a _ => TSP_SRC_CFG_PARENT a), (17, .rw, fun _ a _ => TSP_SRC_CFG_REF_EN a), (12, .rw, fun _ a _ => TSP_SRC_CFG_TRK_BW a), (8, .rw, fun _ a _ => TSP_SRC_CFG_STILL a), (0, .rw, fun _ a _ => TSP_SRC_CFG_FILT a)]⟩,
  ⟨0x104, 0x40, 8, 0x4, 1, none, [(29, .rw, fun _ a _ => TSP_SRC_IN_SIN_UNIT a), (24, .rw, fun _ a _ => TSP_SRC_IN_SIN_INPUT a), (21, .rw, fun _ a _ => TSP_SRC_IN_COS_UNIT a), (16, .rw, fun _ a _ => TSP_SRC_IN_COS_INPUT a), (0, .rw, fun _ a _ => TSP_SRC_IN_QIN a)]⟩,
  ⟨0x108, 0x40, 8, 0x4, 1, none, [(16, .rw, fun _ a _ => TSP_SRC_SCALE_NUM a), (0, .rw, fun _ a _ => TSP_SRC_SCALE_DEN_LINES a)]⟩,
  ⟨0x10C, 0x40, 8, 0x4, 1, none, [(30, .rw, fun _ a _ => TSP_SRC_LOSS_ACTION a), (16, .rw, fun _ a _ => TSP_SRC_LOSS_COAST_US a), (8, .rw, fun _ a _ => TSP_SRC_LOSS_LOSS_CONS a), (7, .rw, fun _ a _ => TSP_SRC_LOSS_CMD_DSP_EN a), (5, .rw, fun _ a _ => TSP_SRC_LOSS_CMD_DSP a)]⟩,
  ⟨0x114, 0x40, 8, 0x4, 1, none, [(2, .wo, fun _ a _ => TSP_SRC_CMD_SWBACK a), (1, .wo, fun _ a _ => TSP_SRC_CMD_SWITCH a), (0, .wo, fun _ a _ => TSP_SRC_CMD_RESYNC a)]⟩,
  ⟨0x118, 0x40, 8, 0x4, 1, none, [(29, .ro, fun _ a _ => TSP_SRC_STAT_STATE a), (28, .ro, fun _ a _ => TSP_SRC_STAT_REVERSE a), (27, .ro, fun _ a _ => TSP_SRC_STAT_STANDSTILL a), (24, .ro, fun _ a _ => TSP_SRC_STAT_FOLLOW_SRC a), (16, .rc, fun _ a _ => TSP_SRC_STAT_ZERR_CNT a), (8, .rc, fun _ a _ => TSP_SRC_STAT_ILLEGAL_CNT a), (7, .w1c, fun _ a _ => TSP_SRC_STAT_LOSS_EV a), (6, .w1c, fun _ a _ => TSP_SRC_STAT_SWITCH_EV a), (5, .w1c, fun _ a _ => TSP_SRC_STAT_CONFLICT a), (4, .w1c, fun _ a _ => TSP_SRC_STAT_CFG_IGN a), (3, .ro, fun _ a _ => TSP_SRC_STAT_OWN_OK a)]⟩,
  ⟨0x120, 0x40, 8, 0x4, 1, none, [(0, .ro, fun _ a _ => TSP_SRC_ANG_ANG a)]⟩]
def mapTsp1 : List RegRow := [
  ⟨0x124, 0x40, 8, 0x4, 1, none, [(0, .ro, fun _ a _ => TSP_SRC_TURN_TURN a)]⟩,
  ⟨0x128, 0x40, 8, 0x4, 1, none, [(0, .ro, fun _ a _ => TSP_SRC_SPEED_SPEED a)]⟩,
  ⟨0x12C, 0x40, 8, 0x4, 1, none, [(0, .ro, fun _ a _ => TSP_SRC_UPD_T_UPD_T a)]⟩,
  ⟨0x110, 0x40, 8, 0x4, 1, none, [(0, .rw, fun _ a _ => TSP_SRC_OFS_OFS a)]⟩,
  ⟨0x11C, 0x40, 8, 0x4, 1, none, [(0, .ro, fun _ a _ => TSP_SRC_SWOFS_SWOFS a)]⟩,
  ⟨0x130, 0x40, 8, 0x4, 1, none, [(0, .ro, fun _ a _ => TSP_SRC_SWOFS_HI_SWOFS a)]⟩,
  ⟨0x1000, 0x20, 128, 0x4, 1, none, [(31, .wo, fun _ a _ => TSP_CMP_OWN_CLAIM a), (30, .wo, fun _ a _ => TSP_CMP_OWN_RELEASE a), (29, .ro, fun _ a _ => TSP_CMP_OWN_HW_RSV a), (0, .ro, fun _ a _ => TSP_CMP_OWN_OWNER a)]⟩,
  ⟨0x1004, 0x20, 128, 0x4, 1, none, [(28, .rw, fun _ a _ => TSP_CMP_CFG_SRC a), (26, .rw, fun _ a _ => TSP_CMP_CFG_DIR a), (24, .rw, fun _ a _ => TSP_CMP_CFG_MODE a), (16, .rw, fun _ a _ => TSP_CMP_CFG_CONS a), (0, .rw, fun _ a _ => TSP_CMP_CFG_LEAD a)]⟩,
  ⟨0x1008, 0x20, 128, 0x4, 1, none, [(0, .rw, fun _ a _ => TSP_CMP_TGT_LO_TGT_LO a)]⟩,
  ⟨0x100C, 0x20, 128, 0x4, 1, none, [(0, .rw, fun _ a _ => TSP_CMP_TGT_HI_TGT_HI a)]⟩,
  ⟨0x1010, 0x20, 128, 0x4, 1, none, [(0, .rw, fun _ a _ => TSP_CMP_STEP_STEP a)]⟩,
  ⟨0x1014, 0x20, 128, 0x4, 1, none, [(1, .wo, fun _ a _ => TSP_CMP_CTRL_DISARM a), (0, .wo, fun _ a _ => TSP_CMP_CTRL_ARM a)]⟩]
def mapTsp2 : List RegRow := [
  ⟨0x1018, 0x20, 128, 0x4, 1, none, [(31, .ro, fun _ a _ => TSP_CMP_STAT_ARMED a), (30, .w1c, fun _ a _ => TSP_CMP_STAT_FIRED a), (29, .w1c, fun _ a _ => TSP_CMP_STAT_LATE a), (28, .w1c, fun _ a _ => TSP_CMP_STAT_JUMPED a), (27, .w1c, fun _ a _ => TSP_CMP_STAT_HELD a), (26, .w1c, fun _ a _ => TSP_CMP_STAT_CFG_ERR a), (16, .rc, fun _ a _ => TSP_CMP_STAT_OVERRUN a), (0, .rc, fun _ a _ => TSP_CMP_STAT_CANCELLED_BEFORE_START a)]⟩,
  ⟨0x101C, 0x20, 128, 0x4, 1, none, [(0, .ro, fun _ a _ => TSP_CMP_FIRE_T_FIRE_T a)]⟩]
def mapTsp : List RegRow := mapTsp0 ++ mapTsp1 ++ mapTsp2

/-! The register map of block ADC. -/
def mapAdc0 : List RegRow := [
  ⟨0x0, 0x4, 1, 0x4, 1, none, [(0, .rw, fun _ _ _ => ADC_REF_CTRL_EN)]⟩,
  ⟨0x4, 0x4, 1, 0x4, 1, none, [(31, .ro, fun _ _ _ => ADC_REF_STAT_SETTLED), (30, .w1c, fun _ _ _ => ADC_REF_STAT_FAULT), (29, .w1c, fun _ _ _ => ADC_REF_STAT_CFG_IGN), (0, .rc, fun _ _ _ => ADC_REF_STAT_RESTART_CNT)]⟩,
  ⟨0x8, 0x4, 1, 0x4, 1, none, [(16, .wo, fun _ _ _ => ADC_START_SWAP), (8, .wo, fun _ _ _ => ADC_START_STOP), (0, .wo, fun _ _ _ => ADC_START_START)]⟩,
  ⟨0xC, 0x4, 1, 0x4, 1, none, [(31, .rw, fun _ _ _ => ADC_EXC_CFG_EN), (16, .rw, fun _ _ _ => ADC_EXC_CFG_FREQ), (0, .rw, fun _ _ _ => ADC_EXC_CFG_DELAY)]⟩,
  ⟨0x30, 0x4, 1, 0x4, 1, none, [(0, .wx, fun _ _ _ => ADC_CMP_LOCK_LOCK)]⟩,
  ⟨0x20, 0x4, 2, 0x4, 1, none, [(0, .w1c, fun _ a _ => ADC_CMP_STAT_M a)]⟩,
  ⟨0x28, 0x4, 2, 0x4, 1, none, [(0, .ro, fun _ a _ => ADC_CMP_LIVE_M a)]⟩,
  ⟨0x400, 0x200, 8, 0x4, 1, none, [(30, .rw, fun _ a _ => ADC_UNIT_CFG_DSP a), (29, .rw, fun _ a _ => ADC_UNIT_CFG_PC_EN a), (27, .rw, fun _ a _ => ADC_UNIT_CFG_PC a), (26, .rw, fun _ a _ => ADC_UNIT_CFG_FMT a), (16, .rw, fun _ a _ => ADC_UNIT_CFG_QGUARD a)]⟩,
  ⟨0x404, 0x200, 8, 0x4, 1, none, [(2, .wo, fun _ a _ => ADC_UNIT_CTRL_SWAP a), (1, .wo, fun _ a _ => ADC_UNIT_CTRL_STOP a), (0, .wo, fun _ a _ => ADC_UNIT_CTRL_START a)]⟩,
  ⟨0x408, 0x200, 8, 0x4, 1, none, [(31, .ro, fun _ a _ => ADC_UNIT_STAT_RUNNING a), (30, .ro, fun _ a _ => ADC_UNIT_STAT_BANK a), (29, .ro, fun _ a _ => ADC_UNIT_STAT_SWAP_PEND a), (24, .ro, fun _ a _ => ADC_UNIT_STAT_SLOT a), (23, .w1c, fun _ a _ => ADC_UNIT_STAT_CFG_ERR a), (22, .w1c, fun _ a _ => ADC_UNIT_STAT_CFG_IGN a), (8, .rc, fun _ a _ => ADC_UNIT_STAT_DMA_LOST a)]⟩,
  ⟨0x40C, 0x200, 8, 0x4, 1, none, [(8, .rw, fun _ a _ => ADC_UNIT_SEQ_LEN_LEN1 a), (0, .rw, fun _ a _ => ADC_UNIT_SEQ_LEN_LEN0 a)]⟩,
  ⟨0x410, 0x200, 8, 0x4, 1, none, [(31, .rw, fun _ a _ => ADC_UNIT_BUFA_EN a), (30, .rw, fun _ a _ => ADC_UNIT_BUFA_MEM a), (15, .rw, fun _ a _ => ADC_UNIT_BUFA_BASE a), (0, .rw, fun _ a _ => ADC_UNIT_BUFA_LEN a)]⟩]
def mapAdc1 : List RegRow := [
  ⟨0x414, 0x200, 8, 0x4, 1, none, [(31, .rw, fun _ a _ => ADC_UNIT_BUFB_EN a), (30, .rw, fun _ a _ => ADC_UNIT_BUFB_MEM a), (15, .rw, fun _ a _ => ADC_UNIT_BUFB_BASE a), (0, .rw, fun _ a _ => ADC_UNIT_BUFB_LEN a)]⟩,
  ⟨0x418, 0x200, 8, 0x4, 1, none, [(16, .ro, fun _ a _ => ADC_UNIT_WIDX_WIDXB a), (0, .ro, fun _ a _ => ADC_UNIT_WIDX_WIDXA a)]⟩,
  ⟨0x41C, 0x200, 8, 0x4, 1, none, [(24, .rw, fun _ a _ => ADC_UNIT_URG_CFG_TSRC a), (23, .rw, fun _ a _ => ADC_UNIT_URG_CFG_STORE a), (22, .rw, fun _ a _ => ADC_UNIT_URG_CFG_BUF a), (0, .rw, fun _ a _ => ADC_UNIT_URG_CFG_INPUT a)]⟩,
  ⟨0x420, 0x200, 8, 0x4, 1, none, [(0, .wo, fun _ a _ => ADC_UNIT_URG_REQ_REQ a)]⟩,
  ⟨0x424, 0x200, 8, 0x4, 1, none, [(16, .rc, fun _ a _ => ADC_UNIT_URG_CNT_SERVED a), (0, .rc, fun _ a _ => ADC_UNIT_URG_CNT_DROPPED a)]⟩,
  ⟨0x428, 0x200, 8, 0x4, 1, none, [(16, .ro, fun _ a _ => ADC_UNIT_LAST_VAL_VALUE a), (11, .ro, fun _ a _ => ADC_UNIT_LAST_VAL_SLOT a), (7, .ro, fun _ a _ => ADC_UNIT_LAST_VAL_INPUT a), (6, .ro, fun _ a _ => ADC_UNIT_LAST_VAL_QUIET a), (5, .ro, fun _ a _ => ADC_UNIT_LAST_VAL_OVR a), (4, .ro, fun _ a _ => ADC_UNIT_LAST_VAL_REFU a), (3, .ro, fun _ a _ => ADC_UNIT_LAST_VAL_URG a), (2, .ro, fun _ a _ => ADC_UNIT_LAST_VAL_TSTALE a), (1, .ro, fun _ a _ => ADC_UNIT_LAST_VAL_FILL a), (0, .ro, fun _ a _ => ADC_UNIT_LAST_VAL_VALID a)]⟩,
  ⟨0x42C, 0x200, 8, 0x4, 1, none, [(0, .ro, fun _ a _ => ADC_UNIT_LAST_T_T a)]⟩,
  ⟨0x430, 0x200, 8, 0x4, 1, none, [(0, .ro, fun _ a _ => ADC_UNIT_LAST_ANG_ANG a)]⟩,
  ⟨0x434, 0x200, 8, 0x4, 1, none, [(0, .ro, fun _ a _ => ADC_UNIT_LAST_TURN_TURN a)]⟩,
  ⟨0x500, 0x200, 8, 0x4, 32, none, [(30, .rw, fun _ a b => ADC_UNIT_SEQ0_SLOT_KIND a b), (29, .rw, fun _ a b => ADC_UNIT_SEQ0_SLOT_STORE a b), (28, .rw, fun _ a b => ADC_UNIT_SEQ0_SLOT_BUF a b), (25, .rw, fun _ a b => ADC_UNIT_SEQ0_SLOT_TSRC a b), (20, .rw, fun _ a b => ADC_UNIT_SEQ0_SLOT_INPUT a b), (0, .rw, fun _ a b => ADC_UNIT_SEQ0_SLOT_OPEN_WIN a b)]⟩,
  ⟨0x580, 0x200, 8, 0x4, 32, none, [(30, .rw, fun _ a b => ADC_UNIT_SEQ1_SLOT_KIND a b), (29, .rw, fun _ a b => ADC_UNIT_SEQ1_SLOT_STORE a b), (28, .rw, fun _ a b => ADC_UNIT_SEQ1_SLOT_BUF a b), (25, .rw, fun _ a b => ADC_UNIT_SEQ1_SLOT_TSRC a b), (20, .rw, fun _ a b => ADC_UNIT_SEQ1_SLOT_INPUT a b), (0, .rw, fun _ a b => ADC_UNIT_SEQ1_SLOT_OPEN_WIN a b)]⟩,
  ⟨0x2000, 0x8, 64, 0x4, 1, none, [(16, .rw, fun _ a _ => ADC_CMP_THR_HI a), (0, .rw, fun _ a _ => ADC_CMP_THR_LO a)]⟩]
def mapAdc2 : List RegRow := [
  ⟨0x2004, 0x8, 64, 0x4, 1, none, [(31, .rw, fun _ a _ => ADC_CMP_CFG_EN_HI a), (30, .rw, fun _ a _ => ADC_CMP_CFG_EN_LO a), (26, .rw, fun _ a _ => ADC_CMP_CFG_TRIP a), (24, .rw, fun _ a _ => ADC_CMP_CFG_HYST a), (19, .rw, fun _ a _ => ADC_CMP_CFG_FILT a)]⟩]
def mapAdc : List RegRow := mapAdc0 ++ mapAdc1 ++ mapAdc2

/-! The register map of block PWM. -/
def mapPwm0 : List RegRow := [
  ⟨0x0, 0x4, 4, 0x4, 1, none, [(31, .wx, fun _ a _ => PWM_BIND_BOUND a), (28, .wx, fun _ a _ => PWM_BIND_ROLE a), (26, .wx, fun _ a _ => PWM_BIND_DSP a), (20, .wx, fun _ a _ => PWM_BIND_MTRIP a), (16, .wx, fun _ a _ => PWM_BIND_MDESAT a)]⟩,
  ⟨0x10, 0x4, 1, 0x4, 1, none, [(31, .rc, fun _ _ _ => PWM_CONFLICT_INFO_VALID), (16, .rc, fun _ _ _ => PWM_CONFLICT_INFO_CLAIMANT), (8, .rc, fun _ _ _ => PWM_CONFLICT_INFO_HOLDER), (0, .rc, fun _ _ _ => PWM_CONFLICT_INFO_RESOURCE)]⟩,
  ⟨0x14, 0x4, 1, 0x4, 1, none, [(16, .rc, fun _ _ _ => PWM_CONFLICT_CNT_LOST), (0, .rc, fun _ _ _ => PWM_CONFLICT_CNT_COUNT)]⟩,
  ⟨0x20, 0x4, 8, 0x4, 1, none, [(31, .wo, fun _ a _ => PWM_PIN_OWN_CLAIM a), (30, .wo, fun _ a _ => PWM_PIN_OWN_RELEASE a), (28, .ro, fun _ a _ => PWM_PIN_OWN_FUNC a), (8, .rw, fun _ a _ => PWM_PIN_OWN_LEVEL a), (0, .ro, fun _ a _ => PWM_PIN_OWN_OWNER a)]⟩,
  ⟨0x40, 0x4, 1, 0x4, 1, none, [(0, .ro, fun _ _ _ => PWM_SUM_STATES)]⟩,
  ⟨0x100, 0x100, 4, 0x4, 1, none, [(30, .rw, fun _ a _ => PWM_CH_CFG_XFER a), (28, .rw, fun _ a _ => PWM_CH_CFG_DSPLOSS a), (27, .rw, fun _ a _ => PWM_CH_CFG_X_EN a), (26, .rw, fun _ a _ => PWM_CH_CFG_IVS_EN a), (16, .rw, fun _ a _ => PWM_CH_CFG_WDOG a)]⟩,
  ⟨0x104, 0x100, 4, 0x4, 1, none, [(5, .wo, fun _ a _ => PWM_CH_CTRL_DRVRST a), (4, .wo, fun _ a _ => PWM_CH_CTRL_FORCE_TRIP a), (3, .wo, fun _ a _ => PWM_CH_CTRL_TRIP_CLR a), (2, .wo, fun _ a _ => PWM_CH_CTRL_COMMIT a), (1, .wo, fun _ a _ => PWM_CH_CTRL_STOP a), (0, .wo, fun _ a _ => PWM_CH_CTRL_RUN a)]⟩,
  ⟨0x108, 0x100, 4, 0x4, 1, none, [(29, .ro, fun _ a _ => PWM_CH_STAT_STATE a), (28, .ro, fun _ a _ => PWM_CH_STAT_VALID a), (27, .ro, fun _ a _ => PWM_CH_STAT_X_HELD a), (26, .ro, fun _ a _ => PWM_CH_STAT_STO_PERMIT a), (19, .w1c, fun _ a _ => PWM_CH_STAT_WDOG a), (18, .w1c, fun _ a _ => PWM_CH_STAT_CONFLICT a), (17, .w1c, fun _ a _ => PWM_CH_STAT_CLR_REFUSED a), (16, .w1c, fun _ a _ => PWM_CH_STAT_RUN_REFUSED a), (15, .w1c, fun _ a _ => PWM_CH_STAT_CFG_ERR a), (14, .w1c, fun _ a _ => PWM_CH_STAT_CFG_IGN a)]⟩,
  ⟨0x10C, 0x100, 4, 0x4, 1, none, [(31, .ro, fun _ a _ => PWM_CH_TRIP_LATCHED a), (27, .ro, fun _ a _ => PWM_CH_TRIP_FIRST a), (8, .ro, fun _ a _ => PWM_CH_TRIP_LIVE a), (0, .ro, fun _ a _ => PWM_CH_TRIP_SRC a)]⟩,
  ⟨0x110, 0x100, 4, 0x4, 1, none, [(0, .ro, fun _ a _ => PWM_CH_TRIP_T_T a)]⟩,
  ⟨0x114, 0x100, 4, 0x4, 1, none, [(24, .rc, fun _ a _ => PWM_CH_CNT_TRIP_CNT a), (16, .rc, fun _ a _ => PWM_CH_CNT_XFER_STALE a), (8, .rc, fun _ a _ => PWM_CH_CNT_XFER_MERGED a), (0, .rc, fun _ a _ => PWM_CH_CNT_WDOG_CNT a)]⟩,
  ⟨0x118, 0x100, 4, 0x4, 1, none, [(16, .rw, fun _ a _ => PWM_CH_DT_DTF a), (0, .rw, fun _ a _ => PWM_CH_DT_DTR a)]⟩]
def mapPwm1 : List RegRow := [
  ⟨0x11C, 0x100, 4, 0x4, 1, none, [(0, .rw, fun _ a _ => PWM_CH_DRV_WIDTH a)]⟩,
  ⟨0x120, 0x100, 4, 0x4, 1, none, [(0, .rw, fun _ a _ => PWM_CH_SH_PER_PER a)]⟩,
  ⟨0x190, 0x100, 4, 0x4, 1, none, [(0, .ro, fun _ a _ => PWM_CH_POS_POS a)]⟩,
  ⟨0x124, 0x100, 4, 0x4, 1, none, [(0, .rw, fun _ a _ => PWM_CH_SH_MODE_U a), (4, .rw, fun _ a _ => PWM_CH_SH_MODE_V a), (8, .rw, fun _ a _ => PWM_CH_SH_MODE_W a), (12, .rw, fun _ a _ => PWM_CH_SH_MODE_X a)]⟩,
  ⟨0x128, 0x100, 4, 0x8, 4, none, [(0, .rw, fun _ a b => PWM_CH_SH_RISE_RISE a b)]⟩,
  ⟨0x12C, 0x100, 4, 0x8, 4, none, [(0, .rw, fun _ a b => PWM_CH_SH_FALL_FALL a b)]⟩,
  ⟨0x160, 0x100, 4, 0x4, 1, none, [(0, .ro, fun _ a _ => PWM_CH_ACT_PER_PER a)]⟩,
  ⟨0x164, 0x100, 4, 0x4, 1, none, [(0, .ro, fun _ a _ => PWM_CH_ACT_MODE_U a), (4, .ro, fun _ a _ => PWM_CH_ACT_MODE_V a), (8, .ro, fun _ a _ => PWM_CH_ACT_MODE_W a), (12, .ro, fun _ a _ => PWM_CH_ACT_MODE_X a)]⟩,
  ⟨0x168, 0x100, 4, 0x8, 4, none, [(0, .ro, fun _ a b => PWM_CH_ACT_RISE_RISE a b)]⟩,
  ⟨0x16C, 0x100, 4, 0x8, 4, none, [(0, .ro, fun _ a b => PWM_CH_ACT_FALL_FALL a b)]⟩]
def mapPwm : List RegRow := mapPwm0 ++ mapPwm1

/-! The register map of block GRD. -/
def mapGrd0 : List RegRow := [
  ⟨0x0, 0x4, 1, 0x4, 1, none, [(31, .rw, fun _ _ _ => GRD_CFG_EN), (30, .rw, fun _ _ _ => GRD_CFG_THREE_PH), (28, .rw, fun _ _ _ => GRD_CFG_IVS_PC)]⟩,
  ⟨0x4, 0x4, 1, 0x4, 1, none, [(2, .wo, fun _ _ _ => GRD_CTRL_ACTIVATE), (1, .wo, fun _ _ _ => GRD_CTRL_CEASE_CLR), (0, .wo, fun _ _ _ => GRD_CTRL_CEASE_CMD)]⟩,
  ⟨0x8, 0x4, 1, 0x4, 1, none, [(31, .ro, fun _ _ _ => GRD_STAT_LOCKED), (30, .ro, fun _ _ _ => GRD_STAT_CEASE), (28, .ro, fun _ _ _ => GRD_STAT_REGION), (27, .ro, fun _ _ _ => GRD_STAT_BANK), (26, .ro, fun _ _ _ => GRD_STAT_ES_RUN), (25, .w1c, fun _ _ _ => GRD_STAT_PROF_ERR), (24, .w1c, fun _ _ _ => GRD_STAT_CFG_IGN), (21, .ro, fun _ _ _ => GRD_STAT_PROF_CODE), (17, .ro, fun _ _ _ => GRD_STAT_ISL_CNT), (0, .ro, fun _ _ _ => GRD_STAT_ISL_BOUND)]⟩,
  ⟨0xC, 0x4, 1, 0x4, 1, none, [(16, .w1c, fun _ _ _ => GRD_CAUSE_SEEN), (0, .ro, fun _ _ _ => GRD_CAUSE_LIVE)]⟩,
  ⟨0x20, 0x4, 1, 0x4, 1, none, [(31, .ro, fun _ _ _ => GRD_TRK_STAT_LOCKED), (30, .ro, fun _ _ _ => GRD_TRK_STAT_SEQ), (0, .ro, fun _ _ _ => GRD_TRK_STAT_PERR)]⟩,
  ⟨0x24, 0x4, 1, 0x4, 1, none, [(0, .rw, fun _ _ _ => GRD_TRK_TRIM_TRIM)]⟩,
  ⟨0x28, 0x4, 1, 0x4, 1, none, [(0, .ro, fun _ _ _ => GRD_TRK_TRIM_ACT_ACT)]⟩,
  ⟨0x3C, 0x4, 1, 0x4, 1, none, [(0, .ro, fun _ _ _ => GRD_FREQ_F)]⟩,
  ⟨0x40, 0x4, 1, 0x4, 1, none, [(0, .ro, fun _ _ _ => GRD_ROCOF_R)]⟩,
  ⟨0x44, 0x4, 1, 0x4, 1, none, [(0, .ro, fun _ _ _ => GRD_VS_VS)]⟩,
  ⟨0x5C, 0x4, 1, 0x4, 1, none, [(0, .ro, fun _ _ _ => GRD_REF_T_T)]⟩,
  ⟨0x60, 0x4, 1, 0x4, 1, none, [(0, .ro, fun _ _ _ => GRD_NUDGE_DELTA)]⟩]
def mapGrd1 : List RegRow := [
  ⟨0x64, 0x4, 1, 0x4, 1, none, [(0, .rw, fun _ _ _ => GRD_INJ_PHASE_PHASE)]⟩,
  ⟨0x68, 0x4, 1, 0x4, 1, none, [(0, .rw, fun _ _ _ => GRD_INJ_SLOT_SLOT)]⟩,
  ⟨0x70, 0x4, 1, 0x4, 1, none, [(24, .rc, fun _ _ _ => GRD_CNT_UNLOCK_CNT), (16, .rc, fun _ _ _ => GRD_CNT_CEASE_CNT), (0, .rc, fun _ _ _ => GRD_CNT_INVALID_HC)]⟩,
  ⟨0x80, 0x4, 1, 0x4, 1, none, [(2, .wo, fun _ _ _ => GRD_IVS_CTRL_ABORT), (1, .wo, fun _ _ _ => GRD_IVS_CTRL_SCAN), (0, .wo, fun _ _ _ => GRD_IVS_CTRL_APPLY)]⟩,
  ⟨0x84, 0x4, 1, 0x4, 1, none, [(30, .ro, fun _ _ _ => GRD_IVS_STAT_STATE), (28, .ro, fun _ _ _ => GRD_IVS_STAT_LEG), (20, .ro, fun _ _ _ => GRD_IVS_STAT_STEP), (19, .w1c, fun _ _ _ => GRD_IVS_STAT_CFG_IGN), (18, .w1c, fun _ _ _ => GRD_IVS_STAT_ERR), (12, .ro, fun _ _ _ => GRD_IVS_STAT_MPP_VALID)]⟩,
  ⟨0x88, 0x4, 1, 0x4, 1, none, [(28, .rw, fun _ _ _ => GRD_IVS_SCAN_MASK), (27, .rw, fun _ _ _ => GRD_IVS_SCAN_RESTORE)]⟩,
  ⟨0x94, 0x4, 1, 0x4, 1, none, [(24, .rw, fun _ _ _ => GRD_IVS_STEP_NM1), (0, .rw, fun _ _ _ => GRD_IVS_STEP_DWELL)]⟩,
  ⟨0x9C, 0x4, 1, 0x4, 1, none, [(0, .rw, fun _ _ _ => GRD_IVS_MODE_MODE)]⟩,
  ⟨0x10, 0x4, 3, 0x4, 1, none, [(29, .rw, fun _ a _ => GRD_VIN_UNIT a), (25, .rw, fun _ a _ => GRD_VIN_INPUT a), (0, .rw, fun _ a _ => GRD_VIN_GAIN a)]⟩,
  ⟨0x30, 0x4, 3, 0x4, 1, none, [(31, .ro, fun _ a _ => GRD_RMS_VALID a), (30, .ro, fun _ a _ => GRD_RMS_OVR a), (0, .ro, fun _ a _ => GRD_RMS_RMS a)]⟩,
  ⟨0x50, 0x4, 3, 0x4, 1, none, [(0, .ro, fun _ a _ => GRD_REF_ANG a)]⟩,
  ⟨0x8C, 0x4, 1, 0x4, 1, none, [(0, .rw, fun _ _ _ => GRD_IVS_WSTART_W)]⟩]
def mapGrd2 : List RegRow := [
  ⟨0x90, 0x4, 1, 0x4, 1, none, [(0, .rw, fun _ _ _ => GRD_IVS_WEND_W)]⟩,
  ⟨0x98, 0x4, 1, 0x4, 1, none, [(0, .rw, fun _ _ _ => GRD_IVS_PER_VALUE)]⟩,
  ⟨0xA0, 0x8, 4, 0x4, 1, none, [(0, .rw, fun _ a _ => GRD_IVS_RISE_VALUE a)]⟩,
  ⟨0xA4, 0x8, 4, 0x4, 1, none, [(0, .rw, fun _ a _ => GRD_IVS_FALL_VALUE a)]⟩,
  ⟨0xC0, 0x4, 4, 0x4, 1, none, [(29, .rw, fun _ a _ => GRD_IVS_IN_V_UNIT a), (25, .rw, fun _ a _ => GRD_IVS_IN_V_INPUT a), (22, .rw, fun _ a _ => GRD_IVS_IN_I_UNIT a), (18, .rw, fun _ a _ => GRD_IVS_IN_I_INPUT a), (0, .rw, fun _ a _ => GRD_IVS_IN_VMIN a)]⟩,
  ⟨0xD0, 0x4, 4, 0x4, 1, none, [(24, .ro, fun _ a _ => GRD_IVS_MPP_INDEX a), (0, .ro, fun _ a _ => GRD_IVS_MPP_W a)]⟩,
  ⟨0xE0, 0x4, 1, 0x4, 1, none, [(0, .ro, fun _ _ _ => GRD_IVS_NPTS_NPTS0), (8, .ro, fun _ _ _ => GRD_IVS_NPTS_NPTS1), (16, .ro, fun _ _ _ => GRD_IVS_NPTS_NPTS2), (24, .ro, fun _ _ _ => GRD_IVS_NPTS_NPTS3)]⟩,
  ⟨0x1000, 0x800, 2, 0x4, 512, none, [(0, .rw, fun _ a b => GRD_PROFILE_WORD a b)]⟩,
  ⟨0x4000, 0x400, 4, 0x4, 256, none, [(0, .ro, fun _ a b => GRD_IV_POINT a b)]⟩]
def mapGrd : List RegRow := mapGrd0 ++ mapGrd1 ++ mapGrd2

/-! The register map of block SAF. -/
def mapSaf0 : List RegRow := [
  ⟨0x0, 0x4, 1, 0x4, 1, none, [(29, .ro, fun _ _ _ => SAF_STAT_DSTATE), (28, .ro, fun _ _ _ => SAF_STAT_STRAP_OK), (27, .ro, fun _ _ _ => SAF_STAT_PSET_OK), (16, .ro, fun _ _ _ => SAF_STAT_DFAULT)]⟩,
  ⟨0x4, 0x4, 1, 0x4, 1, none, [(16, .ro, fun _ _ _ => SAF_STRAP_OPEN), (8, .ro, fun _ _ _ => SAF_STRAP_BOOT), (0, .ro, fun _ _ _ => SAF_STRAP_LIVE)]⟩,
  ⟨0x8, 0x4, 1, 0x4, 1, none, [(0, .ro, fun _ _ _ => SAF_PSET_ID_ID)]⟩,
  ⟨0xC, 0x4, 1, 0x4, 1, none, [(0, .ro, fun _ _ _ => SAF_PSET_CRC_CRC)]⟩,
  ⟨0x10, 0x4, 1, 0x4, 1, none, [(0, .ro, fun _ _ _ => SAF_PSET_RES_CODE)]⟩,
  ⟨0x14, 0x4, 1, 0x4, 1, none, [(24, .ro, fun _ _ _ => SAF_SIN_DEMAND), (16, .ro, fun _ _ _ => SAF_SIN_FAULT), (8, .ro, fun _ _ _ => SAF_SIN_A), (0, .ro, fun _ _ _ => SAF_SIN_B)]⟩,
  ⟨0x1C, 0x4, 1, 0x4, 1, none, [(8, .ro, fun _ _ _ => SAF_OUT_SDO), (4, .ro, fun _ _ _ => SAF_OUT_STOB), (0, .ro, fun _ _ _ => SAF_OUT_STOA)]⟩,
  ⟨0x20, 0x4, 1, 0x4, 1, none, [(0, .ro, fun _ _ _ => SAF_SNAP_T_T)]⟩,
  ⟨0x18, 0x4, 1, 0x4, 1, none, [(0, .ro, fun _ _ _ => SAF_SIN_FLT_CODES)]⟩,
  ⟨0x24, 0x4, 1, 0x4, 1, none, [(0, .ro, fun _ _ _ => SAF_CYCLE_LO_COUNT)]⟩,
  ⟨0x28, 0x4, 1, 0x4, 1, none, [(0, .ro, fun _ _ _ => SAF_CYCLE_HI_COUNT)]⟩,
  ⟨0x100, 0x20, 4, 0x4, 1, none, [(29, .ro, fun _ a _ => SAF_CH_STAT_STATE a), (28, .ro, fun _ a _ => SAF_CH_STAT_PERMIT a), (27, .ro, fun _ a _ => SAF_CH_STAT_RST_WAIT a), (26, .ro, fun _ a _ => SAF_CH_STAT_DYN_DUE a), (25, .ro, fun _ a _ => SAF_CH_STAT_A_VALID a), (24, .ro, fun _ a _ => SAF_CH_STAT_STOA_RB a), (23, .ro, fun _ a _ => SAF_CH_STAT_STOB_RB a), (21, .ro, fun _ a _ => SAF_CH_STAT_SS1_END a), (12, .ro, fun _ a _ => SAF_CH_STAT_CAUSE a)]⟩]
def mapSaf1 : List RegRow := [
  ⟨0x104, 0x20, 4, 0x4, 1, none, [(0, .ro, fun _ a _ => SAF_CH_VA_V a)]⟩,
  ⟨0x108, 0x20, 4, 0x4, 1, none, [(0, .ro, fun _ a _ => SAF_CH_VB_V a)]⟩,
  ⟨0x10C, 0x20, 4, 0x4, 1, none, [(0, .ro, fun _ a _ => SAF_CH_VLIM_VLIM a)]⟩,
  ⟨0x110, 0x20, 4, 0x4, 1, none, [(0, .ro, fun _ a _ => SAF_CH_SS1_T_T a)]⟩,
  ⟨0x114, 0x20, 4, 0x4, 1, none, [(16, .ro, fun _ a _ => SAF_CH_CNT_STO_ENTRIES a), (0, .ro, fun _ a _ => SAF_CH_CNT_MISMATCH a)]⟩]
def mapSaf : List RegRow := mapSaf0 ++ mapSaf1

/-! The register map of block VAL. -/
def mapVal0 : List RegRow := [
  ⟨0x0, 0x4, 1, 0x4, 1, none, [(31, .rw, fun _ _ _ => VAL_CFG_EN), (30, .rw, fun _ _ _ => VAL_CFG_CMD_PT_EN), (24, .rw, fun _ _ _ => VAL_CFG_CMD_PT), (23, .rw, fun _ _ _ => VAL_CFG_NOTIFY_EN), (17, .rw, fun _ _ _ => VAL_CFG_NOTIFY_PT)]⟩,
  ⟨0x4, 0x4, 1, 0x4, 1, none, [(24, .rw, fun _ _ _ => VAL_LINK_RESP_TMO), (22, .rw, fun _ _ _ => VAL_LINK_RETRY), (16, .rw, fun _ _ _ => VAL_LINK_MISS_LIMIT), (12, .rw, fun _ _ _ => VAL_LINK_OW_CONFIRM), (11, .rw, fun _ _ _ => VAL_LINK_AUTO_REC)]⟩,
  ⟨0x8, 0x4, 1, 0x4, 1, none, [(30, .rw, fun _ _ _ => VAL_SCFG0_CONV), (28, .rw, fun _ _ _ => VAL_SCFG0_SDELAY), (20, .rw, fun _ _ _ => VAL_SCFG0_OW_THR), (12, .rw, fun _ _ _ => VAL_SCFG0_OW_SETTLE)]⟩,
  ⟨0xC, 0x4, 1, 0x4, 1, none, [(8, .rw, fun _ _ _ => VAL_SCFG1_BAL_TMO), (0, .rw, fun _ _ _ => VAL_SCFG1_BAL_TLIM)]⟩,
  ⟨0x10, 0x4, 1, 0x4, 1, none, [(3, .wo, fun _ _ _ => VAL_CTRL_OWD_GO), (2, .wo, fun _ _ _ => VAL_CTRL_SLEEP_ALL), (1, .wo, fun _ _ _ => VAL_CTRL_WAKE_ALL), (0, .wo, fun _ _ _ => VAL_CTRL_TRIG)]⟩,
  ⟨0x14, 0x4, 1, 0x4, 1, none, [(31, .ro, fun _ _ _ => VAL_STAT_SET_BUSY), (30, .w1c, fun _ _ _ => VAL_STAT_CFG_IGN)]⟩,
  ⟨0x24, 0x4, 1, 0x4, 1, none, [(31, .rw, fun _ _ _ => VAL_BUF_EN), (16, .rw, fun _ _ _ => VAL_BUF_BASE), (0, .rw, fun _ _ _ => VAL_BUF_NSETS)]⟩,
  ⟨0x28, 0x4, 1, 0x4, 1, none, [(8, .ro, fun _ _ _ => VAL_SET_IDX_SEQ), (0, .ro, fun _ _ _ => VAL_SET_IDX_NEXT)]⟩,
  ⟨0x2C, 0x4, 1, 0x4, 1, none, [(16, .rc, fun _ _ _ => VAL_TRIG_CNT_DONE), (0, .rc, fun _ _ _ => VAL_TRIG_CNT_DROPPED)]⟩,
  ⟨0x18, 0x4, 1, 0x4, 1, none, [(0, .rw, fun _ _ _ => VAL_OWD_MASK_PORTS)]⟩,
  ⟨0x1C, 0x4, 1, 0x4, 1, none, [(0, .ro, fun _ _ _ => VAL_ACTIVE_PORTS)]⟩,
  ⟨0x20, 0x4, 1, 0x4, 1, none, [(0, .ro, fun _ _ _ => VAL_FAULT_PORTS)]⟩]
def mapVal1 : List RegRow := [
  ⟨0x100, 0x20, 32, 0x4, 1, none, [(31, .rw, fun _ a _ => VAL_PORT_CFG_EN a), (29, .rw, fun _ a _ => VAL_PORT_CFG_STRING a), (24, .rw, fun _ a _ => VAL_PORT_CFG_POS a), (20, .rw, fun _ a _ => VAL_PORT_CFG_NCELL a)]⟩,
  ⟨0x104, 0x20, 32, 0x4, 1, none, [(0, .rw, fun _ a _ => VAL_PORT_EXPID_ID a)]⟩,
  ⟨0x108, 0x20, 32, 0x4, 1, none, [(0, .ro, fun _ a _ => VAL_PORT_ID_ID a)]⟩,
  ⟨0x10C, 0x20, 32, 0x4, 1, none, [(29, .ro, fun _ a _ => VAL_PORT_STAT_STATE a), (24, .ro, fun _ a _ => VAL_PORT_STAT_FCODE a), (16, .ro, fun _ a _ => VAL_PORT_STAT_CONSEC_MISS a), (0, .ro, fun _ a _ => VAL_PORT_STAT_SSTAT a)]⟩,
  ⟨0x110, 0x20, 32, 0x4, 1, none, [(0, .ro, fun _ a _ => VAL_PORT_OW_LINES a)]⟩,
  ⟨0x114, 0x20, 32, 0x4, 1, none, [(16, .rc, fun _ a _ => VAL_PORT_CNT_CRC_ERR a), (0, .rc, fun _ a _ => VAL_PORT_CNT_TIMEOUT a)]⟩,
  ⟨0x118, 0x20, 32, 0x4, 1, none, [(31, .rw, fun _ a _ => VAL_PORT_ACC_GO_BUSY a), (30, .rw, fun _ a _ => VAL_PORT_ACC_WRITE a), (29, .w1c, fun _ a _ => VAL_PORT_ACC_ERR a), (28, .w1c, fun _ a _ => VAL_PORT_ACC_DONE a), (16, .rw, fun _ a _ => VAL_PORT_ACC_ADDR a), (0, .rw, fun _ a _ => VAL_PORT_ACC_DATA a)]⟩]
def mapVal : List RegRow := mapVal0 ++ mapVal1

/-! The register map of block SEC. -/
def mapSec0 : List RegRow := [
  ⟨0x0, 0x4, 1, 0x4, 1, none, [(31, .ro, fun _ _ _ => SEC_STAT_LIFECYCLE), (30, .ro, fun _ _ _ => SEC_STAT_DEBUG_OPEN), (29, .ro, fun _ _ _ => SEC_STAT_TAMPER_LOCK), (28, .ro, fun _ _ _ => SEC_STAT_KWK_VALID), (27, .ro, fun _ _ _ => SEC_STAT_EPOCH_SAT)]⟩,
  ⟨0x4, 0x4, 1, 0x4, 1, none, [(0, .ro, fun _ _ _ => SEC_EPOCH_EPOCH)]⟩,
  ⟨0x8, 0x4, 1, 0x4, 1, none, [(28, .ro, fun _ _ _ => SEC_SESS_OPEN), (24, .ro, fun _ _ _ => SEC_SESS_LR_COUNT), (16, .ro, fun _ _ _ => SEC_SESS_IDLE_MIN)]⟩,
  ⟨0x20, 0x4, 1, 0x4, 1, none, [(8, .ro, fun _ _ _ => SEC_TAMPER_LIVE), (0, .ro, fun _ _ _ => SEC_TAMPER_SEEN)]⟩,
  ⟨0x30, 0x4, 1, 0x4, 1, none, [(31, .ro, fun _ _ _ => SEC_ODO_STAT_EN), (30, .ro, fun _ _ _ => SEC_ODO_STAT_DISAGREE), (29, .ro, fun _ _ _ => SEC_ODO_STAT_A_INVALID), (28, .ro, fun _ _ _ => SEC_ODO_STAT_COLD), (27, .ro, fun _ _ _ => SEC_ODO_STAT_GRANT_VALID), (16, .ro, fun _ _ _ => SEC_ODO_STAT_GRANT_INST)]⟩,
  ⟨0x34, 0x4, 1, 0x4, 1, none, [(16, .ro, fun _ _ _ => SEC_ODO_CNT_DISAGREE_CNT), (0, .ro, fun _ _ _ => SEC_ODO_CNT_REC_DROPPED)]⟩,
  ⟨0x10, 0x4, 4, 0x4, 1, none, [(24, .ro, fun _ a _ => SEC_LOCK_FAILS a), (0, .ro, fun _ a _ => SEC_LOCK_REMAIN a)]⟩,
  ⟨0x24, 0x4, 1, 0x4, 1, none, [(24, .ro, fun _ _ _ => SEC_TAMPER_CFG_EN), (16, .ro, fun _ _ _ => SEC_TAMPER_CFG_POL), (0, .ro, fun _ _ _ => SEC_TAMPER_CFG_RESP)]⟩,
  ⟨0x38, 0x4, 1, 0x4, 1, none, [(0, .ro, fun _ _ _ => SEC_MSEQ_LO_VALUE)]⟩,
  ⟨0x3C, 0x4, 1, 0x4, 1, none, [(0, .ro, fun _ _ _ => SEC_MSEQ_HI_VALUE)]⟩,
  ⟨0x40, 0x4, 1, 0x4, 1, none, [(0, .ro, fun _ _ _ => SEC_ODO_A_LO_VALUE)]⟩,
  ⟨0x44, 0x4, 1, 0x4, 1, none, [(0, .ro, fun _ _ _ => SEC_ODO_A_HI_VALUE)]⟩]
def mapSec1 : List RegRow := [
  ⟨0x48, 0x4, 1, 0x4, 1, none, [(0, .ro, fun _ _ _ => SEC_ODO_B_LO_VALUE)]⟩,
  ⟨0x4C, 0x4, 1, 0x4, 1, none, [(0, .ro, fun _ _ _ => SEC_ODO_B_HI_VALUE)]⟩]
def mapSec : List RegRow := mapSec0 ++ mapSec1

/-! The register map of block LDG. -/
def mapLdg0 : List RegRow := [
  ⟨0x0, 0x4, 1, 0x4, 1, none, [(31, .ro, fun _ _ _ => LDG_STAT_FLASH_OK), (30, .ro, fun _ _ _ => LDG_STAT_ROLLBACK), (29, .ro, fun _ _ _ => LDG_STAT_PRUNE_BLOCKED), (24, .ro, fun _ _ _ => LDG_STAT_QDEPTH), (0, .ro, fun _ _ _ => LDG_STAT_FREE_BLOCKS)]⟩,
  ⟨0x4, 0x4, 1, 0x4, 1, none, [(0, .ro, fun _ _ _ => LDG_DROPPED_COUNT)]⟩,
  ⟨0x8, 0x4, 1, 0x4, 1, none, [(0, .ro, fun _ _ _ => LDG_HEAD_LO_SEQ)]⟩,
  ⟨0xC, 0x4, 1, 0x4, 1, none, [(0, .ro, fun _ _ _ => LDG_HEAD_HI_SEQ)]⟩,
  ⟨0x10, 0x4, 1, 0x4, 1, none, [(0, .ro, fun _ _ _ => LDG_OLDEST_LO_SEQ)]⟩,
  ⟨0x14, 0x4, 1, 0x4, 1, none, [(0, .ro, fun _ _ _ => LDG_OLDEST_HI_SEQ)]⟩,
  ⟨0x18, 0x4, 1, 0x4, 1, none, [(0, .ro, fun _ _ _ => LDG_CKPT_LO_SEQ)]⟩,
  ⟨0x1C, 0x4, 1, 0x4, 1, none, [(0, .ro, fun _ _ _ => LDG_CKPT_HI_SEQ)]⟩,
  ⟨0x20, 0x4, 8, 0x4, 1, none, [(0, .ro, fun _ a _ => LDG_HEAD_HASH_HASH a)]⟩]
def mapLdg : List RegRow := mapLdg0

/-! The register map of block AGG. -/
def mapAgg0 : List RegRow := [
  ⟨0x0, 0x4, 1, 0x4, 1, none, [(31, .rw, fun _ _ _ => AGG_CFG_EN), (29, .rw, fun _ _ _ => AGG_CFG_ROLE), (28, .rw, fun _ _ _ => AGG_CFG_EXPORT_GATE), (25, .rw, fun _ _ _ => AGG_CFG_PORT), (0, .rw, fun _ _ _ => AGG_CFG_EPOCH)]⟩,
  ⟨0x4, 0x4, 1, 0x4, 1, none, [(16, .rw, fun _ _ _ => AGG_ID_GROUP), (0, .rw, fun _ _ _ => AGG_ID_NODE_ID)]⟩,
  ⟨0x8, 0x4, 1, 0x4, 1, none, [(0, .rw, fun _ _ _ => AGG_PH_OFS_OFS)]⟩,
  ⟨0xC, 0x4, 1, 0x4, 1, none, [(0, .rw, fun _ _ _ => AGG_HOLD_S)]⟩,
  ⟨0x10, 0x4, 1, 0x4, 1, none, [(0, .rw, fun _ _ _ => AGG_MAC_LO_MAC)]⟩,
  ⟨0x14, 0x4, 1, 0x4, 1, none, [(0, .rw, fun _ _ _ => AGG_MAC_HI_MAC)]⟩,
  ⟨0x18, 0x4, 1, 0x4, 1, none, [(3, .rw, fun _ _ _ => AGG_CTRL_CLOSE), (2, .wo, fun _ _ _ => AGG_CTRL_LEAVE), (1, .wo, fun _ _ _ => AGG_CTRL_RESUME), (0, .wo, fun _ _ _ => AGG_CTRL_ISLAND)]⟩,
  ⟨0x1C, 0x4, 1, 0x4, 1, none, [(0, .rw, fun _ _ _ => AGG_NODE_SLOT_SLOT)]⟩,
  ⟨0x20, 0x4, 1, 0x4, 1, none, [(28, .ro, fun _ _ _ => AGG_STAT_STATE), (27, .ro, fun _ _ _ => AGG_STAT_ISLAND), (26, .ro, fun _ _ _ => AGG_STAT_PROF_OK), (25, .ro, fun _ _ _ => AGG_STAT_ALIGNED), (24, .w1c, fun _ _ _ => AGG_STAT_CFG_IGN), (0, .ro, fun _ _ _ => AGG_STAT_COORD)]⟩,
  ⟨0x24, 0x4, 1, 0x4, 1, none, [(0, .ro, fun _ _ _ => AGG_RESID_R)]⟩,
  ⟨0x28, 0x4, 1, 0x4, 1, none, [(24, .rc, fun _ _ _ => AGG_CNT_REF_LOST), (16, .rc, fun _ _ _ => AGG_CNT_MISMATCH), (8, .rc, fun _ _ _ => AGG_CNT_REJECT), (0, .rc, fun _ _ _ => AGG_CNT_RXDROP)]⟩,
  ⟨0x2C, 0x4, 1, 0x4, 1, none, [(0, .ro, fun _ _ _ => AGG_NODES_COUNT)]⟩]
def mapAgg1 : List RegRow := [
  ⟨0x30, 0x4, 1, 0x4, 1, none, [(0, .rw, fun _ _ _ => AGG_GINJ_PHASE_PHASE)]⟩,
  ⟨0x34, 0x4, 1, 0x4, 1, none, [(0, .rw, fun _ _ _ => AGG_GINJ_SLOT_SLOT)]⟩,
  ⟨0x40, 0x20, 4, 0x4, 1, none, [(0, .ro, fun _ a _ => AGG_CAP_G_LO_G a)]⟩,
  ⟨0x44, 0x20, 4, 0x4, 1, none, [(0, .ro, fun _ a _ => AGG_CAP_G_HI_G a)]⟩,
  ⟨0x48, 0x20, 4, 0x4, 1, none, [(0, .ro, fun _ a _ => AGG_CAP_THETA_THETA a)]⟩,
  ⟨0x4C, 0x20, 4, 0x4, 1, none, [(0, .ro, fun _ a _ => AGG_CAP_TRIM_TRIM a)]⟩,
  ⟨0x50, 0x20, 4, 0x4, 1, none, [(0, .ro, fun _ a _ => AGG_CAP_TURN_TURN a)]⟩,
  ⟨0x54, 0x20, 4, 0x4, 1, none, [(1, .ro, fun _ a _ => AGG_CAP_FLAGS_STEP a), (0, .ro, fun _ a _ => AGG_CAP_FLAGS_VALID a)]⟩]
def mapAgg : List RegRow := mapAgg0 ++ mapAgg1

/-! The register map of block CD. -/
def mapCd0 : List RegRow := [
  ⟨0x0, 0x4, 1, 0x4, 1, none, [(2, .wo, fun i _ _ => CD_CTRL_RESET i), (1, .wo, fun i _ _ => CD_CTRL_HALT i), (0, .wo, fun i _ _ => CD_CTRL_RUN i)]⟩,
  ⟨0x4, 0x4, 1, 0x4, 1, none, [(30, .ro, fun i _ _ => CD_STAT_STATE i), (29, .ro, fun i _ _ => CD_STAT_CP_BUSY i), (28, .w1c, fun i _ _ => CD_STAT_AMODE_ERR i), (21, .ro, fun i _ _ => CD_STAT_LSP i), (16, .ro, fun i _ _ => CD_STAT_CSP i)]⟩,
  ⟨0x8, 0x4, 1, 0x4, 1, none, [(0, .ro, fun i _ _ => CD_PC_PC i)]⟩,
  ⟨0xC, 0x4, 1, 0x4, 1, none, [(0, .rw, fun i _ _ => CD_VBASE_VBASE i)]⟩,
  ⟨0x10, 0x4, 1, 0x4, 1, none, [(0, .ro, fun i _ _ => CD_REL_PEND_PEND i)]⟩,
  ⟨0x14, 0x4, 1, 0x4, 1, none, [(0, .rw, fun i _ _ => CD_REL_EN_EN i)]⟩,
  ⟨0x18, 0x4, 1, 0x4, 1, none, [(0, .wo, fun i _ _ => CD_REL_SET_SET i)]⟩,
  ⟨0x1C, 0x4, 1, 0x4, 1, none, [(0, .wo, fun i _ _ => CD_REL_CANCEL_CANCEL i)]⟩,
  ⟨0x20, 0x4, 1, 0x4, 1, none, [(0, .rc, fun i _ _ => CD_REL_LOST_COUNT i)]⟩,
  ⟨0x24, 0x4, 1, 0x4, 1, none, [(0, .rc, fun i _ _ => CD_REL_CBS_COUNT i)]⟩,
  ⟨0x28, 0x4, 2, 0x4, 1, none, [(0, .rw, fun i a _ => CD_REL_LVL_LVL i a)]⟩,
  ⟨0x30, 0x4, 1, 0x4, 1, none, [(24, .rw, fun i _ _ => CD_IRQ_CFG_EN i), (0, .rw, fun i _ _ => CD_IRQ_CFG_LVL i)]⟩]
def mapCd1 : List RegRow := [
  ⟨0x34, 0x4, 1, 0x4, 1, none, [(0, .w1c, fun i _ _ => CD_IRQ_PEND_PEND i)]⟩,
  ⟨0x38, 0x4, 1, 0x4, 1, none, [(31, .rc, fun i _ _ => CD_FAULT_INFO_VALID i), (30, .rc, fun i _ _ => CD_FAULT_INFO_MORE i), (27, .rc, fun i _ _ => CD_FAULT_INFO_VEC i), (26, .rc, fun i _ _ => CD_FAULT_INFO_WRITE i), (25, .rc, fun i _ _ => CD_FAULT_INFO_SPACE i), (0, .rc, fun i _ _ => CD_FAULT_INFO_PC i)]⟩,
  ⟨0x3C, 0x4, 1, 0x4, 1, none, [(0, .ro, fun i _ _ => CD_FAULT_ADDR_ADDR i)]⟩,
  ⟨0x50, 0x4, 1, 0x4, 1, none, [(8, .rw, fun i _ _ => CD_XHI_WR i), (0, .ro, fun i _ _ => CD_XHI_RD i)]⟩,
  ⟨0x40, 0x4, 4, 0x4, 1, none, [(31, .rw, fun i a _ => CD_WIN_EN i a), (0, .rw, fun i a _ => CD_WIN_BASE i a)]⟩,
  ⟨0x58, 0x4, 1, 0x4, 1, none, [(0, .ro, fun i _ _ => CD_CYCLE_LO_COUNT i)]⟩,
  ⟨0x5C, 0x4, 1, 0x4, 1, none, [(0, .ro, fun i _ _ => CD_CYCLE_HI_COUNT i)]⟩,
  ⟨0x100, 0x4, 32, 0x4, 1, none, [(0, .ro, fun i a _ => CD_RELT_T i a)]⟩]
def mapCd : List RegRow := mapCd0 ++ mapCd1

/-! The register map of block HIF. -/
def mapHif0 : List RegRow := [
  ⟨0x0, 0x4, 1, 0x4, 1, none, [(16, .ro, fun _ _ _ => HIF_ID_DEVICE), (0, .ro, fun _ _ _ => HIF_ID_VENDOR)]⟩,
  ⟨0x4, 0x4, 1, 0x4, 1, none, [(28, .ro, fun _ _ _ => HIF_LINK_SPEED), (24, .ro, fun _ _ _ => HIF_LINK_WIDTH)]⟩,
  ⟨0x8, 0x4, 1, 0x4, 1, none, [(0, .rw, fun _ _ _ => HIF_CTO_UNITS)]⟩,
  ⟨0xC, 0x4, 1, 0x4, 1, none, [(31, .rw, fun _ _ _ => HIF_CFG_RO_EN)]⟩,
  ⟨0x10, 0x4, 1, 0x4, 1, none, [(31, .w1c, fun _ _ _ => HIF_STAT_CFG_IGN)]⟩,
  ⟨0x14, 0x4, 1, 0x4, 1, none, [(0, .ro, fun _ _ _ => HIF_POOL_FREE)]⟩,
  ⟨0x18, 0x4, 1, 0x4, 1, none, [(0, .rc, fun _ _ _ => HIF_DMA_ERR_CNT_COUNT)]⟩,
  ⟨0x1C, 0x4, 1, 0x4, 1, none, [(0, .rc, fun _ _ _ => HIF_DB_ERR_CNT_COUNT)]⟩,
  ⟨0x20, 0x4, 1, 0x4, 1, none, [(0, .rw, fun _ _ _ => HIF_RING_IDX_RING)]⟩,
  ⟨0x24, 0x4, 1, 0x4, 1, some HIF_RING_IDX_RING, [(31, .rw, fun i _ _ => HIF_RING_CTX0_EN i), (27, .rw, fun i _ _ => HIF_RING_CTX0_KIND i), (22, .rw, fun i _ _ => HIF_RING_CTX0_LOG2N i), (15, .rw, fun i _ _ => HIF_RING_CTX0_INST i), (0, .rw, fun i _ _ => HIF_RING_CTX0_LOCAL i)]⟩,
  ⟨0x28, 0x4, 1, 0x4, 1, some HIF_RING_IDX_RING, [(0, .rw, fun i _ _ => HIF_RING_CTX1_DESC_BASE i)]⟩,
  ⟨0x2C, 0x4, 1, 0x4, 1, some HIF_RING_IDX_RING, [(0, .rw, fun i _ _ => HIF_RING_CTX2_DESC_BASE i)]⟩]
def mapHif1 : List RegRow := [
  ⟨0x30, 0x4, 1, 0x4, 1, some HIF_RING_IDX_RING, [(0, .rw, fun i _ _ => HIF_RING_CTX3_CPL_BASE i)]⟩,
  ⟨0x34, 0x4, 1, 0x4, 1, some HIF_RING_IDX_RING, [(0, .rw, fun i _ _ => HIF_RING_CTX4_CPL_BASE i)]⟩,
  ⟨0x38, 0x4, 1, 0x4, 1, some HIF_RING_IDX_RING, [(31, .rw, fun i _ _ => HIF_RING_CTX5_IRQ_EN i), (24, .rw, fun i _ _ => HIF_RING_CTX5_VEC i), (16, .rw, fun i _ _ => HIF_RING_CTX5_COAL_CNT i), (0, .rw, fun i _ _ => HIF_RING_CTX5_COAL_US i)]⟩,
  ⟨0x3C, 0x4, 1, 0x4, 1, some HIF_RING_IDX_RING, [(16, .rw, fun i _ _ => HIF_RING_CTX6_STREAM i), (0, .rw, fun i _ _ => HIF_RING_CTX6_CQ i)]⟩,
  ⟨0x40, 0x4, 1, 0x4, 1, some HIF_RING_IDX_RING, [(30, .ro, fun i _ _ => HIF_RING_CTX7_STATE i), (17, .ro, fun i _ _ => HIF_RING_CTX7_DBERR i), (0, .ro, fun i _ _ => HIF_RING_CTX7_OUTSTANDING i)]⟩]
def mapHif : List RegRow := mapHif0 ++ mapHif1

/-! The register map of block INS. -/
def mapIns0 : List RegRow := [
  ⟨0x0, 0x4, 1, 0x4, 1, none, [(31, .ro, fun _ _ _ => INS_STAT_JOURNAL_VALID), (30, .ro, fun _ _ _ => INS_STAT_JOURNAL_FAIL), (0, .ro, fun _ _ _ => INS_STAT_LIVE_CNT)]⟩,
  ⟨0x4, 0x4, 1, 0x4, 1, none, [(0, .rw, fun _ _ _ => INS_SEL_INSTANCE)]⟩,
  ⟨0x8, 0x4, 1, 0x4, 1, some INS_SEL_INSTANCE, [(24, .ro, fun i _ _ => INS_INFO_INSTATE i), (16, .ro, fun i _ _ => INS_INFO_LOG i), (4, .ro, fun i _ _ => INS_INFO_SPGRANT i), (3, .ro, fun i _ _ => INS_INFO_VALGRANT i), (2, .ro, fun i _ _ => INS_INFO_MOTION i)]⟩,
  ⟨0xC, 0x4, 1, 0x4, 1, some INS_SEL_INSTANCE, [(0, .rc, fun i _ _ => INS_CNT_QUOTA_COUNT i)]⟩,
  ⟨0x10, 0x4, 1, 0x4, 1, some INS_SEL_INSTANCE, [(0, .rc, fun i _ _ => INS_CNT_POLICY_COUNT i)]⟩,
  ⟨0x14, 0x4, 1, 0x4, 1, some INS_SEL_INSTANCE, [(0, .rc, fun i _ _ => INS_CNT_VIOL_COUNT i)]⟩,
  ⟨0x18, 0x4, 1, 0x4, 1, none, [(0, .ro, fun _ _ _ => INS_RESET_ID_ID)]⟩,
  ⟨0x1C, 0x4, 1, 0x4, 1, none, [(0, .ro, fun _ _ _ => INS_JOURNAL_LO_BASE)]⟩,
  ⟨0x20, 0x4, 1, 0x4, 1, none, [(0, .ro, fun _ _ _ => INS_JOURNAL_HI_BASE)]⟩,
  ⟨0x30, 0x4, 4, 0x4, 1, none, [(0, .w1c, fun _ a _ => INS_ATTN_PEND a)]⟩,
  ⟨0x40, 0x4, 4, 0x4, 1, none, [(0, .ro, fun _ a _ => INS_LIVE_LIVE a)]⟩,
  ⟨0x50, 0x4, 4, 0x4, 1, none, [(31, .ro, fun _ a _ => INS_SPGRANT_VALID a), (0, .ro, fun _ a _ => INS_SPGRANT_INSTANCE a)]⟩]
def mapIns1 : List RegRow := [
  ⟨0x60, 0x4, 1, 0x4, 1, none, [(31, .ro, fun _ _ _ => INS_VALGRANT_VALID), (0, .ro, fun _ _ _ => INS_VALGRANT_INSTANCE)]⟩,
  ⟨0x64, 0x4, 1, 0x4, 1, none, [(31, .ro, fun _ _ _ => INS_MOTION_VALID), (0, .ro, fun _ _ _ => INS_MOTION_INSTANCE)]⟩,
  ⟨0x68, 0x4, 1, 0x4, 1, none, [(31, .ro, fun _ _ _ => INS_MOTION_RING_VALID), (16, .ro, fun _ _ _ => INS_MOTION_RING_RING)]⟩,
  ⟨0x80, 0x4, 13, 0x4, 1, some INS_SEL_INSTANCE, [(0, .ro, fun i a _ => INS_PANTRY_WORD i a)]⟩,
  ⟨0x100, 0x20, 4, 0x8, 3, none, [(0, .ro, fun _ a b => INS_SPLIM_MIN_LIMIT a b)]⟩,
  ⟨0x104, 0x20, 4, 0x8, 3, none, [(0, .ro, fun _ a b => INS_SPLIM_MAX_LIMIT a b)]⟩,
  ⟨0x118, 0x20, 4, 0x4, 1, none, [(0, .ro, fun _ a _ => INS_SPLIM_INTV_US a)]⟩,
  ⟨0x400, 0x4, 256, 0x4, 1, none, [(31, .ro, fun _ a _ => INS_STREAM_VALID a), (16, .ro, fun _ a _ => INS_STREAM_RING a), (7, .ro, fun _ a _ => INS_STREAM_GRANTED a), (0, .ro, fun _ a _ => INS_STREAM_INSTANCE a)]⟩]
def mapIns : List RegRow := mapIns0 ++ mapIns1

/-! The register map of block PXE. -/
def mapPxe0 : List RegRow := [
  ⟨0x10, 0x4, 1, 0x4, 1, none, [(16, .rc, fun _ _ _ => PXE_TPUT_CNT_NOBUF), (0, .rc, fun _ _ _ => PXE_TPUT_CNT_DENIED)]⟩,
  ⟨0x100, 0x20, 4, 0x4, 1, none, [(1, .wo, fun _ a _ => PXE_CL_CTRL_HALT_ALL a), (0, .wo, fun _ a _ => PXE_CL_CTRL_START_ALL a)]⟩,
  ⟨0x104, 0x20, 4, 0x4, 1, none, [(31, .ro, fun _ a _ => PXE_CL_STAT_HALTED a), (30, .w1c, fun _ a _ => PXE_CL_STAT_STALL a), (29, .w1c, fun _ a _ => PXE_CL_STAT_CFG_IGN a), (0, .ro, fun _ a _ => PXE_CL_STAT_NEVER a)]⟩,
  ⟨0x108, 0x20, 4, 0x4, 1, none, [(0, .rw, fun _ a _ => PXE_CL_STALL_LIM_US a)]⟩,
  ⟨0x10C, 0x20, 4, 0x4, 1, none, [(0, .rc, fun _ a _ => PXE_CL_STALL_CNT_COUNT a)]⟩,
  ⟨0x1000, 0x20, 64, 0x4, 1, none, [(3, .wo, fun _ a _ => PXE_PT_CTRL_POKE a), (2, .wo, fun _ a _ => PXE_PT_CTRL_RESUME a), (1, .wo, fun _ a _ => PXE_PT_CTRL_HALT a), (0, .wo, fun _ a _ => PXE_PT_CTRL_START a)]⟩,
  ⟨0x1004, 0x20, 64, 0x4, 1, none, [(0, .rw, fun _ a _ => PXE_PT_ENTRY_ENTRY a)]⟩,
  ⟨0x1008, 0x20, 64, 0x4, 1, none, [(29, .ro, fun _ a _ => PXE_PT_STAT_STATE a), (28, .ro, fun _ a _ => PXE_PT_STAT_NEVER a), (27, .w1c, fun _ a _ => PXE_PT_STAT_CFG_IGN a), (16, .ro, fun _ a _ => PXE_PT_STAT_PEND a), (0, .ro, fun _ a _ => PXE_PT_STAT_PC a)]⟩,
  ⟨0x100C, 0x20, 64, 0x4, 1, none, [(31, .ro, fun _ a _ => PXE_PT_FAULT_INFO_VALID a), (27, .ro, fun _ a _ => PXE_PT_FAULT_INFO_CAUSE a), (16, .ro, fun _ a _ => PXE_PT_FAULT_INFO_REGION a), (0, .ro, fun _ a _ => PXE_PT_FAULT_INFO_PC a)]⟩,
  ⟨0x1010, 0x20, 64, 0x4, 1, none, [(0, .ro, fun _ a _ => PXE_PT_FAULT_ADDR_EA a)]⟩,
  ⟨0x1014, 0x20, 64, 0x4, 1, none, [(16, .rc, fun _ a _ => PXE_PT_CNT_CANCELLED_BEFORE_START a), (0, .rc, fun _ a _ => PXE_PT_CNT_POKE_DROPPED a)]⟩,
  ⟨0x2000, 0x4, 256, 0x4, 1, none, [(31, .rw, fun _ a _ => PXE_RWAKE_EN a), (24, .rw, fun _ a _ => PXE_RWAKE_PT a), (0, .rw, fun _ a _ => PXE_RWAKE_RING a)]⟩]
def mapPxe : List RegRow := mapPxe0

/-! The register map of block NET. -/
def mapNet0 : List RegRow := [
  ⟨0x0, 0x4, 1, 0x4, 1, none, [(31, .w1c, fun _ _ _ => NET_STAT_CFG_IGN)]⟩,
  ⟨0x4, 0x4, 1, 0x4, 1, none, [(16, .rw, fun _ _ _ => NET_CFG_VXLAN_PORT), (0, .rw, fun _ _ _ => NET_CFG_FDB_AGE)]⟩,
  ⟨0x8, 0x4, 1, 0x4, 1, none, [(31, .rw, fun _ _ _ => NET_FLOW_CFG_EN)]⟩,
  ⟨0x14, 0x4, 1, 0x4, 1, none, [(16, .rc, fun _ _ _ => NET_CACHE_CNT_MISS)]⟩,
  ⟨0x18, 0x4, 1, 0x4, 1, none, [(16, .rc, fun _ _ _ => NET_FDB_CNT_LEARN_FULL), (0, .rc, fun _ _ _ => NET_FDB_CNT_MOVES)]⟩,
  ⟨0x1C, 0x4, 1, 0x4, 1, none, [(24, .rc, fun _ _ _ => NET_CNT_RECIRC), (16, .rc, fun _ _ _ => NET_CNT_TOOBIG), (0, .rc, fun _ _ _ => NET_CNT_ESP_FAIL)]⟩,
  ⟨0x20, 0x4, 1, 0x4, 1, none, [(31, .rw, fun _ _ _ => NET_NVME_CFG_EN), (24, .rw, fun _ _ _ => NET_NVME_CFG_QD), (0, .rw, fun _ _ _ => NET_NVME_CFG_STAGE)]⟩,
  ⟨0x24, 0x4, 1, 0x4, 1, none, [(0, .rw, fun _ _ _ => NET_NVME_TMO_MS)]⟩,
  ⟨0x28, 0x4, 1, 0x4, 1, none, [(29, .ro, fun _ _ _ => NET_NVME_STAT_STATE), (23, .ro, fun _ _ _ => NET_NVME_STAT_IOQ), (0, .rc, fun _ _ _ => NET_NVME_STAT_TIMEOUTS)]⟩,
  ⟨0xC, 0x4, 1, 0x4, 1, none, [(0, .rw, fun _ _ _ => NET_FLOW_BASE_LO_BASE)]⟩,
  ⟨0x10, 0x4, 1, 0x4, 1, none, [(0, .rw, fun _ _ _ => NET_FLOW_BASE_HI_BASE)]⟩,
  ⟨0x100, 0x40, 6, 0x4, 1, none, [(31, .rw, fun _ a _ => NET_PORT_CFG_EN a), (28, .rw, fun _ a _ => NET_PORT_CFG_MODE a), (12, .rw, fun _ a _ => NET_PORT_CFG_MAXLEN a), (0, .rw, fun _ a _ => NET_PORT_CFG_PVID a)]⟩]
def mapNet1 : List RegRow := [
  ⟨0x104, 0x40, 6, 0x4, 1, none, [(31, .ro, fun _ a _ => NET_PORT_LINK_UP a), (28, .ro, fun _ a _ => NET_PORT_LINK_SPEED a)]⟩,
  ⟨0x118, 0x40, 6, 0x4, 1, none, [(24, .rc, fun _ a _ => NET_PORT_DROP_FCS a), (16, .rc, fun _ a _ => NET_PORT_DROP_SIZE a), (8, .rc, fun _ a _ => NET_PORT_DROP_CTRL a), (0, .rc, fun _ a _ => NET_PORT_DROP_ADMIT a)]⟩,
  ⟨0x108, 0x40, 6, 0x4, 1, none, [(0, .ro, fun _ a _ => NET_PORT_RXF_LO_COUNT a)]⟩,
  ⟨0x10C, 0x40, 6, 0x4, 1, none, [(0, .ro, fun _ a _ => NET_PORT_RXF_HI_COUNT a)]⟩,
  ⟨0x110, 0x40, 6, 0x4, 1, none, [(0, .ro, fun _ a _ => NET_PORT_TXF_LO_COUNT a)]⟩,
  ⟨0x114, 0x40, 6, 0x4, 1, none, [(0, .ro, fun _ a _ => NET_PORT_TXF_HI_COUNT a)]⟩,
  ⟨0x400, 0x8, 16, 0x4, 1, none, [(31, .rw, fun _ a _ => NET_CPUQ_EN a), (25, .rw, fun _ a _ => NET_CPUQ_PT a), (0, .ro, fun _ a _ => NET_CPUQ_DEPTH a)]⟩,
  ⟨0x404, 0x8, 16, 0x4, 1, none, [(0, .rc, fun _ a _ => NET_CPUQ_DROPS_COUNT a)]⟩]
def mapNet : List RegRow := mapNet0 ++ mapNet1

/-! The register map of block TSN. -/
def mapTsn0 : List RegRow := [
  ⟨0x0, 0x4, 1, 0x4, 1, none, [(31, .w1c, fun _ _ _ => TSN_STAT_CFG_IGN), (8, .rc, fun _ _ _ => TSN_STAT_STEP_CNT), (0, .rc, fun _ _ _ => TSN_STAT_TC7_DEMOTE)]⟩,
  ⟨0x4, 0x4, 1, 0x4, 1, none, [(31, .wo, fun _ _ _ => TSN_GPTP_CTRL_COMMIT), (30, .rw, fun _ _ _ => TSN_GPTP_CTRL_SYNC)]⟩,
  ⟨0x8, 0x4, 1, 0x4, 1, none, [(0, .rw, fun _ _ _ => TSN_GPTP_OFS_LO_OFS)]⟩,
  ⟨0xC, 0x4, 1, 0x4, 1, none, [(0, .rw, fun _ _ _ => TSN_GPTP_OFS_HI_OFS)]⟩,
  ⟨0x10, 0x4, 1, 0x4, 1, none, [(0, .rw, fun _ _ _ => TSN_GPTP_RATE_RATE)]⟩,
  ⟨0x14, 0x4, 1, 0x4, 1, none, [(0, .ro, fun _ _ _ => TSN_GPTP_NOW_LO_G)]⟩,
  ⟨0x18, 0x4, 1, 0x4, 1, none, [(0, .ro, fun _ _ _ => TSN_GPTP_NOW_HI_G)]⟩,
  ⟨0x20, 0x4, 1, 0x4, 1, none, [(0, .rw, fun _ _ _ => TSN_NODE_IDX_NODE)]⟩,
  ⟨0x30, 0x4, 1, 0x4, 1, none, [(0, .rw, fun _ _ _ => TSN_POL_IDX_POL)]⟩,
  ⟨0x24, 0x4, 1, 0x4, 1, some TSN_NODE_IDX_NODE, [(31, .rw, fun i _ _ => TSN_NODE_CFG_EN i), (28, .rw, fun i _ _ => TSN_NODE_CFG_PORT i), (25, .rw, fun i _ _ => TSN_NODE_CFG_TC i), (18, .rw, fun i _ _ => TSN_NODE_CFG_INST i), (12, .rw, fun i _ _ => TSN_NODE_CFG_YLIM i), (6, .rw, fun i _ _ => TSN_NODE_CFG_LIMIT i), (0, .rw, fun i _ _ => TSN_NODE_CFG_QUANTUM i)]⟩,
  ⟨0x28, 0x4, 1, 0x4, 1, some TSN_NODE_IDX_NODE, [(0, .rc, fun i _ _ => TSN_NODE_DROP_COUNT i)]⟩,
  ⟨0x34, 0x4, 1, 0x4, 1, some TSN_POL_IDX_POL, [(31, .rw, fun i _ _ => TSN_POL_CFG_EN i), (30, .rw, fun i _ _ => TSN_POL_CFG_ACCT i), (29, .rw, fun i _ _ => TSN_POL_CFG_CF i), (28, .rw, fun i _ _ => TSN_POL_CFG_CM i), (27, .rw, fun i _ _ => TSN_POL_CFG_DROP_YELLOW i), (0, .rw, fun i _ _ => TSN_POL_CFG_OH i)]⟩]
def mapTsn1 : List RegRow := [
  ⟨0x38, 0x4, 1, 0x4, 1, some TSN_POL_IDX_POL, [(0, .rw, fun i _ _ => TSN_POL_CIR_RATE i)]⟩,
  ⟨0x3C, 0x4, 1, 0x4, 1, some TSN_POL_IDX_POL, [(0, .rw, fun i _ _ => TSN_POL_CBS_BURST i)]⟩,
  ⟨0x40, 0x4, 1, 0x4, 1, some TSN_POL_IDX_POL, [(0, .rw, fun i _ _ => TSN_POL_EIR_RATE i)]⟩,
  ⟨0x44, 0x4, 1, 0x4, 1, some TSN_POL_IDX_POL, [(0, .rw, fun i _ _ => TSN_POL_EBS_BURST i)]⟩,
  ⟨0x48, 0x4, 1, 0x4, 1, some TSN_POL_IDX_POL, [(16, .rc, fun i _ _ => TSN_POL_CNT_YELLOW i), (0, .rc, fun i _ _ => TSN_POL_CNT_RED i)]⟩,
  ⟨0x200, 0x4, 128, 0x4, 1, none, [(16, .rw, fun _ a _ => TSN_POLMAP_BASE a), (0, .rw, fun _ a _ => TSN_POLMAP_COUNT a)]⟩,
  ⟨0x1000, 0x200, 8, 0x4, 1, none, [(31, .rw, fun _ a _ => TSN_PORT_CFG_GCL_EN a), (30, .rw, fun _ a _ => TSN_PORT_CFG_MODE a), (29, .rw, fun _ a _ => TSN_PORT_CFG_PREEMPT_EN a), (27, .rw, fun _ a _ => TSN_PORT_CFG_ADD_FRAG a), (24, .rw, fun _ a _ => TSN_PORT_CFG_UNTAG_TC a), (0, .rw, fun _ a _ => TSN_PORT_CFG_STARVE_US a)]⟩,
  ⟨0x1004, 0x200, 8, 0x4, 1, none, [(0, .rw, fun _ a _ => TSN_PORT_RATE_MBPS a)]⟩,
  ⟨0x1008, 0x200, 8, 0x4, 1, none, [(0, .rw, fun _ a _ => TSN_PORT_PCPMAP_TC0 a), (3, .rw, fun _ a _ => TSN_PORT_PCPMAP_TC1 a), (6, .rw, fun _ a _ => TSN_PORT_PCPMAP_TC2 a), (9, .rw, fun _ a _ => TSN_PORT_PCPMAP_TC3 a), (12, .rw, fun _ a _ => TSN_PORT_PCPMAP_TC4 a), (15, .rw, fun _ a _ => TSN_PORT_PCPMAP_TC5 a), (18, .rw, fun _ a _ => TSN_PORT_PCPMAP_TC6 a), (21, .rw, fun _ a _ => TSN_PORT_PCPMAP_TC7 a)]⟩,
  ⟨0x100C, 0x200, 8, 0x4, 1, none, [(16, .rw, fun _ a _ => TSN_PORT_DEFLIM_YLIM a), (0, .rw, fun _ a _ => TSN_PORT_DEFLIM_LIMIT a)]⟩,
  ⟨0x1010, 0x200, 8, 0x4, 1, none, [(31, .wo, fun _ a _ => TSN_PORT_GCL_CTRL_CHANGE a), (10, .rw, fun _ a _ => TSN_PORT_GCL_CTRL_LEN a), (0, .rw, fun _ a _ => TSN_PORT_GCL_CTRL_FB_GATES a)]⟩,
  ⟨0x1014, 0x200, 8, 0x4, 1, none, [(0, .rw, fun _ a _ => TSN_PORT_GCL_BASE_LO_BASE a)]⟩]
def mapTsn2 : List RegRow := [
  ⟨0x1018, 0x200, 8, 0x4, 1, none, [(0, .rw, fun _ a _ => TSN_PORT_GCL_BASE_HI_BASE a)]⟩,
  ⟨0x101C, 0x200, 8, 0x4, 1, none, [(0, .rw, fun _ a _ => TSN_PORT_GCL_CYCLE_CYCLE a)]⟩,
  ⟨0x1020, 0x200, 8, 0x4, 1, none, [(0, .rw, fun _ a _ => TSN_PORT_GCL_EXT_EXT a)]⟩,
  ⟨0x1024, 0x200, 8, 0x4, 1, none, [(0, .rw, fun _ a _ => TSN_PORT_GCL_ANG_ANG_TMO a)]⟩,
  ⟨0x1028, 0x200, 8, 0x4, 1, none, [(31, .ro, fun _ a _ => TSN_PORT_GCL_STAT_PEND a), (30, .ro, fun _ a _ => TSN_PORT_GCL_STAT_BANK a), (29, .w1c, fun _ a _ => TSN_PORT_GCL_STAT_CFG_ERR a), (28, .ro, fun _ a _ => TSN_PORT_GCL_STAT_HOLD a), (18, .ro, fun _ a _ => TSN_PORT_GCL_STAT_ENTRY a), (8, .rc, fun _ a _ => TSN_PORT_GCL_STAT_ANG_LOST a), (0, .ro, fun _ a _ => TSN_PORT_GCL_STAT_GATES a)]⟩,
  ⟨0x102C, 0x200, 8, 0x4, 1, none, [(31, .ro, fun _ a _ => TSN_PORT_STAT_VERIFIED a), (16, .rc, fun _ a _ => TSN_PORT_STAT_MERGED a), (0, .rc, fun _ a _ => TSN_PORT_STAT_SWAP_CNT a)]⟩,
  ⟨0x1040, 0x200, 8, 0x4, 8, none, [(31, .rw, fun _ a b => TSN_TC_CFG_ACCT a b), (30, .rw, fun _ a b => TSN_TC_CFG_CBS_EN a b), (29, .rw, fun _ a b => TSN_TC_CFG_PREEMPT a b), (14, .rw, fun _ a b => TSN_TC_CFG_OH a b), (0, .rw, fun _ a b => TSN_TC_CFG_PKT_BYTES a b)]⟩,
  ⟨0x1060, 0x200, 8, 0x4, 8, none, [(0, .rw, fun _ a b => TSN_TC_IDLE_IS a b)]⟩,
  ⟨0x1080, 0x200, 8, 0x4, 8, none, [(0, .ro, fun _ a b => TSN_TC_CREDIT_CREDIT a b)]⟩,
  ⟨0x10A0, 0x200, 8, 0x4, 8, none, [(16, .rc, fun _ a b => TSN_TC_CNT_GATE_OVERRUN a b), (0, .rc, fun _ a b => TSN_TC_CNT_STARVE_SERVED a b)]⟩,
  ⟨0x80000, 0x4000, 16, 0x8, 1024, none, [(0, .rw, fun _ a b => TSN_GCL_ENTRY_LO a b)]⟩,
  ⟨0x80004, 0x4000, 16, 0x8, 1024, none, [(0, .rw, fun _ a b => TSN_GCL_ENTRY_HI_HI a b)]⟩]
def mapTsn : List RegRow := mapTsn0 ++ mapTsn1 ++ mapTsn2

end Sys2Proof.RegMap
end

