-- ==== Sys2Proof/Machine/RegAccess.lean ====
section
/-! DEFINITION. Register words put together from their fields by the register maps (R7, R11): reading a row's word, and what a
plain write of a word does to the fields by their access codes (Table 0.3). -/
namespace Sys2Proof.Machine

/-- The index with which a banked row shows a register. -/
def rowBank (s : State) (n : Nat) (r : RegRow) : Nat := match r.bank with | some f => s.get f | none => n

/-- The word of a row at indices `a`, `b`: `live` gives the fields that are computed when they are read. -/
def rowWord (s : State) (live : FKey → Option Nat) (n : Nat) (r : RegRow) (a b : Nat) : Nat :=
  r.flds.foldl (fun w e =>
    let f := e.2.2 (rowBank s n r) a b
    match e.2.1 with
    | .wo => w
    | _ => w + wrap f.w ((live f.key).getD (s.get f)) * 2 ^ e.1) 0

/-- The row that holds the register at offset `o`, with its indices. -/
def findRow : List RegRow → Nat → Option (RegRow × Nat × Nat)
  | [], _ => none
  | r :: t, o => match r.match? o with
    | some i => some (r, i)
    | none => findRow t o

/-- The word of the register at offset `o` of a map; 0 where the map has none. -/
def mapWord (s : State) (live : FKey → Option Nat) (n : Nat) (m : List RegRow) (o : Nat) : Nat :=
  match findRow m o with
  | some (r, a, b) => rowWord s live n r a b
  | none => 0

/-- Table 0.3: a plain write of `v`: RW fields take their bits, W1C fields clear on 1, others ignore the write. -/
def rowWrite (s : State) (n : Nat) (r : RegRow) (a b v : Nat) : State :=
  r.flds.foldl (fun s e =>
    let f := e.2.2 (rowBank s n r) a b
    match e.2.1 with
    | .rw => s.put f (bits v e.1 f.w)
    | .w1c => s.put f (bitsMinus f.w (s.get f) (bits v e.1 f.w))
    | _ => s) s

/-- Table 0.3: what a read does to the RC fields of a row. -/
def rowClear (s : State) (n : Nat) (r : RegRow) (a b : Nat) : State :=
  r.flds.foldl (fun s e =>
    match e.2.1 with
    | .rc => s.put (e.2.2 (rowBank s n r) a b) 0
    | _ => s) s

end Sys2Proof.Machine
end

