-- ==== Sys2Proof/Machine/Aggregation.lean ====
section
/-! DEFINITION. Qoronami aggregation (18_qoronami_aggregation.md): the capture grid, the frames of Tables 18.1 and 18.2 as
coordinator and node process them, membership, and island declarations. -/
namespace Sys2Proof.Machine
open Sys2Proof.Reg

def aggOFF : Nat := 0
def aggSEEKING : Nat := 1
def aggALIGNING : Nat := 2
def aggJOINING : Nat := 3
def aggJOINED : Nat := 4
def aggHOLDOVER : Nat := 5
def aggLONE : Nat := 6
def aggFAIL : Nat := 7

/-- One event of AGG_CNT.MISMATCH. -/
def aggMismatch (s : State) : State := s.bump AGG_CNT_MISMATCH

/-! ### The capture grid (R667) -/

def capPeriod : Nat := 20000000

/-- Latches the capture of instant `g` into the next entry. -/
def captureAt (s : State) (g : Nat) (step : Bool) : State :=
  let k := s.agg.next
  let s := s.puts [(AGG_CAP_G_LO_G k, wrap 32 g), (AGG_CAP_G_HI_G k, g / 2 ^ 32), (AGG_CAP_THETA_THETA k, wrap 32 s.grd.pos),
    (AGG_CAP_TRIM_TRIM k, s.get GRD_TRK_TRIM_ACT_ACT), (AGG_CAP_TURN_TURN k, wrap 32 (s.grd.pos / 2 ^ 32)),
    (AGG_CAP_FLAGS_STEP k, b2n step), (AGG_CAP_FLAGS_VALID k, 1)]
  { s with agg := { s.agg with next := (k + 1) % 4, capG := g, refDue := true } }

/-- CAPTURE_GRID: takes every capture instant that G has reached since the last one taken; of more than four, the last four
remain. -/
def captureGrid (s : State) : State :=
  let k := gNow s / capPeriod
  let k0 := s.agg.capG / capPeriod
  if !s.flag AGG_CFG_EN || k ≤ k0 then s
  else
    let n := k - k0
    let stepped := s.agg.stepped
    let s := { s with agg := { s.agg with stepped := false, next := (s.agg.next + (n - min n 4)) % 4 } }
    (List.range (min n 4)).foldl (fun s j => captureAt s ((k + 1 - min n 4 + j) * capPeriod) stepped) s

/-- The entry that holds the capture of instant `g`. -/
def capOf (s : State) (g : Nat) : Option Nat :=
  (List.range 4).find? (fun k => s.flag (AGG_CAP_FLAGS_VALID k) && s.get (AGG_CAP_G_LO_G k) + s.get (AGG_CAP_G_HI_G k) * 2 ^ 32 == g)

/-! ### Received frames (R665, R666) -/

/-- The header of Table 18.1 and the payload of a received frame. -/
structure QorMsg where
  mac : Nat
  typ : Nat
  src : Nat
  epoch : Nat
  seq : Nat
  pl : List Byte
deriving DecidableEq, Repr

/-- A little-endian field of a frame or payload. -/
def fieldAt (b : List Byte) (o n : Nat) : Nat := ofLeBytes ((b.drop o).take n)

/-- Table 18.2: the payload length of a type. -/
def qorLen (t : Nat) : Option Nat :=
  if t = qorREF then some 32 else if t = qorISLAND then some 8 else if t = qorRESUME ∨ t = qorACCEPT then some 0
  else if t = qorJOIN ∨ t = qorSTATUS then some 8 else if t = qorREJECT ∨ t = qorLEAVE then some 4 else none

/-- R665: the frame, where it passes the receiver's checks. -/
def qorParse (s : State) (e : Nat × List Byte) : Option QorMsg :=
  let b := e.2
  let t := fieldAt b 1 1
  let len := fieldAt b 14 2
  let target := fieldAt b 12 2
  if b.length < 16 + len || fieldAt b 0 1 != 1 || fieldAt b 2 2 != s.get AGG_ID_GROUP || qorLen t != some len ||
      (target != 0xFFFF && target != s.get AGG_ID_NODE_ID) then none
  else some ⟨e.1, t, fieldAt b 4 2, fieldAt b 6 2, fieldAt b 8 4, (b.drop 16).take len⟩

/-- R665: discards the frames of the receive buffer that fail the checks. -/
def qorFlush (s : State) : State :=
  let bad := s.agg.rx.filter (fun e => (qorParse s e).isNone)
  let s := s.bumpBy AGG_CNT_MISMATCH bad.length
  { s with agg := { s.agg with rx := s.agg.rx.filter (fun e => (qorParse s e).isSome) } }

/-- R666: the last SEQ accepted from a SRC and EPOCH. -/
def qorLast (s : State) (src epoch : Nat) : Option Nat := (s.agg.lastSeq.find? (fun e => e.1 == (src, epoch))).map (·.2)

/-- Takes the oldest frame of type `t` from the receive buffer and, where it is accepted (R666), processes it. -/
def qorTake (s : State) (t : Nat) (f : State → QorMsg → State) : State :=
  let s := qorFlush s
  match s.agg.rx.findIdx? (fun e => fieldAt e.2 1 1 == t) with
  | none => s
  | some i =>
    let m := (s.agg.rx[i]?).bind (qorParse s)
    let s := { s with agg := { s.agg with rx := s.agg.rx.eraseIdx i } }
    match m with
    | none => s
    | some m =>
      match qorLast s m.src m.epoch with
      | some q => if m.seq ≤ q then aggMismatch s else f (note s m) m
      | none => f (note s m) m
where
  note (s : State) (m : QorMsg) : State :=
    { s with agg := { s.agg with lastSeq := ((m.src, m.epoch), m.seq) :: s.agg.lastSeq.filter (fun e => e.1 ≠ (m.src, m.epoch)) } }

/-! ### The coordinator (R668, R672, R677) -/

/-- The held entries (R677). -/
def aggMembers (s : State) : List Nat := (s.agg.members.filter (fun e => e.2.isSome)).map (·.1)

def aggCount (s : State) : State := s.put AGG_NODES_COUNT (aggMembers s).length

def setMember (s : State) (n : Nat) (m : Option Member) : State :=
  aggCount ({ s with agg := { s.agg with members := s.agg.members.set n m } } : State)

/-- The phase of the present AGG_PH_OFS added to an angle. -/
def withOfs (s : State) (a : Nat) : Nat := wrap 32 (a + s.get AGG_PH_OFS_OFS)

/-- R668, R672: a coordinator holds its own trim at 0 and takes the group's injection for itself. -/
def coordSettings (s : State) : State :=
  if aggRole s = roleCOORD then
    let s := setTrim s 0
    let s := injWrite s false (unsigned 32 ((s.get AGG_GINJ_PHASE_PHASE : Int) - s.get AGG_PH_OFS_OFS))
    injWrite s true (s.get AGG_GINJ_SLOT_SLOT % injPeriod s)
  else s

/-- The REF of capture entry `k` (Table 18.2). -/
def refPayload (s : State) (k : Nat) : List Byte :=
  leBytes 4 (s.get (AGG_CAP_G_LO_G k)) ++ leBytes 4 (s.get (AGG_CAP_G_HI_G k)) ++ leBytes 4 (withOfs s (s.get (AGG_CAP_THETA_THETA k))) ++
    leBytes 4 (s.get GRD_FREQ_F) ++ leBytes 4 (s.get (AGG_CAP_TURN_TURN k)) ++ leBytes 4 (profId s) ++
    leBytes 4 (s.get AGG_GINJ_PHASE_PHASE) ++ leBytes 1 (s.get AGG_GINJ_SLOT_SLOT) ++ leBytes 1 (s.get AGG_STAT_ISLAND) ++
    leBytes 2 (s.get AGG_NODES_COUNT)

/-- QOR_REF_SEND: what the coordinator sends for its newest capture: a REF, or none where its tracker is unlocked or the
capture carries STEP; with an island declared and the tracker unlocked, ISLAND in its place (R680). -/
def qorRefSend (s : State) : State :=
  if aggRole s ≠ roleCOORD ∨ s.agg.refDue = false then s
  else
    let k := (s.agg.next + 3) % 4
    let s := coordSettings ({ s with agg := { s.agg with refDue := false } } : State)
    if !gridLocked s then
      if s.flag AGG_STAT_ISLAND then qorSend s qorISLAND 0xFFFF (leBytes 8 (gNow s)) else s
    else if s.flag (AGG_CAP_FLAGS_STEP k) then s
    else qorSend s qorREF 0xFFFF (refPayload s k)

/-- R677: the REASONs for which a JOIN is refused. -/
def joinRefusals (s : State) (m : QorMsg) : List Nat :=
  let dup := match s.agg.members.get none m.src with | some e => e.mac != m.mac | none => false
  (if s.flag AGG_CTRL_CLOSE then [3] else []) ++ (if fieldAt m.pl 0 4 != profId s then [2] else []) ++ (if dup then [1] else [])

/-- QOR_JOIN (R677): ACCEPT, or REJECT with one of the reasons that apply; no answer to a SRC that is no NODE_ID. -/
def qorJoin (s : State) : State :=
  qorTake s qorJOIN (fun s m =>
    if aggRole s ≠ roleCOORD ∨ 1024 ≤ m.src then s
    else match joinRefusals s m with
      | [] => qorSend (setMember s m.src (some ⟨m.mac, s.T⟩)) qorACCEPT m.src []
      | l =>
        let (x, s) := s.fresh 8
        qorSend (s.bump AGG_CNT_REJECT) qorREJECT m.src (leBytes 1 (l.getD (x % l.length) 0) ++ leBytes 3 0))

/-- QOR_LEAVE (R677): frees the sender's entry. -/
def qorLeave (s : State) : State :=
  qorTake s qorLEAVE (fun s m =>
    match s.agg.members.get none m.src with
    | some e => if aggRole s = roleCOORD ∧ e.mac = m.mac then setMember s m.src none else s
    | none => s)

/-- QOR_STATUS (R677): keeps the sender's entry alive. -/
def qorStatus (s : State) : State :=
  qorTake s qorSTATUS (fun s m =>
    match s.agg.members.get none m.src with
    | some e => if aggRole s = roleCOORD ∧ e.mac = m.mac then setMember s m.src (some ⟨e.mac, s.T⟩) else s
    | none => s)

/-- QOR_MEMBER_TIMEOUT (R677): entries without STATUS for 1 s are freed. -/
def memberTimeout (s : State) : State :=
  (aggMembers s).foldl (fun s n =>
    match s.agg.members.get none n with
    | some e => if e.status + 1000000000 ≤ s.T then setMember s n none else s
    | none => s) s

/-! ### The node (R669, R670, R673–R676) -/

/-- R675: EPOCHs are compared per R9 on 16 bits. -/
def epochLead (a b : Nat) : Int := signed 16 (unsigned 16 ((a : Int) - b))

/-- Forgets what alignment has gathered. -/
def aggForget (s : State) : State :=
  ({ s with agg := { s.agg with errs := [], good := 0, limited := 0, refs := 0, inj := none } } : State).put AGG_STAT_ALIGNED 0

/-- A node seeks a group anew. -/
def aggSeek (s : State) : State := aggState (aggForget s) aggSEEKING

/-- Whether a state follows a coordinator whose EPOCH counts as current. -/
def aggFollows (s : State) : Bool := let st := s.get AGG_STAT_STATE; aggALIGNING ≤ st && st ≤ aggFAIL

/-- R681: takes a coordinator's island order. -/
def takeIsland (s : State) (m : QorMsg) : State :=
  if aggFollows s && epochLead m.epoch s.agg.epoch < 0 then s
  else
    let s := s.put AGG_STAT_ISLAND 1
    aggCease ({ s with agg := { s.agg with islHold := true, islBy := (m.src, m.epoch) } } : State)

/-- R683: the coordinator whose order is held ends its declaration. -/
def dropIsland (s : State) (m : QorMsg) : State :=
  if s.agg.islHold && s.agg.islBy == (m.src, m.epoch) then
    aggCease (({ s with agg := { s.agg with islHold := false } } : State).put AGG_STAT_ISLAND 0)
  else s

/-- QOR_ISLAND. -/
def qorIsland (s : State) : State :=
  qorTake s qorISLAND (fun s m => if aggRole s = roleNODE then takeIsland s m else s)

/-- QOR_RESUME. -/
def qorResume (s : State) : State :=
  qorTake s qorRESUME (fun s m => if aggRole s = roleNODE then dropIsland s m else s)

/-- R673: writes the injection settings of the last usableRef REF. -/
def joinedSettings (s : State) : State :=
  match s.agg.inj with
  | none => s
  | some (p, k) => injWrite (injWrite s false p) true (if injPeriod s = 0 then wrap 8 k.toNat else (k % (injPeriod s : Int)).toNat)

/-- Table 18.2: a JOIN to the coordinator. -/
def sendJoin (s : State) : State :=
  let s := qorSend s qorJOIN (s.get AGG_STAT_COORD) (leBytes 4 (profId s) ++ leBytes 4 0)
  { s with agg := { s.agg with joinT := s.T } }

/-- R676: STATUS. -/
def sendStatus (s : State) : State :=
  qorSend s qorSTATUS (s.get AGG_STAT_COORD) (leBytes 1 (s.get AGG_STAT_STATE) ++ leBytes 1 (s.get AGG_STAT_ALIGNED) ++
    leBytes 2 (s.get GRD_CAUSE_LIVE) ++ leBytes 4 (s.get AGG_RESID_R))

/-- The mean of a list of errors; which neighbour an inexact mean takes is free. -/
def meanErr (s : State) (l : List Int) : Int × State :=
  let n : Int := max l.length 1
  let t := l.foldl (· + ·) 0
  let (b, s) := s.fresh 1
  (t / n + (if t % n = 0 then 0 else (b : Int)), s)

/-- R673: the difference of two 64-bit positions in whole cycles; a difference of an exact half cycle rounds either way. -/
def cycleOffset (s : State) (cycle phase turn ang : Nat) : Int × State :=
  let x := signed 64 (unsigned 64 (((cycle * 2 ^ 32 + phase : Nat) : Int) - ((turn * 2 ^ 32 + ang : Nat) : Int)))
  let (b, s) := s.fresh 1
  (roundDiv x (2 ^ 32) - (if x % 2 ^ 32 = 2 ^ 31 then (b : Int) else 0), s)

/-- R669: the capture entry with which a REF is usableRef. -/
def usableRef (s : State) (pl : List Byte) : Option Nat :=
  match capOf s (fieldAt pl 0 8) with
  | none => none
  | some k =>
    if s.flag (AGG_CAP_FLAGS_STEP k) || decide (50000 < ((s.get GRD_FREQ_F : Int) - fieldAt pl 12 4).natAbs) then none else some k

/-- R669, R670, R673: residual, trim target, alignment and injection settings of a usableRef REF. -/
def alignRef (s : State) (m : QorMsg) (k : Nat) : State :=
  let phase := fieldAt m.pl 8 4
  let ang := withOfs s (s.get (AGG_CAP_THETA_THETA k))
  let r := angDiff ang phase
  let e := r - signed 32 (s.get (AGG_CAP_TRIM_TRIM k))
  let errs := (e :: s.agg.errs).take 5
  let (avg, s) := meanErr s errs
  let tgt := clampI (-23860929) 23860929 (-avg)
  let lim := if tgt = -avg then 0 else s.agg.limited + 1
  let good := if r.natAbs ≤ 2982616 then s.agg.good + 1 else 0
  let (d, s) := cycleOffset s (fieldAt m.pl 16 4) phase (s.get (AGG_CAP_TURN_TURN k)) ang
  let inj := (unsigned 32 ((fieldAt m.pl 24 4 : Int) - s.get AGG_PH_OFS_OFS), (fieldAt m.pl 28 1 : Int) - d)
  let s := setTrim (s.put AGG_RESID_R (unsigned 32 r)) (unsigned 32 tgt)
  let s := { s with agg := { s.agg with errs := errs, limited := lim, good := good, refT := s.T, refs := s.agg.refs + 1, inj := some inj } }
  if good = 0 then s.put AGG_STAT_ALIGNED 0 else if 5 ≤ good then s.put AGG_STAT_ALIGNED 1 else s

/-- R670, R674–R676: what a usableRef REF makes of the node's state. -/
def afterRef (s : State) : State :=
  let s := s.when (s.get AGG_STAT_STATE == aggSEEKING) (fun s => aggState s aggALIGNING)
  if 25 ≤ s.agg.limited then aggState s aggFAIL
  else
    let st := s.get AGG_STAT_STATE
    if st = aggALIGNING then
      if s.flag AGG_STAT_ALIGNED && gridLocked s && s.flag AGG_STAT_PROF_OK then sendJoin (aggState s aggJOINING) else s
    else if st = aggJOINED then
      if s.agg.good = 0 then
        let (x, s) := s.fresh 8
        aggLeaveGroup s x
      else
        let s := joinedSettings s
        s.when (s.agg.refs % 5 == 0) sendStatus
    else s

/-- A REF of the coordinator that the node follows. -/
def ownRef (s : State) (m : QorMsg) : State :=
  let s := s.put AGG_STAT_PROF_OK (b2n (fieldAt m.pl 20 4 == profId s))
  let s := { s with agg := { s.agg with prof := fieldAt m.pl 20 4 } }
  let s := s.when (s.get AGG_STAT_STATE == aggHOLDOVER) (fun s =>
    aggState ({ s with agg := { s.agg with refT := s.T } } : State) aggJOINED)
  match usableRef s m.pl with
  | none => aggMismatch s
  | some k => if s.get AGG_STAT_STATE = aggLONE then s else afterRef (alignRef s m k)

/-- Follows the coordinator of a REF. -/
def followRef (s : State) (m : QorMsg) : State :=
  ({ s with agg := { s.agg with epoch := m.epoch } } : State).put AGG_STAT_COORD (wrap 10 m.src)

/-- QOR_REF (R669, R675, R681, R683). -/
def qorRef (s : State) : State :=
  qorTake s qorREF (fun s m =>
    if aggRole s ≠ roleNODE then s
    else
      let s := if bit (fieldAt m.pl 29 1) 0 then takeIsland s m else dropIsland s m
      let st := s.get AGG_STAT_STATE
      if st = aggSEEKING then ownRef (followRef s m) m
      else if m.epoch = s.agg.epoch then ownRef s m
      else if epochLead m.epoch s.agg.epoch ≤ 0 then s
      else if st = aggLONE then aggSeek s
      else if st = aggALIGNING ∨ st = aggJOINING then ownRef (followRef (aggSeek s) m) m
      else s)

/-- Whether a frame comes from the coordinator that the node follows. -/
def fromCoord (s : State) (m : QorMsg) : Bool := m.epoch == s.agg.epoch && m.src == s.get AGG_STAT_COORD

/-- QOR_ACCEPT. -/
def qorAccept (s : State) : State :=
  qorTake s qorACCEPT (fun s m =>
    if aggRole s = roleNODE ∧ s.get AGG_STAT_STATE = aggJOINING ∧ fromCoord s m then
      joinedSettings (aggState ({ s with agg := { s.agg with refT := s.T, refs := 0 } } : State) aggJOINED)
    else s)

/-- QOR_REJECT. -/
def qorReject (s : State) : State :=
  qorTake s qorREJECT (fun s m =>
    if aggRole s = roleNODE ∧ s.get AGG_STAT_STATE = aggJOINING ∧ fromCoord s m then
      if fieldAt m.pl 0 1 = 2 then aggState s aggFAIL else aggSeek s
    else s)

/-- QOR_JOIN_REPEAT: every 100 ms while JOINING. -/
def joinRepeat (s : State) : State :=
  if aggRole s = roleNODE ∧ s.get AGG_STAT_STATE = aggJOINING ∧ s.agg.joinT + 100000000 ≤ s.T then sendJoin s else s

/-- QOR_HOLDOVER_ENTRY. -/
def holdoverEntry (s : State) : State :=
  if aggRole s = roleNODE ∧ s.get AGG_STAT_STATE = aggJOINED ∧ s.agg.refT + 100000000 ≤ s.T then
    aggState ({ s with agg := { s.agg with holdT := s.T } } : State) aggHOLDOVER
  else s

/-- QOR_LONE_ENTRY (R679). -/
def loneEntry (s : State) : State :=
  if aggRole s = roleNODE ∧ s.get AGG_STAT_STATE = aggHOLDOVER ∧ s.agg.holdT + s.get AGG_HOLD_S * 1000000000 ≤ s.T then
    let s := injWrite (setTrim s 0) true (s.get AGG_NODE_SLOT_SLOT)
    aggState (s.bump AGG_CNT_REF_LOST) aggLONE
  else s

/-! ### Writes (R660, R661, R676, R680, R683) -/

/-- AGG_RESUME: ends a declaration when the coordinator's own causes are absent. -/
def aggResume (s : State) : State :=
  let free := !(gridLive s causeACTIVE || gridLive s causeROCOF || gridLive s causeVS || gridLive s causeUNLOCK)
  if aggRole s = roleCOORD ∧ s.flag AGG_STAT_ISLAND ∧ free then
    let s := s.put AGG_STAT_ISLAND 0
    qorSend (aggCease ({ s with agg := { s.agg with islHold := false } } : State)) qorRESUME 0xFFFF []
  else s

/-- AGG_LEAVE: a JOINED node leaves. -/
def aggLeaveCmd (s : State) : State :=
  if aggRole s = roleNODE ∧ s.get AGG_STAT_STATE = aggJOINED then aggLeaveGroup s 0 else s

/-- A write of AGG_CTRL: ISLAND wins over RESUME. -/
def aggCtrlWrite (s : State) (m v : Nat) : State :=
  if !isMC m then s.refuseWrite m 16 0x18
  else
    let s := s.put AGG_CTRL_CLOSE (bits v 3 1)
    let s := s.when (bit v 2) aggLeaveCmd
    if bit v 0 then declareIsland s else s.when (bit v 1) aggResume

/-- The block is set to work: state, captures and membership start anew. -/
def aggStart (s : State) : State :=
  let s := { s with agg := { s.agg with members := [], lastSeq := [], capG := gNow s / capPeriod * capPeriod, stepped := false, refDue := false } }
  let s := (List.range 4).foldl (fun s k => s.puts [(AGG_CAP_FLAGS_VALID k, 0), (AGG_CAP_FLAGS_STEP k, 0)]) (aggCount s)
  if aggRole s = roleNODE then aggSeek s
  else if aggRole s = roleCOORD then coordSettings (s.put AGG_STAT_STATE aggJOINED)
  else s

/-- The block stops: the node enters OFF; membership ends. -/
def aggStop (s : State) (roleOff : Bool) : State :=
  let s := s.when (roleOff && s.get AGG_CFG_ROLE == roleNODE && (aggFollows s && s.get AGG_STAT_STATE != aggFAIL))
    (fun s => qorSend s qorLEAVE (s.get AGG_STAT_COORD) (leBytes 1 2 ++ leBytes 3 0))
  let s := aggState (aggForget s) aggOFF
  aggCount ({ s with agg := { s.agg with members := [] } } : State)

/-- A write of AGG_CFG: while EN is 1 it takes only what clears EN or turns ROLE OFF. -/
def aggCfgWrite (s : State) (v : Nat) : State :=
  let word (s : State) (v : Nat) : State :=
    s.putWord [(AGG_CFG_EN, 31), (AGG_CFG_ROLE, 29), (AGG_CFG_EXPORT_GATE, 28), (AGG_CFG_PORT, 25), (AGG_CFG_EPOCH, 0)] v
  if s.flag AGG_CFG_EN then
    let same := bits v 0 16 == s.get AGG_CFG_EPOCH && bits v 25 3 == s.get AGG_CFG_PORT && bits v 28 1 == s.get AGG_CFG_EXPORT_GATE
    let off := bits v 29 2 == 0 && s.get AGG_CFG_ROLE != 0
    if same && (off || (!bit v 31 && bits v 29 2 == s.get AGG_CFG_ROLE)) then word (aggStop s off) v
    else s.put AGG_STAT_CFG_IGN 1
  else
    let s := word s v
    s.when (s.flag AGG_CFG_EN) aggStart

/-- A write to the AGG block. -/
def aggWrite (s : State) (m off v : Nat) : State :=
  if !isMC m then s.refuseWrite m 16 off
  else if off = 0x00 then aggCfgWrite s v
  else if off = 0x04 ∧ s.flag AGG_CFG_EN then s.put AGG_STAT_CFG_IGN 1
  else if off = 0x18 then aggCtrlWrite s m v
  else match findRow RegMap.mapAgg off with
    | some (r, a, b) =>
      let s := rowWrite s 0 r a b v
      s.when (off == 0x30 || off == 0x34 || off == 0x08) coordSettings
    | none => s

/-- R661: who reads the block: MC0, MC1 and the manager. -/
def aggReader (m : Nat) : Bool := !isTenant m

/-- AGG_CAP_READ: a read of AGG_CAPk_G_LO latches the entry's other words. -/
def aggCapRead (s : State) (m k : Nat) : State :=
  if !aggReader m then s.refuseRead m 16 (0x40 + 0x20 * k)
  else
    let b := blockBase 16 0 + 0x40 + 0x20 * k
    let s := s.latch m (b + 4) (s.get (AGG_CAP_G_HI_G k))
    let s := s.latch m (b + 8) (s.get (AGG_CAP_THETA_THETA k))
    let s := s.latch m (b + 0xC) (s.get (AGG_CAP_TRIM_TRIM k))
    let s := s.latch m (b + 0x10) (s.get (AGG_CAP_TURN_TURN k))
    let s := s.latch m (b + 0x14) (s.get (AGG_CAP_FLAGS_STEP k) * 2 + s.get (AGG_CAP_FLAGS_VALID k))
    s.answer (s.get (AGG_CAP_G_LO_G k))

end Sys2Proof.Machine
end

