-- ==== Sys2Proof/Machine/Trig.lean ====
section
/-! DEFINITION. Sine, cosine, arc tangent and division in fixed point, to far below the resolution of any register that rests
on them: for the resolver's carrier (R145) and the DSP coprocessor (Table 4.6). -/
namespace Sys2Proof.Machine

/-- 1 in the fixed point of this file. -/
def one62 : Int := 2 ^ 62

/-- 2π × 2^62, rounded to nearest. -/
def twoPi62 : Nat := 28976077832308491370

/-- 1 − x²/(c(c+1)) × (1 − …), `k` nested terms, the outermost with c = `c`. -/
def seriesTail : Nat → Nat → Int → Int
  | 0, _, _ => one62
  | k + 1, c, x2 => one62 - x2 * seriesTail k (c + 2) x2 / (2 ^ 62 * (c * (c + 1)))

/-- (cos, sin) × 2^62 of an angle in [0, 1/4] turn given in units of 2^-64 turn. -/
def cosSinQuarter (a : Nat) : Int × Int :=
  let x : Int := (a * twoPi62 / 2 ^ 64 : Nat)
  let x2 := x * x / 2 ^ 62
  (seriesTail 14 1 x2, x * seriesTail 14 2 x2 / 2 ^ 62)

/-- (cos, sin) × 2^62 of an angle in units of 2^-64 turn. -/
def cosSin (a : Nat) : Int × Int :=
  let a := a % 2 ^ 64
  let q := a / 2 ^ 62
  let (c, s) := cosSinQuarter (a % 2 ^ 62)
  if q = 0 then (c, s) else if q = 1 then (-s, c) else if q = 2 then (-c, -s) else (s, -c)

/-- Bisection for the angle in [0, 1/4] turn, in units of 2^-64 turn, whose tangent is y/x (x, y ≥ 0, not both 0). -/
def atanQuarter : Nat → Nat → Int → Int → Nat → Nat
  | 0, _, _, _, a => a
  | k + 1, step, x, y, a =>
    let (c, s) := cosSinQuarter (a + step)
    atanQuarter k (step / 2) x y (if s * x ≤ c * y then a + step else a)

/-- The angle of (x, y) in units of 2^-64 turn, in [0, 2^64); 0 for (0, 0). -/
def atan2Turn (x y : Int) : Nat :=
  if x = 0 ∧ y = 0 then 0
  else
    let a := atanQuarter 60 (2 ^ 61) x.natAbs y.natAbs 0
    let a := if x < 0 then 2 ^ 63 - a else a
    if y < 0 then (2 ^ 64 - a) % 2 ^ 64 else a

end Sys2Proof.Machine
end

