-- ==== Sys2Proof/Machine/Acquisition.lean ====
section
/-! DEFINITION. Continuous acquisition (03_continuous_acquisition.md): sequencers, urgent requests, results and their tags,
delivery into DSP memory, the reference buffer, window comparators, the resolver path. -/
namespace Sys2Proof.Machine
open Sys2Proof.Reg

/-- Where a unit's registers start in the ADC block, and the block of the ADC in Table 11.2. -/
def adcUnitOff (u : Nat) : Nat := 0x400 + u * 0x200

/-- Table 3.1: the manager's cores, and the assigned DSP of unit `u`. -/
def adcUnitWriter (s : State) (m u : Nat) : Bool := isMC m || m == reqCD (s.get (ADC_UNIT_CFG_DSP u))

/-- R109: every master but tenants and packet threads reads the block. -/
def adcReader (m : Nat) : Bool := isMaster m && !isTenant m && !isPT m

def adcRunning (s : State) (u : Nat) : Bool := s.flag (ADC_UNIT_STAT_RUNNING u)
def adcIgn (s : State) (u : Nat) : State := s.put (ADC_UNIT_STAT_CFG_IGN u) 1
def adcRefIgn (s : State) : State := s.put ADC_REF_STAT_CFG_IGN 1

/-! ### Banks (R115–R118, R130) -/

/-- The fields of slot `k` of bank `b`. -/
def slotKIND (s : State) (u b k : Nat) : Nat := s.get (if b = 0 then ADC_UNIT_SEQ0_SLOT_KIND u k else ADC_UNIT_SEQ1_SLOT_KIND u k)
def slotSTORE (s : State) (u b k : Nat) : Bool := s.flag (if b = 0 then ADC_UNIT_SEQ0_SLOT_STORE u k else ADC_UNIT_SEQ1_SLOT_STORE u k)
def slotBUF (s : State) (u b k : Nat) : Nat := s.get (if b = 0 then ADC_UNIT_SEQ0_SLOT_BUF u k else ADC_UNIT_SEQ1_SLOT_BUF u k)
def slotTSRC (s : State) (u b k : Nat) : Nat := s.get (if b = 0 then ADC_UNIT_SEQ0_SLOT_TSRC u k else ADC_UNIT_SEQ1_SLOT_TSRC u k)
def slotINPUT (s : State) (u b k : Nat) : Nat := s.get (if b = 0 then ADC_UNIT_SEQ0_SLOT_INPUT u k else ADC_UNIT_SEQ1_SLOT_INPUT u k)
def slotWIN (s : State) (u b k : Nat) : Nat := s.get (if b = 0 then ADC_UNIT_SEQ0_SLOT_OPEN_WIN u k else ADC_UNIT_SEQ1_SLOT_OPEN_WIN u k)

/-- R115: the length of bank `b`. -/
def bankLen (s : State) (u b : Nat) : Nat := s.get (if b = 0 then ADC_UNIT_SEQ_LEN_LEN0 u else ADC_UNIT_SEQ_LEN_LEN1 u) + 1

def bufBASE (s : State) (u f : Nat) : Nat := s.get (if f = 0 then ADC_UNIT_BUFA_BASE u else ADC_UNIT_BUFB_BASE u)
def bufLEN (s : State) (u f : Nat) : Nat := s.get (if f = 0 then ADC_UNIT_BUFA_LEN u else ADC_UNIT_BUFB_LEN u)

/-- R130: whether a stored result may use buffer `f` of unit `u`. -/
def bufOk (s : State) (u f : Nat) : Bool :=
  s.flag (if f = 0 then ADC_UNIT_BUFA_EN u else ADC_UNIT_BUFB_EN u) && bufBASE s u f + 4 * bufLEN s u f ≤ 32768 && 1 ≤ bufLEN s u f

/-- R117: a slot with which a bank may run. DESIGN CHOICE: a SWAP applies the whole check of R130 to a STORE slot's buffer, as
START does (log entry 202). -/
def slotOk (s : State) (u b k : Nat) : Bool :=
  slotKIND s u b k != 3 && slotINPUT s u b k ≤ 11 && (slotKIND s u b k == 0 || slotWIN s u b k != 0) &&
    (!slotSTORE s u b k || bufOk s u (slotBUF s u b k))

/-- R117: bank `b` and URG_CFG pass. DESIGN CHOICE: what a bank contains is its slots 0 to length − 1, those that it runs (log
entry 203). -/
def adcBankOk (s : State) (u b : Nat) : Bool :=
  (List.range (bankLen s u b)).all (fun k => slotOk s u b k) && s.get (ADC_UNIT_URG_CFG_INPUT u) ≤ 11 &&
    (!s.flag (ADC_UNIT_URG_CFG_STORE u) || bufOk s u (s.get (ADC_UNIT_URG_CFG_BUF u)))

/-- R118: the inactive bank becomes active if R117 accepts it. -/
def takeSwap (s : State) (u : Nat) : State :=
  let s := s.put (ADC_UNIT_STAT_SWAP_PEND u) 0
  let b := 1 - s.get (ADC_UNIT_STAT_BANK u)
  if adcBankOk s u b then s.put (ADC_UNIT_STAT_BANK u) b else s.put (ADC_UNIT_STAT_CFG_ERR u) 1

/-- R121: the unit stops; a pending SWAP takes effect. -/
def unitStopped (s : State) (u : Nat) : State :=
  let s := s.setAdcU u { s.adcU u with phase := .ready, first := false, stop := false, bound := none, boundReqs := [], served := none }
  let s := s.put (ADC_UNIT_STAT_RUNNING u) 0
  s.when (s.flag (ADC_UNIT_STAT_SWAP_PEND u)) (fun s => takeSwap s u)

/-- The acquisition clock edge at or after T (R112). -/
def nextEdge (t : Nat) : Nat := (t + 24) / 25 * 25

/-- R118: the end of a pass, at which a pending SWAP is taken. -/
def passEnd (s : State) (u : Nat) : State :=
  let a := s.adcU u
  if adcRunning s u && !a.first && a.phase == .ready && a.slot == 0 && a.next ≤ s.T && s.flag (ADC_UNIT_STAT_SWAP_PEND u) then
    takeSwap s u
  else s

/-- R115, Table 3.5: the next slot of the active bank starts. -/
def slotStart (s : State) (u : Nat) : State :=
  if !(adcRunning s u && (s.adcU u).phase == .ready && (s.adcU u).next ≤ s.T) then s
  else
    let s := passEnd s u
    let a := s.adcU u
    let b := s.get (ADC_UNIT_STAT_BANK u)
    let k := a.slot
    let kind := slotKIND s u b k
    let close := a.next + 25 * slotWIN s u b k
    let after := if k + 1 < bankLen s u b then k + 1 else 0
    let a := { a with
      served := none, boundReqs := [],
      bound := if k == 0 && !a.first && a.next == s.T then some (s.T, s.get (ADC_UNIT_URG_CNT_SERVED u), s.get (ADC_UNIT_URG_CNT_DROPPED u)) else none }
    let s := s.put (ADC_UNIT_STAT_SLOT u) k
    if kind = 0 then
      let c : Conv := {
        start := a.next, slot := k, input := slotINPUT s u b k, tsrc := slotTSRC s u b k, store := slotSTORE s u b k,
        buf := slotBUF s u b k, urg := false, fill := false }
      s.setAdcU u { a with phase := .conv c, first := false, slot := after, next := a.next + 1000 }
    else s.setAdcU u { a with phase := .window close (kind == 2), first := false, slot := after, next := close + 1000 }

/-- R116: a window closes without a served request: the unit idles, or starts the fill conversion. -/
def windowClose (s : State) (u : Nat) : State :=
  let a := s.adcU u
  match a.phase with
  | .window close fill =>
    if close ≤ s.T then
      if fill then
        let b := s.get (ADC_UNIT_STAT_BANK u)
        let k := s.get (ADC_UNIT_STAT_SLOT u)
        let c : Conv := {
          start := close, slot := k, input := slotINPUT s u b k, tsrc := slotTSRC s u b k, store := slotSTORE s u b k,
          buf := slotBUF s u b k, urg := false, fill := true }
        s.setAdcU u { a with phase := .conv c }
      else s.setAdcU u { a with phase := .ready }
    else s
  | _ => s

/-! ### Urgent requests (R122–R124) -/

/-- R122: the urgent conversion of unit `u` for a request that arrives at the present T. -/
def urgConv (s : State) (u : Nat) : Conv :=
  { start := nextEdge s.T, slot := s.get (ADC_UNIT_STAT_SLOT u), input := s.get (ADC_UNIT_URG_CFG_INPUT u),
    tsrc := s.get (ADC_UNIT_URG_CFG_TSRC u), store := s.flag (ADC_UNIT_URG_CFG_STORE u), buf := s.get (ADC_UNIT_URG_CFG_BUF u),
    urg := true, fill := false }

/-- R122–R124: the judgement of an urgent request by a Turnspit event or by a write. An event takes the place of a write that
the same window served in the same acquisition clock cycle; the write is dropped. -/
def urgJudge (s : State) (u : Nat) (event : Bool) : State :=
  let a := s.adcU u
  match a.phase with
  | .window close _ =>
    if adcRunning s u && s.T < close then
      (s.setAdcU u { a with phase := .conv (urgConv s u), served := if event then none else some (s.T, close) }).bump (ADC_UNIT_URG_CNT_SERVED u)
    else s.bump (ADC_UNIT_URG_CNT_DROPPED u)
  | _ =>
    match a.served with
    | some (t, close) =>
      if event && t / 25 == s.T / 25 && s.T < close then
        (s.setAdcU u { a with phase := .conv (urgConv s u), served := none }).bump (ADC_UNIT_URG_CNT_DROPPED u)
      else s.bump (ADC_UNIT_URG_CNT_DROPPED u)
    | none => s.bump (ADC_UNIT_URG_CNT_DROPPED u)

/-- Keeps a request of the nanosecond of a pass boundary (R118). -/
def noteUrg (s : State) (u : Nat) (event : Bool) : State :=
  let a := s.adcU u
  match a.bound with
  | some (t, _, _) => if t = s.T then s.setAdcU u { a with boundReqs := a.boundReqs ++ [event] } else s
  | none => s

/-- R118: a SWAP written in the nanosecond of a pass boundary after slot 0 has started takes effect at that boundary: slot 0
starts again, of the bank then active, and the urgent requests of the nanosecond are judged against it. -/
def boundarySwap (s : State) (u : Nat) : State :=
  let a := s.adcU u
  match a.bound with
  | some (t, sv, dr) =>
    if t = s.T then
      let s := s.puts [(ADC_UNIT_URG_CNT_SERVED u, sv), (ADC_UNIT_URG_CNT_DROPPED u, dr)]
      let s := slotStart (takeSwap (s.setAdcU u { a with phase := .ready, slot := 0, next := t }) u) u
      a.boundReqs.foldl (fun s e => urgJudge (noteUrg s u e) u e) s
    else s.put (ADC_UNIT_STAT_SWAP_PEND u) 1
  | none => s.put (ADC_UNIT_STAT_SWAP_PEND u) 1

/-! ### Commands of a unit (R117–R121) -/

/-- R117: START. -/
def adcStart (s : State) (u : Nat) : State :=
  if adcRunning s u then adcIgn s u
  else if !adcBankOk s u (s.get (ADC_UNIT_STAT_BANK u)) then s.put (ADC_UNIT_STAT_CFG_ERR u) 1
  else
    (s.put (ADC_UNIT_STAT_RUNNING u) 1).setAdcU u
      { s.adcU u with
        phase := .ready, first := true, slot := 0, next := nextEdge s.T, stop := false, sample := none
        bound := none, boundReqs := [], served := none }

/-- R121: STOP. -/
def adcStop (s : State) (u : Nat) : State :=
  if !adcRunning s u then s
  else
    match (s.adcU u).phase with
    | .conv _ => s.setAdcU u { s.adcU u with stop := true }
    | _ => unitStopped s u

/-- R118: SWAP. -/
def adcSwap (s : State) (u : Nat) : State :=
  if !adcRunning s u then takeSwap s u
  else if s.flag (ADC_UNIT_STAT_SWAP_PEND u) then s
  else boundarySwap s u

/-- R118, R148: the SWAP, STOP and START bits of one write for unit `u`: SWAP first, and STOP wins over START. -/
def adcCommand (s : State) (u : Nat) (swap stop start : Bool) : State :=
  let s := s.when swap (fun s => adcSwap s u)
  if stop then adcStop s u else if start then adcStart s u else s

/-- Table 3.15: a write of ADC_UNITu_CTRL. -/
def adcCtrlWrite (s : State) (m u v : Nat) : State :=
  if adcUnitWriter s m u then adcCommand s u (bit v 2) (bit v 1) (bit v 0) else s.refuseWrite m 9 (adcUnitOff u + 4)

/-- Table 3.1: the masters that may write ADC_START: the manager's cores, and any DSP to which a unit is assigned. -/
def adcDsp (s : State) (m : Nat) : Bool := (List.range 8).any (fun u => m == reqCD (s.get (ADC_UNIT_CFG_DSP u)))

/-- R119, R148: a write of ADC_START. -/
def adcStartWrite (s : State) (m v : Nat) : State :=
  if !(isMC m || adcDsp s m) then s.refuseWrite m 9 8
  else
    (List.range 8).foldl (fun s u =>
      let swap := bit v (16 + u)
      let stop := bit v (8 + u)
      let start := bit v u
      if !(swap || stop || start) then s
      else if adcUnitWriter s m u then adcCommand s u swap stop start
      else adcIgn s u) s

/-! ### Results (R113, R114, R125–R133) -/

/-- The tag source was TRACKING or FOLLOWING (Table 3.6, TSTALE). -/
def tagFresh (s : State) (n : Nat) : Bool := srcState s n == srcTRACKING || srcState s n == srcFOLLOWING

/-- R111, Table 3.2: the code that an internal input can give when the converter reads `code` of it: REFBUF ÷ 2 lies within
0x800 ± 4 and the analog ground within 0–4; the die temperature and VDDA_ADC ÷ 2 follow the temperature and the supply, which
only the operand shows (log entry 204). -/
def internalCode (input code : Nat) : Nat :=
  if input = 9 then max 0x7FC (min 0x804 code) else if input = 11 then min 4 code else code

/-- R113, R125: the sample instant of the conversion in progress. `range` is 1 when the input lies below 0 V and 2 when it lies
above REFBUF; `code` is what the converter makes of it otherwise. -/
def sampleInstant (s : State) (u code range : Nat) : State :=
  let a := s.adcU u
  match a.phase with
  | .conv c =>
    let ts := c.start + 250
    if ts ≤ s.T ∧ a.sample = none then
      -- REFBUF ÷ 2 and the ground lie inside the input range (Table 3.2)
      let range := if c.input = 9 ∨ c.input = 11 then 0 else range
      let v := if range = 1 then 0 else if range = 2 then 0xFFF else internalCode c.input code
      let r : AdcRes := {
        c := c, code := v, t := ts, pos := livePos s c.tsrc ts, ovr := range != 0, refu := !refSettled s,
        tstale := !tagFresh s c.tsrc }
      s.setAdcU u { a with sample := some r }
    else s
  | _ => s

/-- R114: VALUE, 12 bits. -/
def resValue (s : State) (u code : Nat) : Nat := if s.flag (ADC_UNIT_CFG_FMT u) then wrap 12 (code + 0x800) else code

/-- Table 3.6: no output of the bound channel changes level within the QUIET window. -/
def quietOf (s : State) (u ts : Nat) : Bool :=
  let g := 4 * s.get (ADC_UNIT_CFG_QGUARD u)
  !s.flag (ADC_UNIT_CFG_PC_EN u) ||
    (s.chan (s.get (ADC_UNIT_CFG_PC u))).edges.all (fun e => decide (e + 250 + g < ts ∨ ts + g < e))

/-- R129, Table 3.7: the four words of a record. -/
def recordWords (value input flags : Nat) (r : AdcRes) : List Nat :=
  let ang := wrap 32 r.pos
  let turn := r.pos / 2 ^ 32
  let t := wrap 32 r.t
  [value * 4096 + input * 256 + flags, ang / 256, (turn % 256) * 65536 + (ang % 256) * 256 + t / 2 ^ 24, t % 2 ^ 24]

/-! ### The resolver path (R144–R146) -/

/-- R145: a pair whose carrier factor m stays below 0.5 in magnitude: 10^9 of `x` is half a turn of the carrier. -/
def carrierLow (x : Int) : Bool :=
  let y := x % 1000000000
  decide (1000000000 < 3 * y ∧ 3 * y < 2000000000)

/-- R145: m × 2^62 for a carrier phase of `x` half turns / 10^9. -/
def carrierFactor (x : Int) : Int := (cosSin ((x % 2000000000).toNat * 2 ^ 64 / 2000000000)).1

/-- R143: the carrier on RSLV_EXCP and RSLV_EXCN at the present T, as its factor × 2^62; none while EN is 0. -/
def excCarrier (s : State) : Option Int :=
  if s.flag ADC_EXC_CFG_EN then some (carrierFactor (2 * (s.get ADC_EXC_CFG_FREQ : Int) * ((s.T : Int) - s.adc.excT))) else none

/-- The carrier's phase at a pair whose sample instants add up to `sum`, in half turns / 10^9 (R145). -/
def pairPhase (s : State) (sum : Nat) : Int :=
  (s.get ADC_EXC_CFG_FREQ : Int) * ((sum : Int) - 2 * (s.adc.excT : Int) - 2 * (s.get ADC_EXC_CFG_DELAY : Int))

/-- A pair of source `n` waits to be passed to Turnspit. -/
def queuePair (s : State) (n : Nat) (p : Pair) : State :=
  { s with adc := { s.adc with pair := s.adc.pair.set n (s.adc.pair.get [] n ++ [p]) } }

/-- R146: an expected pair of source `n` that cannot be used; `sum` is twice its sample instant. While the carrier is disabled
every pair counts so. -/
def badPair (s : State) (n sum : Nat) : State :=
  if s.flag ADC_EXC_CFG_EN && carrierLow (pairPhase s sum) then s else queuePair s n { ds := 0, dc := 0, good := false }

/-- R144–R146: the pair of halves `a` (sin) and `b` (cos) of source `n`, whose sample instants lie within 250 ns. -/
def formPair (s : State) (n : Nat) (a b : Half) : State :=
  let en := s.flag ADC_EXC_CFG_EN
  let x := pairPhase s (a.t + b.t)
  if en && carrierLow x then s
  else
    let good := en && a.good && b.good
    let m := carrierFactor x
    let d (c : Nat) : Int := if m = 0 then 0 else Int.tdiv (((c : Int) - 0x800) * 4096 * 2 ^ 62) m
    queuePair s n { ds := if good then d a.code else 0, dc := if good then d b.code else 0, good := good }

/-- The latest T at which unit `u` offers a result sampled within 250 ns after `t` (Table 3.3, R761). -/
def offeredBy (s : State) (u t : Nat) : Nat := t + 250 + max 750 (4 * s.get (ADC_UNIT_CFG_QGUARD u)) + 10

/-- R144, R146: half `h` of source `n` arrives, its own kind waiting under key `k` and the other kind, of unit `u'`, under `k'`.
It pairs with the half within 250 ns of it; halves that no coming result can match count as unusable pairs and are dropped
(DEDUCED, log entry 210). -/
def pairHalf (s : State) (n k k' u' : Nat) (isSin : Bool) (h : Half) : State :=
  let near (o : Half) : Bool := decide (o.t ≤ h.t + 250 ∧ h.t ≤ o.t + 250)
  let setHalf (s : State) (k : Nat) (v : List Half) : State := { s with adc := { s.adc with half := s.adc.half.set k v } }
  let others := s.adc.half.get [] k'
  -- the units deliver in the order of their sample instants: an older half of the other kind has missed its partner
  let gone := others.filter (fun o => decide (o.t + 250 < h.t))
  let own := s.adc.half.get [] k
  let late := own.filter (fun o => decide (offeredBy s u' o.t < s.T))
  let s := (gone ++ late).foldl (fun s o => badPair s n (2 * o.t)) s
  let left := others.filter (fun o => !decide (o.t + 250 < h.t))
  let own := own.filter (fun o => !decide (offeredBy s u' o.t < s.T))
  match left.find? near with
  | some o => if isSin then formPair (setHalf (setHalf s k own) k' (left.erase o)) n h o else formPair (setHalf (setHalf s k own) k' (left.erase o)) n o h
  | none => setHalf (setHalf s k (own ++ [h])) k' left

/-- R144: offers a result to the resolver source `n` that names its unit and input. -/
def offerResolver (s : State) (n u : Nat) (r : AdcRes) : State :=
  let us := s.get (TSP_SRC_IN_SIN_UNIT n)
  let uc := s.get (TSP_SRC_IN_COS_UNIT n)
  let h : Half := { t := r.t, code := r.code, good := !r.ovr && !r.refu }
  if !(s.flag (TSP_SRC_CFG_EN n) && srcKind s n == kindRESOLVER) || us == uc then s
  else if us = u ∧ s.get (TSP_SRC_IN_SIN_INPUT n) = r.c.input then pairHalf s n (2 * n) (2 * n + 1) uc true h
  else if uc = u ∧ s.get (TSP_SRC_IN_COS_INPUT n) = r.c.input then pairHalf s n (2 * n + 1) (2 * n) us false h
  else s

/-- A result reaches LAST, the resolver path, the grid monitor and the DMA engine (R112, R125, R128, R133; Table 4.9, vector 13).
DESIGN CHOICE: FMT, QGUARD, PC, DSP and the buffers are those at the delivery, also for a result held under R761 over a STOP
(log entry 205). -/
def deliver (s : State) (u : Nat) (r : AdcRes) : State :=
  let v := resValue s u r.code
  let q := quietOf s u r.t
  let s := s.puts [(ADC_UNIT_LAST_VAL_VALUE u, v), (ADC_UNIT_LAST_VAL_SLOT u, r.c.slot), (ADC_UNIT_LAST_VAL_INPUT u, r.c.input),
    (ADC_UNIT_LAST_VAL_QUIET u, b2n q), (ADC_UNIT_LAST_VAL_OVR u, b2n r.ovr), (ADC_UNIT_LAST_VAL_REFU u, b2n r.refu),
    (ADC_UNIT_LAST_VAL_URG u, b2n r.c.urg), (ADC_UNIT_LAST_VAL_TSTALE u, b2n r.tstale), (ADC_UNIT_LAST_VAL_FILL u, b2n r.c.fill),
    (ADC_UNIT_LAST_VAL_VALID u, 1), (ADC_UNIT_LAST_T_T u, wrap 32 r.t), (ADC_UNIT_LAST_ANG_ANG u, wrap 32 r.pos),
    (ADC_UNIT_LAST_TURN_TURN u, r.pos / 2 ^ 32)]
  let s := (List.range 8).foldl (fun s n => offerResolver s n u r) s
  let s := gridResult s u r.c.input r.t r.code r.refu r.ovr
  if r.c.store then
    let flags := 128 * b2n q + 64 * b2n r.ovr + 32 * b2n r.refu + 16 * b2n r.c.urg + 8 * b2n r.tstale + 4 * b2n r.c.fill
    let s := s.when ((s.adcU u).dma.isSome) (fun s => dspVector (s.bump (ADC_UNIT_STAT_DMA_LOST u)) (s.get (ADC_UNIT_CFG_DSP u)) 13)
    s.setAdcU u { s.adcU u with dma := some (r.c.buf, recordWords v r.c.input flags r) }
  else s

/-- R761: the result of a unit whose QUIET window outlasts the conversion waits for the window's end. -/
def conversionEnd (s : State) (u : Nat) : State :=
  let a := s.adcU u
  match a.phase, a.sample with
  | .conv c, some r =>
    if c.start + 1000 ≤ s.T then
      let late := s.get (ADC_UNIT_CFG_QGUARD u) > 187 || !a.held.isEmpty
      let s := s.setAdcU u { a with phase := .ready, sample := none, held := if late then a.held ++ [r] else a.held }
      let s := if late then s else deliver s u r
      if a.stop then unitStopped s u else s
    else s
  | _, _ => s

/-- R761: the QUIET window of the oldest held result has ended. -/
def quietWindowEnd (s : State) (u : Nat) : State :=
  match (s.adcU u).held with
  | [] => s
  | r :: rest =>
    if r.t + 4 * s.get (ADC_UNIT_CFG_QGUARD u) ≤ s.T then deliver (s.setAdcU u { s.adcU u with held := rest }) u r else s

/-- R129, R131: the DMA engine has written a record. -/
def dmaCommit (s : State) (u : Nat) : State :=
  match (s.adcU u).dma with
  | none => s
  | some (f, ws) =>
    let idx := if f = 0 then ADC_UNIT_WIDX_WIDXA u else ADC_UNIT_WIDX_WIDXB u
    let len := max 1 (bufLEN s u f)
    let i := s.get idx % len
    let db := s.flag (if f = 0 then ADC_UNIT_BUFA_MEM u else ADC_UNIT_BUFB_MEM u)
    let n := s.get (ADC_UNIT_CFG_DSP u)
    let base := bufBASE s u f + 4 * i
    let store (t : Tbl Nat) : Tbl Nat := (ws.zipIdx).foldl (fun t e => t.set ((base + e.2) % 32768) e.1) t
    let d := s.cdMem n
    let old := (ws.zipIdx).map (fun e => (db, (base + e.2) % 32768, (if db then d.db else d.da).get 0 ((base + e.2) % 32768)))
    let d := { d with portCyc := dspCycle s.T, portOld := if d.portCyc = dspCycle s.T then d.portOld ++ old else old }
    let s := s.setCdMem n (if db then { d with db := store d.db } else { d with da := store d.da })
    (s.put idx ((i + 1) % len)).setAdcU u { s.adcU u with dma := none }

/-! ### Urgent requests by an event or a write -/

/-- What is due at the present T before a request is judged: the end of the conversion, then the start of the slot (R118,
R122: the window includes its start). -/
def adcSettle (s : State) (u : Nat) : State := slotStart (conversionEnd s u) u

/-- R122–R124: an urgent request arrives. -/
def urgRequest (s : State) (u : Nat) (event : Bool) : State :=
  let s := adcSettle s u
  urgJudge (noteUrg s u event) u event

/-- A write of ADC_UNITu_URG_REQ. -/
def urgReqWrite (s : State) (m u v : Nat) : State :=
  if !adcUnitWriter s m u then s.refuseWrite m 9 (adcUnitOff u + 0x20)
  else if bit v 0 then urgRequest s u false else s

/-- R760: a write of ADC_UNITu_URG_CFG. -/
def urgCfgWrite (s : State) (m u v : Nat) : State :=
  if !adcUnitWriter s m u then s.refuseWrite m 9 (adcUnitOff u + 0x1C)
  else if bits v 0 4 > 11 || (adcRunning s u && bit v 23 && !bufOk s u (bits v 22 1)) then adcIgn s u
  else s.putWord [(ADC_UNIT_URG_CFG_TSRC u, 24), (ADC_UNIT_URG_CFG_STORE u, 23), (ADC_UNIT_URG_CFG_BUF u, 22), (ADC_UNIT_URG_CFG_INPUT u, 0)] v

/-! ### Other register writes (Table 3.1, R110) -/

/-- The fields of ADC_UNITu_CFG that only the manager sets, and those that the assigned DSP may set too. -/
def adcAssign (u : Nat) : List (Fld × Nat) := [(ADC_UNIT_CFG_DSP u, 30), (ADC_UNIT_CFG_PC_EN u, 29), (ADC_UNIT_CFG_PC u, 27)]
def adcFormat (u : Nat) : List (Fld × Nat) := [(ADC_UNIT_CFG_FMT u, 26), (ADC_UNIT_CFG_QGUARD u, 16)]

def adcCfgWrite (s : State) (m u v : Nat) : State :=
  if !adcUnitWriter s m u then s.refuseWrite m 9 (adcUnitOff u)
  else if adcRunning s u then adcIgn s u
  else if isMC m then s.putWord (adcAssign u ++ adcFormat u) v
  else (s.when (s.differs (adcAssign u) v) (fun s => adcIgn s u)).putWord (adcFormat u) v

/-- SEQ_LEN, BUFA, BUFB: only while the unit is stopped. -/
def adcStoppedWrite (s : State) (m u off : Nat) (l : List (Fld × Nat)) (v : Nat) : State :=
  if !adcUnitWriter s m u then s.refuseWrite m 9 (adcUnitOff u + off)
  else if adcRunning s u then adcIgn s u
  else s.putWord l v

/-- A sequence slot: not in the active bank of a running unit. -/
def adcSlotWrite (s : State) (m u b k v : Nat) : State :=
  if !adcUnitWriter s m u then s.refuseWrite m 9 (adcUnitOff u + 0x100 + 0x80 * b + 4 * k)
  else if adcRunning s u && s.get (ADC_UNIT_STAT_BANK u) == b then adcIgn s u
  else if b = 0 then
    s.putWord [(ADC_UNIT_SEQ0_SLOT_KIND u k, 30), (ADC_UNIT_SEQ0_SLOT_STORE u k, 29), (ADC_UNIT_SEQ0_SLOT_BUF u k, 28),
      (ADC_UNIT_SEQ0_SLOT_TSRC u k, 25), (ADC_UNIT_SEQ0_SLOT_INPUT u k, 20), (ADC_UNIT_SEQ0_SLOT_OPEN_WIN u k, 0)] v
  else
    s.putWord [(ADC_UNIT_SEQ1_SLOT_KIND u k, 30), (ADC_UNIT_SEQ1_SLOT_STORE u k, 29), (ADC_UNIT_SEQ1_SLOT_BUF u k, 28),
      (ADC_UNIT_SEQ1_SLOT_TSRC u k, 25), (ADC_UNIT_SEQ1_SLOT_INPUT u k, 20), (ADC_UNIT_SEQ1_SLOT_OPEN_WIN u k, 0)] v

/-- The registers of unit `u` by offset within the unit. DESIGN CHOICE: the W1C bits of STAT are cleared by the masters that
write the unit's other registers (log entry 172). -/
def adcUnitWrite (s : State) (m u off v : Nat) : State :=
  if off = 0 then adcCfgWrite s m u v
  else if off = 4 then adcCtrlWrite s m u v
  else if off = 0xC then adcStoppedWrite s m u off [(ADC_UNIT_SEQ_LEN_LEN1 u, 8), (ADC_UNIT_SEQ_LEN_LEN0 u, 0)] v
  else if off = 0x10 then
    adcStoppedWrite s m u off [(ADC_UNIT_BUFA_EN u, 31), (ADC_UNIT_BUFA_MEM u, 30), (ADC_UNIT_BUFA_BASE u, 15), (ADC_UNIT_BUFA_LEN u, 0)] v
  else if off = 0x14 then
    adcStoppedWrite s m u off [(ADC_UNIT_BUFB_EN u, 31), (ADC_UNIT_BUFB_MEM u, 30), (ADC_UNIT_BUFB_BASE u, 15), (ADC_UNIT_BUFB_LEN u, 0)] v
  else if off = 0x1C then urgCfgWrite s m u v
  else if off = 0x20 then urgReqWrite s m u v
  else if 0x100 ≤ off ∧ off < 0x200 then adcSlotWrite s m u (off / 0x80 % 2) (off / 4 % 32) v
  else if off = 8 then
    (if adcUnitWriter s m u then
      (s.when (bit v 23) (fun s => s.put (ADC_UNIT_STAT_CFG_ERR u) 0)).when (bit v 22) (fun s => s.put (ADC_UNIT_STAT_CFG_IGN u) 0)
    else s.refuseWrite m 9 (adcUnitOff u + off))
  else s.when (!adcUnitWriter s m u) (fun s => s.refuseWrite m 9 (adcUnitOff u + off))

/-! ### Reference buffer (R135, R136) -/

/-- R135: EN of ADC_REF_CTRL. -/
def refCtrl (s : State) (en : Bool) : State :=
  if en then
    (if s.flag ADC_REF_CTRL_EN then s
    else
      let s := s.put ADC_REF_CTRL_EN 1
      cmpChanged { s with adc := { s.adc with settleAt := some (s.T + 2000000), deviating := false } })
  else
    let s := (s.put ADC_REF_CTRL_EN 0).put ADC_REF_STAT_SETTLED 0
    cmpChanged { s with adc := { s.adc with settleAt := none, deviating := false } }

def refCtrlWrite (s : State) (m v : Nat) : State := if isMC m then refCtrl s (bit v 0) else s.refuseWrite m 9 0

/-- R135: the settling interval ends. -/
def refSettle (s : State) : State :=
  match s.adc.settleAt with
  | some t =>
    if t ≤ s.T then (({ s with adc := { s.adc with settleAt := none } } : State).put ADC_REF_STAT_SETTLED 1) else s
  | none => s

/-- R136: a deviation that has persisted for 1 µs. -/
def refDeviate (s : State) : State :=
  if s.flag ADC_REF_CTRL_EN && !s.adc.deviating then
    let s := ((s.put ADC_REF_STAT_SETTLED 0).put ADC_REF_STAT_FAULT 1).bump ADC_REF_STAT_RESTART_CNT
    cmpChanged { s with adc := { s.adc with settleAt := none, deviating := true } }
  else s

/-- R136: the deviation ends; the settling interval restarts. -/
def refRecover (s : State) : State :=
  if s.adc.deviating then { s with adc := { s.adc with settleAt := some (s.T + 2000000), deviating := false } } else s

/-! ### Comparators (R139–R142) -/

def setReq (s : State) (k v : Nat) : State := { s with adc := { s.adc with req := s.adc.req.set k v } }

def cmpSideEn (s : State) (c : Nat) (high : Bool) : Bool := s.flag (if high then ADC_CMP_CFG_EN_HI c else ADC_CMP_CFG_EN_LO c)

/-- HYST in threshold codes (R139). -/
def cmpHyst (s : State) (c : Nat) : Nat := [0, 4, 8, 16].getD (s.get (ADC_CMP_CFG_HYST c)) 0

/-- R139: whether an input of `lvl`, in 1/64 of a threshold step, trips the side, and whether it clears it. -/
def cmpTripped (s : State) (c : Nat) (high : Bool) (lvl : Nat) : Bool :=
  if high then decide (64 * s.get (ADC_CMP_THR_HI c) < lvl) else decide (lvl < 64 * s.get (ADC_CMP_THR_LO c))
def cmpCleared (s : State) (c : Nat) (high : Bool) (lvl : Nat) : Bool :=
  if high then decide (lvl + 64 * cmpHyst s c < 64 * s.get (ADC_CMP_THR_HI c)) else decide (64 * (s.get (ADC_CMP_THR_LO c) + cmpHyst s c) < lvl)

/-- R140: whether a condition that the input has met for `held` ns has lasted FILT × 4 ns, counted no earlier than the last
write that changed the side. -/
def cmpLasts (s : State) (c : Nat) (high : Bool) (held : Nat) : Bool :=
  decide (4 * s.get (ADC_CMP_CFG_FILT c) ≤ min held (s.T - s.adc.cmpT.get 0 (2 * c + b2n high)))

/-- R140: an enabled side whose tripped level has persisted for FILT × 4 ns presents its request. The input is at `lvl` and has
been beyond the side's threshold for `held` ns (log entry 206). -/
def comparatorTrip (s : State) (c : Nat) (high : Bool) (lvl held : Nat) : State :=
  if cmpSideEn s c high && cmpTripped s c high lvl && cmpLasts s c high held then cmpChanged (setReq s (2 * c + b2n high) 1) else s

/-- R140: a side that has stopped tripping, by its input or by a write, withdraws its request FILT × 4 ns later. -/
def comparatorRelease (s : State) (c : Nat) (high : Bool) (lvl held : Nat) : State :=
  let off := !cmpSideEn s c high
  if (off && cmpLasts s c high (s.T - s.adc.cmpT.get 0 (2 * c + b2n high))) || (!off && cmpCleared s c high lvl && cmpLasts s c high held) then
    setReq s (2 * c + b2n high) 0
  else s

/-- R140: what a write of a comparator register changes in a side: its enable, its threshold, its hysteresis. -/
def cmpSide (s : State) (c : Nat) (high : Bool) : Bool × Nat × Nat :=
  (cmpSideEn s c high, s.get (if high then ADC_CMP_THR_HI c else ADC_CMP_THR_LO c), s.get (ADC_CMP_CFG_HYST c))

/-- R140: a write acts on a side that it changes as a change of input level at the present T. -/
def cmpWritten (old s : State) (c : Nat) : State :=
  [false, true].foldl (fun s h =>
    if cmpSide old c h = cmpSide s c h then s else { s with adc := { s.adc with cmpT := s.adc.cmpT.set (2 * c + b2n h) s.T } }) s

/-- R142: a write of ADC_CMPm_THR (`reg` 0) or ADC_CMPm_CFG. -/
def adcCmpWrite (s : State) (m c reg v : Nat) : State :=
  if !isMC m then s.refuseWrite m 9 (0x2000 + 8 * c + 4 * reg)
  else if s.flag ADC_CMP_LOCK_LOCK then adcRefIgn s
  else if reg = 0 then cmpWritten s (s.putWord [(ADC_CMP_THR_HI c, 16), (ADC_CMP_THR_LO c, 0)] v) c
  else
    cmpChanged (cmpWritten s (s.putWord [(ADC_CMP_CFG_EN_HI c, 31), (ADC_CMP_CFG_EN_LO c, 30), (ADC_CMP_CFG_TRIP c, 26), (ADC_CMP_CFG_HYST c, 24),
      (ADC_CMP_CFG_FILT c, 19)] v) c)

/-- Table 3.1: ADC_CMP_LOCK is written once after each reset. -/
def adcLockWrite (s : State) (m v : Nat) : State :=
  if !isMC m then s.refuseWrite m 9 0x30
  else if s.adc.lockWritten then adcRefIgn s
  else ({ s with adc := { s.adc with lockWritten := true } } : State).put ADC_CMP_LOCK_LOCK (v % 2)

/-- Table 3.1: W1C clears of ADC_REF_STAT and ADC_CMP_STAT; a bit stays while its comparator presents a request. -/
def adcClearWrite (s : State) (m off v : Nat) : State :=
  if !(isMC m || adcDsp s m) then s.refuseWrite m 9 off
  else if off = 4 then
    (s.when (bit v 30) (fun s => s.put ADC_REF_STAT_FAULT 0)).when (bit v 29) (fun s => s.put ADC_REF_STAT_CFG_IGN 0)
  else
    let f := ADC_CMP_STAT_M ((off - 0x20) / 4)
    noteCmpStat (s.put f (bitsMinus 32 (s.get f) v))

/-! ### Excitation (R143, R110) -/

def excCfgWrite (s : State) (m v : Nat) : State :=
  if !isMC m then s.refuseWrite m 9 0xC
  else
    let f := bits v 16 15
    let s := s.put ADC_EXC_CFG_DELAY (bits v 0 16)
    if s.flag ADC_EXC_CFG_EN then
      let s := s.when (f != s.get ADC_EXC_CFG_FREQ) adcRefIgn
      s.put ADC_EXC_CFG_EN (bits v 31 1)
    else
      let s := s.put ADC_EXC_CFG_FREQ f
      if bit v 31 then
        if 2000 ≤ f ∧ f ≤ 20000 then ({ s with adc := { s.adc with excT := s.T } } : State).put ADC_EXC_CFG_EN 1
        else adcRefIgn s
      else s

/-- A write of the ADC block at offset `off`. -/
def adcWrite (s : State) (m off v : Nat) : State :=
  if off = 0 then refCtrlWrite s m v
  else if off = 8 then adcStartWrite s m v
  else if off = 0xC then excCfgWrite s m v
  else if off = 4 ∨ off = 0x20 ∨ off = 0x24 then adcClearWrite s m off v
  else if off = 0x30 then adcLockWrite s m v
  else if 0x400 ≤ off ∧ off < 0x1400 then adcUnitWrite s m ((off - 0x400) / 0x200) ((off - 0x400) % 0x200) v
  else if 0x2000 ≤ off ∧ off < 0x2200 then adcCmpWrite s m ((off - 0x2000) / 8) (off / 4 % 2) v
  else s.when (!isMC m) (fun s => s.refuseWrite m 9 off)

/-! ### Reads (R126, R127) -/

def lastShadow (u k : Nat) : Nat := blockBase 9 0 + adcUnitOff u + 0x28 + 4 * k

/-- The word of LAST_VAL. -/
def lastWord (s : State) (u : Nat) : Nat :=
  s.get (ADC_UNIT_LAST_VAL_VALUE u) * 65536 + s.get (ADC_UNIT_LAST_VAL_SLOT u) * 2048 + s.get (ADC_UNIT_LAST_VAL_INPUT u) * 128 +
    s.get (ADC_UNIT_LAST_VAL_QUIET u) * 64 + s.get (ADC_UNIT_LAST_VAL_OVR u) * 32 + s.get (ADC_UNIT_LAST_VAL_REFU u) * 16 +
    s.get (ADC_UNIT_LAST_VAL_URG u) * 8 + s.get (ADC_UNIT_LAST_VAL_TSTALE u) * 4 + s.get (ADC_UNIT_LAST_VAL_FILL u) * 2 +
    s.get (ADC_UNIT_LAST_VAL_VALID u)

/-- R126: a read of LAST_VAL. -/
def lastValRead (s : State) (m u : Nat) : State :=
  if !adcReader m then s.refuseRead m 9 (adcUnitOff u + 0x28)
  else
    let s := s.latch m (lastShadow u 1) (s.get (ADC_UNIT_LAST_T_T u))
    let s := s.latch m (lastShadow u 2) (s.get (ADC_UNIT_LAST_ANG_ANG u))
    let s := s.latch m (lastShadow u 3) (s.get (ADC_UNIT_LAST_TURN_TURN u))
    s.answer (lastWord s u)

/-- R127: a read of LAST_ANG: what LAST_VAL latched, else the live angle, latching LAST_TURN. -/
def lastAngRead (s : State) (m u : Nat) : State :=
  if !adcReader m then s.refuseRead m 9 (adcUnitOff u + 0x30)
  else
    match s.shadow? m (lastShadow u 2) with
    | some v => s.answer v
    | none => (s.latch m (lastShadow u 3) (s.get (ADC_UNIT_LAST_TURN_TURN u))).answer (s.get (ADC_UNIT_LAST_ANG_ANG u))

/-! ### A pair reaches Turnspit (R58, Tables 2.1, 2.2) -/

/-- Table 2.2: counts towards loss; each of the three conditions has its own run of 16. -/
def resolverBad (s : State) (n : Nat) (amp err use : Bool) : State :=
  let v := s.src n
  let v := { v with badAmp := if amp then v.badAmp + 1 else 0, badErr := if err then v.badErr + 1 else 0,
                    badUse := if use then v.badUse + 1 else 0 }
  let s := s.setSrc n v
  if v.badAmp ≥ 16 ∨ v.badErr ≥ 16 ∨ v.badUse ≥ 16 then sourceLoss s n else s

/-- Table 2.2: amplitude below 20 % or above 110 % of full scale; full scale is 2,048 codes of 4,096 parts. -/
def ampBad (ds dc : Int) : Bool :=
  let a2 := ds * ds + dc * dc
  decide (25 * a2 < 2 ^ 46 ∨ 121 * 2 ^ 46 < 100 * a2)

def resolverPairOf (s : State) (n : Nat) (p : Pair) : State :=
  if !p.good then resolverBad (s.setSrc n { s.src n with good := 0 }) n false false true
  else
    let v := s.src n
    let trk := srcState s n == srcTRACKING
    let from0 := unsigned 64 ((v.ownPos : Int) - v.ofsApplied)
    let spd := if trk then v.speed else v.ownSpeed
    let dt := s.T - (if trk then v.updT else v.ownT)
    let ds := if s.flag (TSP_SRC_CFG_DIRINV n) then -p.ds else p.ds
    let o := Config.resolverLoop (s.get (TSP_SRC_CFG_TRK_BW n)) ds p.dc from0 spd dt
    let ofs := s.get (TSP_SRC_OFS_OFS n)
    let own := wrap 64 (o.1 + ofs)
    let err := o.2.2
    let amp := ampBad p.ds p.dc
    if acquiring s n then
      let ok := decide (3600 * err < 14 * 2 ^ 32)
      let g := if ok then v.good + 1 else 0
      let s := s.setSrc n { v with good := g, ownPos := own, ownSpeed := satSpeed o.2.1, ownT := s.T, ofsApplied := ofs }
      let s := resolverBad s n amp (decide (2 ^ 32 < 12 * err)) false
      if g ≥ 64 then
        let s := acquireSource s n (wrap 32 own) o.2.1
        s.setSrc n { s.src n with good := 0 }
      else s
    else
      let s := s.setSrc n { v with ofsApplied := ofs }
      let own := if trk then stepTo (unsigned 64 ((v.pos : Int) - v.ownOfs)) (wrap 32 own) else own
      let s := updateSource s n own o.2.1
      resolverBad s n amp (decide (2 ^ 32 < 12 * err)) false

/-- R58: the oldest pair that waits for source `n` updates it. -/
def resolverPair (s : State) (n : Nat) : State :=
  match s.adc.pair.get [] n with
  | p :: rest =>
    let s := { s with adc := { s.adc with pair := s.adc.pair.set n rest } }
    if s.flag (TSP_SRC_CFG_EN n) && srcKind s n == kindRESOLVER && srcState s n != srcLOST then resolverPairOf s n p else s
  | [] => s

def tspResolverPair (s : State) (n : Nat) : State := withJumps s (fun s => resolverPair s n)

/-- The values of the ADC block computed when read: STAT of comparators now (Table 3.13). -/
def adcLiveMask (s : State) (h : Nat) : Nat :=
  (List.range 32).foldl (fun a k => if cmpPresents s (32 * h + k) then setBit a k else a) 0

end Sys2Proof.Machine
end

