-- ==== Sys2Proof/Machine/DspAlu.lean ====
section
/-! DEFINITION. The control DSP's arithmetic (04_control_dsp.md section 4.1, 05_dsp_instruction_set.md sections 5.4 and 5.6): number
formats, flags, rounding, the data-ALU operations, shifts, and the coprocessor's results. -/
namespace Sys2Proof.Machine

def m24 : Nat := 2 ^ 24
def m56 : Nat := 2 ^ 56

/-! ### Status register (Table 4.11) -/

def srC : Nat := 0
def srV : Nat := 1
def srZ : Nat := 2
def srN : Nat := 3
def srLZ : Nat := 4
def srGU : Nat := 5
def srSO : Nat := 6

def Dsp.flag (d : Dsp) (k : Nat) : Bool := bit d.sr k
def Dsp.setFlag (d : Dsp) (k : Nat) (v : Bool) : Dsp := { d with sr := if v then setBit d.sr k else clrBit d.sr k }
def Dsp.ipl (d : Dsp) : Nat := bits d.sr 21 3
def Dsp.frac (d : Dsp) : Bool := bit d.sr 20
def Dsp.sat (d : Dsp) : Bool := bit d.sr 19
def Dsp.rm (d : Dsp) : Nat := bits d.sr 17 2
def Dsp.setIpl (d : Dsp) (l : Nat) : Dsp := { d with sr := wrap 21 d.sr + wrap 3 l * 2 ^ 21 }

/-- Table 4.11: the bits of SR that exist. -/
def srWrite (v : Nat) : Nat := wrap 7 v + bits v 17 7 * 2 ^ 17

/-! ### Registers -/

def Dsp.dreg (d : Dsp) (n : Nat) : Nat := d.d.get 0 n
def Dsp.setD (d : Dsp) (n v : Nat) : Dsp := { d with d := d.d.set n (wrap 24 v) }
def Dsp.accU (d : Dsp) (i : Nat) : Nat := d.acc.get 0 i
def Dsp.accS (d : Dsp) (i : Nat) : Int := signed 56 (d.accU i)
def Dsp.setAcc (d : Dsp) (i v : Nat) : Dsp := { d with acc := d.acc.set i (wrap 56 v) }
def Dsp.setAccS (d : Dsp) (i : Nat) (v : Int) : Dsp := { d with acc := d.acc.set i (unsigned 56 v) }

/-- The parts G, H and L of an accumulator. -/
def accG (v : Nat) : Nat := bits v 48 8
def accH (v : Nat) : Nat := bits v 24 24
def accL (v : Nat) : Nat := bits v 0 24
def accOf (g h l : Nat) : Nat := wrap 8 g * 2 ^ 48 + wrap 24 h * 2 ^ 24 + wrap 24 l

/-- R154, R208: a 24-bit value in the place of H, sign-extended into G, with L cleared. -/
def toAcc (v : Nat) : Int := signed 24 v * 2 ^ 24

/-- GU: G is not a sign extension of H[23]. -/
def guOf (v : Nat) : Bool := let t := v / 2 ^ 47 % 512; t != 0 && t != 511

/-- R153: what a move from accumulator value `v` delivers, and whether it was limited. -/
def accMove (sat : Bool) (v : Nat) : Nat × Bool :=
  if sat && guOf v then ((if bit v 55 then 0x800000 else 0x7FFFFF), true) else (accH v, false)

/-! ### Flags (R209–R211) -/

/-- Z, N, GU and LZ of a 56-bit value. -/
def Dsp.flagsOf (d : Dsp) (v : Nat) : Dsp :=
  (((d.setFlag srZ (v == 0)).setFlag srN (bit v 55)).setFlag srGU (guOf v)).setFlag srLZ (accL v == 0)

/-- R211: V, which sets SO with it. -/
def Dsp.setV (d : Dsp) (v : Bool) : Dsp := if v then (d.setFlag srV true).setFlag srSO true else d.setFlag srV false

def overflows (v : Int) : Bool := decide (v < -(2 ^ 55) ∨ (2 ^ 55 : Int) ≤ v)

/-- R209: class A flags of a result that is not kept: from the result modulo 2^56. -/
def Dsp.compare (d : Dsp) (v : Int) (c : Bool) : Dsp := ((d.flagsOf (unsigned 56 v)).setFlag srC c).setV (overflows v)

/-- R152, R209: an accumulator result with class A flags. -/
def Dsp.result (d : Dsp) (i : Nat) (v : Int) (c : Bool) : Dsp :=
  let o := overflows v
  let r := if o && d.sat then unsigned 56 (satS 56 v) else unsigned 56 v
  (((d.setAcc i r).flagsOf r).setFlag srC c).setV o

/-- R209: carry of an addition and borrow of a subtraction of 56-bit values. -/
def carryOf (a b : Int) : Bool := 2 ^ 56 ≤ unsigned 56 a + unsigned 56 b
def borrowOf (a b : Int) : Bool := unsigned 56 a < unsigned 56 b

/-! ### Multiply and round (R151, R155) -/

def Dsp.product (d : Dsp) (x y : Nat) : Int :=
  let p := signed 24 (d.dreg x) * signed 24 (d.dreg y)
  if d.frac then 2 * p else p

/-- R155: H:L rounded to H, L cleared. -/
def roundAcc (rm : Nat) (v : Int) : Int :=
  let low := v % 2 ^ 24
  let hi := v - low
  if rm = 0 then hi
  else if rm = 2 ∧ low = 2 ^ 23 then (if hi / 2 ^ 24 % 2 = 1 then hi + 2 ^ 24 else hi)
  else if 2 ^ 23 ≤ low then hi + 2 ^ 24 else hi

/-! ### Data-ALU operations (Table 5.5) -/

/-- The S operand: D0–D3, or the other accumulator. -/
def Dsp.sOp (d : Dsp) (i src : Nat) : Int := if src < 4 then toAcc (d.dreg src) else d.accS (1 - i)

/-- S[23:0] of a logical operation: an accumulator gives its H. -/
def Dsp.sLow (d : Dsp) (i src : Nat) : Nat := if src < 4 then d.dreg src else accH (d.accU (1 - i))

/-- R210: H of ACCd becomes `h`, with class G flags. -/
def Dsp.logical (d : Dsp) (i h : Nat) : Dsp :=
  let v := d.accU i
  let r := accOf (accG v) h (accL v)
  ((((d.setAcc i r).setFlag srN (bit h 23)).setFlag srZ (wrap 24 h == 0)).setFlag srV false |>.setFlag srGU (guOf r)).setFlag srLZ (accL r == 0)

def andN (a b : Nat) : Nat := (BitVec.ofNat 24 a &&& BitVec.ofNat 24 b).toNat
def orN (a b : Nat) : Nat := (BitVec.ofNat 24 a ||| BitVec.ofNat 24 b).toNat
def xorN (a b : Nat) : Nat := (BitVec.ofNat 24 a ^^^ BitVec.ofNat 24 b).toNat

/-- Table 5.5: operation `op` with destination `i` and SRC `src`; `c` is the free value of C where the spec states none (MUL,
MULN, MULR, ABS, RND; log entry 44). The C of MRA is that of its addition, as in MAC. -/
def aluOp (d : Dsp) (op i src : Nat) (c : Bool) : Dsp :=
  let x := src / 4
  let y := src % 4
  let a := d.accS i
  let p := d.product x y
  let sv := d.sOp i src
  if op = 0x01 then d.result i p c
  else if op = 0x02 then d.result i (-p) c
  else if op = 0x03 then d.result i (a + p) (carryOf a p)
  else if op = 0x04 then d.result i (a - p) (borrowOf a p)
  else if op = 0x05 then d.result i (roundAcc d.rm p) c
  else if op = 0x06 then d.result i (roundAcc d.rm (a + p)) (carryOf a p)
  else if op = 0x07 then d.result i (a + sv) (carryOf a sv)
  else if op = 0x08 then d.result i (a - sv) (borrowOf a sv)
  else if op = 0x09 then d.compare (a - sv) (borrowOf a sv)
  else if op = 0x0A then
    let u := toAcc (d.dreg x)
    let v := toAcc (d.dreg y)
    (d.compare (v - u) (borrowOf v u)).setFlag srV false
  else if op = 0x0B then d.logical i (andN (accH (d.accU i)) (d.sLow i src))
  else if op = 0x0C then d.logical i (orN (accH (d.accU i)) (d.sLow i src))
  else if op = 0x0D then d.logical i (xorN (accH (d.accU i)) (d.sLow i src))
  else if op = 0x0E then d.logical i (0xFFFFFF - accH (d.accU i))
  else if op = 0x0F then ((d.setAcc i 0).flagsOf 0 |>.setFlag srC false).setFlag srV false
  else if op = 0x10 then d.result i (-a) (borrowOf 0 a)
  else if op = 0x11 then d.result i (a.natAbs : Int) c
  else if op = 0x12 then d.result i (roundAcc d.rm a) c
  else if op = 0x13 then d.result i (2 * a) (bit (d.accU i) 55)
  else if op = 0x14 then (d.result i (a / 2) (bit (d.accU i) 0)).setFlag srV false
  else if op = 0x15 then ((d.flagsOf (d.accU i)).setFlag srC false).setFlag srV false
  else if op = 0x16 then d.setAccS i sv
  else d

/-! ### AX class (Table 5.7) -/

/-- ASH: a shift of ACCd by `k`. -/
def ashOp (d : Dsp) (i : Nat) (k : Int) : Dsp :=
  let a := d.accS i
  let u := d.accU i
  if 0 ≤ k then
    let n := k.toNat
    d.result i (a * 2 ^ n) (n != 0 && bit u (56 - n))
  else
    let n := (-k).toNat
    d.result i (a / 2 ^ n) (bit u (n - 1))

/-- LSH: a logical shift of Dn by `k`. -/
def lshOp (d : Dsp) (n : Nat) (k : Int) : Dsp :=
  let v := d.dreg n
  let r := if 0 ≤ k then wrap 24 (v * 2 ^ k.toNat) else v / 2 ^ (-k).toNat
  let c :=
    if k = 0 then false
    else if 0 < k then (if k ≤ 24 then bit v (24 - k.toNat) else false)
    else bit v ((-k).toNat - 1)
  ((((d.setD n r).setFlag srC c).setFlag srN (bit r 23)).setFlag srZ (r == 0)).setFlag srV false

/-- The number of significant bits of `v` (below 2^56). -/
def bitLen (v : Nat) : Nat := (List.range 56).foldl (fun a k => if bit v k then k + 1 else a) 0

/-- NRM (R219). -/
def nrmOp (d : Dsp) (i n : Nat) : Dsp :=
  let a := d.accS i
  if a = 0 then (d.result i 0 false).setD n 0
  else
    let u := (if a < 0 then -a - 1 else a).toNat
    let k : Int := 47 - (bitLen u : Int)
    let d := ashOp d i k
    d.setD n (unsigned 24 k)

/-- ADDI and CMPI: the immediate aligned to H[15:0], sign-extended. -/
def immAcc (v : Nat) : Int := signed 16 v * 2 ^ 24

/-! ### Coprocessor (Table 4.6) -/

/-- The result of an operation: CPX, CPY, CPF. -/
structure CopRes where
  x : Nat
  y : Nat
  f : Nat
deriving DecidableEq, Repr

/-- A result within `b` LSB of an exact value whose floor is `lo` and whose ceiling is `hi`, moved from the floor by the free
value `e` (log entry 46). -/
def withinLsb (b lo hi e : Int) : Int := clampI (hi - b) (lo + b) (lo + e)

/-- The same of the quotient `n / d`, `d` > 0. -/
def quotWithin (b n d e : Int) : Int := withinLsb b (n / d) (-(-n / d)) e

/-- The same of the square root of `v`. -/
def rootWithin (b : Int) (v : Nat) (e : Int) : Int :=
  withinLsb b (isqrt v) (if isqrt v * isqrt v = v then isqrt v else isqrt v + 1) e

/-- A fractional value limited to 24 bits. -/
def limit24 (v : Int) : Nat := unsigned 24 (satS 24 v)

/-- CROT: rotation of (x, y) by the 24-bit angle `a`; `e1`, `e2` free errors. -/
def crotRes (x y a : Nat) (e1 e2 : Int) : CopRes :=
  let (c, s) := cosSin (a * 2 ^ 40)
  let xs := signed 24 x
  let ys := signed 24 y
  let px := xs * c - ys * s
  let py := xs * s + ys * c
  let big (v : Int) : Bool := decide ((2 ^ 85 : Int) ≤ v.natAbs)
  ⟨limit24 (quotWithin 2 px (2 ^ 62) e1), limit24 (quotWithin 2 py (2 ^ 62) e2), b2n (big px || big py)⟩

/-- CVEC: magnitude and angle of (x, y); `any` is the free value for the angle of (0, 0). -/
def cvecRes (x y : Nat) (e1 e2 : Int) (any : Nat) : CopRes :=
  let xs := signed 24 x
  let ys := signed 24 y
  let m2 := (xs * xs + ys * ys).toNat
  let ov := decide (2 ^ 46 ≤ m2)
  let m := rootWithin 2 m2 e1
  let ang : Nat := if xs = 0 ∧ ys = 0 then any else unsigned 24 (quotWithin 2 (atan2Turn xs ys : Int) (2 ^ 40) e2)
  ⟨if ov then 0x7FFFFF else limit24 (if m < 0 then 0 else m), wrap 24 ang, b2n ov⟩

/-- SQRT. -/
def sqrtRes (x : Nat) (e : Int) : CopRes :=
  let v := signed 24 x
  if v < 0 then ⟨0, 0, 2⟩
  else
    let r := rootWithin 1 (v.toNat * 2 ^ 23) e
    ⟨limit24 (if r < 0 then 0 else r), 0, 0⟩

/-- DIV: quotient truncated toward 0 and remainder; `any` is the free remainder where the spec states none. -/
def divRes (n d : Nat) (any : Nat) : CopRes :=
  let a := signed 24 n
  let b := signed 24 d
  if b = 0 then ⟨if a < 0 then 0x800000 else 0x7FFFFF, wrap 24 any, 4 + 1⟩
  else if b.natAbs ≤ a.natAbs then ⟨if (a < 0) = (b < 0) then 0x7FFFFF else 0x800000, wrap 24 any, 1⟩
  else
    let q := Int.tdiv (a * 2 ^ 23) b
    ⟨unsigned 24 q, unsigned 24 (a * 2 ^ 23 - q * b), 0⟩

end Sys2Proof.Machine
end

