-- ==== Sys2Proof/Machine/DspDecode.lean ====
section
/-! DEFINITION. The encoding of the control DSP's instruction words (05_dsp_instruction_set.md, Tables 5.1–5.8 and 5.13): which row
of the instruction tables a word belongs to, and which words are illegal (R200). -/
namespace Sys2Proof.Machine

/-- The rows of Tables 5.5–5.8 and the illegal encodings. -/
inductive DKind where
  | alu (op : Nat) | movImm | movRR | movEA | movAbs | ldp | padr
  | ashImm | ashReg | lsh | nrm | addi | cmpi | crot | cvec | sqrt | div
  | nop | rts | rti | lpop | swi | jmp | call | bcc | loopReg | loopImm | rptImm | rptReg
  | illegal
deriving DecidableEq, Repr

/-- R202: a reg3 code that names a register. -/
def reg3Ok (r : Nat) : Bool := r ≤ 5

/-- Table 5.13: a reg6 code that names a register, and one that a move may write. -/
def reg6Ok (r : Nat) : Bool := r ≤ 0x0B || (0x10 ≤ r && r ≤ 0x36)
def reg6Rw (r : Nat) : Bool := r ≤ 0x0B || (0x10 ≤ r && r ≤ 0x31)

/-- The reg3 code of the accumulator that OP writes, if it writes one (R207). -/
def aluWrites (op d : Nat) : Option Nat :=
  if op = 0x00 ∨ op = 0x09 ∨ op = 0x0A ∨ op = 0x15 then none else some (4 + d)

/-- The registers that the move field of a P-class word writes, and whether the field's codes are legal (Tables 5.2, 5.4). -/
def moveField (w : Nat) : Bool × List Nat :=
  let mk := bits w 19 2
  if mk = 0 then (wrap 19 w == 0, [])
  else if mk = 1 then
    (wrap 8 w == 0 && bits w 11 3 ≤ 4 && reg3Ok (bits w 8 3), if bit w 18 then [] else [bits w 8 3])
  else if mk = 2 then
    (wrap 3 w == 0 && reg3Ok (bits w 11 3) && reg3Ok (bits w 3 3),
      (if bit w 18 then [] else [bits w 11 3]) ++ (if bit w 10 then [] else [bits w 3 3]))
  else (wrap 13 w == 0 && reg3Ok (bits w 16 3) && reg3Ok (bits w 13 3), [bits w 13 3])

/-- Table 5.3: SRC and d of OP. -/
def srcOk (op d src : Nat) : Bool :=
  if 0x01 ≤ op ∧ op ≤ 0x06 then true
  else if op = 0x0A then d == 0
  else if (0x07 ≤ op ∧ op ≤ 0x0D) ∨ op = 0x16 then src ≤ 4
  else src == 0

def pKind (w : Nat) : DKind :=
  let op := bits w 26 5
  let d := bits w 25 1
  let mf := moveField w
  let clash := match aluWrites op d with
    | some r => mf.2.contains r
    | none => false
  let twice := match mf.2 with
    | [a, b] => a == b
    | _ => false
  if op ≤ 0x16 && srcOk op d (bits w 21 4) && mf.1 && !clash && !twice then .alu op else .illegal

/-- Table 5.6; the bits that the row does not name are 0. -/
def mvKind (w : Nat) : DKind :=
  let f := bits w 24 4
  if f = 0 then (if bits w 12 12 = 0 ∧ reg6Ok (bits w 6 6) ∧ reg6Rw (bits w 0 6) then .movRR else .illegal)
  else if f = 1 then
    (if bits w 6 10 = 0 ∧ bits w 16 3 ≤ 4 ∧ (if bit w 23 then reg6Ok (bits w 0 6) else reg6Rw (bits w 0 6)) then .movEA else .illegal)
  else if f = 2 then
    (if (if bit w 23 then reg6Ok (bits w 0 6) else reg6Rw (bits w 0 6)) ∧ (bit w 21 = false ∨ (bit w 22 = false ∧ bits w 18 3 = 0))
     then .movAbs else .illegal)
  else if f = 3 then (if bits w 22 2 = 0 ∧ bits w 16 3 ≤ 3 ∧ bits w 3 13 = 0 ∧ reg3Ok (bits w 0 3) then .ldp else .illegal)
  else if f = 4 then
    (if bits w 22 2 = 0 ∧ 1 ≤ bits w 16 3 ∧ bits w 16 3 ≤ 4 ∧ bits w 3 13 = 0 then .padr else .illegal)
  else .illegal

/-- Table 5.7. -/
def axKind (w : Nat) : DKind :=
  let f := bits w 24 4
  if f = 0 then (if bits w 6 17 = 0 then .ashImm else .illegal)
  else if f = 1 then (if bits w 2 21 = 0 then .ashReg else .illegal)
  else if f = 2 then (if bits w 10 14 = 0 ∧ bits w 6 2 = 0 then .lsh else .illegal)
  else if f = 3 then (if bits w 2 21 = 0 then .nrm else .illegal)
  else if f = 4 then (if bits w 16 7 = 0 then .addi else .illegal)
  else if f = 5 then (if bits w 16 7 = 0 then .cmpi else .illegal)
  else if f = 8 then (if bits w 6 18 = 0 then .crot else .illegal)
  else if f = 9 then (if bits w 6 18 = 0 ∧ bits w 0 2 = 0 then .cvec else .illegal)
  else if f = 0xA then (if bits w 6 18 = 0 ∧ bits w 0 4 = 0 then .sqrt else .illegal)
  else if f = 0xB then (if bits w 6 18 = 0 ∧ bits w 0 2 = 0 then .div else .illegal)
  else .illegal

/-- Table 5.8. -/
def ctlKind (w : Nat) : DKind :=
  let f := bits w 24 4
  if f = 0 then
    (if bits w 8 16 = 0 then
      (if bits w 0 8 = 0 then .nop else if bits w 0 8 = 1 then .rts else if bits w 0 8 = 2 then .rti
       else if bits w 0 8 = 3 then .lpop else if bits w 0 8 = 4 then .swi else .illegal)
     else .illegal)
  else if f = 1 then (if bits w 15 9 = 0 then .jmp else .illegal)
  else if f = 2 then (if bits w 15 9 = 0 then .call else .illegal)
  else if f = 3 then (if bits w 15 5 = 0 then .bcc else .illegal)
  else if f = 5 then (if bits w 18 6 = 0 ∧ bits w 15 1 = 0 then .loopReg else .illegal)
  else if f = 6 then (if bits w 12 12 = 0 then .rptImm else .illegal)
  else if f = 7 then (if bits w 2 22 = 0 then .rptReg else .illegal)
  else .illegal

/-- R199: the row that a word belongs to. -/
def dspKind (w : Nat) : DKind :=
  if bit w 31 then pKind w
  else if bit w 30 then (if reg6Rw (bits w 24 6) then .movImm else .illegal)
  else
    let c := bits w 28 4
    if c = 3 then (if bit w 15 then .illegal else .loopImm)
    else if c = 2 then axKind w
    else if c = 1 then mvKind w
    else ctlKind w

/-- R172: an instruction that changes the flow of control. -/
def DKind.flow : DKind → Bool
  | .rts | .rti | .lpop | .jmp | .call | .bcc | .loopReg | .loopImm | .rptImm | .rptReg => true
  | _ => false

/-- R223: the CTL and LPI classes, which may not follow an RPT. -/
def DKind.control : DKind → Bool
  | .nop | .swi => true
  | k => k.flow

/-- A coprocessor instruction, with its latency (Table 4.6); 0 for others. -/
def DKind.latency : DKind → Nat
  | .crot => 14 | .cvec => 16 | .sqrt => 16 | .div => 18
  | _ => 0

/-- R221, Table 5.9: condition `cc` on the flags in `sr`. -/
def condition (cc sr : Nat) : Bool :=
  let c := bit sr 0
  let v := bit sr 1
  let z := bit sr 2
  let n := bit sr 3
  match cc with
  | 0x0 => z | 0x1 => !z | 0x2 => n | 0x3 => !n | 0x4 => v | 0x5 => !v | 0x6 => c | 0x7 => !c
  | 0x8 => n == v | 0x9 => n != v | 0xA => !z && n == v | 0xB => z || n != v
  | 0xC => bit sr 5 | 0xD => !bit sr 5 | 0xE => bit sr 6 | _ => !bit sr 4

end Sys2Proof.Machine
end

