-- ==== Sys2Proof/Machine/Dsp.lean ====
section
/-! DEFINITION. The control DSPs (04_control_dsp.md, 05_dsp_instruction_set.md): address generation, moves, hardware loops and stacks,
pipeline timing, releases and faults, run control. A fabric access is left to `Machine/Bus.lean`, which runs the instruction
with what the fabric delivered. -/
namespace Sys2Proof.Machine
open Sys2Proof.Reg

def cdRUNNING : Nat := 0
def cdHALTED : Nat := 1
def cdDFAULT : Nat := 2
def cdRESET : Nat := 3

def cdRunning (s : State) (n : Nat) : Bool := s.get (CD_STAT_STATE n) == cdRUNNING

/-- A PM address. -/
def pmAddr (a : Nat) : Nat := a % 32768

def State.pmWord (s : State) (n a : Nat) : Nat := (s.cdMem n).pm.get 0 (pmAddr a)

/-! ### Address generation (R164–R167) -/

/-- The 15 low bits of `v` in reverse order. -/
def rev15 (v : Nat) : Nat := (List.range 15).foldl (fun a k => if bit v k then a + 2 ^ (14 - k) else a) 0

/-- Table 4.2: the pointer after a modify by `m`, or the indexed address. -/
def modifyPtr (ap ab al : Nat) (m : Int) : Nat :=
  let o : Int := (ap : Int) - ab
  if 1 ≤ al ∧ al ≤ 0x7FFF then wrap 24 (ab + ((o + m) % (al : Int)).toNat)
  else if al = 0xFFFFFF then wrap 24 (ab + rev15 ((rev15 (unsigned 15 o) + rev15 (unsigned 15 m)) % 2 ^ 15))
  else unsigned 24 ((ap : Int) + m)

/-- A reserved ALk value. -/
def alReserved (al : Nat) : Bool := !(al ≤ 0x7FFF || al == 0xFFFFFF)

/-- R165: the address of mode `mode` on pointer set `k`, and the pointer after it. -/
def Dsp.ea (d : Dsp) (k mode : Nat) : Nat × Nat :=
  let ap := d.ap.get 0 k
  let am := signed 24 (d.am.get 0 k)
  let f (m : Int) : Nat := modifyPtr ap (d.ab.get 0 k) (d.al.get 0 k) m
  if mode = 0 then (ap, ap)
  else if mode = 1 then (ap, f 1)
  else if mode = 2 then (ap, f (-1))
  else if mode = 3 then (ap, f am)
  else (f am, ap)

/-! ### Registers named by reg6 (Table 5.13, R225, R227) -/

/-- The value a move takes from a register, and whether it was limited (R153). -/
def Dsp.read6 (d : Dsp) (r : Nat) : Nat × Bool :=
  if r < 4 then (d.dreg r, false)
  else if r < 6 then accMove d.sat (d.accU (r - 4))
  else if r < 12 then
    let v := d.accU ((r - 6) / 3)
    let p := (r - 6) % 3
    (if p = 0 then unsigned 24 (signed 8 (accG v)) else if p = 1 then accH v else accL v, false)
  else if r < 0x18 then (d.ap.get 0 (r - 0x10), false)
  else if r < 0x20 then (d.am.get 0 (r - 0x18), false)
  else if r < 0x28 then (d.ab.get 0 (r - 0x20), false)
  else if r < 0x30 then (d.al.get 0 (r - 0x28), false)
  else if r = 0x30 then (d.sr, false)
  else if r = 0x31 then ((match d.loops with | e :: _ => e.lc | [] => 0), false)
  else if r = 0x32 then ((match d.loops with | e :: _ => e.ls | [] => 0), false)
  else if r = 0x33 then ((match d.loops with | e :: _ => e.le | [] => 0), false)
  else if r = 0x34 then (d.cpx, false)
  else if r = 0x35 then (d.cpy, false)
  else (d.cpf, false)

/-- A move into a register (R154, R212, R225, Table 4.11). -/
def Dsp.write6 (d : Dsp) (r v : Nat) : Dsp :=
  if r < 4 then d.setD r v
  else if r < 6 then d.setAccS (r - 4) (toAcc v)
  else if r < 12 then
    let i := (r - 6) / 3
    let u := d.accU i
    let p := (r - 6) % 3
    d.setAcc i (if p = 0 then accOf v (accH u) (accL u) else if p = 1 then accOf (accG u) v (accL u) else accOf (accG u) (accH u) v)
  else if r < 0x18 then { d with ap := d.ap.set (r - 0x10) (wrap 24 v) }
  else if r < 0x20 then { d with am := d.am.set (r - 0x18) (wrap 24 v) }
  else if r < 0x28 then { d with ab := d.ab.set (r - 0x20) (wrap 24 v) }
  else if r < 0x30 then { d with al := d.al.set (r - 0x28) (wrap 24 v) }
  else if r = 0x30 then { d with sr := srWrite v }
  else if r = 0x31 then
    match d.loops with
    | e :: t => { d with loops := { e with lc := wrap 24 v } :: t }
    | [] => d
  else d

/-! ### The data address map (R158–R161) -/

inductive DTarget where
  | mem
  | fabric (byteAddr : Nat)
  | unmapped
deriving DecidableEq, Repr

/-- The internal address of word `w` of the local I/O page: the CDn registers, and the queue ports of Table 12.3. -/
def ioPageAddr (n w : Nat) : Nat :=
  if 0xF00 ≤ w ∧ w ≤ 0xF07 then
    let p := w - 0xF00
    let q := (p / 2) * 4 + n
    -- PUSH, POP and STAT of queue q in the MBX block
    blockBase 7 0 + 0x400 + 0x10 * q + (if p % 2 = 1 then 8 else if p < 4 then 4 else 0)
  else blockBase 17 n + 4 * w

/-- Table 4.1: what address `a` of a space (0 DA, 1 DB) reaches. -/
def dspTarget (s : State) (n space a : Nat) : DTarget :=
  if a < 0x8000 then .mem
  else if space = 1 then .unmapped
  else if 0x3FF000 ≤ a ∧ a ≤ 0x3FFFFF then .fabric (ioPageAddr n (a - 0x3FF000))
  else if 0x400000 ≤ a ∧ a ≤ 0x7FFFFF then
    let k := a / 0x100000 % 4
    if s.flag (CD_WIN_EN n k) then .fabric (s.get (CD_WIN_BASE n k) * 0x400000 + (a % 0x100000) * 4) else .unmapped
  else .unmapped

/-! ### Timing (R177, R179, R182–R184) -/

/-- The pointer sets that an instruction uses in ADDR. -/
def usesPtr (k : DKind) (w : Nat) : List Nat :=
  match k with
  | .alu _ => if bits w 19 2 = 1 then [bits w 14 3] else if bits w 19 2 = 2 then [2 * bits w 16 2, 2 * bits w 8 2 + 1] else []
  | .movEA => [bits w 19 3]
  | .ldp => [bits w 19 3]
  | .padr => [bits w 19 3]
  | _ => []

/-- The reg6 code that a move writes, if it writes one. -/
def movesTo (k : DKind) (w : Nat) : List Nat :=
  match k with
  | .alu _ => (moveField w).2
  | .movImm => [bits w 24 6]
  | .movRR => [bits w 0 6]
  | .movEA => if bit w 23 then [] else [bits w 0 6]
  | .movAbs => if bit w 23 then [] else [bits w 0 6]
  | .ldp => [bits w 0 3]
  | .lsh => [bits w 8 2]
  | .nrm => [bits w 0 2]
  | .padr => [0x10 + bits w 0 3]
  | _ => []

/-- The D registers that a coprocessor instruction reads in ADDR. -/
def copOperands (k : DKind) (w : Nat) : List Nat :=
  match k with
  | .crot => [bits w 4 2, bits w 2 2, bits w 0 2]
  | .cvec => [bits w 4 2, bits w 2 2]
  | .sqrt => [bits w 4 2]
  | .div => [bits w 4 2, bits w 2 2]
  | _ => []

/-- An instruction that reads CPX, CPY or CPF. -/
def readsCop (k : DKind) (w : Nat) : Bool :=
  match k with
  | .movRR => 0x34 ≤ bits w 6 6
  | .movEA => bit w 23 && 0x34 ≤ bits w 0 6
  | .movAbs => bit w 23 && 0x34 ≤ bits w 0 6
  | _ => false

/-- The cycle in which the next instruction may enter ADDR. -/
def Dsp.now (d : Dsp) (t : Nat) : Nat := max d.cyc (dspCycle t)

/-- R182: the coprocessor's results are written at the end of its last cycle, unless it was squashed (R184). -/
def Dsp.copDone (d : Dsp) : Dsp :=
  match d.cop with
  | none => d
  | some c => if c.squashed then { d with cop := none } else { d with cop := none, cpx := c.x, cpy := c.y, cpf := c.f }

/-- R177, R183: the cycle in which an instruction occupies ADDR. -/
def addrCycle (d : Dsp) (t : Nat) (k : DKind) (w : Nat) : Nat :=
  let c := (usesPtr k w).foldl (fun c p => max c (d.ptrReady.get 0 p)) (d.now t)
  let c := (copOperands k w).foldl (fun c r => max c (d.opReady.get 0 r)) c
  if k.latency ≠ 0 ∨ readsCop k w = true then
    match d.cop with
    | some o => max c o.ready
    | none => c
  else c

/-! ### One instruction -/

/-- A bus fault to be recorded: on a write, the space, the address. -/
structure BusFault where
  write : Bool
  space : Nat
  addr : Nat
deriving DecidableEq, Repr

/-- Where control goes after an instruction. -/
inductive DFlow where
  | seq
  | jump (t cost : Nat)
  /-- A jump that squashes the instruction in ADDR (Table 4.5). -/
  | taken (t : Nat)
deriving DecidableEq, Repr

/-- What an instruction does to CDn: its registers and memories, what it raises, what it sends to the fabric. -/
structure DWork where
  d : Dsp
  m : DspMem
  flow : DFlow := .seq
  cost : Nat := 1
  amode : Bool := false
  swi : Bool := false
  /-- A fault vector 2–4: the instruction has no other effect. -/
  fault : Option Nat := none
  bus : List BusFault := []
  /-- The 24-bit value of a store that goes to the fabric. -/
  send : Option Nat := none
deriving DecidableEq, Repr

/-- An access of the move half of an instruction: W, space, address, and the pointer set with its new value. -/
structure DAccess where
  write : Bool
  space : Nat
  addr : Nat
  reg : Nat
  ptr : Option (Nat × Nat)
  amode : Bool
deriving DecidableEq, Repr

def Dsp.access (d : Dsp) (w : Bool) (space k mode reg : Nat) : DAccess :=
  let e := d.ea k mode
  { write := w, space := space, addr := e.1, reg := reg, ptr := some (k, e.2), amode := mode != 0 && alReserved (d.al.get 0 k) }

/-- The data accesses that word `w` of kind `k` makes. -/
def dspAccesses (d : Dsp) (k : DKind) (w : Nat) : List DAccess :=
  match k with
  | .alu _ =>
    let mk := bits w 19 2
    if mk = 1 then [d.access (bit w 18) (bits w 17 1) (bits w 14 3) (bits w 11 3) (bits w 8 3)]
    else if mk = 2 then
      [d.access (bit w 18) 0 (2 * bits w 16 2) (bits w 14 2) (bits w 11 3),
       d.access (bit w 10) 1 (2 * bits w 8 2 + 1) (bits w 6 2) (bits w 3 3)]
    else []
  | .movEA => [d.access (bit w 23) (bits w 22 1) (bits w 19 3) (bits w 16 3) (bits w 0 6)]
  | .movAbs =>
    [{ write := bit w 23, space := bits w 22 1, addr := if bit w 21 then 0x3FF000 + bits w 6 12 else bits w 6 15,
       reg := bits w 0 6, ptr := none, amode := false }]
  | _ => []

/-- A word of DA (`db` false) or DB as an instruction in ADDR in cycle `c` reads it: a word that port 2 writes in that cycle gives
its old value (R163). -/
def State.dataWord (s : State) (n : Nat) (db : Bool) (a c : Nat) : Nat :=
  let m := s.cdMem n
  match (if m.portCyc = c then m.portOld.find? (fun e => e.1 == db && e.2.1 == a) else none) with
  | some e => e.2.2
  | none => (if db then m.db else m.da).get 0 a

/-- What an access reaches: an outstanding fabric access keeps the address `held` it was mapped to when it was made (R159). -/
def accTarget (s : State) (n : Nat) (held : Option Nat) (a : DAccess) : DTarget :=
  match held with
  | some b => if a.space = 0 ∧ 0x8000 ≤ a.addr then .fabric b else dspTarget s n a.space a.addr
  | none => dspTarget s n a.space a.addr

/-- One access of the instruction in ADDR in cycle `c`: a load takes its value, a store delivers the register's value; `fab` is
what the fabric delivered and whether it was refused. -/
def doAccess (s : State) (n c : Nat) (held : Option Nat) (fab : Option (Nat × Bool)) (old : Dsp) (x : DWork) (a : DAccess) : DWork :=
  let x := match a.ptr with
    | some (k, p) => { x with d := { x.d with ap := x.d.ap.set k p }, amode := x.amode || a.amode }
    | none => x
  let tgt := accTarget s n held a
  if a.write then
    let src := if 0x10 ≤ a.reg ∧ a.reg < 0x18 then x.d else old
    let v := src.read6 a.reg
    let x := if v.2 then { x with d := x.d.setFlag srSO true } else x
    match tgt with
    | .mem =>
      if a.space = 0 then { x with m := { x.m with da := x.m.da.set a.addr v.1 } }
      else { x with m := { x.m with db := x.m.db.set a.addr v.1 } }
    | .fabric _ => { x with send := some v.1 }
    | .unmapped => { x with bus := x.bus ++ [⟨true, a.space, a.addr⟩] }
  else
    match tgt with
    | .mem => { x with d := x.d.write6 a.reg (s.dataWord n (a.space != 0) a.addr c) }
    | .fabric _ =>
      match fab with
      | some (v, ok) =>
        let x := { x with d := x.d.write6 a.reg (if ok then v else 0) }
        if ok then x else { x with bus := x.bus ++ [⟨false, a.space, a.addr⟩] }
      | none => x
    | .unmapped => { x with d := x.d.write6 a.reg 0, bus := x.bus ++ [⟨false, a.space, a.addr⟩] }

/-- R153, R206: a register transfer takes its source from before the instruction. -/
def dTransfer (old : Dsp) (x : DWork) (src dst : Nat) : DWork :=
  let v := old.read6 src
  let d := x.d.write6 dst v.1
  { x with d := if v.2 then d.setFlag srSO true else d }

/-- R215. -/
def ldpValue (reg w : Nat) (d : Dsp) : Dsp :=
  if reg < 4 then d.setD reg (w / 256) else d.setAccS (reg - 4) (signed 32 w * 2 ^ 16)

/-- R222, R168, R170, R175: LOOP with count `c` and end `e`. -/
def loopWork (x : DWork) (pc c e : Nat) : DWork :=
  if e ≤ pc then { x with fault := some 2 }
  else if c = 0 then { x with flow := .jump (e + 1) 4 }
  else if 6 ≤ x.d.loops.length then { x with fault := some 3 }
  else { x with d := { x.d with loops := ⟨pc + 1, e, c⟩ :: x.d.loops }, cost := 2 }

/-- R174: RPT with count `c`. -/
def rptWork (x : DWork) (pc c : Nat) : DWork :=
  if c = 0 then { x with flow := .jump (pc + 2) 1 } else { x with d := { x.d with rpt := c }, flow := .jump (pc + 1) 1 }

/-- R190, R211: SR after an RTI that pops `v`: SO, once set, stays until a move to SR clears it (DEDUCED, log entry 211). -/
def rtiSr (d : Dsp) (v : Nat) : Nat := if d.flag srSO then setBit v srSO else v

/-- A destination of LC while the loop stack is empty (R225). -/
def lcFault (d : Dsp) (k : DKind) (w : Nat) : Bool :=
  d.loops.isEmpty && (match k with
    | .movImm => bits w 24 6 == 0x31
    | .movRR => bits w 0 6 == 0x31
    | .movEA => !bit w 23 && bits w 0 6 == 0x31
    | .movAbs => !bit w 23 && bits w 0 6 == 0x31
    | _ => false)

/-- The instruction word `w` of kind `k` at PC, on the state of CDn; `held` and `fab` of its fabric access, once that is done. -/
def dspWork (s : State) (n : Nat) (k : DKind) (w : Nat) (held : Option Nat) (fab : Option (Nat × Bool)) : DWork :=
  let d := s.cd n
  let x : DWork := { d := d, m := s.cdMem n }
  let pc := d.pc
  let freeBit := bit (Config.freeWord s.free) 0
  let e1 := Config.coprocError s.free
  let e2 := Config.coprocError (s.free + 1)
  let any := wrap 24 (Config.freeWord s.free)
  let cop (r : CopRes) : DWork := { x with d := { d with cop := some ⟨r.x, r.y, r.f, 0, false⟩ } }
  let accs (x : DWork) : DWork := (dspAccesses d k w).foldl (doAccess s n (addrCycle d s.T k w) held fab d) x
  if lcFault d k w then { x with fault := some 3 }
  else
    match k with
    | .alu op =>
      let x := { x with d := aluOp d op (bits w 25 1) (bits w 21 4) freeBit }
      let x := accs x
      if bits w 19 2 = 3 then dTransfer d x (bits w 16 3) (bits w 13 3) else x
    | .movImm => { x with d := d.write6 (bits w 24 6) (bits w 0 24) }
    | .movRR => dTransfer d x (bits w 6 6) (bits w 0 6)
    | .movEA => accs x
    | .movAbs => accs x
    | .ldp =>
      let e := d.ea (bits w 19 3) (bits w 16 3)
      let d' := { d with ap := d.ap.set (bits w 19 3) e.2 }
      { x with d := ldpValue (bits w 0 3) (s.pmWord n e.1) d', cost := 2,
               amode := bits w 16 3 != 0 && alReserved (d.al.get 0 (bits w 19 3)) }
    | .padr =>
      let e := d.ea (bits w 19 3) (bits w 16 3)
      { x with d := { d with ap := d.ap.set (bits w 0 3) (if bits w 16 3 = 4 then e.1 else e.2) },
               amode := alReserved (d.al.get 0 (bits w 19 3)) }
    | .ashImm => { x with d := ashOp d (bits w 23 1) (signed 6 (bits w 0 6)) }
    | .ashReg => { x with d := ashOp d (bits w 23 1) (signed 6 (d.dreg (bits w 0 2))) }
    | .lsh => { x with d := lshOp d (bits w 8 2) (signed 6 (bits w 0 6)) }
    | .nrm => { x with d := nrmOp d (bits w 23 1) (bits w 0 2) }
    | .addi =>
      let i := bits w 23 1
      { x with d := d.result i (d.accS i + immAcc (bits w 0 16)) (carryOf (d.accS i) (immAcc (bits w 0 16))) }
    | .cmpi =>
      let a := d.accS (bits w 23 1)
      { x with d := d.compare (a - immAcc (bits w 0 16)) (borrowOf a (immAcc (bits w 0 16))) }
    | .crot => cop (crotRes (d.dreg (bits w 4 2)) (d.dreg (bits w 2 2)) (d.dreg (bits w 0 2)) e1 e2)
    | .cvec => cop (cvecRes (d.dreg (bits w 4 2)) (d.dreg (bits w 2 2)) e1 e2 any)
    | .sqrt => cop (sqrtRes (d.dreg (bits w 4 2)) e1)
    | .div => cop (divRes (d.dreg (bits w 4 2)) (d.dreg (bits w 2 2)) any)
    | .nop => x
    | .rts =>
      match d.calls with
      | [] => { x with fault := some 4 }
      | e :: t => { x with d := { d with calls := t }, flow := .taken e.addr }
    | .rti =>
      match d.calls with
      | [] => { x with fault := some 4 }
      | e :: t => { x with d := { d with calls := t, sr := rtiSr d (e.sr.getD (srWrite any)), rpt := e.rpt }, flow := .taken e.addr }
    | .lpop =>
      match d.loops with
      | [] => { x with fault := some 3 }
      | _ :: t => { x with d := { d with loops := t } }
    | .swi => { x with swi := true }
    | .jmp => { x with flow := .jump (bits w 0 15) 2 }
    | .call =>
      if 16 ≤ d.calls.length then { x with fault := some 4 }
      else { x with d := { d with calls := ⟨pmAddr (pc + 1), none, 0⟩ :: d.calls }, flow := .jump (bits w 0 15) 2 }
    | .bcc => if condition (bits w 20 4) d.sr then { x with flow := .taken (bits w 0 15) } else x
    | .loopReg => loopWork x pc (d.dreg (bits w 16 2)) (bits w 0 15)
    | .loopImm => loopWork x pc (bits w 16 12) (bits w 0 15)
    | .rptImm => rptWork x pc (bits w 0 12)
    | .rptReg => rptWork x pc (d.dreg (bits w 0 2))
    | .illegal => { x with fault := some 2 }

/-! ### What an instruction leaves to the next ones -/

/-- The interlocks that an instruction with ADDR cycle `c` leaves (Table 4.4). -/
def Dsp.noteWrites (d : Dsp) (k : DKind) (w c : Nat) : Dsp :=
  (movesTo k w).foldl (fun d r =>
    if r < 4 then { d with opReady := d.opReady.set r (c + 3) }
    else if 0x10 ≤ r ∧ r < 0x30 then { d with ptrReady := d.ptrReady.set (r % 8) (c + 3) }
    else d) d

/-- R184: a coprocessor instruction at `pc` that stood in ADDR in cycle `c` and was squashed. -/
def squashAt (s : State) (n pc c : Nat) : State :=
  let d := s.cd n
  let w := s.pmWord n pc
  let k := dspKind w
  let free : Bool := match d.cop with
    | some o => o.ready ≤ c
    | none => true
  if k.latency != 0 && free && (copOperands k w).all (fun r => d.opReady.get 0 r ≤ c) then
    let d := d.copDone
    s.setCd n { d with cop := some ⟨0, 0, 0, c + k.latency, true⟩ }
  else s

/-! ### Faults and handlers (R186, R189–R194) -/

/-- R186: the address of vector `v`. -/
def vectorAddr (s : State) (n v : Nat) : Nat := pmAddr (bits (s.get (CD_VBASE_VBASE n)) 7 8 * 128 + 2 * v)

/-- R194: CDn_FAULT_INFO keeps the first fault. -/
def recordFault (s : State) (n vec pc : Nat) (b : Option BusFault) : State :=
  if s.flag (CD_FAULT_INFO_VALID n) then s.put (CD_FAULT_INFO_MORE n) 1
  else
    let s := s.puts [(CD_FAULT_INFO_VALID n, 1), (CD_FAULT_INFO_VEC n, vec), (CD_FAULT_INFO_PC n, pc), (CD_FAULT_INFO_WRITE n, 0),
      (CD_FAULT_INFO_SPACE n, 0)]
    match b with
    | some f => s.puts [(CD_FAULT_INFO_WRITE n, b2n f.write), (CD_FAULT_INFO_SPACE n, f.space), (CD_FAULT_ADDR_ADDR n, f.addr)]
    | none => s

/-- CDn leaves RUNNING for `st`; its bound channels lose their DSP (R253). -/
def cdLeave (s : State) (n st : Nat) : State :=
  let s := (s.put (CD_STAT_STATE n) st).put (CD_PC_PC n) (s.cd n).pc
  dspStopped s n

/-- R193. -/
def doubleFault (s : State) (n : Nat) : State := (cdLeave s n cdDFAULT).irq (.dsp n)

/-- R176, R190: the entry to the handler of vector `v` at `level`, from the code at `ret`. -/
def enterHandler (s : State) (n v level ret : Nat) : State :=
  let d := s.cd n
  if 16 ≤ d.calls.length then
    let s := recordFault s n 4 ret none
    if d.ipl = 4 then doubleFault s n
    else s.setCd n { d.setIpl 4 with pc := vectorAddr s n 4, rpt := 0, cyc := d.now s.T + 4 }
  else
    s.setCd n { d.setIpl level with pc := vectorAddr s n v, calls := ⟨ret, some d.sr, d.rpt⟩ :: d.calls, rpt := 0, cyc := d.now s.T + 4 }

/-- R189, R193: a fault of vector `v` raised by the instruction at `pc`, with the code to return to at `ret`. -/
def takeFault (s : State) (n v pc ret : Nat) (b : Option BusFault) : State :=
  let s := recordFault s n v pc b
  let d := s.cd n
  if d.ipl = 4 then doubleFault s n
  else
    let s := squashAt s n ret (d.now s.T)
    enterHandler s n v 4 ret

/-- R169, R171: the loop stack and the next address after the instruction at `pc` completes. -/
def loopEnd : List LoopEnt → Nat → List LoopEnt × Nat
  | [], pc => ([], pc + 1)
  | e :: t, pc =>
    if e.le = pc then
      let lc := (e.lc + 2 ^ 24 - 1) % 2 ^ 24
      if lc = 0 then loopEnd t pc else ({ e with lc := lc } :: t, e.ls)
    else (e :: t, pc + 1)

/-- R169, R174, R224: the instruction at PC has completed without a change of flow. -/
def Dsp.advance (d : Dsp) : Dsp :=
  if 2 ≤ d.rpt then { d with rpt := d.rpt - 1 }
  else
    let r := loopEnd d.loops d.pc
    { d with rpt := 0, loops := r.1, pc := pmAddr r.2 }

/-- What a completed instruction leaves in the state: registers, memories, the next PC, bus faults, SWI. -/
def dspRetire (s : State) (n : Nat) (k : DKind) (w : Nat) (x : DWork) : State :=
  let d0 := s.cd n
  let pc := d0.pc
  let c := addrCycle d0 s.T k w
  match x.fault with
  | some v => takeFault (s.setCd n { d0 with rpt := 0, cyc := c + 1 }) n v pc (pmAddr (pc + 1)) none
  | none =>
    let s := (s.setCdMem n x.m).when x.amode (fun s => s.put (CD_STAT_AMODE_ERR n) 1)
    let s := { s with free := s.free + 2 }
    let d := x.d.noteWrites k w c
    let d := if k.latency ≠ 0 then (match d.cop with | some o => { d with cop := some { o with ready := c + k.latency } } | none => d) else d
    let s := match x.flow with
      | .seq => s.setCd n { d.advance with cyc := c + x.cost }
      | .jump t cost => s.setCd n { d with pc := pmAddr t, cyc := c + cost }
      | .taken t =>
        let s := squashAt (s.setCd n d) n (pmAddr (pc + 1)) (c + 1)
        s.setCd n { s.cd n with pc := t, cyc := c + 4 }
    let s := s.when x.swi (fun s => dspVector s n 14)
    match x.bus with
    | [] => s
    | b :: rest =>
      let s := takeFault s n 1 pc (s.cd n).pc (some b)
      rest.foldl (fun s f => recordFault s n 1 pc (some f)) s

/-- R172, R223: an instruction that is illegal where it stands. -/
def illegalHere (d : Dsp) (k : DKind) : Bool :=
  (k.flow && (match d.loops with | e :: _ => e.le == d.pc | [] => false)) || (d.rpt != 0 && k.control)

/-- Before an instruction that meets the coprocessor, what the interlock has waited for (R183). -/
def dspReady (s : State) (n : Nat) (k : DKind) (w : Nat) : State :=
  if k.latency ≠ 0 ∨ readsCop k w = true then
    let d := s.cd n
    s.setCd n { d.copDone with cyc := addrCycle d s.T k w }
  else s

/-- The fabric access that an instruction makes: a write, and the internal byte address. -/
def dspFabric (s : State) (n : Nat) (k : DKind) (w : Nat) : Option (Bool × Nat) :=
  (dspAccesses (s.cd n) k w).findSome? (fun a =>
    match dspTarget s n a.space a.addr with
    | .fabric b => some (a.write, b)
    | _ => none)

/-- The instruction at PC runs; an access to the fabric stalls it until `DSP_WINDOW_ACCESS_DONE` (R163). -/
def dspStep (s : State) (n : Nat) (k : DKind) (w : Nat) : State :=
  if illegalHere (s.cd n) k then dspRetire s n .illegal w { d := s.cd n, m := s.cdMem n, fault := some 2 }
  else
    let s := dspReady s n k w
    if !lcFault (s.cd n) k w && (dspFabric s n k w).isSome then
      s.setCd n { s.cd n with stalled := true, stallAddr := ((dspFabric s n k w).getD (false, 0)).2, stallCyc := addrCycle (s.cd n) s.T k w }
    else dspRetire s n k w (dspWork s n k w none none)

/-- A row of the instruction tables: it acts when CDn runs and the word at PC belongs to the row. -/
def dspRow (s : State) (n : Nat) (k : DKind) : State :=
  let w := s.pmWord n (s.cd n).pc
  if cdRunning s n && !(s.cd n).stalled && dspKind w == k then dspStep s n k w else s

/-! ### Coprocessor, releases (R182, R187–R192) -/

/-- R182, R184: the coprocessor's last cycle ends. -/
def coprocComplete (s : State) (n : Nat) : State :=
  let d := s.cd n
  match d.cop with
  | some o => if o.ready ≤ d.now s.T then s.setCd n d.copDone else s
  | none => s

def cpBusy (s : State) (n : Nat) : Bool :=
  match (s.cd n).cop with
  | some o => (s.cd n).now s.T < o.ready
  | none => false

/-- The level of release line `l`, and of internal vector `v` (Tables 4.15, 4.16). -/
def relLevel (s : State) (n l : Nat) : Nat := bits (s.get (CD_REL_LVL_LVL n (l / 16))) (2 * (l % 16)) 2
def irqLevel (s : State) (n v : Nat) : Nat := bits (s.get (CD_IRQ_CFG_LVL n)) (2 * (v - 8)) 2

/-- The pending and enabled sources as (vector, level), lowest vector first. -/
def dspSources (s : State) (n : Nat) : List (Nat × Nat) :=
  let irq := (setBits 7 (s.get (CD_IRQ_PEND_PEND n))).filter (bit (s.get (CD_IRQ_CFG_EN n)))
  let rel := (setBits 32 (s.get (CD_REL_PEND_PEND n))).filter (bit (s.get (CD_REL_EN_EN n)))
  irq.map (fun v => (v + 8, irqLevel s n (v + 8))) ++ rel.map (fun l => (l + 32, relLevel s n l))

/-- R189: the source that is accepted: the highest level above IPL, and the lowest vector at that level. -/
def dspPick (ipl : Nat) (l : List (Nat × Nat)) : Option (Nat × Nat) :=
  l.foldl (fun best e =>
    if e.2 ≤ ipl then best
    else
      match best with
      | some b => if b.2 < e.2 then some e else best
      | none => some e) none

/-- R190: acceptance. -/
def dspAccept (s : State) (n : Nat) : State :=
  if !cdRunning s n || (s.cd n).stalled then s
  else
    match dspPick (s.cd n).ipl (dspSources s n) with
    | none => s
    | some (v, lvl) =>
      let s := if v < 32 then s.put (CD_IRQ_PEND_PEND n) (clrBit (s.get (CD_IRQ_PEND_PEND n)) (v - 8))
        else s.put (CD_REL_PEND_PEND n) (clrBit (s.get (CD_REL_PEND_PEND n)) (v - 32))
      let d := s.cd n
      let s := squashAt s n d.pc (d.now s.T)
      let s := enterHandler s n v lvl d.pc
      if 32 ≤ v ∧ d.calls.length < 16 then
        s.setCd n { s.cd n with took := some ⟨dspCycle s.T, v - 32, d.pc, d.sr, d.rpt, d.calls, d.cyc, d.cop⟩ }
      else s

/-- Writers of the CDn block: the manager's cores and CDn itself. -/
def cdWriter (m n : Nat) : Bool := isMC m || m == reqCD n

/-- R187: a write of CDn_REL_SET. -/
def relSet (s : State) (m n v : Nat) : State :=
  if cdWriter m n then (setBits 32 v).foldl (fun s l => dspRelease s n l (wrap 32 s.T)) s else s.refuseCd m n 0x18

/-- R192: the acceptance of a line of `v` in the present cycle is undone: its handler does not run. -/
def untake (d : Dsp) (cyc v : Nat) : Dsp × List Nat :=
  match d.took with
  | some k =>
    if k.cyc = cyc ∧ bit v k.line then ({ d with pc := k.pc, sr := k.sr, rpt := k.rpt, calls := k.calls, cyc := k.next, cop := k.cop, took := none }, [k.line])
    else (d, [])
  | none => (d, [])

/-- R192: a write of CDn_REL_CANCEL: it clears pending lines, undoes an acceptance of the same cycle, and wins over the events of
that cycle, also together with other cancels in it. -/
def relCancel (s : State) (m n v : Nat) : State :=
  if cdWriter m n then
    let v := wrap 32 v
    let cyc := dspCycle s.T
    let d := s.cd n
    let same := d.cancelCyc == cyc
    let old := if same then d.cancelled else 0
    let done := if same then d.counted else 0
    let (d, back) := untake d cyc v
    let hit := setBits 32 (bitsMinus 32 v (bitsMinus 32 v (s.get (CD_REL_PEND_PEND n)))) ++ back
    let s := s.put (CD_REL_PEND_PEND n) (bitsMinus 32 (s.get (CD_REL_PEND_PEND n)) v)
    let s := s.bumpBy (CD_REL_CBS_COUNT n) (hit.filter (fun l => !bit done l)).length
    s.setCd n { d with cancelCyc := cyc, cancelled := (setBits 32 v).foldl setBit old, counted := hit.foldl setBit done }
  else s.refuseCd m n 0x1C

/-! ### Run control (R195–R198) -/

/-- R197: HALT. -/
def cdHalt (s : State) (n : Nat) : State :=
  if !cdRunning s n then s
  else if (s.cd n).stalled then s.setCd n { s.cd n with haltPend := true }
  else cdLeave (squashAt s n (s.cd n).pc ((s.cd n).now s.T)) n cdHALTED

/-- R197: RUN. -/
def cdRun (s : State) (n : Nat) : State :=
  let st := s.get (CD_STAT_STATE n)
  if st = cdHALTED then s.put (CD_STAT_STATE n) cdRUNNING
  else if st = cdRESET then (s.setCd n { s.cd n with pc := vectorAddr s n 0 }).put (CD_STAT_STATE n) cdRUNNING
  else s

/-- R196: RESET, without the queues (R471). -/
def cdResetCore (s : State) (n : Nat) : State :=
  let s := s.setCd n { cycBase := dspCycle s.T, cyc := dspCycle s.T }
  let s := s.puts [(CD_REL_PEND_PEND n, 0), (CD_IRQ_PEND_PEND n, 0), (CD_PC_PC n, 0)]
  let s := releaseUnits s (reqCD n)
  cdLeave s n cdRESET

/-- R22: a channel bound to CDn is out of STO. -/
def dspChannelOut (s : State) (n : Nat) : Bool :=
  (List.range 4).any (fun c => s.flag (PWM_BIND_BOUND c) && s.get (PWM_BIND_DSP c) == n && chState s c != chSTO)

/-- R21, R22, R198: PM of CDn takes a word from MC0 while it loads an image of CDn and no bound channel is out of STO. -/
def pmLoads (s : State) (m n : Nat) : Bool := m == reqMC0 && s.boot.loading == some (0x10 + n) && !dspChannelOut s n

/-- R198: an access of the manager to the PM, DA or DB aperture at offset `off`. -/
def cdAperture (s : State) (m n : Nat) (write : Bool) (off v : Nat) : State :=
  let refused := !(isMC m || (!write && m == reqHost 0)) || cdRunning s n || (write && off < 0x60000 && !pmLoads s m n)
  if refused then
    let s := s.violation m write (4 + n) (blockBase 17 n + off)
    if write then s else s.answer 0
  else
    let d := s.cdMem n
    let k := off / 4 % 32768
    let b := off / 0x20000
    if write then
      s.setCdMem n (if b = 2 then { d with pm := d.pm.set k (wrap 32 v) } else if b = 3 then { d with da := d.da.set k (wrap 24 v) }
        else { d with db := d.db.set k (wrap 24 v) })
    else s.answer (if b = 2 then d.pm.get 0 k else if b = 3 then d.da.get 0 k else d.db.get 0 k)

/-- The values of the CDn block computed when read: the stacks' depths, CP_BUSY, CYCLE. -/
def liveCd (s : State) (k : FKey) : Option Nat :=
  let n := k.i
  if k = (CD_STAT_LSP n).key then some (s.cd n).loops.length
  else if k = (CD_STAT_CSP n).key then some (s.cd n).calls.length
  else if k = (CD_STAT_CP_BUSY n).key then some (b2n (cpBusy s n))
  else if k = (CD_CYCLE_LO_COUNT n).key then some (wrap 32 (dspCycle s.T - (s.cd n).cycBase))
  else if k = (CD_CYCLE_HI_COUNT n).key then some ((dspCycle s.T - (s.cd n).cycBase) / 2 ^ 32)
  else none

end Sys2Proof.Machine
end

