-- ==== Sys2Proof/Machine/Messaging.lean ====
section
/-! DEFINITION. Word queues, locks and doorbells (12_messaging.md, sections 12.1–12.4), with the reset and run control of a DSP,
which empties its queues (R471). -/
namespace Sys2Proof.Machine
open Sys2Proof.Reg

/-! ### Word queues (R463–R471) -/

def qProducer (q : Nat) : Nat := if q < 4 then reqMC0 else if q < 8 then reqMC1 else reqCD (q % 4)
def qConsumer (q : Nat) : Nat := if q < 8 then reqCD (q % 4) else if q < 12 then reqMC0 else reqMC1

def qWords (s : State) (q : Nat) : List Nat := s.mbx.q.get [] q
def setWords (s : State) (q : Nat) (l : List Nat) : State := { s with mbx := { s.mbx with q := s.mbx.q.set q l } }

/-- Table 12.1: the not-empty event of queue q. -/
def qNotEmpty (s : State) (q : Nat) : State :=
  if q < 8 then dspVector s (q % 4) (if q < 4 then 8 else 9) else s.irq (.queue (if q < 12 then 0 else 1))

/-- Table 12.1: the space event of queue q. -/
def qSpace (s : State) (q : Nat) : State :=
  if q < 8 then s.irq (.queue (if q < 4 then 0 else 1)) else dspVector s (q % 4) 10

/-- R464, R465: a pop; `event` is false when a push meets it in the same cycle. -/
def qPop (s : State) (q : Nat) (event : Bool) : State :=
  match qWords s q with
  | [] => ((s.put (MBX_Q_STAT_LAST_POP_EMPTY q) 1).bump (MBX_Q_CNT_EMPTY q)).answer 0
  | w :: rest =>
    let s := ((setWords s q rest).put (MBX_Q_STAT_LAST_POP_EMPTY q) 0).answer w
    s.when (event && rest.length == 15) (fun s => qSpace s q)

/-- R466, R468: a push. -/
def qPush (s : State) (q w : Nat) (event : Bool) : State :=
  let l := qWords s q
  if 16 ≤ l.length then (s.put (MBX_Q_STAT_LAST_PUSH_FULL q) 1).bump (MBX_Q_CNT_FULL q)
  else
    let s := (setWords s q (l ++ [wrap 32 w])).put (MBX_Q_STAT_LAST_PUSH_FULL q) 0
    s.when (event && l.isEmpty) (fun s => qNotEmpty s q)

/-- R467, Table 12.2: a push and a pop in one cycle. -/
def qBoth (s : State) (q w : Nat) : State :=
  let empty := (qWords s q).isEmpty
  qPush (qPop s q false) q w empty

/-- R463, R466, R467: a push by `m`; `pop` says that the consumer pops in the same cycle. -/
def mbxPush (s : State) (m q w : Nat) (pop : Bool) : State :=
  if m != qProducer q then s.refuseWrite m 7 (0x400 + 0x10 * q)
  else if pop then qBoth s q w
  else qPush s q w true

def mbxPop (s : State) (m q : Nat) : State :=
  if m != qConsumer q then s.refuseRead m 7 (0x404 + 0x10 * q) else qPop s q true

/-- R471: a reset of the master `m` empties its queues. -/
def flushQueues (s : State) (m : Nat) : State :=
  (List.range 16).foldl (fun s q =>
    if qProducer q == m || qConsumer q == m then
      (setWords s q []).bumpBy (MBX_Q_CNT_FLUSHED q) (qWords s q).length
    else s) s

/-! ### Locks (R474–R479) -/

/-- R476. -/
def lockMaster (m : Nat) : Bool := isMC m || isCD m || isPT m || m == reqHost 0

def lockNote (s : State) (who kind k : Nat) : State :=
  s.puts [(MBX_LOCK_EVT_LAST_REQID, who), (MBX_LOCK_EVT_LAST_KIND, kind), (MBX_LOCK_EVT_LAST_LOCK, k)]

/-- R474. -/
def lockRead (s : State) (m k : Nat) : State :=
  if !lockMaster m then s.refuseRead m 7 (0x100 + 4 * k)
  else
    let o := s.get (MBX_LOCK_OWNER k)
    let s := s.answer o
    if o = 0 then s.put (MBX_LOCK_OWNER k) m else s

/-- R475. -/
def lockWrite (s : State) (m k v : Nat) : State :=
  if !lockMaster m then s.refuseWrite m 7 (0x100 + 4 * k)
  else if v = s.get (MBX_LOCK_OWNER k) ∧ v = m then s.put (MBX_LOCK_OWNER k) 0
  else lockNote (s.bump MBX_LOCK_EVT_IGN_CNT) m 1 k

/-- R479. -/
def lockForce (s : State) (m v : Nat) : State :=
  if !isMC m then s.refuseWrite m 7 4
  else if bit v 31 then
    let k := wrap 6 v
    lockNote (s.put (MBX_LOCK_OWNER k) 0) (s.get (MBX_LOCK_OWNER k)) 3 k
  else s

/-- R478: a reset that covers master `m` releases its locks. -/
def breakLocks (s : State) (m : Nat) : State :=
  (List.range 64).foldl (fun s k =>
    if m != 0 && s.get (MBX_LOCK_OWNER k) == m then
      (lockNote ((s.put (MBX_LOCK_OWNER k) 0).bump MBX_LOCK_EVT_BRK_CNT) m 2 k).irq .mbx
    else s) s

/-! ### Doorbells (R480–R485) -/

/-- The requester ID of doorbell k's target; 0 when it has none. -/
def dbTarget (s : State) (k : Nat) : Nat :=
  let t := s.get (MBX_DB_CFG_TKIND k)
  let i := s.get (MBX_DB_CFG_TIDX k)
  if t = 1 then reqCD (i % 4) else if t = 2 then 1 + i % 2 else if t = 3 then reqPT i else 0

/-- R485. -/
def dbEvent (s : State) (k : Nat) : State :=
  let t := s.get (MBX_DB_CFG_TKIND k)
  let i := s.get (MBX_DB_CFG_TIDX k)
  if t = 1 then dspVector s (i % 4) 11
  else if t = 2 then s.irq (.doorbell (i % 2))
  else if t = 3 then threadWake s i causeDOORBELL
  else s

/-- R481: whether `m` may ring doorbell k. -/
def dbAllowed (s : State) (m k : Nat) : Bool :=
  s.flag (MBX_DB_CFG_EN k) && (m == s.get (MBX_DB_CFG_RINGER k) || (s.flag (MBX_DB_CFG_RINGER_ANY k) && lockMaster m))

/-- R481, R483: the bits of a SET enter PEND. -/
def dbRing (s : State) (k v : Nat) : State :=
  let p := s.get (MBX_DB_PEND_PEND k)
  let new := bitsMinus 32 v p
  let live := bitsMinus 32 new (s.get (MBX_DB_MASK_MASK k))
  let s := s.put (MBX_DB_PEND_PEND k) (p + new)
  let s := { s with mbx := { s.mbx with set := s.mbx.set.set k (s.T, wrap 32 v, live) } }
  s.when (live != 0) (fun s => dbEvent s k)

def dbSet (s : State) (m k v : Nat) : State :=
  if dbAllowed s m k then dbRing s k v else s.refuseWrite m 7 (0x804 + 0x10 * k)

/-- R482: the target and the management cores. -/
def dbReader (s : State) (m k : Nat) : Bool := isMC m || (m != 0 && m == dbTarget s k)

/-- R482, R484: a W1C clear; a bit that a SET of the same cycle met stays 1 and raises an event. -/
def dbClear (s : State) (m k v : Nat) : State :=
  if !dbReader s m k then s.refuseWrite m 7 (0x808 + 0x10 * k)
  else
    let (t, w, ev) := s.mbx.set.get (0, 0, 0) k
    let met := if t = s.T then w else 0
    let kept := bitsMinus 32 v (bitsMinus 32 v met)
    let s := s.put (MBX_DB_PEND_PEND k) (bitsMinus 32 (s.get (MBX_DB_PEND_PEND k)) (bitsMinus 32 v met))
    let again := bitsMinus 32 kept (s.get (MBX_DB_MASK_MASK k))
    s.when (again != 0 && (ev == 0 || t != s.T)) (fun s => dbEvent s k)

/-- R482, R483: a write of MASK. -/
def dbMask (s : State) (m k v : Nat) : State :=
  if !dbReader s m k then s.refuseWrite m 7 (0x80C + 0x10 * k)
  else
    let old := bitsMinus 32 (s.get (MBX_DB_PEND_PEND k)) (s.get (MBX_DB_MASK_MASK k))
    let s := s.put (MBX_DB_MASK_MASK k) v
    let new := bitsMinus 32 (s.get (MBX_DB_PEND_PEND k)) (s.get (MBX_DB_MASK_MASK k))
    s.when (bitsMinus 32 new old != 0) (fun s => dbEvent s k)

/-- R480. -/
def dbCfg (s : State) (m k v : Nat) : State :=
  if !isMC m then s.refuseWrite m 7 (0x800 + 0x10 * k)
  else if s.get (MBX_DB_PEND_PEND k) ≠ 0 then s.put MBX_STAT_CFG_IGN 1
  else
    [(MBX_DB_CFG_EN k, 31), (MBX_DB_CFG_TKIND k, 28), (MBX_DB_CFG_TIDX k, 22), (MBX_DB_CFG_RINGER_ANY k, 16), (MBX_DB_CFG_RINGER k, 0)].foldl
      (fun s (e : Fld × Nat) => s.put e.1 (bits v e.2 e.1.w)) s

/-- The values of the block computed when read. -/
def liveMbx (s : State) (k : FKey) : Option Nat :=
  if k = (MBX_Q_STAT_DEPTH k.i).key then some (qWords s k.i).length
  else if k = (MBX_LOCK_VIEW_OWNER k.i).key then some (s.get (MBX_LOCK_OWNER k.i))
  else none

/-! ### Reset and run control of a DSP (R195–R197, R471, R478) -/

def cdReset (s : State) (n : Nat) : State := flushQueues (breakLocks (cdResetCore s n) (reqCD n)) (reqCD n)

/-- R195, R197: a write of CDn_CTRL: RESET, HALT, RUN, and RUN discarded beside HALT. -/
def cdCtrlWrite (s : State) (m n v : Nat) : State :=
  if m = reqCD n then s
  else if !isMC m then s.refuseCd m n 0
  else
    let s := s.when (bit v 2) (fun s => cdReset s n)
    let s := s.when (bit v 1) (fun s => cdHalt s n)
    s.when (bit v 0 && !bit v 1) (fun s => cdRun s n)

/-- The other registers of the CDn block, by offset. -/
def cdRegWrite (s : State) (m n off v : Nat) : State :=
  if 0x40000 ≤ off ∧ off < 0xA0000 then cdAperture s m n true off v
  else if off = 0 then cdCtrlWrite s m n v
  else if !cdWriter m n then s.refuseCd m n off
  else if off = 4 then s.when (bit v 28) (fun s => s.put (CD_STAT_AMODE_ERR n) 0)
  else if off = 0xC then (if isMC m then s.put (CD_VBASE_VBASE n) (bits v 7 8 * 128) else s)
  else if off = 0x14 then s.put (CD_REL_EN_EN n) v
  else if off = 0x18 then relSet s m n v
  else if off = 0x1C then relCancel s m n v
  else if off = 0x28 ∨ off = 0x2C then s.put (CD_REL_LVL_LVL n ((off - 0x28) / 4)) v
  else if off = 0x30 then (s.put (CD_IRQ_CFG_EN n) (bits v 24 8)).put (CD_IRQ_CFG_LVL n) (bits v 0 16)
  else if off = 0x34 then s.put (CD_IRQ_PEND_PEND n) (bitsMinus 8 (s.get (CD_IRQ_PEND_PEND n)) v)
  else if 0x40 ≤ off ∧ off < 0x50 then
    (s.put (CD_WIN_EN n ((off - 0x40) / 4)) (bits v 31 1)).put (CD_WIN_BASE n ((off - 0x40) / 4)) (bits v 0 18)
  else if off = 0x50 then s.put (CD_XHI_WR n) (bits v 8 8)
  else s

end Sys2Proof.Machine
end

