-- ==== Sys2Proof/Machine/Memory.lean ====
section
/-! DEFINITION. Memory (11_memory.md) and its firewalls (section 1.2, section 11.2): the address map, ownership tags, DRAM lines
and their integrity tags, the DRAM controller, and the error logs. Registers reach their blocks in `Bus.lean`. -/
namespace Sys2Proof.Machine
open Sys2Proof.Reg

def State.drmCh (s : State) (c : Nat) : DrmCh := s.drm.get {} c
def State.setDrm (s : State) (c : Nat) (x : DrmCh) : State := { s with drm := s.drm.set c x }
def State.setMem (s : State) (x : MemSt) : State := { s with memSt := x }

/-! ### The address map (Table 11.1) -/

inductive Area where
  | stockpot | slice (n : Nat) | imem (c : Nat) | mgmt | regs | dram | none
deriving DecidableEq, Repr

def dramBase : Nat := 0x1000000000
def mib : Nat := 0x100000

/-- Usable bytes of channel `c` (R439). -/
def usable (s : State) (c : Nat) : Nat := (if c = 0 then s.get DRM_SIZE_U0 else s.get DRM_SIZE_U1) * mib
def dramSize (s : State) : Nat := usable s 0 + usable s 1

/-- Table 11.1. -/
def areaOf (s : State) (a : Nat) : Area :=
  if a < 0x1400000 then .stockpot
  else if 0x20000000 ≤ a ∧ a < 0x20200000 then (if (a - 0x20000000) % 0x8000 < 0x6000 then .slice ((a - 0x20000000) / 0x8000) else .none)
  else if 0x21000000 ≤ a ∧ a < 0x21040000 then .imem ((a - 0x21000000) / 0x10000)
  else if 0x30000000 ≤ a ∧ a < 0x30040000 then .mgmt
  else if 0xF0000000 ≤ a ∧ a < 0xF1900000 then .regs
  else if dramBase ≤ a ∧ a < dramBase + dramSize s then .dram
  else .none

/-- Table 1.10 for an address of the register range. -/
def regsRegion (a : Nat) : Nat :=
  let k := (a - 0xF0000000) / 0x100000
  let off := a % 0x100000
  if 16 ≤ k ∧ k < 20 then (if 0x40000 ≤ off then 4 + (k - 16) else 0x0C)
  else if k < 16 then blockRegion (k + 1) (0x100 ≤ off ∧ off < 0x500)
  else 0x0C

/-- Table 1.10 for any internal address. -/
def memRegion (s : State) (a : Nat) : Nat :=
  match areaOf s a with
  | .stockpot => 0x09
  | .slice _ => 0x08
  | .imem _ => 0x0D
  | .mgmt => 0x03
  | .dram => 0x0A
  | .regs => regsRegion a
  | .none => if dramBase ≤ a ∧ a < dramBase + 15 * 1024 * mib then 0x0A else 0x0C

/-! ### Ownership tags (R435–R437, R762) -/

/-- Table 11.3: whether a unit or region with the tag admits requester `m`. -/
def tagAdmits (tag m : Nat) : Bool :=
  if tag = 0xA1 then m == reqSecurity || m == reqLedger
  else isMC m ||
    (if tag < 0x80 then m == reqHost tag || isPT m || m == reqNet || m == reqCrypto || m == reqNvme
     else if tag < 0x84 then m == reqCD (tag - 0x80) || isPT m
     else if 0x88 ≤ tag ∧ tag < 0x8C then m == reqCD (tag - 0x88)
     else if tag = 0x90 then m == reqVal || isPT m
     else false)

/-- R434: every thread of cluster `c` is halted. -/
def clusterHalted (s : State) (c : Nat) : Bool :=
  (List.range 16).all (fun j => ptStopped s (16 * c + j))

def stOFF : Nat := 0
def stINIT : Nat := 1
def stZEROFILL : Nat := 2
def stREADY : Nat := 3
def stSELF_REFRESH : Nat := 4
def stFAILED : Nat := 5

/-- R441: who reaches DRAM in its present state. -/
def dramOpen (s : State) (m : Nat) : Bool :=
  let st := s.get DRM_STAT_STATE
  st == stREADY || ((st == stINIT || st == stZEROFILL) && isMC m)

/-- The tags of the units or regions of `g` bytes that [o, o + len) touches all admit `m`. -/
def tagsAdmit (s : State) (sel : Nat → Fld) (g m o len : Nat) : Bool :=
  (List.range ((o + len - 1) / g - o / g + 1)).all (fun i => tagAdmits (s.get (sel (o / g + i))) m)

/-- R29, R434, R435: the firewall admits requester `m` to the memory bytes [a, a + len), `len` at least 1. -/
def memAdmits (s : State) (m : Nat) (write : Bool) (a len : Nat) : Bool :=
  areaOf s a == areaOf s (a + len - 1) &&
  (match areaOf s a with
   | .stockpot => tagsAdmit s MEM_SP_TAG_TAG 4096 m a len
   | .slice n => m == reqPT n || (isMC m && clusterHalted s (n / 16))
   | .imem c => if write then isMC m && clusterHalted s c else isMC m || (isPT m && (m - 0x10) / 16 == c)
   | .mgmt => isMC m
   | .dram => dramOpen s m && tagsAdmit s MEM_DR_TAG_TAG (2 * mib) m (a - dramBase) len
   | .regs => false
   | .none => false)

/-! ### Channels and lines (R440, R443, R450) -/

/-- R440: the channel of DRAM offset `o` and the channel-local offset. -/
def dramChan (s : State) (o : Nat) : Nat × Nat :=
  if s.flag DRM_CFG_CHSEL then
    let l := o / 64
    let g := l / 15
    (g % 2, (15 * (g / 2) + l % 15) * 64 + o % 64)
  else if o < usable s 0 then (0, o) else (1, o - usable s 0)

/-- R440 backwards: the DRAM offset of local offset `u` of channel `c`. -/
def dramOffset (s : State) (c u : Nat) : Nat :=
  if s.flag DRM_CFG_CHSEL then
    let l := u / 64
    (15 * (2 * (l / 15) + c) + l % 15) * 64 + u % 64
  else if c = 0 then u else usable s 0 + u

/-- R443: the physical byte address within the channel, and the address of the line's tag word. -/
def physAddr (u : Nat) : Nat := 64 * (16 * (u / 64 / 15) + u / 64 % 15) + u % 64
def tagAddr (u : Nat) : Nat := 64 * (16 * (u / 64 / 15) + 15) + 4 * (u / 64 % 15)

/-- R439: the bank bits. -/
def bankBits (s : State) : Nat := if s.get DRM_CFG_TYPE = 2 then 4 else 3

/-- R450, Table 11.6: rank, bank, row and column line of physical address `a`. -/
def dramPlace (s : State) (a : Nat) : Nat × Nat × Nat × Nat :=
  let b := bankBits s
  let r := s.get DRM_CFG_ROWS
  let o := s.get DRM_CFG_ORDER
  let rank := bits a (11 + b + r) 1
  if o = 0 then (rank, bits a 11 b, bits a (11 + b) r, bits a 6 5)
  else if o = 1 then (rank, bits a (11 + r) b, bits a 11 r, bits a 6 5)
  else
    let row := bits a (11 + b) r
    (rank, if o = 2 then bits a 6 b else (BitVec.ofNat 8 (bits a 6 b) ^^^ BitVec.ofNat 8 (bits row 0 b)).toNat, row, bits a (6 + b) 5)

/-- R439: usable MiB of one channel. -/
def usableMib (s : State) : Nat :=
  2 ^ (11 + bankBits s + s.get DRM_CFG_ROWS) * (s.get DRM_CFG_RANKS + 1) * 15 / 16 / mib

/-! ### Error reporting (R447, R459) -/

def ekCE : Nat := 0
def ekUE : Nat := 1
def ekPOISON_READ : Nat := 2
def ekPOISONED_TARGET : Nat := 3
def ekSCRUB_UE : Nat := 4

/-- R459: logs a memory error. -/
def memErr (s : State) (kind m region addr : Nat) : State :=
  let s := if s.memSt.err.length < 16 then s.setMem { s.memSt with err := s.memSt.err ++ [⟨kind, m, region, addr⟩] } else s.bump MEM_ERR_LOST_LOST
  if kind = ekCE then s else s.irq .mem

/-- R444, R459: a corrected error on channel `c`; passing the threshold raises the interrupt. -/
def corrected (s : State) (c m addr : Nat) : State :=
  let old := s.get (DRM_CH_CE_CNT_COUNT c)
  let s := memErr (s.bump (DRM_CH_CE_CNT_COUNT c)) ekCE m 0x0A addr
  if old = s.get MEM_CE_THR_THR ∧ s.get (DRM_CH_CE_CNT_COUNT c) = old + 1 then s.irq .mem else s

def poisoned (s : State) (line : Nat) : Bool := s.memSt.poison.contains line
def setPoison (s : State) (line : Nat) (on : Bool) : State :=
  let l := s.memSt.poison.filter (· ≠ line)
  s.setMem { s.memSt with poison := if on then line :: l else l }

/-- The outcome of an access: done, refused by the firewall, or ended by an error (R447, R446). -/
inductive AccRes where
  | ok | refused | error
deriving DecidableEq, Repr

/-- The state of a line as an access finds it: 0 good, 1 correctable, 2 uncorrectable; `scrub` for a scrub read, which logs under
its own code. R444: whether the line can be delivered. -/
def lineCheck (s : State) (m a err : Nat) (scrub : Bool) : Bool × State :=
  let line := a / 64
  let (c, _) := dramChan s (a - dramBase)
  if poisoned s line then (false, if scrub then s else memErr s ekPOISON_READ m 0x0A a)
  else if err = 2 then
    (false, memErr ((setPoison s line true).bump (DRM_CH_UE_CNT_COUNT c)) (if scrub then ekSCRUB_UE else ekUE) m 0x0A a)
  else if err = 1 then (true, corrected s c m a)
  else (true, s)

/-- R444, R456: a read of the part [a, a + len) of one line. -/
def dramReadPart (s : State) (m a len err : Nat) : AccRes × List Byte × State :=
  let (good, s) := lineCheck s m a err false
  if good then (.ok, s.bytesAt a len, s) else (.error, List.replicate len 0, s)

/-- R445, R446: a write of `bs`, with a strobe for each byte, to the part of one line from `a` on. -/
def dramWritePart (s : State) (m a : Nat) (bs : List (Byte × Bool)) (err : Nat) : AccRes × State :=
  let line := a / 64
  let put (s : State) : State := (bs.zipIdx).foldl (fun s e => if e.1.2 then s.setByte (a + e.2) e.1.1 else s) s
  if bs.length = 64 ∧ a % 64 = 0 ∧ bs.all (·.2) then (.ok, put (setPoison s line false))
  else if poisoned s line then (.error, memErr s ekPOISONED_TARGET m 0x0A a)
  else if err = 2 then
    let (c, _) := dramChan s (a - dramBase)
    (.error, memErr ((setPoison s line true).bump (DRM_CH_UE_CNT_COUNT c)) ekPOISONED_TARGET m 0x0A a)
  else
    let (_, s) := lineCheck s m a err false
    (.ok, put s)

/-- R456: a real-time request to a channel in DRIFT mode. -/
def noteDrift (s : State) (m a : Nat) : State :=
  let (c, _) := dramChan s (a - dramBase)
  if isRealTime m && !s.flag (DRM_CH_TRAIN_MODE c) then s.bump (DRM_CH_RT_DRIFT_CNT_COUNT c) else s

/-- The pieces of [a, a + len) that lie in one block of `g` bytes each: address and length. -/
def pieces (g a len : Nat) : List (Nat × Nat) :=
  (List.range ((a + len - 1) / g - a / g + 1)).map (fun i =>
    let lo := max a ((a / g + i) * g)
    (lo, min (a + len) ((a / g + i + 1) * g) - lo))

/-- R447: a read of on-chip SRAM; a word with an uncorrectable error fails. -/
def sramRead (s : State) (m a len : Nat) : AccRes × List Byte × State :=
  let words := (pieces 4 a len).filter (fun p => s.memSt.bad.contains (p.1 / 4))
  match words with
  | [] => (.ok, s.bytesAt a len, s)
  | (w, _) :: _ => (.error, List.replicate len 0, memErr s ekUE m (memRegion s a) w)

/-- Section 11.4: a write of on-chip SRAM; a word with an error keeps its error unless it is written whole. -/
def sramWrite (s : State) (m a : Nat) (bs : List Byte) : AccRes × State :=
  (pieces 4 a bs.length).foldl (fun (acc : AccRes × State) p =>
    let s := acc.2
    let part := (bs.drop (p.1 - a)).take p.2
    if s.memSt.bad.contains (p.1 / 4) then
      if p.2 = 4 then (acc.1, (s.setMem { s.memSt with bad := s.memSt.bad.filter (· ≠ p.1 / 4) }).setBytes p.1 part)
      else (.error, memErr s ekPOISONED_TARGET m (memRegion s a) p.1)
    else (acc.1, s.setBytes p.1 part)) (.ok, s)

/-- A read of memory by requester `m` (R29–R31, R435, R444, R447): refused and failed reads give zeros. -/
def memRead (s : State) (m a len : Nat) : AccRes × List Byte × State :=
  if len = 0 then (.ok, [], s)
  else if !memAdmits s m false a len then (.refused, List.replicate len 0, s.violation m false (memRegion s a) a)
  else if areaOf s a = .dram then
    (pieces 64 a len).foldl (fun (acc : AccRes × List Byte × State) p =>
      let (r, b, s) := dramReadPart acc.2.2 m p.1 p.2 0
      (if r = .ok then acc.1 else r, acc.2.1 ++ b, s)) (.ok, [], noteDrift s m a)
  else sramRead s m a len

/-- The bytes of [a, a + len) before the first line, or SRAM word, that cannot be delivered. -/
def goodPrefix (s : State) (a len : Nat) : Nat :=
  match (pieces (if areaOf s a = .dram then 64 else 4) a len).find? (fun p =>
      if areaOf s a = .dram then poisoned s (p.1 / 64) else s.memSt.bad.contains (p.1 / 4)) with
  | some p => p.1 - a
  | none => len

/-- A write of memory by requester `m`. -/
def memWrite (s : State) (m a : Nat) (bs : List Byte) : AccRes × State :=
  if bs = [] then (.ok, s)
  else if !memAdmits s m true a bs.length then (.refused, s.violation m true (memRegion s a) a)
  else if areaOf s a = .dram then
    (pieces 64 a bs.length).foldl (fun (acc : AccRes × State) p =>
      let (r, s) := dramWritePart acc.2 m p.1 (((bs.drop (p.1 - a)).take p.2).map (fun b => (b, true))) 0
      (if r = .ok then acc.1 else r, s)) (.ok, noteDrift s m a)
  else sramWrite s m a bs

/-- The status that a line access answers: OK, refused or POISONED_TARGET. -/
def accCode (r : AccRes) : Nat := match r with | .ok => 0 | .refused => 1 | .error => 5

/-- R444: a read of the DRAM line that holds address `a`, in which the tag check finds `err`. -/
def dramLineRead (s : State) (m a err : Nat) : State :=
  let a := a / 64 * 64
  if areaOf s a ≠ .dram ∨ !memAdmits s m false a 64 then { (s.violation m false (memRegion s a) a).answer 1 with reply := List.replicate 64 0 }
  else
    let (r, b, s) := dramReadPart (noteDrift s m a) m a 64 err
    { s.answer (accCode r) with reply := b }

/-- R445, R446: a write with strobes of the bytes `bs` from `a` on, within one DRAM line. -/
def dramLineWrite (s : State) (m a : Nat) (bs : List (Byte × Bool)) (err : Nat) : State :=
  if areaOf s (a / 64 * 64) ≠ .dram ∨ !memAdmits s m true (a / 64 * 64) 64 then (s.violation m true (memRegion s a) a).answer 1
  else
    let (r, s) := dramWritePart (noteDrift s m a) m a (bs.take (64 - a % 64)) err
    s.answer (accCode r)

/-! ### Resets in the middle of a burst (R457, R458) -/

/-- The burst of master `m` that its reset cut: the bytes accepted of a write to `a`, or reads discarded. -/
def burstCut (s : State) (m a : Nat) (accepted : List Byte) (discarded : Bool) : State :=
  let s := if accepted = [] ∨ areaOf s a = .regs then s else (memWrite s m a accepted).2
  if isHost m then s
  else
    let e : MemRst := { discarded := discarded, bytes := accepted.length, reqid := m, addr := a }
    let s := if s.memSt.rst.length < 8 then s.setMem { s.memSt with rst := s.memSt.rst ++ [e] } else s.bump MEM_RST_LOST_LOST
    s.irq .mem

/-! ### MEM registers -/

/-- R437: the zero-fill after a reset is complete. -/
def zeroFillDone (s : State) : State := (s.clearRange 0 0x1400000).setMem { s.memSt with filled := true }

def memIgn (s : State) : State := s.put MEM_STAT_CFG_IGN 1

/-- R762: the index after a TAG access below `n`. -/
def autoInc (s : State) (inc idx : Fld) (n : Nat) : State :=
  if s.flag inc then s.put idx (if s.get idx + 1 < n then s.get idx + 1 else 0) else s

/-- R436: a tag may change from `old` to `new`; `sec` for the security core's request that MC0 forwards. -/
def tagMayChange (old new m : Nat) (sec : Bool) : Bool := (old != 0xA1 && new != 0xA1) || (sec && m == reqMC0)

/-- R436, R437, R762: a write of MEM_SP_TAG. -/
def spTagWrite (s : State) (m v : Nat) (sec : Bool) : State :=
  let i := s.get MEM_SP_IDX_INDEX
  let tag := wrap 8 v
  if !isMC m then s.refuseWrite m 5 0x08
  else if !s.memSt.filled || 5120 ≤ i || !tagMayChange (s.get (MEM_SP_TAG_TAG i)) tag m sec then memIgn s
  else
    let s := s.put (MEM_SP_TAG_TAG i) tag
    let s := if tag = 0xFF then s.clearRange (4096 * i) 4096 else s
    autoInc s MEM_SP_IDX_AUTOINC MEM_SP_IDX_INDEX 5120

/-- The number of DRAM regions (R762). -/
def regionsOf (s : State) : Nat := (s.get DRM_SIZE_U0 + s.get DRM_SIZE_U1) / 2

/-- R436, R762: a write of MEM_DR_TAG. -/
def drTagWrite (s : State) (m v : Nat) (sec : Bool) : State :=
  let i := s.get MEM_DR_IDX_INDEX
  let tag := wrap 8 v
  if !isMC m then s.refuseWrite m 5 0x10
  else if regionsOf s ≤ i || !tagMayChange (s.get (MEM_DR_TAG_TAG i)) tag m sec then memIgn s
  else autoInc (s.put (MEM_DR_TAG_TAG i) tag) MEM_DR_IDX_AUTOINC MEM_DR_IDX_INDEX (regionsOf s)

/-- R459: POP of the error log. -/
def memErrPop (s : State) (m v : Nat) : State :=
  if !isMC m then s.refuseWrite m 5 0x28
  else if bit v 0 then s.setMem { s.memSt with err := s.memSt.err.drop 1 } else s

/-- R460: POP of the reset log. -/
def memRstPop (s : State) (m v : Nat) : State :=
  if !isMC m then s.refuseWrite m 5 0x38
  else if bit v 0 then s.setMem { s.memSt with rst := s.memSt.rst.drop 1 } else s

/-- R47: POP of the violation log. -/
def violPop (s : State) (m v : Nat) : State :=
  if !isMC m then s.refuseWrite m 5 0xF08
  else if bit v 0 then { s with viol := s.viol.drop 1 } else s

/-- R48: a read of MEM_FAB_REQID. -/
def reqidRead (s : State) (m : Nat) : State := s.answer m

/-- The values of the block computed when read: the oldest entries of its logs. -/
def liveMem (s : State) (k : FKey) : Option Nat :=
  match s.memSt.err with
  | e :: _ =>
    if k = MEM_ERR_INFO_VALID.key then some 1
    else if k = MEM_ERR_INFO_KIND.key then some e.kind
    else if k = MEM_ERR_INFO_REQID.key then some e.reqid
    else if k = MEM_ERR_INFO_REGION.key then some e.region
    else if k = MEM_ERR_INFO_ADDR_HI.key then some (bits e.addr 32 8)
    else if k = MEM_ERR_ADDR_ADDR_LO.key then some (wrap 32 e.addr)
    else liveLogs k
  | [] => liveLogs k
where
  liveLogs (k : FKey) : Option Nat :=
    match s.memSt.rst, s.viol with
    | e :: _, v => if k = MEM_RST_INFO_VALID.key then some 1
      else if k = MEM_RST_INFO_READS_DISCARDED.key then some (b2n e.discarded)
      else if k = MEM_RST_INFO_BYTES.key then some e.bytes
      else if k = MEM_RST_INFO_REQID.key then some e.reqid
      else if k = MEM_RST_INFO_ADDR_HI.key then some (bits e.addr 32 8)
      else if k = MEM_RST_ADDR_ADDR_LO.key then some (wrap 32 e.addr)
      else liveViol v k
    | [], v => liveViol v k
  liveViol (v : List Viol) (k : FKey) : Option Nat :=
    match v with
    | e :: _ => if k = MEM_FAB_VIOL_INFO_VALID.key then some 1
      else if k = MEM_FAB_VIOL_INFO_WRITE.key then some (b2n e.write)
      else if k = MEM_FAB_VIOL_INFO_REQID.key then some e.reqid
      else if k = MEM_FAB_VIOL_INFO_REGION.key then some e.region
      else if k = MEM_FAB_VIOL_INFO_ADDR_HI.key then some (bits e.addr 32 8)
      else if k = MEM_FAB_VIOL_ADDR_ADDR_LO.key then some (wrap 32 e.addr)
      else none
    | [] => none

/-! ### The DRAM controller (R441, R442, R449–R454) -/

def drmIgn (s : State) : State := s.put DRM_STAT_CFG_IGN 1

/-- R441: INIT sizes the channels and starts initialisation. -/
def drmInit (s : State) (m : Nat) : State :=
  if !isMC m then s.refuseWrite m 6 4
  else if s.get DRM_STAT_STATE ≠ stOFF then s
  else
    let u := usableMib s
    s.puts [(DRM_STAT_STATE, stINIT), (DRM_SIZE_U0, u), (DRM_SIZE_U1, u)]

/-- R441, R437: initialisation and training end (`fail`: the channels that failed), then the zero-fill. -/
def drmInitDone (s : State) (zeroed : Bool) (fail : Nat) : State :=
  let st := s.get DRM_STAT_STATE
  if st ≠ stINIT ∧ st ≠ stZEROFILL then s
  else if wrap 2 fail ≠ 0 then s.puts [(DRM_STAT_STATE, stFAILED), (DRM_STAT_FAIL_CH, fail)]
  else if !zeroed then s.put DRM_STAT_STATE stZEROFILL
  else
    let s := (s.clearRange dramBase (dramSize s)).put DRM_STAT_STATE stREADY
    let s := s.setMem { s.memSt with poison := [] }
    [0, 1].foldl (fun s c => s.setDrm c { s.drmCh c with pauseT := s.T, senseT := s.T }) s

/-- R442: self-refresh. -/
def srEnter (s : State) (m : Nat) : State :=
  if !isMC m then s.refuseWrite m 6 4
  else if s.get DRM_STAT_STATE = stREADY then s.put DRM_STAT_STATE stSELF_REFRESH else s
def srExit (s : State) (m : Nat) : State :=
  if !isMC m then s.refuseWrite m 6 4
  else if s.get DRM_STAT_STATE = stSELF_REFRESH then s.put DRM_STAT_STATE stREADY else s

/-- The training mode that channel `c` has or is about to take. -/
def nextMode (s : State) (c : Nat) : Nat := ((s.drmCh c).mode).getD (s.get (DRM_CH_TRAIN_MODE c))

def trainOff (c : Nat) : Nat := 0x100 + 0x100 * c

/-- R453: RETRAIN. -/
def retrain (s : State) (m c : Nat) : State :=
  if !isMC m then s.refuseWrite m 6 (trainOff c) else s.setDrm c { s.drmCh c with retrain := true }

/-- R451, R453: a write of DRM_CHc_TRAIN. -/
def trainWrite (s : State) (m c v : Nat) : State :=
  if !isMC m then s.refuseWrite m 6 (trainOff c)
  else
    let mode := bits v 31 1
    let intv := bits v 16 10
    let lim := bits v 8 8
    let s := if s.flag DRM_CFG_CHSEL ∧ mode ≠ nextMode s (1 - c) then drmIgn s else s.setDrm c { s.drmCh c with mode := some mode }
    let s := if 64 ≤ intv ∧ intv ≤ 1000 then s.put (DRM_CH_TRAIN_INTV c) intv else s
    let s := if lim ≠ 0 then s.put (DRM_CH_TRAIN_DRIFT_LIM c) lim else s
    if bit v 30 then retrain s m c else s

/-- R453: a write of DLYk. -/
def dlyWrite (s : State) (m c k v : Nat) : State :=
  if !isMC m then s.refuseWrite m 6 (trainOff c + 0x20 + 4 * k)
  else if s.flag (DRM_CH_TRAIN_MODE c) then s.setDrm c { s.drmCh c with dly := (s.drmCh c).dly.set k (wrap 10 v) }
  else s

/-- R451, R453: what takes effect at the end of a refresh. -/
def refreshEnd (s : State) (c : Nat) : State :=
  let x := s.drmCh c
  let s := match x.mode with | some v => s.put (DRM_CH_TRAIN_MODE c) v | none => s
  let s := x.dly.foldl (fun s e => s.put (DRM_CH_DLY_DELAY c e.1) e.2) s
  s.setDrm c { x with mode := none, dly := [], owed := 0, senseT := if x.dly = [] then x.senseT else s.T }

def drmRuns (s : State) : Bool := s.get DRM_STAT_STATE == stREADY

/-- R454: a refresh falls due on channel `c` while a burst is in service (`busy`) or not. -/
def refreshDue (s : State) (c : Nat) (busy : Bool) : State :=
  let x := s.drmCh c
  if !drmRuns s then s
  else if busy && x.owed < 8 then
    let s := s.setDrm c { x with owed := x.owed + 1 }
    s.put (DRM_CH_STAT_OWED_MAX c) (max (s.get (DRM_CH_STAT_OWED_MAX c)) (x.owed + 1))
  else refreshEnd s c

/-- R452, R453: a training pause of `len` ns starts with no real-time burst in service (`rt`) and no refresh owed or running
(`refreshing`), and leaves new delays. -/
def driftPause (s : State) (c len : Nat) (rt refreshing : Bool) (delays : List Nat) : State :=
  let x := s.drmCh c
  let fixed := s.flag (DRM_CH_TRAIN_MODE c)
  let due := x.retrain || (!fixed && x.pauseT + s.get (DRM_CH_TRAIN_INTV c) * 1000000 ≤ s.T)
  if !drmRuns s || !due || rt || refreshing || x.owed ≠ 0 || 2000 < len then s
  else
    let s := (delays.take 8).zipIdx.foldl (fun s e => s.put (DRM_CH_DLY_DELAY c e.2) e.1) s
    let s := s.setDrm c { x with pauseT := s.T, senseT := s.T, retrain := false }
    (s.bump (DRM_CH_PAUSE_COUNT c)).put (DRM_CH_PAUSE_MAX_NS c) (max (s.get (DRM_CH_PAUSE_MAX_NS c)) len)

/-- R453: the DQS oscillator reading in FIXED mode finds a change of `ps` since the delays were written. -/
def driftSense (s : State) (c ps : Nat) : State :=
  let x := s.drmCh c
  if !drmRuns s || !s.flag (DRM_CH_TRAIN_MODE c) || s.T < x.senseT + 64000000 then s
  else
    let s := s.setDrm c { x with senseT := s.T }
    if s.get (DRM_CH_TRAIN_DRIFT_LIM c) < ps then (s.put (DRM_CH_STAT_DRIFT_WARN c) 1).irq .mem else s

/-- R449: the scrubber of channel `c` reads its next line and finds `err`. -/
def scrubRead (s : State) (c err : Nat) : State :=
  if !drmRuns s || s.get DRM_SCRUB_HOURS = 0 || usable s c = 0 then s
  else
    let x := s.drmCh c
    let a := dramBase + dramOffset s c (64 * x.scrub)
    let s := s.setDrm c { x with scrub := if (x.scrub + 1) * 64 < usable s c then x.scrub + 1 else 0 }
    (lineCheck s 0 a err true).2

/-- R441: a write of DRM_CFG. -/
def drmCfgWrite (s : State) (m v : Nat) : State :=
  if !isMC m then s.refuseWrite m 6 0
  else if s.get DRM_STAT_STATE ≠ stOFF then drmIgn s
  else s.puts [(DRM_CFG_TYPE, bits v 30 2), (DRM_CFG_RATE, bits v 28 2), (DRM_CFG_RANKS, bits v 27 1), (DRM_CFG_ROWS, bits v 22 5),
    (DRM_CFG_ORDER, bits v 20 2), (DRM_CFG_CHSEL, bits v 19 1)]

end Sys2Proof.Machine
end

