-- ==== Sys2Proof/Machine/Crc.lean ====
section
/-! DEFINITION. The checksums that the spec names: CRC-32 (IEEE 802.3, R340), CRC-32C (R594, Table 15.7), the 16-bit CRC of the
Valolo frames, and byte-order helpers. -/
namespace Sys2Proof.Machine

/-- One bit of a reflected CRC of 32 bits. -/
def crcBit (poly c : BitVec 32) : BitVec 32 := if c.getLsbD 0 then (c >>> 1) ^^^ poly else c >>> 1

/-- One byte of a reflected CRC of 32 bits. -/
def crcByte (poly c : BitVec 32) (b : Byte) : BitVec 32 :=
  (List.range 8).foldl (fun c _ => crcBit poly c) (c ^^^ b.zeroExtend 32)

def crcBytes (poly c : BitVec 32) (bs : List Byte) : BitVec 32 := bs.foldl (crcByte poly) c

/-- CRC-32 of IEEE 802.3: initial value and final XOR 0xFFFF_FFFF. -/
def crc32 (bs : List Byte) : Nat := (crcBytes 0xEDB88320 0xFFFFFFFF bs ^^^ 0xFFFFFFFF).toNat

def polyC : BitVec 32 := 0x82F63B78

/-- CRC-32C with initial value and final XOR 0xFFFF_FFFF. -/
def crc32c (bs : List Byte) : Nat := (crcBytes polyC 0xFFFFFFFF bs ^^^ 0xFFFFFFFF).toNat

/-- The bytes of a list of 32-bit words, little-endian. -/
def wordsBytes (l : List Nat) : List Byte := l.flatMap (leBytes 4)

/-- The number whose big-endian bytes are `bs`. -/
def ofBeBytes (bs : List Byte) : Nat := ofLeBytes bs.reverse

/-- The `n` low bytes of `v`, most significant first. -/
def beBytes (n v : Nat) : List Byte := (leBytes n v).reverse

/-- One byte of the Valolo CRC (R362), most significant bit first. -/
def crc16Byte (c : BitVec 16) (b : Byte) : BitVec 16 :=
  (List.range 8).foldl (fun c _ => if c.getLsbD 15 then (c <<< 1) ^^^ 0x1021 else c <<< 1) (c ^^^ (b.zeroExtend 16 <<< 8))

/-- R362: polynomial x^16 + x^12 + x^5 + 1, initial value 0xFFFF, no final XOR. -/
def crc16 (bs : List Byte) : Nat := (bs.foldl crc16Byte 0xFFFF).toNat

end Sys2Proof.Machine
end

