-- ==== Sys2Proof/Machine/NetParse.lean ====
section
/-! DEFINITION. Colander's parser (R596), the flow key (Table 16.6), Internet checksums, VLAN tags: functions of a frame's bytes. -/
namespace Sys2Proof.Machine

/-- `n` bytes from offset `o`. -/
def slice (b : List Byte) (o n : Nat) : List Byte := (b.drop o).take n

/-- Big-endian and little-endian fields of `n` bytes at offset `o`; bytes that are not there read 0. -/
def be (b : List Byte) (o n : Nat) : Nat := ofBeBytes ((slice b o n) ++ List.replicate (n - (slice b o n).length) 0)
def le (b : List Byte) (o n : Nat) : Nat := ofLeBytes (slice b o n)

/-- `l` cut or filled with zeros to `n` bytes. -/
def fix (n : Nat) (l : List Byte) : List Byte := l.take n ++ List.replicate (n - l.length) 0

/-- Replaces bytes from offset `o` with `x`. -/
def patch (b : List Byte) (o : Nat) (x : List Byte) : List Byte := b.take o ++ x ++ b.drop (o + x.length)

/-- The ones'-complement sum of the 16-bit words of `b`, folded to 16 bits. -/
def sum16 : List Byte → Nat → Nat
  | [], a => a
  | [x], a => let s := a + x.toNat * 256; s % 65536 + s / 65536
  | x :: y :: t, a => let s := a + x.toNat * 256 + y.toNat; sum16 t (s % 65536 + s / 65536)

/-- The Internet checksum of `b`, started from `a`. -/
def csum (b : List Byte) (a : Nat) : Nat := 0xFFFF - sum16 b a % 65536

/-- What the parser finds (R596). -/
structure Pkt where
  dst : Nat := 0
  src : Nat := 0
  /-- TCI of the outer tag. -/
  tci : Option Nat := none
  /-- Offset of the EtherType after the tags. -/
  eoff : Nat := 12
  etype : Nat := 0
  v6 : Bool := false
  ip : Bool := false
  /-- Offset of the IP header, its length with extension headers, the protocol, the addresses. -/
  l3 : Nat := 14
  hlen : Nat := 0
  proto : Nat := 0
  srcIp : List Byte := List.replicate 16 0
  dstIp : List Byte := List.replicate 16 0
  /-- The L4 word of the key, and the offset of the L4 header. -/
  l4 : Nat := 0
  l4off : Nat := 0
  frag : Bool := false
  trunc : Bool := false
deriving DecidableEq, Repr

/-- The offset of the EtherType after up to two tags. -/
def tagEnd (b : List Byte) : Nat :=
  let isTag (o : Nat) : Bool := be b o 2 == 0x8100 || be b o 2 == 0x88A8
  if isTag 12 then (if isTag 16 then 20 else 16) else 12

/-- Skips up to `n` IPv6 extension headers of the Hop-by-Hop, Routing and Destination Options kinds. -/
def skipExt (b : List Byte) : Nat → Nat → Nat → Nat × Nat
  | 0, proto, o => (proto, o)
  | n + 1, proto, o =>
    if proto = 0 ∨ proto = 43 ∨ proto = 60 then skipExt b n (be b o 1) (o + 8 + 8 * be b (o + 1) 1) else (proto, o)

/-- The L4 word: ports of UDP and TCP, the SPI of ESP. -/
def l4Word (b : List Byte) (proto o : Nat) : Nat :=
  if proto = 6 ∨ proto = 17 then be b o 2 * 65536 + be b (o + 2) 2
  else if proto = 50 then be b o 4 else 0

def ipv4Mapped (b : List Byte) : List Byte := List.replicate 10 0 ++ [0xFF, 0xFF] ++ fix 4 b

/-- R596: from the first 256 bytes. -/
def parse (frame : List Byte) : Pkt :=
  let b := frame.take 256
  let eo := tagEnd b
  let et := be b eo 2
  let p : Pkt := { dst := be b 0 6, src := be b 6 6, tci := if eo = 12 then none else some (be b 14 2), eoff := eo, etype := et, l3 := eo + 2 }
  let o := eo + 2
  let reach (n : Nat) : Bool := n ≤ 256
  if et = 0x0800 then
    let hl := 4 * (be b o 1 % 16)
    let fr := be b (o + 6) 2 % 0x2000 ≠ 0
    let proto := be b (o + 9) 1
    let lo := o + hl
    let p := { p with ip := true, hlen := hl, proto := proto, srcIp := ipv4Mapped (slice b (o + 12) 4), dstIp := ipv4Mapped (slice b (o + 16) 4),
                      l4off := lo, frag := fr }
    if !reach (lo + 4) then { p with trunc := true }
    else if fr then p
    else { p with l4 := l4Word b proto lo }
  else if et = 0x86DD then
    let (proto, lo) := skipExt b 2 (be b (o + 6) 1) (o + 40)
    let fr := proto == 44 && be b (lo + 2) 2 / 8 != 0
    let p := { p with ip := true, v6 := true, hlen := lo - o, proto := proto, srcIp := fix 16 (slice b (o + 8) 16),
                      dstIp := fix 16 (slice b (o + 24) 16), l4off := lo, frag := fr }
    if !reach (lo + 4) then { p with trunc := true }
    else if fr then p
    else { p with l4 := l4Word b proto lo }
  else p

/-- The pseudo-header sum for an L4 checksum. -/
def pseudo (p : Pkt) (len : Nat) : Nat :=
  let a := if p.v6 then p.srcIp ++ p.dstIp else p.srcIp.drop 12 ++ p.dstIp.drop 12
  sum16 (a ++ beBytes 4 len ++ beBytes 4 p.proto) 0

/-- The bytes of the L4 segment by the IP header's length. -/
def l4Seg (f : List Byte) (p : Pkt) : List Byte :=
  let n := if p.v6 then be f (p.l3 + 4) 2 + 40 - p.hlen else be f (p.l3 + 2) 2 - p.hlen
  slice f p.l4off n

/-- L3_OK: a correct IPv4 header checksum, or an IPv6 header. -/
def l3Ok (f : List Byte) (p : Pkt) : Bool := p.ip && (p.v6 || sum16 (slice f p.l3 p.hlen) 0 == 0xFFFF)

/-- L4_OK: a correct TCP or UDP checksum (a zero UDP checksum over IPv4 included). -/
def l4Ok (f : List Byte) (p : Pkt) : Bool :=
  let seg := l4Seg f p
  p.ip && !p.frag && (p.proto == 6 || p.proto == 17) &&
    ((p.proto == 17 && !p.v6 && be seg 6 2 == 0) || sum16 seg (pseudo p seg.length) == 0xFFFF)

/-- CSUM_L3: writes the IPv4 header checksum. -/
def putL3 (f : List Byte) (p : Pkt) : List Byte :=
  if p.ip && !p.v6 then
    let z := patch f (p.l3 + 10) [0, 0]
    patch f (p.l3 + 10) (beBytes 2 (csum (slice z p.l3 p.hlen) 0))
  else f

/-- CSUM_L4: writes the TCP or UDP checksum. -/
def putL4 (f : List Byte) (p : Pkt) : List Byte :=
  if p.ip && !p.frag && (p.proto == 6 || p.proto == 17) then
    let o := p.l4off + (if p.proto = 6 then 16 else 6)
    let z := patch f o [0, 0]
    let seg := l4Seg z p
    let c := csum seg (pseudo p seg.length)
    patch f o (beBytes 2 (if p.proto = 17 ∧ c = 0 then 0xFFFF else c))
  else f

/-- The frame without its outer tag, and with a tag of TCI `tci`. -/
def untag (f : List Byte) : List Byte := if tagEnd f = 12 then f else f.take 12 ++ f.drop 16
def addTag (f : List Byte) (tci : Nat) : List Byte := f.take 12 ++ [0x81, 0x00] ++ beBytes 2 tci ++ f.drop 12

/-- Table 16.6: the 48 key bytes. -/
def flowKey (p : Pkt) (src vid : Nat) (decrypted decap : Bool) (vni : Nat) : List Byte :=
  leBytes 1 src ++ leBytes 1 (b2n p.v6 + b2n decrypted * 2 + b2n decap * 4 + b2n p.tci.isSome * 8) ++ leBytes 2 p.etype ++
    leBytes 4 (if decap then vni else vid) ++ leBytes 1 p.proto ++ [0, 0, 0] ++ p.srcIp ++ p.dstIp ++ leBytes 4 p.l4

/-- R599: the two buckets of a key. -/
def bucket1 (k : List Byte) : Nat := crc32c k % 65536
def bucket2 (k : List Byte) : Nat := crc32c (k.map (· ^^^ 0x5A)) / 65536

/-- R602: the spreading value over SRC_IP, DST_IP and L4. -/
def spread (p : Pkt) : Nat := crc32c (p.srcIp ++ p.dstIp ++ leBytes 4 p.l4)

/-- R592: the set of {FID, MAC}. -/
def fdbSet (fid mac : Nat) : Nat := crc32c (leBytes 2 fid ++ beBytes 6 mac) % 4096

end Sys2Proof.Machine
end

