-- ==== Sys2Proof/Machine/Rings.lean ====
section
/-! DEFINITION. Host rings (13_host_rings.md): contexts, enable and disable, descriptor fetch and items, completion records,
doorbells, MSI-X vectors and their moderation. -/
namespace Sys2Proof.Machine
open Sys2Proof.Reg

/-! ### Kinds, states, status codes (Tables 13.4, 13.8, 13.14) -/

def rkTX : Nat := 0
def rkRX : Nat := 1
def rkSQ : Nat := 2
def rkCQ : Nat := 3
def rkTELEMETRY : Nat := 4
def rkSETPOINT : Nat := 5
def rkLEDGER : Nat := 6
def rkSECURITY : Nat := 7

def rsDISABLED : Nat := 0
def rsRUNNING : Nat := 1
def rsDRAINING : Nat := 2

def stOK : Nat := 0
def stFAILED_DMA : Nat := 1
def stFAILED_FORMAT : Nat := 2
def stSQUASHED_RESET : Nat := 3
def stPARTIAL_RESET : Nat := 4
def stPOISONED_TARGET : Nat := 5
def stDROPPED_POLICY : Nat := 6
def stDROPPED_QUOTA : Nat := 7
def stABORTED_COMPAT : Nat := 8
def stDENIED_SESSION : Nat := 9

def ringKind (s : State) (r : Nat) : Nat := s.get (HIF_RING_CTX0_KIND r)
def ringInst (s : State) (r : Nat) : Nat := s.get (HIF_RING_CTX0_INST r)
def ringLocal (s : State) (r : Nat) : Nat := s.get (HIF_RING_CTX0_LOCAL r)
def ringState (s : State) (r : Nat) : Nat := s.get (HIF_RING_CTX7_STATE r)
def ringN (s : State) (r : Nat) : Nat := 2 ^ s.get (HIF_RING_CTX0_LOG2N r)
def ringRunning (s : State) (r : Nat) : Bool := ringState s r == rsRUNNING
def cplBase (s : State) (r : Nat) : Nat := s.get (HIF_RING_CTX3_CPL_BASE r) + s.get (HIF_RING_CTX4_CPL_BASE r) * 2 ^ 32

/-- Rings that have been enabled since the last reset of the block. -/
def knownRings (s : State) : List Nat := s.hif.ring.map (·.1)

/-- R502: the ring of instance `n` with local index `l`. -/
def ringOf (s : State) (n l : Nat) : Option Nat :=
  (knownRings s).find? (fun r => ringInst s r == n && ringLocal s r == l && ringState s r != rsDISABLED)

def busMaster (s : State) (fn : Nat) : Bool := s.hif.bme.get false fn

/-- The field [lo + w − 1 : lo] of word `k` of a descriptor (Table 13.5). -/
def Desc.fld (d : Desc) (k lo w : Nat) : Nat := bits (d.w.getD k 0) lo w
def Desc.len (d : Desc) : Nat := d.w.getD 2 0
def Desc.addr (d : Desc) : Nat := d.w.getD 0 0 + d.w.getD 1 0 * 2 ^ 32
def Desc.opc (d : Desc) : Nat := d.fld 3 24 8
def Desc.irq (d : Desc) : Bool := bit (d.w.getD 3 0) 23
def Desc.fence (d : Desc) : Bool := bit (d.w.getD 3 0) 22
def Desc.chain (d : Desc) : Bool := bit (d.w.getD 3 0) 21
def Desc.tag (d : Desc) : Nat := d.fld 3 0 16
/-- Kind word KWk. -/
def Desc.kw (d : Desc) (k : Nat) : Nat := d.w.getD (4 + k) 0

/-- R514: the SEQ of the oldest descriptor without a completion. -/
def ringC (s : State) (r : Nat) : Nat :=
  let q := s.ring r
  match q.descs with
  | d :: _ => d.seq
  | [] => q.next

/-! ### Vectors (R517–R519) -/

/-- R519: a request for vector `v` of function `fn`. -/
def msixRequest (s : State) (fn v : Nat) : State :=
  let x := s.msix fn v
  if x.mask || !busMaster s fn then s.setMsix fn v { x with pba := true }
  else (s.setMsix fn v { x with pba := false }).emit (.msix fn v (x.addrLo + x.addrHi * 2 ^ 32) x.data)

/-- R518: the ring requests its vector. -/
def ringRequest (s : State) (r : Nat) : State :=
  msixRequest (s.setRing r { s.ring r with p := 0, timer := none }) (ringInst s r) (s.get (HIF_RING_CTX5_VEC r))

/-- R518: a record has been written to the completion area of ring `r`. -/
def ringNotify (s : State) (r : Nat) (irq : Bool) : State :=
  if !s.flag (HIF_RING_CTX5_IRQ_EN r) then s
  else
    let q := s.ring r
    let s := s.setRing r { q with p := q.p + 1, timer := if q.p = 0 then some s.T else q.timer }
    if irq || max (s.get (HIF_RING_CTX5_COAL_CNT r)) 1 ≤ q.p + 1 then ringRequest s r else s

/-- R518: the timer reaches COAL_US. -/
def coalTimeout (s : State) (r : Nat) : State :=
  match (s.ring r).timer with
  | some t =>
    let us := s.get (HIF_RING_CTX5_COAL_US r)
    if us ≠ 0 ∧ t + us * 1000 ≤ s.T ∧ s.flag (HIF_RING_CTX5_IRQ_EN r) then ringRequest s r else s
  | none => s

/-- R519: a 4-byte write to word `k` of the table entry of vector `v`; an unmasked vector with its PBA bit set sends. -/
def msixWrite (s : State) (fn v k x : Nat) : State :=
  let e := s.msix fn v
  let e := if k = 0 then { e with addrLo := wrap 32 x } else if k = 1 then { e with addrHi := wrap 32 x }
    else if k = 2 then { e with data := wrap 32 x } else { e with mask := bit x 0 }
  let s := s.setMsix fn v e
  if e.pba && !e.mask then msixRequest s fn v else s

/-! ### Completion records (R509–R511, R515) -/

/-- Table 13.7: the record of SEQ `seq` of ring `r`, in entry `j` of an area of `n` entries. -/
def cplBytes (s : State) (r seq tag : Nat) (c : Cpl) (j n : Nat) : List Byte :=
  leBytes 4 seq ++ leBytes 4 c.length ++ leBytes 4 (ringLocal s r * 2 ^ 19 + tag) ++
    leBytes 4 (b2n (j / n % 2 == 0) * 2 ^ 31 + b2n c.more * 2 ^ 30 + c.aux * 2 ^ 16 + c.status)

/-- Writes a record in entry `j` of the area of ring `a` for a descriptor of ring `r`. -/
def writeRec (s : State) (a r seq tag : Nat) (c : Cpl) (irq : Bool) (j : Nat) : State :=
  let n := ringN s a
  let fn := ringInst s a
  let s := s.emit (.dma fn (cplBase s a + 16 * (j % n)) (cplBytes s r seq tag c j n))
  let q := s.ring a
  let s := s.setRing a { q with w := wrap 32 (q.w + 1), recs := q.recs ++ [(ringLocal s r, seq, c.status)] }
  let s := s.when (c.status == stFAILED_DMA) (fun s => (s.bump HIF_DMA_ERR_CNT_COUNT).emit (.aer fn))
  ringNotify s a irq

/-- The ring has drained: DISABLED once its last completion is written (R505). -/
def settleRing (s : State) (r : Nat) : State :=
  let q := s.ring r
  if ringState s r = rsDRAINING ∧ q.next = q.tail ∧ q.descs = [] ∧ q.wait = [] then
    s.puts [(HIF_RING_CTX7_STATE r, rsDISABLED), (HIF_RING_CTX0_EN r, 0)]
  else s

/-- One step of writing what is ready: the oldest descriptor of an ordered ring. -/
def flushOne (s : State) (r : Nat) : State :=
  let q := s.ring r
  match q.descs with
  | d :: t => match d.done with
    | some c => if busMaster s (ringInst s r) then writeRec (s.setRing r { q with descs := t }) r r d.seq d.tag c d.irq d.seq else s
    | none => s
  | [] => s

/-- R515: one record of a STORAGE-CQ, when j − CHEAD < M. -/
def flushCqOne (s : State) (a : Nat) : State :=
  let q := s.ring a
  match q.wait with
  | (r, seq, tag, c, irq) :: t =>
    if busMaster s (ringInst s a) && wrap 32 (q.w + 2 ^ 32 - q.chead) < ringN s a then
      let s := s.setRing a { q with wait := t }
      let v := s.ring r
      let s := s.setRing r { v with descs := v.descs.filter (fun d => d.seq ≠ seq) }
      settleRing (writeRec s a r seq tag c irq q.w) r
    else s
  | [] => s

def iterate (f : State → State) : Nat → State → State
  | 0, s => s
  | n + 1, s => iterate f n (f s)

/-- Writes every record of the ring that may be written now. -/
def flushRing (s : State) (r : Nat) : State :=
  let s := if ringKind s r = rkCQ then iterate (fun s => flushCqOne s r) (s.ring r).wait.length s
    else iterate (fun s => flushOne s r) (s.ring r).descs.length s
  settleRing s r

/-- The STORAGE-CQ of a STORAGE-SQ. -/
def cqOf (s : State) (r : Nat) : Option Nat := ringOf s (ringInst s r) (s.get (HIF_RING_CTX6_CQ r))

/-- The descriptor `seq` has its outcome: its record is written in its turn. -/
def finish (s : State) (r seq : Nat) (c : Cpl) : State :=
  let q := s.ring r
  match q.descs.find? (fun d => d.seq == seq && d.done.isNone) with
  | none => s
  | some d =>
    let s := s.setRing r { q with descs := q.descs.map (fun e => if e.seq = seq then { e with done := some c, started := true, dma := none } else e) }
    if ringKind s r = rkSQ then
      match cqOf s r with
      | some a => flushRing (s.setRing a { s.ring a with wait := (s.ring a).wait ++ [(r, seq, d.tag, c, d.irq)] }) a
      | none => s
    else flushRing s r

/-- R528: counts an item dropped by policy or quota against its instance. -/
def countDrop (s : State) (inst status : Nat) : State :=
  if status = stDROPPED_QUOTA then s.bump (INS_CNT_QUOTA_COUNT inst)
  else if status = stDROPPED_POLICY then s.bump (INS_CNT_POLICY_COUNT inst)
  else s

/-- An item ends with one status; each descriptor carries its own LENGTH. -/
def finishItem (s : State) (r : Nat) (item : List Desc) (status : Nat) (len : Desc → Nat) : State :=
  let s := countDrop s (ringInst s r) status
  item.foldl (fun s d => finish s r d.seq { status := status, length := len d }) s

/-- The descriptor's data goes to host memory: the record `c` follows when that DMA completes. -/
def awaitDma (s : State) (r seq : Nat) (c : Cpl) : State :=
  let q := s.ring r
  s.setRing r { q with descs := q.descs.map (fun e => if e.seq = seq then { e with started := true, dma := some c } else e) }

/-- Marks the descriptors of an item as started. -/
def startItem (s : State) (r : Nat) (item : List Desc) : State :=
  let q := s.ring r
  s.setRing r { q with descs := q.descs.map (fun e => if item.any (fun d => d.seq == e.seq) then { e with started := true } else e) }

/-! ### Items (R506, R507, R512, R516) -/

/-- The descriptors up to and with the first one that has CHAIN = 0. -/
def chainOf : List Desc → List Desc
  | [] => []
  | d :: t => if d.chain then d :: chainOf t else [d]

/-- R516: the item that ring `r` of kind `kind` starts next: the oldest one not started, with its FENCE satisfied. -/
def nextItem (s : State) (r kind : Nat) : Option (List Desc) :=
  let ds := (s.ring r).descs
  if ringRunning s r && ringKind s r == kind && busMaster s (ringInst s r) then
    match ds.dropWhile (fun d => d.started || d.done.isSome) with
    | d :: t =>
      if d.formed && (!d.fence || (ds.head?.map (·.seq)) == some d.seq) then some (chainOf (d :: t)) else none
    | [] => none
  else none

/-- R512: the checks of Table 13.5 and 13.6 that a descriptor alone decides, by kind. -/
def descBad (kind : Nat) (d : Desc) : Bool :=
  d.fld 3 16 5 != 0 ||
  (if kind = rkTX then d.opc != 0x01 && d.opc != 0x10
   else if kind = rkRX then d.opc != 1 || d.len < 64 || 65535 < d.len || (d.w.drop 4).any (· != 0)
   else if kind = rkSQ then d.opc == 0 || 5 < d.opc
   else if kind = rkTELEMETRY then d.opc != 1 || d.len < 256 || 65535 < d.len || (d.w.drop 4).any (· != 0)
   else if kind = rkSETPOINT then
     d.opc != 1 || d.addr != 0 || d.len != 0 || d.fld 4 8 2 == 0 || d.fld 4 2 6 != 0 || d.fld 4 10 22 != 0
   else if kind = rkLEDGER then d.opc != 1 || d.kw 2 == 0 || 256 < d.kw 2 || d.len < 512 * d.kw 2
   else if kind = rkSECURITY then d.opc != 1 || d.len < 8 || 1024 < d.len || d.kw 2 < 1024 || d.kw 3 != 0
   else true)

/-- R616: what a TX item must hold besides: a frame of 60 to 9,216 bytes, or 1–64 table records in one buffer. -/
def txBad (item : List Desc) (maxLen : Nat) : Bool :=
  match item with
  | [] => true
  | d :: t =>
    let total := item.foldl (fun a e => a + e.len) 0
    if t.any (fun e => e.opc != d.opc) then true
    else if d.opc = 0x01 then
      total < 60 || maxLen < total || d.fld 4 16 13 != 0 || d.fld 5 3 28 != 0 || d.kw 2 != 0 || d.kw 3 != 0 ||
        t.any (fun e => (e.w.drop 4).any (· != 0))
    else !t.isEmpty || d.len % 96 != 0 || d.len == 0 || 64 * 96 < d.len || (d.w.drop 4).any (· != 0)

/-- R511, R507, R512, R46: the fetch of the next descriptor of ring `r` ends: `ok` with the eight words in `w`. -/
def descFetch (s : State) (r : Nat) (ok : Bool) (w : Nat) (maxLen : Nat) : State :=
  let q := s.ring r
  if !ringRunning s r || q.next == q.tail || !busMaster s (ringInst s r) || ringKind s r == rkCQ then s
  else
    let kind := ringKind s r
    let d : Desc := { seq := q.next, w := if ok then (List.range 8).map (fun k => bits w (32 * k) 32) else [] }
    let run := q.descs.filter (fun e => !e.formed && e.done.isNone) ++ [d]
    let s := s.setRing r { q with next := wrap 32 (q.next + 1), descs := q.descs ++ [d] }
    let fail (s : State) (l : List Desc) (st : Nat) : State := finishItem s r l st (fun _ => 0)
    let chainFail (s : State) (b : Bool) : State := s.setRing r { s.ring r with chainFail := b }
    if !ok then fail (chainFail s false) run stFAILED_DMA
    else if q.chainFail then fail (chainFail s d.chain) [d] stFAILED_FORMAT
    else if d.chain && (kind != rkTX || 16 ≤ run.length) then fail (chainFail s true) run stFAILED_FORMAT
    else if d.chain then s
    else if run.any (descBad kind) || (kind == rkTX && txBad run maxLen) then fail s run stFAILED_FORMAT
    else if kind == rkSETPOINT && s.flag BOOT_STAGE_RESTRICTED then fail s run stABORTED_COMPAT
    else
      let q := s.ring r
      s.setRing r { q with descs := q.descs.map (fun e => if run.any (fun x => x.seq == e.seq) then { e with formed := true } else e) }

/-- R496: a host DMA of descriptor `seq` completes, or fails after `moved` bytes: data going to the host, or an item's buffers
being read. -/
def hostDmaDone (s : State) (r seq : Nat) (ok : Bool) (moved : Nat) : State :=
  match (s.ring r).descs.find? (fun d => d.seq == seq && d.done.isNone) with
  | none => s
  | some d => match d.dma with
    | some c => finish s r seq (if ok then c else { status := stFAILED_DMA, length := moved })
    | none =>
      if ok then s
      else match nextItem s r (ringKind s r) with
        | some item =>
          if item.any (fun e => e.seq == seq) then finishItem s r item stFAILED_DMA (fun e => if e.seq = seq then moved else 0) else s
        | none => s

/-! ### Enable and disable (R503–R505, R520, R525) -/

def rrOK : Nat := 0
def rrBAD_ARG : Nat := 2
def rrDENIED : Nat := 3
def rrNO_RESOURCE : Nat := 4
def rrEXISTS : Nat := 7

/-- Sizes of the enabled rings that satisfy `p`, added up. -/
def sumN (s : State) (p : Nat → Bool) : Nat :=
  ((knownRings s).filter (fun r => ringState s r != rsDISABLED && p r)).foldl (fun a r => a + ringN s r) 0

/-- The vector count of a function (R517). -/
def vectorsOf (s : State) (n : Nat) : Nat := bits (s.get (INS_PANTRY_WORD n 7)) 16 8

/-- R503, R525, R537, R538: the answer to an enable of ring `r` with the context as it stands. -/
def enableCheck (s : State) (r : Nat) : Nat :=
  let n := ringInst s r
  let kind := ringKind s r
  let l := s.get (HIF_RING_CTX0_LOG2N r)
  let cq := cqOf s r
  let stream := s.get (HIF_RING_CTX6_STREAM r)
  if l < 6 ∨ 16 < l ∨ wrap 12 (s.get (HIF_RING_CTX1_DESC_BASE r)) ≠ 0 ∨ wrap 12 (s.get (HIF_RING_CTX3_CPL_BASE r)) ≠ 0 ∨ 7 < kind ∨
      vectorsOf s n ≤ s.get (HIF_RING_CTX5_VEC r) ∨
      (s.get (HIF_RING_CTX5_COAL_US r) = 0 ∧ 1 < s.get (HIF_RING_CTX5_COAL_CNT r)) then rrBAD_ARG
  else if kind = rkSQ ∧ (match cq with
      | none => true
      | some a => ringKind s a != rkCQ || !ringRunning s a ||
          ringN s a < ringN s r + sumN s (fun x => ringKind s x == rkSQ && cqOf s x == some a && ringInst s x == n)) = true then rrBAD_ARG
  else if kind = rkSETPOINT ∧ !(List.range 4).any (fun c => s.flag (INS_SPGRANT_VALID c) && s.get (INS_SPGRANT_INSTANCE c) == n) then rrDENIED
  else if kind = rkTELEMETRY ∧ !(if stream = 1 then s.flag INS_MOTION_VALID && s.get INS_MOTION_INSTANCE == n
      else 0x100 ≤ stream && stream < 0x200 && s.flag (INS_STREAM_GRANTED (stream - 0x100)) &&
        s.get (INS_STREAM_INSTANCE (stream - 0x100)) == n) then rrDENIED
  else if kind = rkTELEMETRY ∧ (if stream = 1 then s.flag INS_MOTION_RING_VALID else s.flag (INS_STREAM_VALID (stream - 0x100))) then rrEXISTS
  else if 1048576 < ringN s r + sumN s (fun x => ringInst s x == n) then rrNO_RESOURCE
  else rrOK

/-- R37: no setpoint of ring `r` is held for another attempt any more. -/
def spForgetRing (s : State) (r : Nat) : State := { s with ins := { s.ins with held := s.ins.held.filter (fun e => e.1 != r) } }

/-- R504, R537, R538: ring `r` is enabled. -/
def enableRing (s : State) (r : Nat) : State :=
  let s := ((spForgetRing s r).setRing r {}).puts [(HIF_RING_CTX0_EN r, 1), (HIF_RING_CTX7_STATE r, rsRUNNING), (HIF_RING_CTX7_DBERR r, 0)]
  let stream := s.get (HIF_RING_CTX6_STREAM r)
  if ringKind s r ≠ rkTELEMETRY then s
  else if stream = 1 then s.puts [(INS_MOTION_RING_VALID, 1), (INS_MOTION_RING_RING, r)]
  else s.puts [(INS_STREAM_VALID (stream - 0x100), 1), (INS_STREAM_RING (stream - 0x100), r)]

/-- R537, R542: ring `r` is no longer recorded for a stream. -/
def unrecordRing (s : State) (r : Nat) : State :=
  let stream := s.get (HIF_RING_CTX6_STREAM r)
  if ringKind s r ≠ rkTELEMETRY then s
  else if stream = 1 then
    s.when (s.flag INS_MOTION_RING_VALID && s.get INS_MOTION_RING_RING == r) (fun s => s.puts [(INS_MOTION_RING_VALID, 0), (INS_MOTION_RING_RING, 0)])
  else
    s.when (s.get (INS_STREAM_RING (stream - 0x100)) == r && s.flag (INS_STREAM_VALID (stream - 0x100)))
      (fun s => s.puts [(INS_STREAM_VALID (stream - 0x100), 0), (INS_STREAM_RING (stream - 0x100), 0)])

/-- Whether some STORAGE-SQ that completes into ring `r` is not yet DISABLED (R505). -/
def cqInUse (s : State) (r : Nat) : Bool :=
  ringKind s r == rkCQ && (knownRings s).any (fun x => ringKind s x == rkSQ && ringState s x != rsDISABLED && cqOf s x == some r)

/-- R505, step 1: fetching stops. -/
def drainRing (s : State) (r : Nat) : State :=
  if ringRunning s r then settleRing (spForgetRing ((unrecordRing s r).put (HIF_RING_CTX7_STATE r) rsDRAINING) r) r else s

/-- R505 steps 2 and 3, R624: what the drain leaves a descriptor with; `cut` gives the bytes committed of a transfer that was
cut. -/
def squashCpl (kind : Nat) (d : Desc) (cut : List (Nat × Nat)) : Cpl :=
  if kind = rkSQ then
    if d.started && d.opc == 0x02 then { status := stPARTIAL_RESET, length := d.len } else { status := stSQUASHED_RESET }
  else match cut.find? (fun e => e.1 == d.seq) with
    | some (_, n) => if n = 0 then { status := stSQUASHED_RESET } else { status := stPARTIAL_RESET, length := n }
    | none => { status := stSQUASHED_RESET }

/-- R512: what a disable or reset makes of an outcome whose record is not written yet: SQUASHED_RESET where no byte was committed,
else PARTIAL_RESET. -/
def cutOutcome (c : Cpl) : Cpl :=
  if c.length = 0 then { status := stSQUASHED_RESET } else { status := stPARTIAL_RESET, length := c.length }

/-- R512, for the completions of STORAGE-SQ `r` that wait in its STORAGE-CQ. -/
def cutWaiting (s : State) (r : Nat) : State :=
  match if ringKind s r = rkSQ then cqOf s r else none with
  | some a => s.setRing a { s.ring a with wait := (s.ring a).wait.map (fun e =>
      if e.1 = r then (e.1, e.2.1, e.2.2.1, cutOutcome e.2.2.2.1, e.2.2.2.2) else e) }
  | none => s

/-- R505, R512: a DRAINING ring completes every descriptor below its TAIL whose record is not written. -/
def squashRing (s : State) (r : Nat) (cut : List (Nat × Nat)) : State :=
  if ringState s r ≠ rsDRAINING then s
  else
    let q := s.ring r
    let n := wrap 32 (q.tail + 2 ^ 32 - q.next)
    let rest : List Desc := (List.range n).map (fun i => { seq := wrap 32 (q.next + i), w := [] })
    let s := s.setRing r { q with next := q.tail, descs := q.descs.map (fun d => { d with done := d.done.map cutOutcome }) ++ rest }
    let s := cutWaiting s r
    let s : State := { s with net := { s.net with ssd := s.net.ssd.map (fun c => if c.ring = r then { c with dead := true } else c) } }
    let s := (s.ring r).descs.foldl (fun s d => if d.done.isSome then s else finish s r d.seq (squashCpl (ringKind s r) d cut)) s
    flushRing s r

/-- R520: a write of `v` to HIF_RING_CTXk of the ring that RING_IDX selects. -/
def ringCtxWrite (s : State) (m k v : Nat) : State :=
  if !isMC m then s.refuseWrite m 18 (0x24 + 4 * k)
  else
    let r := s.get HIF_RING_IDX_RING
    let ign := s.put HIF_STAT_CFG_IGN 1
    let dis := ringState s r == rsDISABLED
    if k = 0 then
      let en := bit v 31
      if dis then
        let t := s.puts [(HIF_RING_CTX0_KIND r, bits v 27 4), (HIF_RING_CTX0_LOG2N r, bits v 22 5), (HIF_RING_CTX0_INST r, bits v 15 7),
          (HIF_RING_CTX0_LOCAL r, bits v 0 13)]
        if !en then t
        else if enableCheck t r = rrOK then enableRing t r
        else ign
      else if !en && ringRunning s r && !cqInUse s r then drainRing s r
      else ign
    else if !dis then ign
    else if k = 1 then s.put (HIF_RING_CTX1_DESC_BASE r) v
    else if k = 2 then s.put (HIF_RING_CTX2_DESC_BASE r) v
    else if k = 3 then s.put (HIF_RING_CTX3_CPL_BASE r) v
    else if k = 4 then s.put (HIF_RING_CTX4_CPL_BASE r) v
    else if k = 5 then
      s.puts [(HIF_RING_CTX5_IRQ_EN r, bits v 31 1), (HIF_RING_CTX5_VEC r, bits v 24 7), (HIF_RING_CTX5_COAL_CNT r, bits v 16 8),
        (HIF_RING_CTX5_COAL_US r, bits v 0 10)]
    else if k = 6 then s.puts [(HIF_RING_CTX6_STREAM r, bits v 16 16), (HIF_RING_CTX6_CQ r, bits v 0 13)]
    else s

/-! ### Doorbells (R513–R515, R575) -/

/-- R514: a discarded slot write. -/
def doorbellBad (s : State) (n : Nat) (r : Option Nat) : State :=
  let s := match r with
    | some r => s.bump (HIF_RING_CTX7_DBERR r)
    | none => s
  let s := { s with hif := { s.hif with dberr := s.hif.dberr.set n (satAdd 32 (s.hif.dberr.get 0 n) 1) } }
  s.bump HIF_DB_ERR_CNT_COUNT

/-- R571, R575: an accepted TAIL advance of ring `r` wakes the threads that name it. -/
def ringWake (s : State) (r : Nat) : State :=
  (List.range 256).foldl (fun s k =>
    if s.flag (PXE_RWAKE_EN k) && s.get (PXE_RWAKE_RING k) == r then threadWake s (s.get (PXE_RWAKE_PT k)) causeRING else s) s

/-- The ring that slot `l` of function `n` serves, of whatever state. -/
def slotRing (s : State) (n l : Nat) : Option Nat :=
  (ringOf s n l).orElse (fun _ => (knownRings s).find? (fun r => ringInst s r == n && ringLocal s r == l))

/-- R513, R514: a write to slot `l` of function `n`: of the whole slot (`wide`), of its low or of its high word. -/
def slotWrite (s : State) (n l : Nat) (wide high : Bool) (v : Nat) : State :=
  match slotRing s n l with
  | none => doorbellBad s n none
  | some r =>
    let q := s.ring r
    let x := wrap 32 v
    if !ringRunning s r || (wide && bits v 32 32 != 0) || (!wide && high) then doorbellBad s n (some r)
    else if ringKind s r = rkCQ then
      if wrap 32 (x + 2 ^ 32 - q.chead) ≤ wrap 32 (q.w + 2 ^ 32 - q.chead) then flushRing (s.setRing r { q with chead := x }) r
      else doorbellBad s n (some r)
    else if wrap 32 (x + 2 ^ 32 - q.tail) < 2 ^ 31 ∧ wrap 32 (x + 2 ^ 32 - ringC s r) ≤ ringN s r then
      let s' := s.setRing r { q with tail := x }
      if x = q.tail then s' else ringWake s' r
    else doorbellBad s n (some r)

/-- R513: a read of slot `l`: the last TAIL or CHEAD below W; 0 without an enabled ring. -/
def slotRead (s : State) (n l : Nat) : State :=
  match ringOf s n l with
  | none => s.answer 0
  | some r =>
    let q := s.ring r
    s.answer ((if ringKind s r = rkCQ then q.chead else q.tail) + q.w * 2 ^ 32)

/-- R495: Bus Master Enable of function `n` changes; records and vectors held meanwhile follow when it returns. -/
def bmeChange (s : State) (n : Nat) (on : Bool) : State :=
  let s := { s with hif := { s.hif with bme := s.hif.bme.set n on } }
  if !on then s
  else
    let s := (knownRings s).foldl (fun s r => if ringInst s r = n then flushRing s r else s) s
    (List.range 128).foldl (fun s v => if (s.msix n v).pba && !(s.msix n v).mask then msixRequest s n v else s) s

/-- The values of the block computed when read. -/
def liveHif (s : State) (k : FKey) : Option Nat :=
  if k = (HIF_RING_CTX7_OUTSTANDING k.i).key then some (wrap 32 ((s.ring k.i).tail + 2 ^ 32 - ringC s k.i)) else none

end Sys2Proof.Machine
end

