-- ==== Sys2Proof/Machine/NetTables.lean ====
section
/-! DEFINITION. The datapath's tables (R587–R592, R598–R601, R606, R611, R613, R614, R620): rights, writes, reads, keys. -/
namespace Sys2Proof.Machine
open Sys2Proof.Reg

def tkVLAN : Nat := 1
def tkVPORT : Nat := 2
def tkFDB : Nat := 3
def tkFLOW : Nat := 4
def tkTEMPLATE : Nat := 5
def tkSA : Nat := 6
def tkSC : Nat := 7
def tkNS : Nat := 8

/-- RESULT codes (Table 16.3). -/
def trOK : Nat := 0
def trBAD_ARG : Nat := 1
def trNO_RESOURCE : Nat := 2
def trEXISTS : Nat := 3
def trNOT_FOUND : Nat := 4
def trDENIED : Nat := 5
def trFULL : Nat := 6
def trKEY_INVALID : Nat := 7

def tabKey (t i : Nat) : Nat := t * 2 ^ 32 + i

/-- The entry of a table at a global index. -/
def State.ent? (s : State) (t i : Nat) : Option TabEnt := (s.net.tab.find? (fun e => e.1 == tabKey t i)).map (·.2)
def State.setEnt (s : State) (t i : Nat) (v : TabEnt) : State := { s with net := { s.net with tab := s.net.tab.set (tabKey t i) v } }
def State.delEnt (s : State) (t i : Nat) : State := { s with net := { s.net with tab := s.net.tab.erase (tabKey t i) } }

/-- R589: notes the entry as it stood at the start of this nanosecond, before a record changes it. -/
def State.keep (s : State) (t i : Nat) : State :=
  if ((s.net.tabOld.get none (tabKey t i)).map (·.1)) = some s.T then s
  else { s with net := { s.net with tabOld := s.net.tabOld.set (tabKey t i) (some (s.T, s.ent? t i)) } }

/-- R589: the entry that a lookup sees: as it stood at the start of the nanosecond in which a record changes it. -/
def State.look (s : State) (t i : Nat) : Option TabEnt :=
  match s.net.tabOld.get none (tabKey t i) with
  | some (t0, o) => if t0 = s.T then o else s.ent? t i
  | none => s.ent? t i

/-- The entries of a table, with their indices. -/
def State.ents (s : State) (t : Nat) : List (Nat × TabEnt) :=
  (s.net.tab.filter (fun e => e.1 / 2 ^ 32 == t)).map (fun e => (e.1 % 2 ^ 32, e.2))

/-- The little-endian field of `n` bytes at offset `o` of an entry's image. -/
def TabEnt.f (e : TabEnt) (o n : Nat) : Nat := le e.img o n
def TabEnt.flag (e : TabEnt) (o b : Nat) : Bool := bit (e.f o 2) b

/-- A Pantry field of instance `n`: bits of the creation word Fj (Table 14.3). -/
def pantry (s : State) (n j lo w : Nat) : Nat := bits (s.get (INS_PANTRY_WORD n j)) lo w

/-- Entries of a table charged to instance `n`; templates and flow entries share one count. -/
def tabCount (s : State) (t n : Nat) : Nat := ((s.ents t).filter (fun e => e.2.owner == n)).length

/-- R590: whether a lookup finds VLAN `vid` valid with the member bit that `f` reads. -/
def vlanAdmits (s : State) (vid : Nat) (f : TabEnt → Bool) : Bool :=
  match s.look tkVLAN vid with
  | some v => v.flag 0 0 && f v
  | none => false

/-- Whether VLAN `vid` has instance `n` in its vport mask. -/
def vlanHolds (s : State) (vid n : Nat) : Bool :=
  match s.ent? tkVLAN vid with
  | some v => v.flag 0 0 && bit (v.f 8 16) n
  | none => false

/-- Whether some VLAN of FID `fid` has instance `n` in its vport mask. -/
def fidHolds (s : State) (fid n : Nat) : Bool :=
  (s.ents tkVLAN).any (fun e => e.2.flag 0 0 && e.2.f 2 2 == fid && bit (e.2.f 8 16) n)

/-- Who sends a record: the manager or a thread (`none`), or tenant `n` (Table 16.4). -/
abbrev Requester := Option Nat

/-! ### The FDB and the flow table (R592, R599, R600) -/

def fdbIs (fid mac : Nat) (e? : Option TabEnt) : Bool :=
  match e? with
  | some e => be e.img 0 6 == mac && e.f 6 2 == fid
  | none => false

def fdbFind (s : State) (fid mac : Nat) : Option Nat :=
  ((List.range 4).map (fun k => 4 * fdbSet fid mac + k)).find? (fun i => fdbIs fid mac (s.ent? tkFDB i))

/-- R592, R589: the FDB entry that a lookup finds. -/
def fdbLook (s : State) (fid mac : Nat) : Option TabEnt :=
  ((List.range 4).map (fun k => s.look tkFDB (4 * fdbSet fid mac + k))).findSome? (fun e => if fdbIs fid mac e then e else none)

def fdbFree (s : State) (fid mac : Nat) : Option Nat :=
  ((List.range 4).map (fun k => 4 * fdbSet fid mac + k)).find? (fun i => (s.ent? tkFDB i).isNone)

/-- The eight slots in which an entry with key `k` may lie. -/
def flowSlots (k : List Byte) : List Nat :=
  (List.range 4).map (fun j => 4 * bucket1 k + j) ++ (List.range 4).map (fun j => 4 * bucket2 k + j)

def flowIs (k : List Byte) (e? : Option TabEnt) : Bool :=
  match e? with
  | some e => !e.tmpl && e.img.take 48 == k
  | none => false

def flowFind (s : State) (k : List Byte) : Option Nat := (flowSlots k).find? (fun i => flowIs k (s.ent? tkFLOW i))

/-- R598, R589: the index of the flow entry that a lookup finds. -/
def flowLook (s : State) (k : List Byte) : Option Nat := (flowSlots k).find? (fun i => flowIs k (s.look tkFLOW i))

def flowFree (s : State) (k : List Byte) : Option Nat := (flowSlots k).find? (fun i => (s.ent? tkFLOW i).isNone)

/-- The highest-numbered free flow slot (R600). -/
def flowTop (s : State) : Option Nat :=
  ((List.range (min 262144 ((s.ents tkFLOW).length + 1))).map (fun k => 262143 - k)).find? (fun i => (s.ent? tkFLOW i).isNone)

def flowBase (s : State) : Nat := s.get NET_FLOW_BASE_LO_BASE + s.get NET_FLOW_BASE_HI_BASE * 2 ^ 32

/-- R601: the statistics record of an index. -/
def statBytes (e : TabEnt) : List Byte := leBytes 4 (e.lastT / 65536) ++ leBytes 4 e.pkts ++ leBytes 8 e.bytes

/-- Stores a flow or template entry, with its image and statistics in DRAM. -/
def setFlow (s : State) (i : Nat) (e : TabEnt) : State :=
  let s := s.setEnt tkFLOW i e
  (s.setBytes (flowBase s + 64 * i) (fix 64 e.img)).setBytes (flowBase s + 16777216 + 16 * i) (statBytes e)

def delFlow (s : State) (i : Nat) : State :=
  let s := s.delEnt tkFLOW i
  let s := { s with net := { s.net with cache := s.net.cache.filter (· ≠ i) } }
  (s.clearRange (flowBase s + 64 * i) 64).clearRange (flowBase s + 16777216 + 16 * i) 16

/-! ### Entry states (Table 16.7, R614) -/

/-- STATE of an SA or SC: 0 IDLE, 1 LIVE, 2 SOFT, 3 EXPIRED, 4 KEY_LOST; `o` is the offset of its STATE byte. -/
def entState (e : TabEnt) (o : Nat) : Nat :=
  if e.lost then 4
  else if e.f o 1 = 2 ∨ e.f o 1 = 3 then e.f o 1
  else if e.flag 0 0 && !e.key.isEmpty then 1 else 0

/-- The image that a READ returns. -/
def readImage (t : Nat) (e : TabEnt) : List Byte :=
  let img := fix 64 e.img
  let img := if t = tkSA then patch (if e.flag 0 1 then patch img 8 (leBytes 8 e.hi) else img) 28 (leBytes 1 (entState e 28))
    else if t = tkSC then patch img 24 (leBytes 1 (entState e 24))
    else img
  if t = tkFLOW then img ++ statBytes e else fix 80 img

/-! ### Writes -/

/-- The answer of a record: the state, RESULT and the image. -/
abbrev RecAns := State × Nat × List Byte

def denyRec (s : State) (r : Nat) (img : List Byte) : RecAns := (s, r, img)

def wrVlan (s : State) (rq : Requester) (idx : Nat) (img : List Byte) : RecAns :=
  if rq.isSome then denyRec s trDENIED img
  else if idx = 0 ∨ 4095 ≤ idx ∨ 4095 < le img 2 2 then denyRec s trBAD_ARG img
  else ((s.keep tkVLAN idx).setEnt tkVLAN idx { img := img.take 28 }, trOK, img)

/-- The vport of instance `who`. -/
def wrVport (s : State) (rq : Requester) (who : Nat) (img : List Byte) : RecAns :=
  if 4 < le img 6 1 ∨ 2 < le img 7 1 ∨ 15 < le img 8 1 ∨ 4095 < le img 0 2 then denyRec s trBAD_ARG img
  else match rq with
    | none => ((s.keep tkVPORT who).setEnt tkVPORT who { img := img.take 9, owner := who }, trOK, img)
    | some _ =>
      let old := match s.ent? tkVPORT who with | some e => fix 9 e.img | none => List.replicate 9 0
      ((s.keep tkVPORT who).setEnt tkVPORT who { img := patch old 4 (slice img 4 3), owner := who }, trOK, img)

def wrFdb (s : State) (rq : Requester) (who idx : Nat) (img : List Byte) : RecAns :=
  let mac := be img 0 6
  let fid := le img 6 2
  let kind := le img 9 1
  let dest := le img 10 1
  let ok := fid < 4096 && le img 8 1 < 2 && kind < 3 && (if kind = 0 then dest < 6 else if kind = 1 then dest < 128 else dest < 16)
  let allowed := match rq with | none => true | some n => kind == 1 && dest == n && fidHolds s fid n
  let e : TabEnt := { img := patch (fix 12 img) 11 (leBytes 1 who), owner := who, lastT := s.T }
  if !ok then denyRec s trBAD_ARG img
  else if !allowed then denyRec s trDENIED img
  else match fdbFind s fid mac with
    | some i =>
      if i ≠ idx then denyRec s trEXISTS img
      else if rq.isSome && ((s.ent? tkFDB i).map (·.owner)) != some who then denyRec s trDENIED img
      else ((s.keep tkFDB i).setEnt tkFDB i e, trOK, img)
    | none =>
      if pantry s who 3 0 15 ≤ tabCount s tkFDB who then denyRec s trNO_RESOURCE img
      else match fdbFree s fid mac with
        | some i => ((s.keep tkFDB i).setEnt tkFDB i e, trOK, img)
        | none => denyRec s trFULL img

/-- Whether tenant `n` may hold this flow image (Table 16.4). -/
def flowRight (rq : Requester) (img : List Byte) : Bool :=
  match rq with
  | none => true
  | some n => le img 0 1 == n || (bits (le img 48 4) 28 4 == 2 && bits (le img 48 4) 16 8 == n)

def wrFlow (s : State) (rq : Requester) (who idx : Nat) (img : List Byte) : RecAns :=
  let k := img.take 48
  let e : TabEnt := { img := patch (img.take 64) 62 (leBytes 1 who), owner := who }
  if 4 < bits (le img 48 4) 28 4 ∨ 5 < bits (le img 48 4) 24 4 then denyRec s trBAD_ARG img
  else if !flowRight rq img then denyRec s trDENIED img
  else match flowFind s k with
    | some i =>
      if i ≠ idx then denyRec s trEXISTS img
      else if rq.isSome && ((s.ent? tkFLOW i).map (·.owner)) != some who then denyRec s trDENIED img
      else (setFlow (s.keep tkFLOW i) i e, trOK, img)
    | none =>
      if pantry s who 4 0 19 ≤ tabCount s tkFLOW who then denyRec s trNO_RESOURCE img
      else if idx = 0xFFFFFFFF then
        match flowFree s k with
        | some i => (setFlow (s.keep tkFLOW i) i e, trOK, patch img 0 (leBytes 4 i))
        | none => denyRec s trFULL img
      else if !(flowSlots k).contains idx then denyRec s trBAD_ARG img
      else if (s.ent? tkFLOW idx).isSome then denyRec s trEXISTS img
      else (setFlow (s.keep tkFLOW idx) idx e, trOK, img)

def wrTemplate (s : State) (who idx : Nat) (img : List Byte) : RecAns :=
  let e : TabEnt := { img := img.take 64, tmpl := true, owner := who }
  let new (i : Nat) (out : List Byte) : RecAns :=
    if pantry s who 4 0 19 ≤ tabCount s tkFLOW who then denyRec s trNO_RESOURCE img else (setFlow (s.keep tkFLOW i) i e, trOK, out)
  if idx = 0xFFFFFFFF then
    match flowTop s with
    | some i => new i (patch img 0 (leBytes 4 i))
    | none => denyRec s trFULL img
  else if 262144 ≤ idx then denyRec s trBAD_ARG img
  else match s.ent? tkFLOW idx with
    | none => new idx img
    | some o => if o.tmpl && o.owner == who then (setFlow (s.keep tkFLOW idx) idx e, trOK, img) else denyRec s trEXISTS img

/-- The keys and counts that a rewritten entry keeps. -/
def keepKeys (old : Option TabEnt) (img : List Byte) (who : Nat) : TabEnt :=
  match old with
  | some o => { img := img, owner := who, key := o.key, lost := o.lost, pkts := 0, bytes := 0 }
  | none => { img := img, owner := who }

def wrSa (s : State) (who idx : Nat) (img : List Byte) : RecAns :=
  let fl := le img 0 2
  let tmplOk := match s.ent? tkFLOW (le img 24 4) with | some t => t.tmpl && t.owner == who | none => false
  let out := !bit fl 1
  if le img 4 4 < 256 ∨ 2 < bits fl 6 2 ∨ 5 < bits fl 8 3 ∨ (out ∧ bit fl 2 ∧ !tmplOk) ∨ (out ∧ le img 8 8 = 0) ∨
      (le img 2 1 ≠ 0 ∧ (le img 2 1 < 50 ∨ 99 < le img 2 1)) then denyRec s trBAD_ARG img
  else if pantry s who 5 16 13 ≤ idx then denyRec s trNO_RESOURCE img
  else
    let i := who * 4096 + idx
    ((s.keep tkSA i).setEnt tkSA i (keepKeys (s.ent? tkSA i) (patch (img.take 64) 28 [0]) who), trOK, img)

def wrSc (s : State) (who idx : Nat) (img : List Byte) : RecAns :=
  let fl := le img 0 2
  let i := who * 64 + idx % 65536
  let other := (s.ents tkSC).any (fun e => e.1 != i && e.2.flag 0 0 && !e.2.flag 0 1 && e.2.f 2 1 == le img 2 1)
  if 5 < le img 2 1 ∨ 2 < bits fl 4 2 ∨ 3 < le img 3 1 then denyRec s trBAD_ARG img
  else if pantry s who 5 0 7 ≤ idx % 65536 then denyRec s trNO_RESOURCE img
  else if bit fl 0 && !bit fl 1 && other then denyRec s trEXISTS img
  else ((s.keep tkSC i).setEnt tkSC i (keepKeys (s.ent? tkSC i) (patch (img.take 32) 24 [0]) who), trOK, img)

def wrNs (s : State) (rq : Requester) (who idx : Nat) (img : List Byte) : RecAns :=
  let i := who * 128 + idx
  let lo := le img 8 8
  let n := le img 16 8
  let overlap := (s.ents tkNS).any (fun e => e.1 != i && e.2.flag 0 0 && e.2.f 4 4 == le img 4 4 && lo < e.2.f 8 8 + e.2.f 16 8 && e.2.f 8 8 < lo + n)
  if rq.isSome then denyRec s trDENIED img
  else if le img 2 1 ≠ 9 ∧ le img 2 1 ≠ 12 then denyRec s trBAD_ARG img
  else if pantry s who 7 0 8 ≤ idx then denyRec s trNO_RESOURCE img
  else if bit (le img 0 2) 0 && overlap then denyRec s trEXISTS img
  else ((s.keep tkNS i).setEnt tkNS i (keepKeys (s.ent? tkNS i) (img.take 24) who), trOK, img)

/-- A WRITE record for the instance `who` (R587, R588). -/
def tableWrite (s : State) (rq : Requester) (t who idx : Nat) (img : List Byte) : RecAns :=
  if t = tkVLAN then wrVlan s rq idx img
  else if t = tkVPORT then wrVport s rq who img
  else if t = tkFDB then wrFdb s rq who idx img
  else if t = tkFLOW then wrFlow s rq who idx img
  else if t = tkTEMPLATE then wrTemplate s who idx img
  else if t = tkSA then wrSa s who idx img
  else if t = tkSC then wrSc s who idx img
  else if t = tkNS then wrNs s rq who idx img
  else denyRec s trBAD_ARG img

/-- The table and the global index that a record's TABLE and INDEX name for the instance `who`. -/
def recKey (t who idx : Nat) : Nat × Nat :=
  if t = tkVPORT then (tkVPORT, who)
  else if t = tkTEMPLATE then (tkFLOW, idx)
  else if t = tkSA then (tkSA, who * 4096 + idx % 4096)
  else if t = tkSC then (tkSC, who * 64 + idx % 64)
  else if t = tkNS then (tkNS, who * 128 + idx % 128)
  else (t, idx)

/-- Whether the requester may read (`del` false) or delete an entry (Table 16.4). -/
def entRight (s : State) (rq : Requester) (t idx : Nat) (e : TabEnt) (del : Bool) : Bool :=
  match rq with
  | none => true
  | some n =>
    if t = tkVLAN then !del && vlanHolds s idx n
    else if t = tkVPORT then !del
    else if t = tkFDB then e.f 9 1 == 1 && e.f 10 1 == n && fidHolds s (e.f 6 2) n
    else if t = tkFLOW then flowRight rq e.img
    else if t = tkNS then !del
    else e.owner == n

/-- A DELETE record. -/
def tableDelete (s : State) (rq : Requester) (t who idx : Nat) (img : List Byte) : RecAns :=
  let (k, i) := recKey t who idx
  match s.ent? k i with
  | none => denyRec s (if t = 0 ∨ 8 < t then trBAD_ARG else trNOT_FOUND) img
  | some e =>
    if (k = tkFLOW ∧ e.tmpl ≠ (t == tkTEMPLATE)) then denyRec s trNOT_FOUND img
    else if !entRight s rq t i e true then denyRec s trDENIED img
    else (if k = tkFLOW then delFlow (s.keep k i) i else (s.keep k i).delEnt k i, trOK, img)

/-- A READ record. -/
def tableRead (s : State) (rq : Requester) (t who idx : Nat) (img : List Byte) : RecAns :=
  let (k, i) := recKey t who idx
  match s.ent? k i with
  | none => denyRec s (if t = 0 ∨ 8 < t then trBAD_ARG else trNOT_FOUND) img
  | some e =>
    if (k = tkFLOW ∧ e.tmpl ≠ (t == tkTEMPLATE)) then denyRec s trNOT_FOUND img
    else if !entRight s rq t i e false then denyRec s trDENIED img
    else (s, trOK, readImage k e)

/-! ### Keys (R613, R614) -/

/-- The codes of `Config.cipher`: RFC 3394 key wrap and its inverse. -/
def ciWRAP : Nat := 1
def ciUNWRAP : Nat := 2

/-- Places a key: AN 0 for SAs and namespaces. -/
def putKey (s : State) (k i an : Nat) (e : TabEnt) (key : List Byte) : State :=
  s.setEnt k i { e with key := e.key.set an key, lost := false }

/-- The entry that a key record names, when the requester may load its key. -/
def keyEntry (s : State) (rq : Requester) (t who idx : Nat) : Nat ⊕ (Nat × Nat × Nat × TabEnt) :=
  if t < tkSA ∨ tkNS < t then .inl trBAD_ARG
  else
    let (k, i) := recKey t who idx
    let an := if t = tkSC then bits idx 16 2 else 0
    match s.ent? k i with
    | none => .inl trNOT_FOUND
    | some e => if rq.isSome && e.owner != who then .inl trDENIED else .inr (k, i, an, e)

def keyLoad (s : State) (rq : Requester) (t who idx : Nat) (img : List Byte) : RecAns :=
  match keyEntry s rq t who idx with
  | .inl r => denyRec s r img
  | .inr (k, i, an, e) =>
    let key := img.take 64
    if k = tkNS ∧ key.take 32 = (key.drop 32).take 32 then denyRec s trKEY_INVALID img
    else (putKey s k i an e key, trOK, fix 72 (Config.cipher ciWRAP s.sec.kwk [] key) ++ List.replicate 8 0)

def keyRestore (s : State) (rq : Requester) (t who idx : Nat) (img : List Byte) : RecAns :=
  match keyEntry s rq t who idx with
  | .inl r => denyRec s r img
  | .inr (k, i, an, e) =>
    let blob := img.take 72
    if !s.flag SEC_STAT_KWK_VALID || !Config.cipherOk ciWRAP s.sec.kwk [] blob then denyRec s trKEY_INVALID img
    else (putKey s k i an e (fix 64 (Config.cipher ciUNWRAP s.sec.kwk [] blob)), trOK, img)

/-- R614: every live tenant key becomes 0; what had one enters KEY_LOST. -/
def eraseTenantKeys (s : State) : State :=
  { s with net := { s.net with tab := s.net.tab.map (fun e => (e.1, if e.2.key.isEmpty then e.2 else { e.2 with key := [], lost := true })) } }

/-! ### Records (R587) -/

/-- Executes one record of 96 bytes for a requester; answers the record with RESULT and IMAGE filled in. -/
def execRecord (s : State) (rq : Requester) (rc : List Byte) : State × List Byte :=
  let rc := fix 96 rc
  let cmd := le rc 0 1
  let t := le rc 1 1
  let idx := le rc 4 4
  let inst := le rc 8 1
  let img := rc.drop 16
  let who := match rq with | none => inst | some n => n
  let ans : RecAns :=
    if (rq.isSome ∧ inst ≠ 0) ∨ 127 < who ∨ s.get (INS_INFO_INSTATE who) = 0 then denyRec s trBAD_ARG img
    else if cmd = 1 then tableWrite s rq t who idx img
    else if cmd = 2 then tableDelete s rq t who idx img
    else if cmd = 3 then tableRead s rq t who idx img
    else if cmd = 4 then keyLoad s rq t who idx img
    else if cmd = 5 then keyRestore s rq t who idx img
    else denyRec s trBAD_ARG img
  (ans.1, rc.take 2 ++ leBytes 1 ans.2.1 ++ slice rc 3 13 ++ fix 80 ans.2.2)

/-- The requester that instance `n` is: instance 0 is the manager. -/
def requesterOf (n : Nat) : Requester := if n = 0 then none else some n

/-- A record as a command of instance `n`: the answer is RESULT and the record's 96 bytes. -/
def recordCmd (s : State) (n cmd : Nat) (rc : List Byte) : State :=
  let (s, r) := execRecord s (requesterOf n) (leBytes 1 cmd ++ (fix 96 rc).drop 1)
  { s.answer (le r 2 1) with reply := r }

end Sys2Proof.Machine
end

