-- ==== Sys2Proof/Machine/Tsn.lean ====
section
/-! DEFINITION. Traffic scheduling (17_traffic_scheduling.md): gPTP time, gate control lists, scheduler nodes, policers, the
credit-based shaper, the starvation guard and the choice of the next frame. -/
namespace Sys2Proof.Machine
open Sys2Proof.Reg

def State.node (s : State) (n : Nat) : Node := s.tsn.node.get {} n
def State.setNode (s : State) (n : Nat) (v : Node) : State := { s with tsn := { s.tsn with node := s.tsn.node.set n v } }
def State.tcq (s : State) (p c : Nat) : TcQ := s.tsn.tcq.get {} (8 * p + c)
def State.setTcq (s : State) (p c : Nat) (v : TcQ) : State := { s with tsn := { s.tsn with tcq := s.tsn.tcq.set (8 * p + c) v } }
def State.ptx (s : State) (p : Nat) : PortTx := s.tsn.port.get {} p
def State.setPtx (s : State) (p : Nat) (v : PortTx) : State := { s with tsn := { s.tsn with port := s.tsn.port.set p v } }
def State.gcl (s : State) (p : Nat) : Gcl := s.tsn.gcl.get {} p
def State.setGcl (s : State) (p : Nat) (v : Gcl) : State := { s with tsn := { s.tsn with gcl := s.tsn.gcl.set p v } }

/-- R, in Mb/s. -/
def portRate (s : State) (p : Nat) : Nat := s.get (TSN_PORT_RATE_MBPS p)

def gateOpen (s : State) (p c : Nat) : Bool := bit (s.get (TSN_PORT_GCL_STAT_GATES p)) c

/-- R650, R652: preemption is active on port `p`. -/
def preemptOn (s : State) (p : Nat) : Bool := p < 6 && s.flag (TSN_PORT_CFG_PREEMPT_EN p) && s.flag (TSN_PORT_STAT_VERIFIED p)
def preemptable (s : State) (p c : Nat) : Bool := preemptOn s p && s.flag (TSN_TC_CFG_PREEMPT p c)

/-! ### Credit and waiting (R653, R657) -/

/-- The nodes of (p, c) that hold frames, in the order of their round. -/
def tcEmpty (s : State) (p c : Nat) : Bool := (s.tcq p c).round.isEmpty

/-- The frame of the port that is in transmission has TC `c`. -/
def tcSending (s : State) (p c : Nat) : Bool := ((s.ptx p).cur.map (·.tc)) == some c

/-- The credit of (p, c) at T, in 10^-6 bit. -/
def creditAt (s : State) (p c : Nat) : Int :=
  let q := s.tcq p c
  if s.flag (TSN_TC_CFG_CBS_EN p c) && gateOpen s p c && !q.round.isEmpty && !tcSending s p c then
    clampI (-(2 ^ 31) * 1000000) ((2 ^ 31 - 1) * 1000000) (q.credit + (s.get (TSN_TC_IDLE_IS p c) : Int) * ((s.T : Int) - (q.credT : Int)))
  else q.credit

def creditOk (s : State) (p c : Nat) : Bool := !s.flag (TSN_TC_CFG_CBS_EN p c) || 0 ≤ creditAt s p c

/-- Brings the credits of port `p` up to T, before anything about the port changes. -/
def tsnSync (s : State) (p : Nat) : State :=
  (List.range 8).foldl (fun s c => s.setTcq p c { s.tcq p c with credit := creditAt s p c, credT := s.T }) s

/-- Starts or ends the starvation wait of each TC of port `p` after a change (R657). -/
def tsnWait (s : State) (p : Nat) : State :=
  (List.range 8).foldl (fun s c =>
    let q := s.tcq p c
    let q := if q.round.isEmpty && 0 < q.credit then { q with credit := 0 } else q
    let on := !q.round.isEmpty && gateOpen s p c && creditOk s p c
    s.setTcq p c { q with wait := if on then some (q.wait.getD s.T) else none }) s

/-- A change to port `p`, with its credits and waits kept. -/
def touch (s : State) (p : Nat) (f : State → State) : State := tsnWait (f (tsnSync s p)) p

/-- R657: the queue (p, c) has waited STARVE_US. -/
def starvationFlag (s : State) (p c : Nat) : State :=
  let s := tsnSync s p
  let q := s.tcq p c
  let is := s.get (TSN_TC_IDLE_IS p c)
  let since := q.wait.getD (if is = 0 then s.T else s.T - q.credit.toNat / is)
  if !q.round.isEmpty && gateOpen s p c && creditOk s p c && since + s.get (TSN_PORT_CFG_STARVE_US p) * 1000 ≤ s.T then
    s.setTcq p c { q with flagged := true }
  else s

/-! ### Gate lists (R638–R646) -/

/-- GATES, OP and INTERVAL of entry `i` of the operating bank of port `p`. -/
def gclBank (s : State) (p : Nat) : Nat := 2 * p + s.get (TSN_PORT_GCL_STAT_BANK p)
def gclGates (s : State) (p i : Nat) : Nat := bits (s.get (TSN_GCL_ENTRY_LO (gclBank s p) i)) 0 8
def gclOp (s : State) (p i : Nat) : Nat := bits (s.get (TSN_GCL_ENTRY_LO (gclBank s p) i)) 30 2
def gclIntv (s : State) (p i : Nat) : Nat := s.get (TSN_GCL_ENTRY_HI_HI (gclBank s p) i)

/-- Entry `i` applies: its gates, and hold by its OP where preemption is active (R651, R652). -/
def applyEntry (s : State) (p i : Nat) : State :=
  let op := gclOp s p i
  let hold := if !preemptOn s p then s.get (TSN_PORT_GCL_STAT_HOLD p) else if op = 1 then 1 else if op = 2 then 0 else s.get (TSN_PORT_GCL_STAT_HOLD p)
  touch s p (fun s => s.puts [(TSN_PORT_GCL_STAT_ENTRY p, i), (TSN_PORT_GCL_STAT_GATES p, gclGates s p i), (TSN_PORT_GCL_STAT_HOLD p, hold)])

def gclOn (s : State) (p : Nat) : Bool := s.flag (TSN_PORT_CFG_GCL_EN p)
def gclAngle (s : State) (p : Nat) : Bool := s.flag (TSN_PORT_CFG_MODE p)
def gclPend (s : State) (p : Nat) : Bool := s.flag (TSN_PORT_GCL_STAT_PEND p)

/-- R640, R642: G at which the current cycle of the operating list ends, extended to CT when the next start falls less than
EXT before it. -/
def cycleEnd (s : State) (p : Nat) : Nat :=
  let g := s.gcl p
  let e := g.cyc0 + g.cycle
  if gclPend s p && e < g.ct && g.ct < e + g.ext then g.ct else e

/-- G at which the current entry ends. -/
def entryEnd (s : State) (p : Nat) : Nat :=
  let g := s.gcl p
  let i := s.get (TSN_PORT_GCL_STAT_ENTRY p)
  let e := g.start + gclIntv s p i
  if i + 1 < g.len && e < g.cyc0 + g.cycle then e else cycleEnd s p

/-- The gPTP-mode list of port `p` runs. -/
def gclRuns (s : State) (p : Nat) : Bool := gclOn s p && !gclAngle s p && (s.gcl p).cycle != 0

/-- R642: at CT the banks swap and the new list starts with entry 0 at G `g0`. -/
def swapList (s : State) (p g0 : Nat) : State :=
  let g := s.gcl p
  let s := s.setGcl p { g with len := g.newLen, base := g.newBase, cycle := g.newCycle, start := g0, cyc0 := g0 }
  let s := (s.puts [(TSN_PORT_GCL_STAT_BANK p, 1 - s.get (TSN_PORT_GCL_STAT_BANK p)), (TSN_PORT_GCL_STAT_PEND p, 0)]).bump (TSN_PORT_STAT_SWAP_CNT p)
  if gclOn s p then applyEntry s p 0 else s

/-- R642: the change instant of port `p` has come. -/
def gclSwap (s : State) (p : Nat) : State :=
  if gclPend s p && !gclAngle s p && (s.gcl p).ct ≤ gNow s then swapList s p (s.gcl p).ct else s

/-- R640: the current entry's interval has ended; a swap on the same nanosecond wins (R642). -/
def gateAdvance (s : State) (p : Nat) : State :=
  let e := entryEnd s p
  if !gclRuns s p || gNow s < e then s
  else if gclPend s p && (s.gcl p).ct ≤ e then gclSwap s p
  else
    let g := s.gcl p
    let i := s.get (TSN_PORT_GCL_STAT_ENTRY p)
    if i + 1 < g.len && e < g.cyc0 + g.cycle then applyEntry (s.setGcl p { g with start := e }) p (i + 1)
    else applyEntry (s.setGcl p { g with start := e, cyc0 := e }) p 0

/-- Applies the events that G has passed, in list order, at most `n` of them. -/
def catchUp (p : Nat) : Nat → State → State
  | 0, s => s
  | n + 1, s => if gclRuns s p && entryEnd s p ≤ gNow s then catchUp p n (gateAdvance s p) else s

/-- R628: a commit that moves G forward across whole cycles leaves the gates as the last event does. -/
def stepGates (s : State) (p : Nat) : State :=
  if !gclRuns s p || gNow s < entryEnd s p then s
  else
    let g := s.gcl p
    let k := (gNow s - g.cyc0) / g.cycle
    let s := if k ≤ 2 || gclPend s p then s
      else s.setGcl p { g with cyc0 := g.cyc0 + (k - 2) * g.cycle, start := g.start + (k - 2) * g.cycle }
    catchUp p (4 * g.len + 4 * g.newLen + 8) s

/-- R627, R628, R667: COMMIT. -/
def gptpCommit (s : State) (m v : Nat) : State :=
  if !isMC m then s.refuseWrite m 22 0x4
  else
    let s := s.put TSN_GPTP_CTRL_SYNC (bits v 30 1)
    if !bit v 31 then s
    else
      let g0 := gNow s
      let gates := (List.range 8).map (fun p => if gclRuns s p then some (entryEnd s p) else none)
      let s := { s with gptp := {
        ofs := signed 64 (s.get TSN_GPTP_OFS_LO_OFS + s.get TSN_GPTP_OFS_HI_OFS * 2 ^ 32),
        rate := signed 32 (s.get TSN_GPTP_RATE_RATE), tc := s.T } }
      let g1 := gNow s
      if g1 ≤ g0 then s
      else
        let s := s.when (gates.any (fun e => match e with | some e => e ≤ g1 | none => false)) (fun s => s.bump TSN_STAT_STEP_CNT)
        let s := (List.range 8).foldl (fun s p => stepGates s p) s
        if g0 / 20000000 < g1 / 20000000 then { s with agg := { s.agg with stepped := true } } else s

/-- R641: the errors of the list that CHANGE would make operating. -/
def gclBad (s : State) (p : Nat) : Bool :=
  let len := s.get (TSN_PORT_GCL_CTRL_LEN p)
  let b := 2 * p + (1 - s.get (TSN_PORT_GCL_STAT_BANK p))
  let gptp := !gclAngle s p
  len == 0 || 1024 < len || (gptp && s.get (TSN_PORT_GCL_CYCLE_CYCLE p) < 1000) || gclPend s p ||
    (List.range len).any (fun i => bits (s.get (TSN_GCL_ENTRY_LO b i)) 30 2 == 3 || bits (s.get (TSN_GCL_ENTRY_LO b i)) 8 22 != 0 ||
      (gptp && s.get (TSN_GCL_ENTRY_HI_HI b i) == 0))

/-- R641, R642: a write of GCL_CTRL with CHANGE. -/
def gclCtrlWrite (s : State) (m p v : Nat) : State :=
  if !isMC m then s.refuseWrite m 22 (0x1010 + 0x200 * p)
  else
    let pend := gclPend s p
    let s := if pend then s.put TSN_STAT_CFG_IGN 1 else s.puts [(TSN_PORT_GCL_CTRL_LEN p, bits v 10 11), (TSN_PORT_GCL_CTRL_FB_GATES p, bits v 0 8)]
    if !bit v 31 then s
    else if gclBad s p then s.put (TSN_PORT_GCL_STAT_CFG_ERR p) 1
    else
      let base := s.get (TSN_PORT_GCL_BASE_LO_BASE p) + s.get (TSN_PORT_GCL_BASE_HI_BASE p) * 2 ^ 32
      let cycle := s.get (TSN_PORT_GCL_CYCLE_CYCLE p)
      let g := gNow s
      let ct := if g + 1000 ≤ base then base else base + ((g + 1000 - base + cycle - 1) / cycle) * cycle
      (s.setGcl p { s.gcl p with ct := ct, ext := s.get (TSN_PORT_GCL_EXT_EXT p), newLen := s.get (TSN_PORT_GCL_CTRL_LEN p), newBase := base,
                                 newCycle := cycle }).put (TSN_PORT_GCL_STAT_PEND p) 1

/-- R643, R645, R646: a firing of a unit bound to consumer 0xE0 + p. -/
def gateFire (s : State) (p : Nat) : State :=
  if !gclOn s p || !gclAngle s p then s
  else
    let g := s.gcl p
    if g.fireT = s.T ∧ !g.lost then s.bump (TSN_PORT_STAT_MERGED p)
    else
      let i := s.get (TSN_PORT_GCL_STAT_ENTRY p)
      let wraps := g.lost || g.len ≤ i + 1
      let s := s.setGcl p { g with fireT := s.T, start := s.T, lost := false }
      if wraps && gclPend s p then swapList s p s.T
      else applyEntry s p (if wraps then 0 else i + 1)

/-- R645: no firing for ANG_TMO µs. -/
def angTimeout (s : State) (p : Nat) : State :=
  let g := s.gcl p
  if gclOn s p && gclAngle s p && !g.lost && g.fireT + s.get (TSN_PORT_GCL_ANG_ANG_TMO p) * 1000 ≤ s.T then
    let s := (s.setGcl p { g with lost := true }).bump (TSN_PORT_GCL_STAT_ANG_LOST p)
    touch s p (fun s => s.puts [(TSN_PORT_GCL_STAT_GATES p, s.get (TSN_PORT_GCL_CTRL_FB_GATES p)), (TSN_PORT_GCL_STAT_HOLD p, 0)])
  else s

/-- R639, R640: GCL_EN of port `p` goes to 1 or 0. -/
def gclEnable (s : State) (p : Nat) (on : Bool) : State :=
  let s := s.put (TSN_PORT_CFG_GCL_EN p) (b2n on)
  if !on then touch s p (fun s => s.puts [(TSN_PORT_GCL_STAT_GATES p, 0xFF), (TSN_PORT_GCL_STAT_HOLD p, 0)])
  else if gclAngle s p then s.setGcl p { s.gcl p with fireT := s.T, lost := true }
  else
    let g := s.gcl p
    if g.cycle = 0 then s
    else
      let now := gNow s
      let c0 := if now < g.base then g.base else g.base + (now - g.base) / g.cycle * g.cycle
      catchUp p (g.len + 1) (applyEntry (s.setGcl p { g with cyc0 := c0, start := c0 }) p 0)

/-! ### Ends of open periods (R648) -/

/-- The time from now to the next entry that closes gate `c`: `left` steps from entry `i`, whose end lies `d` ahead. -/
def walkClose (s : State) (p c len cyc : Nat) : Nat → Nat → Nat → Nat → Option Nat
  | 0, _, _, _ => none
  | k + 1, i, d, inCyc =>
    let j := if i + 1 < len && (cyc == 0 || inCyc < cyc) then i + 1 else 0
    if !bit (gclGates s p j) c then some d
    else
      let pos := if j = 0 then 0 else inCyc
      let n := gclIntv s p j
      let n := if cyc = 0 then n else if j + 1 = len ∨ cyc < pos + n then cyc - pos else n
      walkClose s p c len cyc k j (d + n) (pos + n)

/-- T at which the open period of gate `c` of port `p` ends; none when the operating list never closes it. -/
def closeAt (s : State) (p c : Nat) : Option Nat :=
  let g := s.gcl p
  let i := s.get (TSN_PORT_GCL_STAT_ENTRY p)
  if !gclOn s p then none
  else if gclAngle s p then
    if g.lost then none
    else
      let e := g.start + gclIntv s p i
      (walkClose s p c g.len 0 (2 * g.len) i 0 0).map (fun d => e + d)
  else if g.cycle = 0 then none
  else
    let e := entryEnd s p
    (walkClose s p c g.len g.cycle (2 * g.len) i 0 (e - g.cyc0)).map (fun d => s.T + (e + d - gNow s))

/-! ### Charges (R647, R650) -/

/-- R611, R612: the valid TX secure channel of port `p`. -/
def txSc (s : State) (p : Nat) : Option (Nat × TabEnt) := (s.ents tkSC).find? (fun e => e.2.flag 0 0 && !e.2.flag 0 1 && e.2.f 2 1 == p)

/-- Bytes that MACsec adds to a frame leaving port `p`. -/
def macsecOver (s : State) (p : Nat) (b : List Byte) : Nat :=
  match txSc s p with
  | some (_, e) => if be b 12 2 = 0x888E then 0 else (if e.flag 0 7 then 16 else 8) + 16
  | none => 0

/-- The charged length C of a frame in queue (p, c). -/
def charge (s : State) (p c : Nat) (b : List Byte) : Nat :=
  if s.flag (TSN_TC_CFG_ACCT p c) then s.get (TSN_TC_CFG_PKT_BYTES p c)
  else b.length + 4 + macsecOver s p b + s.get (TSN_TC_CFG_OH p c)

/-- R648, R650: whether a frame of (p, c) with charge `x` may start now. -/
def mayStart (s : State) (p c x : Nat) : Bool :=
  let y := if preemptable s p c then min x ((s.get (TSN_PORT_CFG_ADD_FRAG p) + 1) * 64 + 63 + s.get (TSN_TC_CFG_OH p c)) else x
  gateOpen s p c && !(s.flag (TSN_PORT_GCL_STAT_HOLD p) && preemptable s p c) &&
    (match closeAt s p c with
     | none => true
     | some e => s.T ≤ e && y * 8000 ≤ (e - s.T) * portRate s p)

/-! ### Nodes (R632–R636) -/

/-- The node of (p, c) that a frame charged to `inst` enters. -/
def nodeFor (s : State) (p c inst : Nat) : Nat :=
  ((s.tsn.node.map (·.1)).find? (fun n => n < 4096 && s.flag (TSN_NODE_CFG_EN n) && s.get (TSN_NODE_CFG_PORT n) == p &&
    s.get (TSN_NODE_CFG_TC n) == c && s.get (TSN_NODE_CFG_INST n) == inst)).getD (4096 + 8 * p + c)

def nodeLimit (s : State) (n : Nat) : Nat :=
  if n < 4096 then s.get (TSN_NODE_CFG_LIMIT n) * 16 else s.get (TSN_PORT_DEFLIM_LIMIT ((n - 4096) / 8))
def nodeYlim (s : State) (n : Nat) : Nat :=
  if n < 4096 then s.get (TSN_NODE_CFG_YLIM n) * 16 else s.get (TSN_PORT_DEFLIM_YLIM ((n - 4096) / 8))
/-- QUANTUM in bytes; a default node has that of a node as reset leaves it. -/
def nodeQuantum (s : State) (n : Nat) : Nat := if n < 4096 then s.get (TSN_NODE_CFG_QUANTUM n) * 256 else 256

def cellsHeld (v : Node) : Nat := v.q.foldl (fun a e => a + e.cells) 0

/-- R634: counts a drop of node `n`. -/
def nodeDrop (s : State) (n inst : Nat) : State :=
  let s := if n < 4096 then s.bump (TSN_NODE_DROP_COUNT n) else s.setNode n { s.node n with drop := satAdd 32 (s.node n).drop 1 }
  s.bump (INS_CNT_QUOTA_COUNT inst)

/-- R631: the TC in which a frame charged to `inst` may stand. -/
def demote (s : State) (inst c : Nat) : Nat × State := if c = 7 ∧ inst ≠ 0 then (6, s.bump TSN_STAT_TC7_DEMOTE) else (c, s)

/-- R632, R634, R635: a frame enters its node; false when it is dropped there. -/
def enqueue (s : State) (p c : Nat) (e : QEnt) (yellow : Bool) : State × Bool :=
  let n := nodeFor s p c e.inst
  let v := s.node n
  let held := cellsHeld v
  if nodeLimit s n < held + e.cells ∨ (yellow ∧ nodeYlim s n ≤ held) then (nodeDrop s n e.inst, false)
  else
    (touch s p (fun s =>
      let s := s.setNode n { v with q := v.q ++ [e] }
      let q := s.tcq p c
      if q.round.contains n then s else s.setTcq p c { q with round := q.round ++ [n] }), true)

/-- One turn of the deficit round robin of (p, c): the node whose frame goes next. -/
def drr (p c : Nat) : Nat → State → Option Nat × State
  | 0, s => (none, s)
  | k + 1, s =>
    let q := s.tcq p c
    match q.round with
    | [] => (none, s)
    | n :: t =>
      let v := s.node n
      match v.q with
      | [] => drr p c k ((s.setNode n { v with deficit := 0 }).setTcq p c { q with round := t, added := false })
      | e :: _ =>
        let d := if q.added then v.deficit else v.deficit + nodeQuantum s n
        let x := charge s p c e.bytes
        let s := s.setNode n { v with deficit := d }
        if x ≤ d && mayStart s p c x then (some n, s.setTcq p c { q with added := true })
        else drr p c k (s.setTcq p c { q with round := t ++ [n], added := false })

/-- Whether (p, c) may be chosen (R636, step 1). -/
def tcReady (s : State) (p c : Nat) : Bool :=
  creditOk s p c && (s.tcq p c).round.any (fun n => match (s.node n).q with
    | e :: _ => mayStart s p c (charge s p c e.bytes)
    | [] => false)

/-- R636, step 2, and R657: TC 7 first, then a flagged TC, then the highest. -/
def pickTc (s : State) (p : Nat) (ok : Nat → Bool) : Option Nat :=
  let l := ([7, 6, 5, 4, 3, 2, 1, 0] : List Nat).filter (fun c => ok c && tcReady s p c)
  if l.contains 7 then some 7
  else (l.find? (fun c => (s.tcq p c).flagged)).orElse (fun _ => l.head?)

/-- R636, R637: takes the next frame of (p, c) out of its node and puts it in transmission. -/
def startFrame (s : State) (p c : Nat) : State :=
  let s := tsnSync s p
  let (n?, s) := drr p c (40 * ((s.tcq p c).round.length + 1)) s
  match n? with
  | none => s
  | some n =>
    let v := s.node n
    match v.q with
    | [] => s
    | e :: t =>
      let x := charge s p c e.bytes
      let close := closeAt s p c
      let s := s.setNode n { v with q := t, deficit := if t.isEmpty then 0 else v.deficit - x }
      let q := s.tcq p c
      let is := s.get (TSN_TC_IDLE_IS p c)
      let r := portRate s p * 1000
      let cost : Int := if s.flag (TSN_TC_CFG_CBS_EN p c) && r != 0 then (x * 8 * 1000000 : Int) * ((r : Int) - is) / r else 0
      let s := s.when q.flagged (fun s => s.bump (TSN_TC_CNT_STARVE_SERVED p c))
      let s := s.setTcq p c { q with
        round := if t.isEmpty then q.round.filter (· ≠ n) else q.round, added := q.added && !t.isEmpty,
        credit := clampI (-(2 ^ 31) * 1000000) ((2 ^ 31 - 1) * 1000000) (q.credit - cost), flagged := false, wait := none }
      tsnWait (s.setPtx p { s.ptx p with cur := some { e := e, tc := c, start := s.T, c := x, close := close } }) p

/-- Bytes of the frame in transmission that have left by now, without the 8 of preamble and SFD. -/
def sentNow (s : State) (p : Nat) (x : TxCur) : Nat := x.sent + ((s.T - x.start) * portRate s p / 8000 - 8)

/-- R651: the frame in transmission can be cut here: both fragments hold the least that IEEE 802.3br allows. -/
def cutPoint (s : State) (p : Nat) (x : TxCur) : Bool :=
  let n := sentNow s p x
  (s.get (TSN_PORT_CFG_ADD_FRAG p) + 1) * 64 ≤ n - x.sent + 4 && n + 64 ≤ x.e.bytes.length + 4

/-- R636, R637, R650, R651: the port starts its next frame, resumes a preempted one, or preempts. -/
def transmitStart (s : State) (p : Nat) : State :=
  let x := s.ptx p
  if portRate s p = 0 then s
  else match x.cur with
    | none =>
      let express := pickTc s p (fun c => !preemptable s p c)
      match x.pre with
      | some f =>
        match express with
        | some c => startFrame s p c
        | none =>
          if gateOpen s p f.tc && !s.flag (TSN_PORT_GCL_STAT_HOLD p) then
            s.setPtx p { cur := some { f with start := s.T, close := closeAt s p f.tc }, pre := none } else s
      | none => match pickTc s p (fun _ => true) with
        | some c => startFrame s p c
        | none => s
    | some f =>
      if preemptable s p f.tc && x.pre.isNone && cutPoint s p f &&
          ((pickTc s p (fun c => !preemptable s p c)).isSome || !gateOpen s p f.tc || s.flag (TSN_PORT_GCL_STAT_HOLD p)) then
        let s := s.setPtx p { cur := none, pre := some { f with sent := sentNow s p f } }
        match pickTc s p (fun c => !preemptable s p c) with
        | some c => startFrame s p c
        | none => s
      else s

/-- T at which the frame in transmission ends: its remaining bytes with FCS, preamble and gap. -/
def txEnd (s : State) (p : Nat) (x : TxCur) : Nat :=
  let bytes := if p < 6 then x.e.bytes.length + macsecOver s p x.e.bytes + 4 + 20 - x.sent else x.c
  x.start + (bytes * 8000 + portRate s p - 1) / portRate s p

/-! ### Policers (R654–R656) -/

/-- The global policer of index `i` of instance `n`. -/
def policerOf (s : State) (n i : Nat) : Option Nat :=
  if i < s.get (TSN_POLMAP_COUNT n) then
    let g := s.get (TSN_POLMAP_BASE n) + i
    if g < 2048 && s.flag (TSN_POL_CFG_EN g) then some g else none
  else none

/-- The buckets of policer `g` brought up to T: in 10^-6 bit, or 10^-9 packet. -/
def polFill (s : State) (g : Nat) : Pol :=
  let b := s.tsn.pol.get {} g
  let k := if s.flag (TSN_POL_CFG_ACCT g) then 1000000000 else 8000000
  let dt := s.T - b.t
  let capC := s.get (TSN_POL_CBS_BURST g) * k
  let capE := s.get (TSN_POL_EBS_BURST g) * k
  let c := b.c + s.get (TSN_POL_CIR_RATE g) * dt
  let spill := if s.flag (TSN_POL_CFG_CF g) then c - capC else 0
  { c := min c capC, e := min (b.e + s.get (TSN_POL_EIR_RATE g) * dt + spill) capE, t := s.T }

/-- R654: colours a frame: 0 green, 1 yellow, 2 red. -/
def police (s : State) (g len : Nat) (dei : Bool) : Nat × State :=
  let b := polFill s g
  let x := if s.flag (TSN_POL_CFG_ACCT g) then 1000000000 else (len + 4 + s.get (TSN_POL_CFG_OH g)) * 8000000
  let set (v : Pol) : State := { s with tsn := { s.tsn with pol := s.tsn.pol.set g v } }
  if x ≤ b.c && !(dei && s.flag (TSN_POL_CFG_CM g)) then (0, set { b with c := b.c - x })
  else if x ≤ b.e then (1, (set { b with e := b.e - x }).bump (TSN_POL_CNT_YELLOW g))
  else (2, (set b).bump (TSN_POL_CNT_RED g))

/-! ### Register writes (R633, R641, R659) -/

/-- R633: a write of NODE_CFG for the node that NODE_IDX selects. -/
def nodeCfgWrite (s : State) (m v : Nat) : State :=
  if !isMC m then s.refuseWrite m 22 0x24
  else
    let n := s.get TSN_NODE_IDX_NODE
    let en := bit v 31
    let inst := bits v 18 7
    let mine := ((s.tsn.node.map (·.1)).filter (fun k => k < 4096 && k != n && s.flag (TSN_NODE_CFG_EN k) && s.get (TSN_NODE_CFG_INST k) == inst))
    let dup := mine.any (fun k => s.get (TSN_NODE_CFG_PORT k) == bits v 28 3 && s.get (TSN_NODE_CFG_TC k) == bits v 25 3)
    if en && (pantry s inst 6 16 13 ≤ mine.length || dup) then s.put TSN_STAT_CFG_IGN 1
    else
      (s.setNode n (s.node n)).puts [(TSN_NODE_CFG_EN n, b2n en), (TSN_NODE_CFG_PORT n, bits v 28 3), (TSN_NODE_CFG_TC n, bits v 25 3),
        (TSN_NODE_CFG_INST n, inst), (TSN_NODE_CFG_YLIM n, bits v 12 6), (TSN_NODE_CFG_LIMIT n, bits v 6 6), (TSN_NODE_CFG_QUANTUM n, bits v 0 6)]

/-- R654: a write of POL_CFG: enabling fills both buckets. -/
def polCfgWrite (s : State) (v : Nat) : State :=
  let g := s.get TSN_POL_IDX_POL
  let was := s.flag (TSN_POL_CFG_EN g)
  let s := s.puts [(TSN_POL_CFG_EN g, bits v 31 1), (TSN_POL_CFG_ACCT g, bits v 30 1), (TSN_POL_CFG_CF g, bits v 29 1),
    (TSN_POL_CFG_CM g, bits v 28 1), (TSN_POL_CFG_DROP_YELLOW g, bits v 27 1), (TSN_POL_CFG_OH g, bits v 0 6)]
  let k := if bit v 30 then 1000000000 else 8000000
  if bit v 31 && !was then
    { s with tsn := { s.tsn with pol := s.tsn.pol.set g { c := s.get (TSN_POL_CBS_BURST g) * k, e := s.get (TSN_POL_EBS_BURST g) * k, t := s.T } } }
  else s

/-- A write of TSN_PORTp_CFG (R659). -/
def portCfgWrite (s : State) (p v : Nat) : State :=
  let on := gclOn s p
  let cur := mapWord s (fun _ => none) 0 RegMap.mapTsn (0x1000 + 0x200 * p)
  if on then
    if wrap 32 v = cur - 2 ^ 31 then gclEnable s p false else s.put TSN_STAT_CFG_IGN 1
  else
    let s := touch s p (fun s => s.puts [(TSN_PORT_CFG_MODE p, bits v 30 1), (TSN_PORT_CFG_PREEMPT_EN p, if p < 6 then bits v 29 1 else 0),
      (TSN_PORT_CFG_ADD_FRAG p, bits v 27 2), (TSN_PORT_CFG_UNTAG_TC p, bits v 24 3)])
    let s := if 10 ≤ wrap 16 v then s.put (TSN_PORT_CFG_STARVE_US p) v else s
    if bit v 31 then gclEnable s p true else s

/-- A write of TSN_PORTp_TCq_CFG (R653, R659). -/
def tcCfgWrite (s : State) (p q v : Nat) : State :=
  if gclOn s p then s.put TSN_STAT_CFG_IGN 1
  else
    let is := s.get (TSN_TC_IDLE_IS p q)
    let refuse := bit v 30 && (is == 0 || portRate s p * 1000 < is)
    let s := s.when refuse (fun s => s.put TSN_STAT_CFG_IGN 1)
    let pkt := bits v 0 14
    touch s p (fun s =>
      let s := s.puts [(TSN_TC_CFG_ACCT p q, bits v 31 1), (TSN_TC_CFG_CBS_EN p q, b2n (bit v 30 && !refuse)), (TSN_TC_CFG_PREEMPT p q, bits v 29 1),
        (TSN_TC_CFG_OH p q, bits v 14 6)]
      if 64 ≤ pkt ∧ pkt ≤ 9300 then s.put (TSN_TC_CFG_PKT_BYTES p q) pkt else s)

/-- A write to the TSN block. -/
def tsnWrite (s : State) (m off v : Nat) : State :=
  if !isMC m then s.refuseWrite m 22 off
  else if off = 0x4 then gptpCommit s m v
  else if off = 0x24 then nodeCfgWrite s m v
  else if off = 0x34 then polCfgWrite s v
  else if 0x80000 ≤ off ∧ off < 0xC0000 then
    let b := (off - 0x80000) / 0x4000
    let i := off % 0x4000 / 8
    let p := b / 2
    if 1024 ≤ i then s
    else if gclPend s p && b % 2 != s.get (TSN_PORT_GCL_STAT_BANK p) then s.put TSN_STAT_CFG_IGN 1
    else s.put (if off % 8 = 0 then TSN_GCL_ENTRY_LO b i else TSN_GCL_ENTRY_HI_HI b i) v
  else if 0x1000 ≤ off ∧ off < 0x2000 then
    let p := (off - 0x1000) / 0x200
    let o := off % 0x200
    if o = 0 then portCfgWrite s p v
    else if o = 0x10 then gclCtrlWrite s m p v
    else if 0x14 ≤ o ∧ o ≤ 0x20 ∧ gclPend s p then s.put TSN_STAT_CFG_IGN 1
    else if o = 4 ∧ p < 6 then s
    else if 0x40 ≤ o ∧ o < 0x60 then tcCfgWrite s p ((o - 0x40) / 4) v
    else match findRow RegMap.mapTsn off with
      | some (r, a, b) => touch s p (fun s => rowWrite s 0 r a b v)
      | none => s
  else match findRow RegMap.mapTsn off with
    | some (r, a, b) => rowWrite s 0 r a b v
    | none => s

/-- The values of the block computed when read. -/
def liveTsn (s : State) (k : FKey) : Option Nat :=
  if k = (TSN_TC_CREDIT_CREDIT k.i k.j).key then some (unsigned 32 (creditAt s k.i k.j / 1000000))
  else if k = TSN_GPTP_NOW_LO_G.key then some (wrap 32 (gNow s))
  else if k = TSN_GPTP_NOW_HI_G.key then some (gNow s / 2 ^ 32)
  else none

end Sys2Proof.Machine
end

