-- ==== Sys2Proof/Machine/NetCrypto.lean ====
section
/-! DEFINITION. VXLAN (R603), IPsec ESP (R605–R609), MACsec (R610–R612) and the crypto engine's input (R615). -/
namespace Sys2Proof.Machine
open Sys2Proof.Reg

/-- R609: the attention vector of instance `n` (ATTN_VEC of INST_CREATE). -/
def attnVector (s : State) (n : Nat) : State := msixRequest s n (pantry s n 9 8 7)

/-- R615: a frame of `len` bytes of instance `n` enters the crypto engine's input queue; none when it finds no room. -/
def cryptoTake (s : State) (n len : Nat) : Option State :=
  let q := s.net.crypto.filter (fun e => s.T < e.2)
  if 1024 ≤ q.length ∨ 256 ≤ (q.filter (fun e => e.1 == n)).length then none
  else
    let from_ := (q.getLast?.map (·.2)).getD s.T
    some { s with net := { s.net with crypto := q ++ [(n, max from_ s.T + len * 8 / 20)] } }

/-! ### Outer headers -/

/-- An IPv4 header of 20 bytes with DF = 1 and identification 0. -/
def ipv4Hdr (dscp len ttl proto : Nat) (src dst : List Byte) : List Byte :=
  let h : List Byte := [0x45] ++ leBytes 1 (dscp * 4) ++ beBytes 2 len ++ [0, 0, 0x40, 0] ++ leBytes 1 ttl ++ leBytes 1 proto ++ [0, 0] ++ fix 4 src ++ fix 4 dst
  patch h 10 (beBytes 2 (csum h 0))

def ipv6Hdr (dscp len ttl proto : Nat) (src dst : List Byte) : List Byte :=
  beBytes 4 (0x60000000 + dscp * 2 ^ 22) ++ beBytes 2 len ++ leBytes 1 proto ++ leBytes 1 ttl ++ fix 16 src ++ fix 16 dst

/-- The Ethernet header of a template (R600), for an IP version. -/
def tmplEth (t : TabEnt) (v6 : Bool) : List Byte :=
  slice t.img 8 6 ++ slice t.img 14 6 ++ (if bit (t.f 0 1) 1 then [0x81, 0x00] ++ beBytes 2 (t.f 20 2) else []) ++
    (if v6 then [0x86, 0xDD] else [0x08, 0x00])

/-! ### VXLAN -/

/-- R603: encapsulation of a frame with a template. -/
def vxlanEncap (f : List Byte) (t : TabEnt) : List Byte :=
  let v6 := bit (t.f 0 1) 0
  let sport := 0xC000 + crc32c (f.take 64) % 0x4000
  let vx : List Byte := [0x08, 0, 0, 0] ++ beBytes 3 (t.f 4 4) ++ [0]
  let ulen := f.length + 16
  let udp0 := beBytes 2 sport ++ beBytes 2 (t.f 2 2) ++ beBytes 2 ulen ++ [0, 0] ++ vx ++ f
  let ttl := t.f 22 1
  let dscp := t.f 23 1
  if v6 then
    let ps := sum16 (slice t.img 32 16 ++ slice t.img 48 16 ++ beBytes 4 ulen ++ beBytes 4 17) 0
    let c := csum udp0 ps
    tmplEth t true ++ ipv6Hdr dscp ulen ttl 17 (slice t.img 32 16) (slice t.img 48 16) ++ patch udp0 6 (beBytes 2 (if c = 0 then 0xFFFF else c))
  else tmplEth t false ++ ipv4Hdr dscp (ulen + 20) ttl 17 (slice t.img 44 4) (slice t.img 60 4) ++ udp0

/-- R603: decapsulation: the inner frame and its VNI. -/
def vxlanDecap (f : List Byte) (p : Pkt) (port : Nat) : Option (List Byte × Nat) :=
  let o := p.l4off
  if p.ip && !p.frag && p.proto == 17 && be f (o + 2) 2 == port && bit (be f (o + 8) 1) 3 && o + 16 + 14 ≤ f.length then
    some (f.drop (o + 16), be f (o + 12) 3)
  else none

/-! ### IPsec ESP -/

/-- Codes of `Config.cipher` for ESP of a suite: encryption, and decryption. -/
def ciESP (suite : Nat) : Nat := 10 + suite
def ciESP_OPEN (suite : Nat) : Nat := 20 + suite

def saSuite (e : TabEnt) : Nat := bits (e.f 0 2) 6 2
def saEsn (e : TabEnt) : Bool := e.flag 0 3
def saTunnel (e : TabEnt) : Bool := e.flag 0 2
def saKey (e : TabEnt) : List Byte := e.key.get [] 0

/-- R607: the padding bytes 1, 2, 3 … that make the payload with its two trailer bytes a multiple of 4. -/
def espPad (n : Nat) : List Byte := (List.range ((4 - (n + 2) % 4) % 4)).map (fun i => BitVec.ofNat 8 (i + 1))

/-- The ESP packet of a payload with number `seq` under SA `e`. -/
def espSeal (e : TabEnt) (payload : List Byte) (next seq : Nat) : List Byte :=
  let pad := espPad payload.length
  let pt := payload ++ pad ++ leBytes 1 pad.length ++ leBytes 1 next
  beBytes 4 (e.f 4 4) ++ beBytes 4 (wrap 32 seq) ++ beBytes 8 seq ++
    fix (pt.length + 16) (Config.cipher (ciESP (saSuite e)) (saKey e) [e.f 4 4, seq] pt)

/-- R609: counts a packet of an SA against its limits: the entry, and whether its state changed. -/
def saCount (e : TabEnt) (len : Nat) : TabEnt × Bool :=
  let e := { e with pkts := e.pkts + 1, bytes := e.bytes + len }
  let lp := e.f 16 4
  let lm := e.f 20 4 * 1048576
  let soft := e.f 2 1
  let hard := (lp ≠ 0 ∧ lp ≤ e.pkts) ∨ (lm ≠ 0 ∧ lm ≤ e.bytes)
  let near := soft ≠ 0 ∧ ((lp ≠ 0 ∧ lp * soft ≤ e.pkts * 100) ∨ (lm ≠ 0 ∧ lm * soft ≤ e.bytes * 100))
  if hard then ({ e with img := patch e.img 28 [3] }, e.f 28 1 != 3)
  else if near ∧ e.f 28 1 < 2 then ({ e with img := patch e.img 28 [2] }, true)
  else (e, false)

/-- The last number that the SA may send (R607). -/
def saLast (e : TabEnt) : Nat := if saEsn e then 2 ^ 64 - 1 else 2 ^ 32 - 1

/-- An SA that carries traffic (R606, R609, R614). -/
def saLive (e : TabEnt) : Bool := e.flag 0 0 && !e.key.isEmpty && !e.lost && e.f 28 1 != 3

/-- R607: outbound processing of frame `f` on SA index `i`; none when the SA does not carry it. -/
def espOut (s : State) (i : Nat) (f : List Byte) : State × Option (List Byte) :=
  match s.ent? tkSA i with
  | none => (s, none)
  | some e =>
    let p := parse f
    if !saLive e || e.flag 0 1 || !p.ip then (s, none)
    else
      let seq := e.f 8 8
      let pkt := f.drop p.l3
      let out : Option (List Byte) :=
        if saTunnel e then
          match s.ent? tkFLOW (e.f 24 4) with
          | some t =>
            let v6 := e.flag 0 4
            let dscp := if e.flag 0 5 then (if p.v6 then bits (be f p.l3 2) 6 6 else be f (p.l3 + 1) 1 / 4) else 0
            let esp := espSeal e pkt (if p.v6 then 41 else 4) seq
            some (tmplEth t v6 ++ (if v6 then ipv6Hdr dscp esp.length (e.f 3 1) 50 (slice e.img 32 16) (slice e.img 48 16)
              else ipv4Hdr dscp (esp.length + 20) (e.f 3 1) 50 (slice e.img 44 4) (slice e.img 60 4)) ++ esp)
          | none => none
        else
          let esp := espSeal e (f.drop p.l4off) p.proto seq
          let h := f.take p.l4off
          let h := if p.v6 then patch (patch h (p.l3 + 4) (beBytes 2 (esp.length + p.hlen - 40))) (p.l3 + 6) [50]
            else putL3 (patch (patch h (p.l3 + 2) (beBytes 2 (esp.length + p.hlen))) (p.l3 + 9) [50]) { p with proto := 50 }
          some (h ++ esp)
      match out with
      | none => (s, none)
      | some g =>
        let (e', ch) := saCount { e with img := patch e.img 8 (leBytes 8 (if seq = saLast e then seq else seq + 1)) } (g.length - 14)
        let last := seq == saLast e
        let e' := if last then { e' with img := patch e'.img 28 [3] } else e'
        let s := s.setEnt tkSA i e'
        (if ch || last then attnVector s e.owner else s, some g)

/-- R608, RFC 4303 Appendix A: the 64-bit number that a 32-bit one stands for, for a window of `w`. -/
def espSeq (e : TabEnt) (lo w : Nat) : Nat :=
  if !saEsn e then lo
  else
    let th := e.hi / 2 ^ 32
    let tl := e.hi % 2 ^ 32
    if w ≤ tl + 1 then (if tl + 1 - w ≤ lo then th else th + 1) * 2 ^ 32 + lo
    else (if 2 ^ 32 + tl + 1 - w ≤ lo then th - 1 else th) * 2 ^ 32 + lo

/-- The replay window of `w` numbers below and with `hi`: whether `seq` is new, and the window after it. -/
def replayOk (hi win w seq : Nat) : Bool :=
  w == 0 || hi < seq || (hi - seq < w && !bit win (hi - seq))
def replayMark (hi win w seq : Nat) : Nat × Nat :=
  if hi < seq then (seq, wrap (max w 1) (win * 2 ^ (min (seq - hi) 1024) + 1)) else (hi, setBit win (hi - seq))

/-- R608: inbound processing on SA index `i`: the frame that re-enters, or none when a check fails. -/
def espIn (s : State) (i : Nat) (f : List Byte) : State × Option (List Byte) :=
  let p := parse f
  let fail (s : State) (e? : Option TabEnt) : State × Option (List Byte) :=
    let s := s.bump NET_CNT_ESP_FAIL
    (match e? with | some e => s.setEnt tkSA i { e with fails := e.fails + 1 } | none => s, none)
  match s.ent? tkSA i with
  | none => fail s none
  | some e =>
    let o := p.l4off
    let w := if bits (e.f 0 2) 8 3 = 0 then 0 else 2 ^ (bits (e.f 0 2) 8 3 + 5)
    let seq := espSeq e (be f (o + 4) 4) (max w 1)
    let body := f.drop (o + 16)
    let n := body.length - 16
    let par := [e.f 4 4, seq]
    if !saLive e || !e.flag 0 1 || p.proto != 50 || be f o 4 != e.f 4 4 || body.length < 18 then fail s (some e)
    else if !Config.cipherOk (ciESP (saSuite e)) (saKey e) par body || !replayOk e.hi e.win w seq then fail s (some e)
    else
      let pt := fix n (Config.cipher (ciESP_OPEN (saSuite e)) (saKey e) par body)
      let padLen := be pt (n - 2) 1
      let next := be pt (n - 1) 1
      let dataLen := n - 2 - padLen
      if n < padLen + 2 ∨ slice pt dataLen padLen ≠ (List.range padLen).map (fun i => BitVec.ofNat 8 (i + 1)) ∨
          (saTunnel e ∧ next ≠ 4 ∧ next ≠ 41) then fail s (some e)
      else
        let (hi, win) := replayMark e.hi e.win w seq
        let (e', ch) := saCount { e with hi := hi, win := win } (f.length - p.l3)
        let s := s.setEnt tkSA i e'
        let s := if ch then attnVector s e.owner else s
        let data := pt.take dataLen
        let out :=
          if saTunnel e then f.take 12 ++ (if next = 41 then [0x86, 0xDD] else [0x08, 0x00]) ++ data
          else
            let h := f.take o
            let h := if p.v6 then patch (patch h (p.l3 + 4) (beBytes 2 (data.length + p.hlen - 40))) (p.l3 + 6) (leBytes 1 next)
              else putL3 (patch (patch h (p.l3 + 2) (beBytes 2 (data.length + p.hlen))) (p.l3 + 9) (leBytes 1 next)) { p with proto := next }
            h ++ data
        (s, some out)

/-! ### MACsec -/

def ciMACSEC : Nat := 30
def ciMACSEC_OPEN : Nat := 31

def scCo (e : TabEnt) : Nat := match bits (e.f 0 2) 4 2 with | 0 => 0 | 1 => 30 | _ => 50
def scLast (e : TabEnt) : Nat := if e.flag 0 2 then 2 ^ 64 - 1 else 2 ^ 32 - 1

/-- R612, R615: protects a frame of instance `n` that leaves port `p`; none when it is dropped. -/
def macsecOut (s : State) (p n : Nat) (f : List Byte) : State × Option (List Byte) :=
  match txSc s p with
  | none => (s, some f)
  | some (i, e) =>
    if be f 12 2 = 0x888E then (s, some f)
    else
      let an := e.f 3 1 % 4
      let key := e.key.get [] an
      let pn := e.f 16 8
      if key.isEmpty ∨ e.lost ∨ e.f 24 1 = 3 then (s.setEnt tkSC i { e with fails := e.fails + 1 }, none)
      else match cryptoTake s n f.length with
      | none => (s.bump (INS_CNT_QUOTA_COUNT n), none)
      | some s =>
        let d := f.drop 12
        let co := scCo e
        let sec := fix (d.length - min co d.length + 16) (Config.cipher ciMACSEC key [e.f 8 8, pn, co] d)
        let tag := [0x88, 0xE5] ++ leBytes 1 (b2n (e.flag 0 7) * 32 + 12 + an) ++ leBytes 1 (if d.length < 48 then d.length else 0) ++
          beBytes 4 (wrap 32 pn) ++ (if e.flag 0 7 then beBytes 8 (e.f 8 8) else [])
        let e' := { e with img := patch e.img 16 (leBytes 8 (pn + 1)), pkts := e.pkts + 1, bytes := e.bytes + f.length }
        let e' := if pn = scLast e then { e' with img := patch (patch e'.img 16 (leBytes 8 pn)) 24 [3] } else e'
        let s := s.setEnt tkSC i e'
        let s := if pn + 1 = (scLast e + 1) / 4 * 3 then attnVector s e.owner else s
        (s, some (f.take 12 ++ tag ++ d.take co ++ sec))

/-- R612, R615: verification at P0 of a frame received on port `p`, charged to instance 0; none when it is dropped. -/
def macsecIn (s : State) (p : Nat) (f : List Byte) : State × Option (List Byte) :=
  let rx := (s.ents tkSC).filter (fun e => e.2.flag 0 0 && e.2.flag 0 1 && e.2.f 2 1 == p)
  if be f 12 2 ≠ 0x88E5 then
    match rx.find? (fun e => e.2.flag 0 6) with
    | some (i, e) => if be f 12 2 = 0x888E then (s, some f) else (s.setEnt tkSC i { e with fails := e.fails + 1 }, none)
    | none => (s, some f)
  else
    let tci := be f 14 1
    let hasSci := bit tci 5
    match (if hasSci then rx.find? (fun e => e.2.f 8 8 == be f 20 8) else rx.head?) with
    | none => match rx.find? (fun e => e.2.flag 0 6) with
      | some (i, e) => (s.setEnt tkSC i { e with fails := e.fails + 1 }, none)
      | none => (s, some f)
    | some (i, e) => match cryptoTake s 0 f.length with
     | none => (s.bump (INS_CNT_QUOTA_COUNT 0), none)
     | some s =>
      let an := tci % 4
      let key := e.key.get [] an
      let lo := be f 16 4
      let pn := if !e.flag 0 2 then lo
        else
          let h := e.hi / 2 ^ 32
          if lo + 2 ^ 31 ≤ e.hi % 2 ^ 32 then (h + 1) * 2 ^ 32 + lo else h * 2 ^ 32 + lo
      let d := f.drop (if hasSci then 28 else 20)
      let co := scCo e
      let n := d.length - 16
      let w := e.f 4 4
      if key.isEmpty || e.lost || d.length < 18 || (w != 0 && pn + w ≤ e.hi) || !Config.cipherOk ciMACSEC key [e.f 8 8, pn, co] d then
        (s.setEnt tkSC i { e with fails := e.fails + 1 }, none)
      else
        let s := s.setEnt tkSC i { e with hi := max e.hi pn, pkts := e.pkts + 1, bytes := e.bytes + f.length }
        (s, some (f.take 12 ++ d.take co ++ fix (n - min co n) (Config.cipher ciMACSEC_OPEN key [e.f 8 8, pn, co] d)))

end Sys2Proof.Machine
end

