-- ==== Sys2Proof/Machine/Net.lean ====
section
/-! DEFINITION. The network datapath (16_network_datapath.md): the frame store, Colander, the FDB's learning, transmit rings,
receive rings, CPU queues and the packet threads' datapath commands. -/
namespace Sys2Proof.Machine
open Sys2Proof.Reg

/-! ### The frame store (R584, R585) -/

def State.frame? (s : State) (h : Nat) : Option Frame := (s.net.frames.find? (fun e => e.1 == h)).map (·.2)
def State.setFrame (s : State) (h : Nat) (f : Frame) : State := { s with net := { s.net with frames := s.net.frames.set h f } }

/-- The address of cell `c` of the Stockpot. -/
def cellAddr (c : Nat) : Nat := 2048 * c

/-- Cells charged to instance `n`. -/
def chargedCells (s : State) (n : Nat) : Nat :=
  (s.net.frames.filter (fun e => e.2.charge == n)).foldl (fun a e => a + e.2.cells.length) 0

/-- R585: whether `k` more cells fit the Stockpot quota of instance `n`; the manager's also holds NVMe staging (R624). -/
def quotaOk (s : State) (n k : Nat) : Bool :=
  let stage := if n = 0 && s.flag NET_NVME_CFG_EN then s.get NET_NVME_CFG_STAGE else 0
  (chargedCells s n + k + 1) / 2 + stage ≤ pantry s n 2 16 13

/-- The free cells in units tagged with instance `n`, lowest first. -/
def freeCells (s : State) (n : Nat) : List Nat :=
  let used := s.net.frames.flatMap (fun e => e.2.cells)
  (List.range 10240).filter (fun c => s.get (MEM_SP_TAG_TAG (c / 2)) == n && !used.contains c)

def cellsFor (len : Nat) : Nat := max 1 ((len + 1983) / 1984)

/-- Writes frame data into bytes 64–2,047 of each cell in turn, with NEXT. -/
def writeCells (s : State) : List Nat → List Byte → State
  | [], _ => s
  | c :: t, b =>
    let s := s.setBytes (cellAddr c + 64) (b.take 1984)
    writeCells (s.store (cellAddr c + 24) 2 (t.headD 0xFFFF)) t (b.drop 1984)

/-- Table 16.2: the metadata of the first cell. -/
def metaBytes (len port inst flags tc t flow mark vid : Nat) : List Byte :=
  leBytes 2 len ++ leBytes 1 port ++ leBytes 1 inst ++ leBytes 2 flags ++ leBytes 1 tc ++ [0] ++ leBytes 8 t ++ leBytes 4 flow ++ leBytes 2 mark ++ leBytes 2 vid

/-- Takes cells for a frame charged to `n`; none when the charge would exceed the quota or no cell is free. -/
def allocFrame (s : State) (n len : Nat) : Option (Nat × State) :=
  let k := cellsFor len
  let cs := (freeCells s n).take k
  match cs with
  | h :: _ =>
    if cs.length = k && quotaOk s n k then some (h, s.setFrame h { cells := cs, charge := n }) else none
  | [] => none

/-- The frame's bytes as its cells hold them. -/
def frameBytes (s : State) (h : Nat) : List Byte :=
  match s.frame? h with
  | none => []
  | some f => (f.cells.flatMap (fun c => s.bytesAt (cellAddr c + 64) 1984)).take (s.load (cellAddr h) 2)

/-- One copy of the frame has left; the last one frees the cells. -/
def releaseFrame (s : State) (h : Nat) : State :=
  match s.frame? h with
  | none => s
  | some f => if f.refs ≤ 1 then { s with net := { s.net with frames := s.net.frames.erase h } } else s.setFrame h { f with refs := f.refs - 1 }

/-- Moves the charge of a frame to instance `n`; none when its quota does not hold it. -/
def moveCharge (s : State) (h n : Nat) : Option State :=
  match s.frame? h with
  | none => none
  | some f => if f.charge = n then some s else if quotaOk s n f.cells.length then some (s.setFrame h { f with charge := n }) else none

/-! ### Outcomes -/

/-- A TX item completes with a status (R512, R585, R634, R655). -/
def txDone (s : State) (m : Meta) (status : Nat) : State :=
  match m.tx with
  | none => s
  | some (r, seqs) =>
    let item := (s.ring r).descs.filter (fun d => seqs.contains d.seq)
    item.foldl (fun s d => finish s r d.seq { status := status, length := if status = stOK then d.len else 0 }) s

/-- A frame ends here; a TX frame completes with `status`. -/
def dropFrame (s : State) (m : Meta) (status : Nat) : State := releaseFrame (txDone s m status) m.h

/-- A frame dropped by a policy or quota that counts against instance `n`. -/
def dropCount (s : State) (m : Meta) (n status : Nat) : State := dropFrame (countDrop s n status) m status

/-- The source instance of a frame from a vport. -/
def srcVport (m : Meta) : Option Nat := if m.src < 0x80 then some m.src else none

/-! ### Stage E and the queues (R590, R594, R604, R630–R635, R654, R655) -/

/-- What the match stages decided for a frame. -/
structure Verdict where
  /-- Egress port 0–7, with the vport or CPU queue within port 6 or 7. -/
  port : Nat
  dest : Nat := 0
  ring : Option Nat := none
  tc : Option Nat := none
  policer : Option Nat := none
  encap : Nat := 0
  tmpl : Nat := 0
  sa : Nat := 0
  /-- The owner of the flow entry, whose SAs and templates it names. -/
  owner : Nat := 0
deriving DecidableEq, Repr

/-- R630: the TC of a frame. -/
def classTc (s : State) (m : Meta) (v : Verdict) (p : Pkt) : Nat :=
  match v.tc with
  | some c => c
  | none =>
    if m.src < 0x80 && bit m.kw1 31 then wrap 3 m.kw1
    else
      let inPort := if m.src < 0x80 then 6 else if m.src = 0x87 then 7 else m.src - 0x80
      match p.tci with
      | some tci =>
        let k := tci / 8192
        s.get (if k = 0 then TSN_PORT_PCPMAP_TC0 inPort else if k = 1 then TSN_PORT_PCPMAP_TC1 inPort else if k = 2 then TSN_PORT_PCPMAP_TC2 inPort
          else if k = 3 then TSN_PORT_PCPMAP_TC3 inPort else if k = 4 then TSN_PORT_PCPMAP_TC4 inPort else if k = 5 then TSN_PORT_PCPMAP_TC5 inPort
          else if k = 6 then TSN_PORT_PCPMAP_TC6 inPort else TSN_PORT_PCPMAP_TC7 inPort)
      | none => s.get (TSN_PORT_CFG_UNTAG_TC inPort)

/-- The frame as it leaves: encapsulated, or with its VLAN tag by UNTAG of the egress port; DEI set on a yellow frame. Where it
cannot leave, the status of a TX frame. `n` is the charged instance. -/
def egressBytes (s : State) (m : Meta) (v : Verdict) (f : List Byte) (yellow : Bool) (n : Nat) : State × (Nat ⊕ List Byte) :=
  let f1 : Option (List Byte) :=
    if v.encap = 1 ∨ v.encap = 3 then
      match s.look tkFLOW v.tmpl with
      | some t => if t.tmpl then some (vxlanEncap f t) else none
      | none => none
    else if v.encap = 2 then some f
    else
      let pcp := match (parse f).tci with | some t => t / 8192 * 8192 | none => 0
      let dei := if yellow then 4096 else (match (parse f).tci with | some t => t / 4096 % 2 * 4096 | none => 0)
      let plain := match s.look tkVLAN m.vid with | some e => bit (e.f 5 1) v.port | none => true
      some (if plain then untag f else addTag (untag f) (pcp + dei + m.vid))
  match f1 with
  | none => (s, .inl stDROPPED_POLICY)
  | some g =>
    if v.encap = 2 ∨ v.encap = 3 then
      match cryptoTake s n g.length with
      | none => (s, .inl stDROPPED_QUOTA)
      | some s => match espOut s (v.owner * 4096 + v.sa) g with
        | (s, some g) => (s, .inr g)
        | (s, none) => (s, .inl stDROPPED_POLICY)
    else (s, .inr g)

/-- AUX of an RX completion (R617). -/
def rxAux (m : Meta) (f : List Byte) (p : Pkt) : Nat :=
  b2n (l3Ok f p) * 2 ^ 13 + b2n (l4Ok f p) * 2 ^ 12 + b2n (bit m.flags 2) * 2 ^ 11 + b2n (bit m.flags 3) * 2 ^ 10 + wrap 10 m.mark

/-- Stage M3 for a frame charged to `n`: its policer and its TC, which the metadata takes; none when it is dropped by policy. -/
def stageM3 (s : State) (m : Meta) (v : Verdict) (f : List Byte) (n : Nat) : State × Option (Nat × Bool) :=
  let p := parse f
  let (colour, s) := match v.policer.bind (policerOf s n) with
    | some g =>
      let (c, s) := police s g f.length (match p.tci with | some t => bit t 12 | none => false)
      (if c = 1 ∧ s.flag (TSN_POL_CFG_DROP_YELLOW g) then 2 else c, s)
    | none => (0, s)
  if colour = 2 then (s.bump (INS_CNT_POLICY_COUNT n), none)
  else
    let (tc, s) := demote s n (classTc s m v p)
    (s.store (cellAddr m.h + 6) 1 tc, some (tc, colour == 1))

/-- Stage E for one copy of a frame of class `tc`: 0 when queued, else the status a TX frame completes with. The frame stays in
the store; the caller counts its copies. -/
def stageE (s : State) (m : Meta) (v : Verdict) (f : List Byte) (n tc : Nat) (yellow : Bool) : State × Nat :=
  let p := parse f
  match egressBytes s m v f yellow n with
  | (s, .inl st) => (countDrop s n st, st)
  | (s, .inr g) =>
    if v.port < 6 ∧ s.get (NET_PORT_CFG_MAXLEN v.port) < g.length + macsecOver s v.port g then
      (if m.tx.isSome then s.bump (INS_CNT_POLICY_COUNT n) else s.bump NET_CNT_TOOBIG, stDROPPED_POLICY)
    else
      let e : QEnt := { h := m.h, bytes := g, inst := n, dest := v.dest, ring := v.ring, rss := spread p, aux := rxAux m f p,
                        cells := cellsFor g.length }
      let (s, ok) := enqueue s v.port tc e yellow
      if ok then (s, 0) else (s, stDROPPED_QUOTA)

/-- Stages M3 and E for a frame with one destination. -/
def sendCopy (s : State) (m : Meta) (v : Verdict) (f : List Byte) (n : Nat) : State × Nat :=
  match stageM3 s m v f n with
  | (s, none) => (s, stDROPPED_POLICY)
  | (s, some (tc, yellow)) => stageE s m v f n tc yellow

/-- The instance that a frame in the store is charged to. -/
def chargeOf (s : State) (h : Nat) : Nat := match s.frame? h with | some x => x.charge | none => 0

/-- R585: the instance that a frame to this destination is charged to; one from a packet thread keeps its charge. -/
def chargeFor (s : State) (m : Meta) (v : Verdict) : Nat :=
  if m.src < 0x80 then m.src else if m.src = 0x87 then chargeOf s m.h else if v.port = 6 then v.dest else 0

/-- A frame with one destination. -/
def sendOne (s : State) (m : Meta) (v : Verdict) (f : List Byte) : State :=
  let n := chargeFor s m v
  match moveCharge s m.h n with
  | none => dropCount s m n stDROPPED_QUOTA
  | some s =>
    let (s, st) := sendCopy s m v f n
    if st = 0 then txDone s m stOK else dropFrame s m st

/-- R594: the copies of a flooded frame: member ports, member vports, and queue FQ, without the source. -/
def floodTo (s : State) (m : Meta) : List Verdict :=
  match s.look tkVLAN m.vid with
  | none => []
  | some e =>
    ((List.range 6).filter (fun p => bit (e.f 4 1) p && m.src != 0x80 + p)).map (fun p => { port := p }) ++
    ((List.range 128).filter (fun n => bit (e.f 8 16) n && m.src != n)).map (fun n => { port := 6, dest := n }) ++
    (if e.flag 0 2 && m.src != 0x87 then [{ port := 7, dest := e.f 24 1 % 16 }] else [])

/-- A flooded frame passes M3 once, and stays charged as it is until the last copy has left (R585). -/
def sendFlood (s : State) (m : Meta) (f : List Byte) (v0 : Verdict) : State :=
  let n := chargeOf s m.h
  match floodTo s m with
  | [] => dropFrame s m stOK
  | ds =>
    match stageM3 s m v0 f n with
    | (s, none) => dropFrame s m stDROPPED_POLICY
    | (s, some (tc, yellow)) =>
      let (s, k, bad) := ds.foldl (fun (a : State × Nat × Nat) v =>
        let (s, k, bad) := a
        let (s, st) := stageE s m { v0 with port := v.port, dest := v.dest, ring := none } f n tc yellow
        if st = 0 then (s, k + 1, bad) else (s, k, st)) (s, 0, 0)
      if k = 0 then dropFrame s m bad
      else match s.frame? m.h with
        | some x => txDone (s.setFrame m.h { x with refs := k }) m stOK
        | none => txDone s m stOK

/-! ### Colander (R589–R602) -/

/-- M2: the destination by the FDB (R592–R594). -/
def matchFdb (s : State) (m : Meta) (f : List Byte) (v0 : Verdict) : State :=
  let p := parse f
  let fid := match s.look tkVLAN m.vid with | some e => e.f 2 2 | none => 0
  match (if bit (p.dst / 2 ^ 40) 0 then none else fdbLook s fid p.dst) with
  | none => sendFlood s m f v0
  | some e =>
    let d := e.f 10 1
    let v : Verdict := { v0 with port := if e.f 9 1 = 0 then d else if e.f 9 1 = 1 then 6 else 7, dest := if e.f 9 1 = 0 then 0 else d }
    let own := if e.f 9 1 = 0 then m.src == 0x80 + d else if e.f 9 1 = 1 then m.src == d else m.src == 0x87
    if own then dropFrame s m stDROPPED_POLICY else sendOne s m v f

/-- The hit of flow entry `i`: its statistics (R601). -/
def hitFlow (s : State) (i : Nat) (len : Nat) : State :=
  match s.ent? tkFLOW i with
  | some e => if e.tmpl then s else setFlow s i { e with lastT := s.T, pkts := wrap 32 (e.pkts + 1), bytes := wrap 64 (e.bytes + len) }
  | none => s

/-- The cache with index `i` used last; its set keeps 8 entries (R601). -/
def cacheUse (c : List Nat) (i : Nat) : List Nat :=
  let rest := c.filter (· ≠ i)
  let mine := rest.filter (fun j => Config.cacheSet j == Config.cacheSet i)
  match mine.getLast? with
  | some old => if 8 ≤ mine.length then i :: rest.filter (· ≠ old) else i :: rest
  | none => i :: rest

/-- The mark of a frame that waits behind an earlier frame of its source. -/
def heldBehind : Nat := 2 ^ 32

/-- FLAGS that P1 gives a frame (Table 16.2): L3_OK, L4_OK, TRUNC and FRAG, with DECRYPTED and DECAP as they were. -/
def pktFlags (f : List Byte) (p : Pkt) (old : Nat) : Nat :=
  b2n (l3Ok f p) + b2n (l4Ok f p) * 2 + bits old 2 2 * 4 + b2n p.trunc * 16 + b2n p.frag * 32

/-- R597: `n` re-entries are left; P1 to M2 for a frame that has passed P0. -/
def colander : Nat → State → Meta → List Byte → State
  | 0, s, m, _ => dropFrame (s.bump NET_CNT_RECIRC) m stDROPPED_POLICY
  | n + 1, s, m, f =>
    let p := parse f
    let m := { m with flags := pktFlags f p m.flags }
    let s := s.store (cellAddr m.h + 4) 2 m.flags
    let key := flowKey p m.src m.vid (bit m.flags 2) (bit m.flags 3) m.vni
    let hit := if s.flag NET_FLOW_CFG_EN then flowLook s key else none
    match hit with
    | none =>
      let vp := (srcVport m).bind (s.look tkVPORT ·)
      let miss := match vp with | some e => e.f 7 1 | none => 0
      if miss = 2 then dropFrame s m stDROPPED_POLICY
      else if miss = 1 then sendOne s m { port := 7, dest := (match vp with | some e => e.f 8 1 % 16 | none => 0) } f
      else matchFdb s m f { port := 0 }
    | some i =>
      if !s.net.cache.contains i then
        let s := s.bump NET_CACHE_CNT_MISS
        { s with net := { s.net with held := s.net.held ++ [(i, { m with again := 2 - n }, f)] } }
      else match s.look tkFLOW i with
        | none => s
        | some e =>
          let s := { s with net := { s.net with cache := cacheUse s.net.cache i } }
          let s := hitFlow s i f.length
          let act := e.f 48 4
          let kind := bits act 28 4
          let enc := bits act 24 4
          let dest := bits act 16 8
          let tc := if bit act 12 then some (bits act 13 3) else none
          let pol := if e.f 52 2 = 0xFFFF then none else some (e.f 52 2)
          let ring := if bits act 0 12 = 0xFFF then none else some (bits act 0 12)
          let m := { m with mark := bits (e.f 54 2) 0 10 }
          let s := (s.store (cellAddr m.h + 16) 4 i).store (cellAddr m.h + 20) 2 m.mark
          let v : Verdict := { port := 0, tc := tc, policer := pol, encap := enc, tmpl := e.f 56 4, sa := e.f 60 2, owner := e.f 62 1 }
          if kind = 0 then dropFrame s m stDROPPED_POLICY
          else if enc = 4 then
            match vxlanDecap f p (s.get NET_CFG_VXLAN_PORT) with
            | some (g, vni) => colander n s { m with flags := setBit m.flags 3, vni := vni } g
            | none => dropFrame s m stDROPPED_POLICY
          else if enc = 5 then
            match cryptoTake s (chargeOf s m.h) f.length with
            | none => dropCount s m (chargeOf s m.h) stDROPPED_QUOTA
            | some s => match espIn s (v.owner * 4096 + v.sa) f with
              | (s, some g) => colander n s { m with flags := setBit m.flags 2 } g
              | (s, none) => dropFrame s m stDROPPED_POLICY
          else if kind = 1 then
            if m.src = 0x80 + dest then dropFrame s m stDROPPED_POLICY else sendOne s m { v with port := dest % 8, dest := 0 } f
          else if kind = 2 then sendOne s m { v with port := 6, dest := dest % 128, ring := ring } f
          else if kind = 3 then sendOne s m { v with port := 7, dest := dest % 16 } f
          else matchFdb s m f v

/-- A frame enters P1; one whose source has a frame waiting on a miss waits behind it (R586). -/
def enterColander (s : State) (m : Meta) (f : List Byte) : State :=
  if s.net.held.any (fun e => e.2.1.src == m.src) then { s with net := { s.net with held := s.net.held ++ [(heldBehind, m, f)] } }
  else colander 3 s m f

/-- The first waiting frame that can go on: its entry is cached, or it only waited behind, and no earlier frame of its source
waits. -/
def heldReady (cache : List Nat) : List (Nat × Meta × List Byte) → List Nat → Option (Nat × Meta × List Byte)
  | [], _ => none
  | e :: t, seen =>
    if !seen.contains e.2.1.src && (e.1 == heldBehind || cache.contains e.1) then some e else heldReady cache t (e.2.1.src :: seen)

/-- One waiting frame goes on; where it has to wait again, it keeps its place. -/
def resumeOne (s : State) : State :=
  match heldReady s.net.cache s.net.held [] with
  | none => s
  | some e =>
    let rest := s.net.held.erase e
    let s := colander (3 - e.2.1.again) { s with net := { s.net with held := rest } } e.2.1 e.2.2
    match s.net.held.drop rest.length with
    | [x] => { s with net := { s.net with held := x :: rest } }
    | _ => s

/-- The frames that no longer wait go on, in order. -/
def resumeHeld (s : State) : State := iterate resumeOne s.net.held.length s

/-- R601: the fetch of flow entry `i` returns: it enters the cache and the frames that wait for it go on. -/
def flowCacheFill (s : State) (i : Nat) : State :=
  if s.net.held.any (fun e => e.1 == i) then resumeHeld { s with net := { s.net with cache := cacheUse s.net.cache i } } else s

/-! ### P0 for external ports (R581, R582, R590, R593, R662) -/

/-- R593: learning of the source address of a frame from port `p`. -/
def learn (s : State) (p vid : Nat) (f : List Byte) : State :=
  match s.ent? tkVLAN vid with
  | none => s
  | some v =>
    let fid := v.f 2 2
    let mac := (parse f).src
    let img (port : Nat) : List Byte := beBytes 6 mac ++ leBytes 2 fid ++ [1, 0] ++ leBytes 1 port ++ [0]
    match fdbFind s fid mac with
    | some i => match s.ent? tkFDB i with
      | none => s
      | some e =>
        let moved := e.f 8 1 == 1 && e.f 9 1 == 0 && e.f 10 1 != p && v.flag 0 1
        let s := s.setEnt tkFDB i { e with lastT := s.T, img := if moved then patch e.img 10 (leBytes 1 p) else e.img }
        if moved then s.bump NET_FDB_CNT_MOVES else s
    | none =>
      if !v.flag 0 1 then s
      else match fdbFree s fid mac with
        | some i => if tabCount s tkFDB 0 < pantry s 0 3 0 15 then s.setEnt tkFDB i { img := img p, owner := 0, lastT := s.T } else s.bump NET_FDB_CNT_LEARN_FULL
        | none => s.bump NET_FDB_CNT_LEARN_FULL

/-- R593: a LEARNED entry that has seen no frame for FDB_AGE s. -/
def fdbAge (s : State) (i : Nat) : State :=
  match s.ent? tkFDB i with
  | some e => if e.f 8 1 = 1 ∧ e.lastT + s.get NET_CFG_FDB_AGE * 1000000000 ≤ s.T then s.delEnt tkFDB i else s
  | none => s

/-- 64-bit frame counts. -/
def count64 (s : State) (lo hi : Fld) : State :=
  let v := s.get lo + s.get hi * 2 ^ 32 + 1
  s.puts [(lo, wrap 32 v), (hi, v / 2 ^ 32)]

/-- R662: whether port `p` diverts the frame to the aggregation block. -/
def aggDiverts (s : State) (p : Nat) (f : List Byte) : Bool :=
  s.flag AGG_CFG_EN && s.get AGG_CFG_PORT == p && be f (tagEnd f) 2 == 0x88B5 &&
    be f 0 6 == s.get AGG_MAC_LO_MAC + s.get AGG_MAC_HI_MAC * 2 ^ 32

/-- R662: the receive buffer takes a frame. -/
def aggReceive (s : State) (f : List Byte) : State :=
  if 16 ≤ s.agg.rx.length then s.bump AGG_CNT_RXDROP
  else ({ s with agg := { s.agg with rx := s.agg.rx ++ [(be f 6 6, f.drop (tagEnd f + 2))] } } : State).irq .agg

/-- A frame received on external port `p`: bytes without FCS, and whether the FCS is good. -/
def frameReceive (s : State) (p : Nat) (fcs : Bool) (f : List Byte) : State :=
  if 6 ≤ p || !s.flag (NET_PORT_CFG_EN p) || !s.flag (NET_PORT_LINK_UP p) then s
  else
    let s := count64 s (NET_PORT_RXF_LO_COUNT p) (NET_PORT_RXF_HI_COUNT p)
    if !fcs then s.bump (NET_PORT_DROP_FCS p)
    else if f.length + 4 < 64 then s.bump (NET_PORT_DROP_SIZE p)
    else match macsecIn s p f with
      | (s, none) => s
      | (s, some f) =>
        if s.get (NET_PORT_CFG_MAXLEN p) < f.length then s.bump (NET_PORT_DROP_SIZE p)
        else if be f (tagEnd f) 2 = 0x8808 then s.bump (NET_PORT_DROP_CTRL p)
        else if aggDiverts s p f then aggReceive s f
        else
          let vid := match (parse f).tci with | some t => if t % 4096 = 0 then s.get (NET_PORT_CFG_PVID p) else t % 4096 | none => s.get (NET_PORT_CFG_PVID p)
          if !vlanAdmits s vid (fun e => bit (e.f 4 1) p) then s.bump (NET_PORT_DROP_ADMIT p)
          else
            let s := learn s p vid f
            match allocFrame s 0 f.length with
            | none => s.bump (INS_CNT_QUOTA_COUNT 0)
            | some (h, s) =>
              let cs := match s.frame? h with | some x => x.cells | none => []
              let s := (writeCells s cs f).setBytes (cellAddr h) (metaBytes f.length p 0xFF 0 0 s.T 0xFFFFFFFF 0 vid)
              enterColander s { h := h, src := 0x80 + p, t := s.T, vid := vid } f

/-! ### Transmit rings (R591, R616) -/

/-- The frame of a TX item with the insertions of KW0. -/
def txEdit (f : List Byte) (kw0 : Nat) : List Byte :=
  let p := parse f
  let f := if bit kw0 30 then putL3 f p else f
  let f := if bit kw0 29 then putL4 f (parse f) else f
  if bit kw0 31 then addTag f (wrap 16 kw0) else f

/-- R616, R591: the oldest item of TX ring `r` is a FRAME whose bytes are `f`. -/
def txFrame (s : State) (r : Nat) (f : List Byte) : State :=
  match nextItem s r rkTX with
  | none => s
  | some item => match item with
    | [] => s
    | d :: _ =>
      if d.opc ≠ 1 then s
      else
        let n := ringInst s r
        let s := startItem s r item
        let f := txEdit (fix (item.foldl (fun a e => a + e.len) 0) f) (d.kw 0)
        let m0 : Meta := { h := 0xFFFFFFFF, src := n, tx := some (r, item.map (·.seq)), kw0 := d.kw 0, kw1 := d.kw 1, t := s.T }
        let vp := (s.look tkVPORT n).getD { img := List.replicate 9 0 }
        let pk := parse f
        let vid := match pk.tci with | some t => if t % 4096 = 0 then vp.f 0 2 else t % 4096 | none => vp.f 0 2
        let fid := match s.look tkVLAN vid with | some e => e.f 2 2 | none => 0
        let spoof := vp.flag 2 0 && (match fdbLook s fid pk.src with
          | some e => !(e.f 9 1 == 1 && e.f 10 1 == n)
          | none => true)
        if (pk.tci.isSome && !vp.flag 2 1) || !vlanAdmits s vid (fun v => bit (v.f 8 16) n) || spoof then txDone (countDrop s n stDROPPED_POLICY) m0 stDROPPED_POLICY
        else match allocFrame s n f.length with
          | none => txDone (countDrop s n stDROPPED_QUOTA) m0 stDROPPED_QUOTA
          | some (h, s) =>
            let cs := match s.frame? h with | some x => x.cells | none => []
            let s := (writeCells s cs f).setBytes (cellAddr h) (metaBytes f.length 6 n 0 0 s.T 0xFFFFFFFF 0 vid)
            enterColander s { m0 with h := h, vid := vid } f

/-- R587, R616: the oldest item of TX ring `r` is a TABLE whose records are `b`. -/
def txTable (s : State) (r : Nat) (b : List Byte) : State :=
  match nextItem s r rkTX with
  | some [d] =>
    if d.opc ≠ 0x10 then s
    else
      let s := startItem s r [d]
      let n := ringInst s r
      let step (s : State) (k : Nat) : State :=
        let (s, rc) := execRecord s (requesterOf n) (slice b (96 * k) 96)
        s.emit (.dma n (d.addr + 96 * k) rc)
      let s := (List.range (d.len / 96)).foldl step s
      finish s r d.seq { status := stOK, length := d.len }
  | _ => s

/-! ### Receive rings and CPU queues (R602, R617, R618) -/

/-- R602: the RX ring of instance `n` for a frame. -/
def rxRing (s : State) (e : QEnt) : Option Nat :=
  let vp := (s.look tkVPORT e.dest).getD { img := List.replicate 9 0 }
  let l := match e.ring with | some l => l | none => vp.f 4 2 + e.rss % 2 ^ (vp.f 6 1)
  (ringOf s e.dest l).filter (fun r => ringRunning s r && ringKind s r == rkRX)

/-- R617: fills the posted buffers of ring `r` in turn. -/
def fillRx (s : State) (r : Nat) (aux : Nat) : List Desc → List Byte → State
  | [], _ => s
  | d :: t, b =>
    if b.isEmpty then s
    else
      let part := b.take d.len
      let rest := b.drop d.len
      let s := s.emit (.dma (ringInst s r) d.addr part)
      fillRx (awaitDma s r d.seq { status := stOK, length := part.length, more := !rest.isEmpty, aux := aux }) r aux t rest

/-- R602: a frame that an RX ring cannot take is dropped and counted. -/
def rxDrop (s : State) (e : QEnt) : State := releaseFrame (s.bump (INS_CNT_QUOTA_COUNT e.dest)) e.h

/-- The buffers of RX ring `r` that are fetched and free, and whether they hold `n` bytes. -/
def rxFree (s : State) (r : Nat) : List Desc := (s.ring r).descs.filter (fun d => d.formed && !d.started && d.done.isNone)
def rxFits (s : State) (r n : Nat) : Bool := !(rxFree s r).isEmpty && n ≤ (rxFree s r).foldl (fun a d => a + d.len) 0

/-- Posted buffers of a ring that the fetch unit may still read. -/
def rxMore (s : State) (r : Nat) : Bool := ringRunning s r && busMaster s (ringInst s r) && (s.ring r).next != (s.ring r).tail

/-- R602, R617: a frame goes into the buffers of ring `r`, waits for posted ones to be fetched, or is dropped. -/
def rxPut (s : State) (r : Nat) (e : QEnt) : State :=
  if !ringRunning s r || !busMaster s (ringInst s r) then rxDrop s e
  else if rxFits s r e.bytes.length then releaseFrame (fillRx s r e.aux (rxFree s r) e.bytes) e.h
  else if rxMore s r then { s with net := { s.net with rxWait := s.net.rxWait ++ [(r, e)] } }
  else rxDrop s e

/-- R602: a frame reaches vport `e.dest`; frames for one ring keep their order (R586). -/
def deliverVport (s : State) (e : QEnt) : State :=
  match rxRing s e with
  | none => rxDrop s e
  | some r => if s.net.rxWait.any (fun x => x.1 == r) then { s with net := { s.net with rxWait := s.net.rxWait ++ [(r, e)] } } else rxPut s r e

/-- The first waiting frame, of those first for their ring, that need not wait any longer. -/
def rxNext (s : State) : List (Nat × QEnt) → List Nat → Option (Nat × QEnt)
  | [], _ => none
  | x :: t, seen => if !seen.contains x.1 && (rxFits s x.1 x.2.bytes.length || !rxMore s x.1) then some x else rxNext s t (x.1 :: seen)

/-- The frames that waited for buffers go into those that have been fetched. -/
def rxServe (s : State) : State :=
  iterate (fun s => match rxNext s s.net.rxWait [] with
    | some x => rxPut { s with net := { s.net with rxWait := s.net.rxWait.erase x } } x.1 x.2
    | none => s) s.net.rxWait.length s

def cpuq (s : State) (q : Nat) : List Nat := s.net.cpuq.get [] q
def setCpuq (s : State) (q : Nat) (l : List Nat) : State :=
  ({ s with net := { s.net with cpuq := s.net.cpuq.set q l } } : State).put (NET_CPUQ_DEPTH q) l.length

/-- R618: a handle reaches CPU queue `e.dest`. -/
def deliverCpu (s : State) (e : QEnt) : State :=
  let q := e.dest % 16
  let l := cpuq s q
  if !s.flag (NET_CPUQ_EN q) ∨ 1024 ≤ l.length then releaseFrame (s.bump (NET_CPUQ_DROPS_COUNT q)) e.h
  else
    let s := match s.frame? e.h with
      | some f =>
        let s := writeCells s f.cells e.bytes
        (s.store (cellAddr e.h) 2 e.bytes.length).setFrame e.h { f with cpu := true }
      | none => s
    let s := setCpuq s q (l ++ [e.h])
    if l.isEmpty then threadWake s (s.get (NET_CPUQ_PT q)) causeNOTIFY else s

/-- R582, R612, R649: the frame in transmission on port `p` has left. -/
def transmitEnd (s : State) (p : Nat) : State :=
  match (s.ptx p).cur with
  | none => s
  | some x =>
    if portRate s p = 0 ∨ s.T < txEnd s p x then s
    else
      let late := match x.close with | some e => e < txEnd s p x | none => false
      let s := s.when late (fun s => s.bump (TSN_TC_CNT_GATE_OVERRUN p x.tc))
      let s := touch s p (fun s => s.setPtx p { s.ptx p with cur := none })
      if p = 6 then rxServe (deliverVport s x.e)
      else if p = 7 then deliverCpu s x.e
      else match macsecOut s p x.e.inst x.e.bytes with
        | (s, none) => releaseFrame s x.e.h
        | (s, some b) => releaseFrame (count64 (s.emit (.frame p x.start b)) (NET_PORT_TXF_LO_COUNT p) (NET_PORT_TXF_HI_COUNT p)) x.e.h

/-! ### Datapath commands of packet threads (Table 16.10) -/

/-- PRX: the oldest handle of queue `q` for thread `n`. -/
def prx (s : State) (n q : Nat) : State × Nat :=
  if s.get (NET_CPUQ_PT q) ≠ n then (s, 0xFFFFFFFE)
  else match cpuq s q with
    | [] => (s, 0xFFFFFFFF)
    | h :: t => (setCpuq s q t, h)

/-- A handle that threads may use. -/
def cpuHandle (s : State) (h : Nat) : Bool :=
  match s.frame? h with
  | some f => f.cpu && (s.net.cpuq.all (fun e => !e.2.contains h))
  | none => false

/-- PTX: sends handle `h` as `b` says. -/
def ptx (s : State) (h b : Nat) : State × Nat :=
  if !cpuHandle s h then (s, 1)
  else
    let f := frameBytes s h
    let fr := (s.frame? h).getD { cells := [], charge := 0 }
    let s := s.setFrame h { fr with cpu := false }
    let vid := match (parse f).tci with | some t => if t % 4096 = 0 then s.load (cellAddr h + 22) 2 else t % 4096 | none => s.load (cellAddr h + 22) 2
    let m : Meta := { h := h, src := 0x87, t := s.T, vid := vid, flags := s.load (cellAddr h + 4) 2, mark := s.load (cellAddr h + 20) 2 }
    let code (st : Nat) : Nat := if st = 0 then 0 else if st = stDROPPED_QUOTA then 2 else 3
    let k := bits b 30 2
    if k = 0 then
      if vlanAdmits s vid (fun e => bit (e.f 4 1) 7) then (enterColander s m f, 0) else (dropFrame s m stDROPPED_POLICY, 3)
    else if k = 3 then (s.setFrame h fr, 1)
    else
      let v : Verdict := if k = 1 then { port := b % 8, tc := some (bits b 4 3) } else { port := 6, dest := bits b 8 7 }
      let (s, st) := sendCopy s m v f fr.charge
      if st = 0 then (s, 0) else (dropFrame s m st, code st)

/-- PFREE. -/
def pfree (s : State) (h : Nat) : State := if cpuHandle s h then releaseFrame s h else s

/-- PALLOC: a handle of `len` bytes charged to instance `n`. -/
def palloc (s : State) (len n : Nat) : State × Nat :=
  match allocFrame s n len with
  | none => (s.bump (INS_CNT_QUOTA_COUNT n), 0xFFFFFFFF)
  | some (h, s) =>
    let cs := match s.frame? h with | some f => f.cells | none => []
    let s := writeCells s cs []
    let s := s.setBytes (cellAddr h) (metaBytes len 7 n 0 0 s.T 0xFFFFFFFF 0 0)
    (match s.frame? h with | some f => s.setFrame h { f with cpu := true } | none => s, h)

/-- FLOOK: the index of the entry with a key. -/
def flook (s : State) (key : List Byte) : Nat := (flowLook s (fix 48 key)).getD 0xFFFFFFFF

/-! ### Ports and registers (R581, R625) -/

/-- The rate in Mb/s of a SPEED code. -/
def speedMbps (c : Nat) : Nat := match c with | 0 => 10 | 1 => 100 | 2 => 1000 | 3 => 2500 | 4 => 5000 | _ => 10000

/-- The modes that Table 16.1 gives a port. -/
def modeOk (p mode speed : Nat) : Bool :=
  if p < 2 then mode == 0 && 1 ≤ speed && speed ≤ 5 else if mode = 1 then speed ≤ 2 else mode == 2 && speed == 2

/-- R581: the link of port `p` comes up at a speed that its mode supports, or goes down. -/
def linkChange (s : State) (p : Nat) (up : Bool) (speed : Nat) : State :=
  if 6 ≤ p || !s.flag (NET_PORT_CFG_EN p) then s
  else if up then
    if modeOk p (s.get (NET_PORT_CFG_MODE p)) speed then
      touch s p (fun s => s.puts [(NET_PORT_LINK_UP p, 1), (NET_PORT_LINK_SPEED p, speed), (TSN_PORT_RATE_MBPS p, speedMbps speed)])
    else s
  else touch s p (fun s => s.puts [(NET_PORT_LINK_UP p, 0), (NET_PORT_LINK_SPEED p, 0), (TSN_PORT_RATE_MBPS p, 0), (TSN_PORT_STAT_VERIFIED p, 0)])

/-- R650: the verify exchange of port `p` succeeds. -/
def verifyDone (s : State) (p : Nat) : State :=
  if p < 6 && s.flag (NET_PORT_LINK_UP p) && s.flag (TSN_PORT_CFG_PREEMPT_EN p) then touch s p (fun s => s.put (TSN_PORT_STAT_VERIFIED p) 1) else s

/-- R619: the engine goes on or off: SSD bring-up starts. -/
def nvmeCfgWrite (s : State) (v : Nat) : State :=
  let was := s.flag NET_NVME_CFG_EN
  let s := s.puts [(NET_NVME_CFG_EN, bits v 31 1), (NET_NVME_CFG_STAGE, bits v 0 16)]
  let s := if bits v 24 7 = 0 then s else s.put NET_NVME_CFG_QD (bits v 24 7)
  if bit v 31 && !was then s.put NET_NVME_STAT_STATE 1
  else if !bit v 31 && was then s.puts [(NET_NVME_STAT_STATE, 0), (NET_NVME_STAT_IOQ, 0)]
  else s

/-- A write of NET_PORTp_CFG (R625). -/
def netPortCfg (s : State) (p v : Nat) : State :=
  let on := s.flag (NET_PORT_CFG_EN p)
  let maxlen := bits v 12 14
  let all (s : State) : State :=
    let s := s.puts [(NET_PORT_CFG_EN p, bits v 31 1), (NET_PORT_CFG_MODE p, bits v 28 3), (NET_PORT_CFG_PVID p, bits v 0 12)]
    if 1514 ≤ maxlen ∧ maxlen ≤ 9216 then s.put (NET_PORT_CFG_MAXLEN p) maxlen else s
  if on && bit v 31 then s.put NET_STAT_CFG_IGN 1
  else if on then linkChange (all s) p false 0 |> fun s => touch s p (fun s => s.puts [(NET_PORT_LINK_UP p, 0), (NET_PORT_LINK_SPEED p, 0), (TSN_PORT_RATE_MBPS p, 0)])
  else all s

/-- A write to the NET block. -/
def netWrite (s : State) (m off v : Nat) : State :=
  if !isMC m then s.refuseWrite m 21 off
  else if off = 0x20 then nvmeCfgWrite s v
  else if off = 0x0C ∨ off = 0x10 then
    if s.flag NET_FLOW_CFG_EN then s.put NET_STAT_CFG_IGN 1
    else if off = 0x0C then s.put NET_FLOW_BASE_LO_BASE (v / 2 ^ 21 * 2 ^ 21) else s.put NET_FLOW_BASE_HI_BASE v
  else if off = 0x04 then
    let s := s.put NET_CFG_VXLAN_PORT (bits v 16 16)
    if 10 ≤ wrap 16 v then s.put NET_CFG_FDB_AGE v else s
  else if 0x100 ≤ off ∧ off < 0x280 ∧ off % 0x40 = 0 then netPortCfg s ((off - 0x100) / 0x40) v
  else match findRow RegMap.mapNet off with
    | some (r, a, b) => rowWrite s 0 r a b v
    | none => s

end Sys2Proof.Machine
end

