-- ==== Sys2Proof/Machine/Packet.lean ====
section
/-! DEFINITION. The packet engine (15_packet_engine.md): run control, waiting and waking, the stall detector, the PX instructions,
TPUT, the PXE registers. -/
namespace Sys2Proof.Machine
open Sys2Proof.Reg

/-! ### Run control (R558–R562) -/

def ptState (s : State) (n : Nat) : Nat := s.get (PXE_PT_STAT_STATE n)
def ptPc (s : State) (n : Nat) : Nat := s.get (PXE_PT_STAT_PC n)
def ptIgn (s : State) (n : Nat) : State := s.put (PXE_PT_STAT_CFG_IGN n) 1

/-- The source of a wake compare is held: nothing fires on it by crossing (R570). -/
def wakeHolds (s : State) (a : WakeArm) : Bool := a.src < 8 && (srcHolds s a.src || srcState s a.src == srcOFF)

/-- R568: the target of NEVER. -/
def wakeNever (a : WakeArm) : Bool := a.src == 8 && a.tgt == 2 ^ 64 - 1

/-- R568, R82–R90: the wake compare of thread `n` is due by its crossing in this nanosecond. -/
def wakeCrossing (s : State) (n : Nat) (a : WakeArm) : Bool :=
  if a.src = 8 then !wakeNever a && a.tgt - a.lead ≤ s.T
  else !wakeHolds s a && ((s.pt n).jumpT == some s.T || (s.pt n).moveT == some s.T || a.late || dueNow s a.src a.dir a.lead a.tgt a.armT a.atTgt a.armPos)

def wakeDeadline (s : State) (a : WakeArm) : Bool := match a.deadline with | some d => d ≤ s.T | none => false

/-- R560, R574: the wake compare is disarmed; a firing in the same nanosecond is cancelled and counted. -/
def ptDisarm (s : State) (n : Nat) : State :=
  match (s.pt n).wake with
  | some a =>
    let s := if wakeCrossing s n a || wakeDeadline s a then s.bump (PXE_PT_CNT_CANCELLED_BEFORE_START n) else s
    (s.setPt n { s.pt n with wake := none, jumpT := none, moveT := none, heldFlag := false }).put (PXE_PT_STAT_NEVER n) 0
  | none => s

/-- R80: once every thread of a cluster is halted, the compare units that its threads own are released. -/
def clusterRelease (s : State) (c : Nat) : State :=
  if clusterHalted s c then (List.range 16).foldl (fun s j => releaseUnits s (reqPT (16 * c + j))) s else s

/-- R574: the WAIT of thread `n` has fired in this nanosecond. -/
def firedNow (s : State) (n : Nat) : Bool := (s.pt n).wokenFlags.isSome && (s.pt n).fireT == s.T

/-- R560, R574: a firing in the nanosecond of the HALT or the fault is cancelled and counted; its own causes leave PEND. -/
def ptUnfire (s : State) (n : Nat) : State :=
  if firedNow s n then
    (s.bump (PXE_PT_CNT_CANCELLED_BEFORE_START n)).put (PXE_PT_STAT_PEND n) (bitsMinus 8 (s.get (PXE_PT_STAT_PEND n)) 3)
  else s

/-- The thread stops in state `st`. -/
def ptStop (s : State) (n st : Nat) : State :=
  let s := ptUnfire (ptDisarm s n) n
  let s := s.setPt n { s.pt n with wokenFlags := none, block := .none, haltPend := false }
  noteStall (s.put (PXE_PT_STAT_STATE n) st) (n / 16)

/-- R559, R560: HALT. -/
def ptHalt (s : State) (n : Nat) : State :=
  let st := ptState s n
  if st = ptREADY ∨ st = ptWAITING then clusterRelease (ptStop s n ptHALTED) (n / 16)
  else if st = ptBLOCKED then s.setPt n { s.pt n with haltPend := true }
  else s

/-- R559: START. -/
def ptStart (s : State) (n : Nat) : State :=
  if !ptStopped s n then ptIgn s n
  else
    let t := s.pt n
    let s := s.setPt n { fireT := t.fireT, issueT := t.issueT }
    let s := s.puts [(PXE_PT_STAT_PEND n, 0), (PXE_PT_FAULT_INFO_VALID n, 0), (PXE_PT_FAULT_INFO_CAUSE n, 0), (PXE_PT_FAULT_INFO_REGION n, 0),
      (PXE_PT_FAULT_INFO_PC n, 0), (PXE_PT_STAT_PC n, s.get (PXE_PT_ENTRY_ENTRY n)), (PXE_PT_STAT_STATE n, ptREADY)]
    noteStall s (n / 16)

/-- R559: RESUME. -/
def ptResume (s : State) (n : Nat) : State :=
  if ptState s n = ptHALTED then noteStall (s.put (PXE_PT_STAT_STATE n) ptREADY) (n / 16) else ptIgn s n

def ptReg (n off : Nat) : Nat := 0x1000 + 0x20 * n + off

/-- R559: a write of PXE_PTn_CTRL. -/
def ptCtrlWrite (s : State) (m n v : Nat) : State :=
  if !isMC m then s.refuseWrite m 20 (ptReg n 0)
  else if bit v 1 then
    let s := ptHalt s n
    let s := if bit v 0 || bit v 2 then ptIgn s n else s
    if bit v 3 then s.bump (PXE_PT_CNT_POKE_DROPPED n) else s
  else
    let s := if bit v 0 then ptStart s n else s
    let s := if bit v 2 then ptResume s n else s
    if bit v 3 then threadWake s n causePOKE else s

/-- R561: a write of PXE_CLc_CTRL. -/
def clCtrlWrite (s : State) (m c v : Nat) : State :=
  if !isMC m then s.refuseWrite m 20 (0x100 + 0x20 * c)
  else
    let all (f : State → Nat → State) : State := (List.range 16).foldl (fun s j => f s (16 * c + j)) s
    if bit v 1 then all ptHalt
    else if bit v 0 then all (fun s n => if ptStopped s n then ptStart s n else s)
    else s

/-- R566: a fault of thread `n`. -/
def ptFault (s : State) (n cause region ea : Nat) : State :=
  let s := if s.flag (PXE_PT_FAULT_INFO_VALID n) then s
    else s.puts [(PXE_PT_FAULT_INFO_VALID n, 1), (PXE_PT_FAULT_INFO_CAUSE n, cause), (PXE_PT_FAULT_INFO_REGION n, region),
      (PXE_PT_FAULT_INFO_PC n, ptPc s n), (PXE_PT_FAULT_ADDR_EA n, ea)]
  clusterRelease ((ptStop s n ptFAULTED).irq .pxe) (n / 16)

def pfILLEGAL : Nat := 1
def pfMISALIGN : Nat := 2
def pfREFUSED : Nat := 3
def pfPOISON_READ : Nat := 4
def pfPOISON_WRITE : Nat := 5
def pfWINDOW : Nat := 6
def pfBREAK : Nat := 7

/-! ### Waking (R568–R576) -/

/-- R568, R570: the wake compare of thread `n` fires by its crossing or its deadline, or notes that it is held. -/
def wakeCompareFire (s : State) (n : Nat) : State :=
  match (s.pt n).wake with
  | none => s
  | some a =>
    let x := wakeCrossing s n a
    let d := wakeDeadline s a
    let t := s.pt n
    if ptState s n = ptWAITING ∧ (x || d) = true then
      let pend := s.get (PXE_PT_STAT_PEND n)
      let pend := if x then setBit pend causeTIMER else pend
      let pend := if d then setBit pend causeDEADLINE else pend
      let late := x && a.late && !(t.jumpT == some s.T)
      let flags := b2n late + b2n (x && t.jumpT == some s.T) * 2 + b2n t.heldFlag * 4
      fireWake (s.put (PXE_PT_STAT_PEND n) pend) n flags
    else if a.src < 8 && wakeHolds s a && wouldBeDue s a.src a.dir a.lead a.tgt a.armT then s.setPt n { t with heldFlag := true }
    else s

/-- R576: cluster `c` has been stalled for its limit. -/
def stallLimit (s : State) (c : Nat) : State :=
  match s.pxe.stallFrom.get none c with
  | some t =>
    if clusterStalled s c && t + s.get (PXE_CL_STALL_LIM_US c) * 1000 ≤ s.T then
      let s := ((s.put (PXE_CL_STAT_STALL c) 1).bump (PXE_CL_STALL_CNT_COUNT c)).irq (.stall c)
      let s := (List.range 16).foldl (fun s j => if ptStopped s (16 * c + j) then s else threadWake s (16 * c + j) causeSTALL) s
      { s with pxe := { s.pxe with stallFrom := s.pxe.stallFrom.set c none } }
    else s
  | none => s

/-! ### Instruction words (Tables 15.6, 15.7) -/

inductive PxOp where
  | add | sub | and_ | or_ | xor_ | sll | srl | sra | slt | sltu | mul | mulhu | clz | popc | bswap | crc32c | csum
  | addi | andi | ori | xori | slli | srli | srai | slti | sltiu | lui | bext | bins
  | lw | lh | lhu | lb | lbu | sw | sh | sb | amoadd | amoswap | cas
  | beq | bne | blt | bge | bltu | bgeu | jal | jalr | csrr | csrw
  | nop | wait | waitr | poke | halt | brk | tput | prx | ptx | pfree | palloc | flook | fcmd
  | illegal
deriving DecidableEq, Repr

/-- The fields of a word. -/
def pxD (w : Nat) : Nat := bits w 21 5
def pxA (w : Nat) : Nat := bits w 16 5
def pxB (w : Nat) : Nat := bits w 11 5
def pxImm (w : Nat) : Nat := bits w 0 16

/-- A format-R class: fields that must be 0 are checked by the row's mask on [25:6]. -/
def pxR (w : Nat) (ops : List (Nat × PxOp × Bool × Bool × Bool)) : PxOp :=
  match ops.find? (fun e => e.1 == bits w 0 6) with
  | some (_, op, d, a, b) =>
    if bits w 6 5 ≠ 0 ∨ (!d && pxD w != 0) ∨ (!a && pxA w != 0) ∨ (!b && pxB w != 0) then .illegal else op
  | none => .illegal

/-- Table 15.7, OP 0x00 and 0x3F: FN, the instruction, and which of d, a, b it uses. -/
def pxAlu : List (Nat × PxOp × Bool × Bool × Bool) :=
  [(0, .add, true, true, true), (1, .sub, true, true, true), (2, .and_, true, true, true), (3, .or_, true, true, true), (4, .xor_, true, true, true),
   (5, .sll, true, true, true), (6, .srl, true, true, true), (7, .sra, true, true, true), (8, .slt, true, true, true), (9, .sltu, true, true, true),
   (10, .mul, true, true, true), (11, .mulhu, true, true, true), (12, .clz, true, true, false), (13, .popc, true, true, false), (14, .bswap, true, true, false),
   (15, .crc32c, true, true, false), (16, .csum, true, true, false)]
def pxSys : List (Nat × PxOp × Bool × Bool × Bool) :=
  [(0, .nop, false, false, false), (1, .wait, true, true, true), (2, .waitr, true, true, false), (3, .poke, false, true, false), (4, .halt, false, false, false),
   (5, .brk, false, false, false), (16, .tput, true, true, true), (32, .prx, true, true, false), (33, .ptx, true, true, true), (34, .pfree, false, true, false),
   (35, .palloc, true, true, true), (36, .flook, true, true, false), (37, .fcmd, true, true, false)]
def pxAtom : List (Nat × PxOp × Bool × Bool × Bool) := [(0, .amoadd, true, true, true), (1, .amoswap, true, true, true), (2, .cas, true, true, true)]

/-- Table 15.8: CSR numbers and whether they can be written. -/
def csrKnown (c : Nat) (write : Bool) : Bool :=
  c == 2 || (0x20 ≤ c && c < 0x24) || (!write && [0, 1, 4, 0x10, 0x11, 0x30, 0x31].contains c)

/-- R579: the instruction that a word encodes. -/
def pxDecode (w : Nat) : PxOp :=
  let imm := pxImm w
  let im (op : PxOp) : PxOp := op
  let noA (op : PxOp) : PxOp := if pxA w = 0 then op else .illegal
  let sh (op : PxOp) : PxOp := if imm < 32 then op else .illegal
  let bf (op : PxOp) : PxOp := if imm < 1024 then op else .illegal
  match bits w 26 6 with
  | 0x00 => pxR w pxAlu
  | 0x01 => im .addi | 0x02 => im .andi | 0x03 => im .ori | 0x04 => im .xori
  | 0x05 => sh .slli | 0x06 => sh .srli | 0x07 => sh .srai
  | 0x08 => im .slti | 0x09 => im .sltiu | 0x0A => noA .lui | 0x0B => bf .bext | 0x0C => bf .bins
  | 0x10 => im .lw | 0x11 => im .lh | 0x12 => im .lhu | 0x13 => im .lb | 0x14 => im .lbu
  | 0x18 => im .sw | 0x19 => im .sh | 0x1A => im .sb
  | 0x1C => pxR w pxAtom
  | 0x20 => im .beq | 0x21 => im .bne | 0x22 => im .blt | 0x23 => im .bge | 0x24 => im .bltu | 0x25 => im .bgeu
  | 0x26 => noA .jal | 0x27 => im .jalr
  | 0x30 => if pxA w = 0 && imm < 4096 && csrKnown imm false then .csrr else .illegal
  | 0x31 => if pxA w = 0 && imm < 4096 && csrKnown imm true then .csrw else .illegal
  | 0x3F => pxR w pxSys
  | _ => .illegal

/-- The word at the program counter of thread `n`. -/
def pxWord (s : State) (n : Nat) : Nat := s.load (0x21000000 + 0x10000 * (n / 16) + 4 * ptPc s n) 4

/-! ### Registers and issue (R555, R556, R579) -/

def pxGet (s : State) (n r : Nat) : Word := if r = 0 then 0 else (s.pt n).x.get 0 r
def pxPut (s : State) (n r : Nat) (v : Word) : State :=
  if r = 0 then s else s.setPt n { s.pt n with x := (s.pt n).x.set r v }

def setPc (s : State) (n pc : Nat) : State := s.put (PXE_PT_STAT_PC n) (pc % 16384)
def nextPc (s : State) (n : Nat) : State := setPc s n (ptPc s n + 1)

/-- R555, R574: the thread is ready to issue; one whose WAIT has fired is ready from the next nanosecond on. -/
def ptReady (s : State) (n : Nat) : Bool :=
  ptState s n == ptREADY && !firedNow s n && (match (s.pt n).issueT with | some t => t + 4 ≤ s.T | none => true)

/-- R555: thread `n` is the one its cluster issues from in this cycle. -/
def ptChosen (s : State) (n : Nat) : Bool :=
  let c := n / 16
  let last := s.pxe.lastIssued.get 15 c
  let order := (List.range 16).map (fun j => 16 * c + (last + 1 + j) % 16)
  order.find? (ptReady s) == some n && order.all (fun k => (s.pt k).issueT != some s.T)

/-- The issue of an instruction of thread `n`; `fresh`: not the second issue of a WAIT. -/
def noteIssue (s : State) (n : Nat) : State :=
  let t := s.pt n
  let s := s.setPt n { t with issueT := some s.T, icnt := if t.wokenFlags.isSome then t.icnt else wrap 64 (t.icnt + 1) }
  { s with pxe := { s.pxe with lastIssued := s.pxe.lastIssued.set (n / 16) (n % 16) } }

/-- An instruction that writes Xd and goes on. -/
def pxDone (s : State) (n d : Nat) (v : Word) : State := nextPc (pxPut s n d v) n

/-! ### Operations on registers -/

def clz32 (v : Word) : Nat := 32 - (List.range 33).foldl (fun a i => if v.toNat < 2 ^ i then a else i + 1) 0
def bswap32 (v : Word) : Word := BitVec.ofNat 32 (ofBeBytes (leBytes 4 v.toNat))
def fold16 (x : Nat) : Nat := let y := x % 65536 + x / 65536; y % 65536 + y / 65536

/-- Table 15.7, OP 0x00: the result from Xa, Xb and the old Xd. -/
def pxAluVal (op : PxOp) (a b d : Word) : Word :=
  let sh := b.toNat % 32
  match op with
  | .add => a + b | .sub => a - b | .and_ => a &&& b | .or_ => a ||| b | .xor_ => a ^^^ b
  | .sll => a <<< sh | .srl => a >>> sh | .sra => a.sshiftRight sh
  | .slt => if a.slt b then 1 else 0
  | .sltu => if a.ult b then 1 else 0
  | .mul => a * b
  | .mulhu => BitVec.ofNat 32 (a.toNat * b.toNat / 2 ^ 32)
  | .clz => BitVec.ofNat 32 (clz32 a)
  | .popc => BitVec.ofNat 32 (popCount 32 a.toNat)
  | .bswap => bswap32 a
  | .crc32c => crcBytes polyC d (leBytes 4 a.toNat)
  | .csum => BitVec.ofNat 32 (fold16 (d.toNat % 65536 + a.toNat / 65536 + a.toNat % 65536))
  | _ => 0

/-- Table 15.7, formats I of OP 0x01–0x0C: the result from Xa, the immediate and the old Xd. -/
def pxImmVal (op : PxOp) (a : Word) (imm : Nat) (d : Word) : Word :=
  let z := BitVec.ofNat 32 imm
  let x := (BitVec.ofNat 16 imm).signExtend 32
  let lo := imm % 32
  let mask := BitVec.ofNat 32 (2 ^ (bits imm 5 5 + 1) - 1)
  match op with
  | .addi => a + x | .andi => a &&& z | .ori => a ||| z | .xori => a ^^^ z
  | .slli => a <<< lo | .srli => a >>> lo | .srai => a.sshiftRight lo
  | .slti => if a.slt x then 1 else 0
  | .sltiu => if a.ult x then 1 else 0
  | .lui => z <<< 16
  | .bext => (a >>> lo) &&& mask
  | .bins => (d &&& ~~~(mask <<< lo)) ||| ((a &&& mask) <<< lo)
  | _ => 0

/-- The condition of a branch. -/
def pxTaken (op : PxOp) (a b : Word) : Bool :=
  match op with
  | .beq => a == b | .bne => a != b | .blt => a.slt b | .bge => !a.slt b | .bltu => a.ult b | .bgeu => !a.ult b
  | _ => false

/-- A signed 16-bit displacement added to a word index (R579). -/
def pcPlus (pc imm : Nat) : Nat := unsigned 14 ((pc : Int) + signed 16 imm)

/-! ### Data addresses (R563–R566) -/

/-- Size in bytes, whether the access writes, whether a load sign-extends. -/
def pxShape (op : PxOp) : Nat × Bool × Bool :=
  match op with
  | .lh => (2, false, true) | .lhu => (2, false, false) | .lb => (1, false, true) | .lbu => (1, false, false)
  | .sw => (4, true, false) | .sh => (2, true, false) | .sb => (1, true, false)
  | _ => (4, false, false)

def isAtomic (op : PxOp) : Bool := op == .amoadd || op == .amoswap || op == .cas
def isStore (op : PxOp) : Bool := op == .sw || op == .sh || op == .sb

/-- The data address of the instruction `w`. -/
def pxEa (s : State) (n : Nat) (op : PxOp) (w : Nat) : Nat :=
  let a := pxGet s n (pxA w)
  if isAtomic op then a.toNat else (a + (BitVec.ofNat 16 (pxImm w)).signExtend 32).toNat

/-- Table 15.1: the internal address; none for a window whose EN is 0. -/
def pxAddr (s : State) (n ea : Nat) : Option Nat :=
  if 0x1F000000 ≤ ea ∧ ea < 0x1F006000 then some (0x20000000 + 0x8000 * n + (ea - 0x1F000000))
  else if 0x40000000 ≤ ea ∧ ea < 0x80000000 then
    let win := (s.pt n).win.get 0 (bits ea 28 2)
    if bit win 31 then some (dramBase + wrap 6 win * 2 ^ 28 + wrap 28 ea) else none
  else some ea

/-- The value of a loaded datum. -/
def pxExtend (size : Nat) (sign : Bool) (v : Nat) : Word :=
  if sign then BitVec.ofInt 32 (signed (8 * size) v) else BitVec.ofNat 32 v

/-- The outcome of an access of thread `n` at `a` with its value; `region` for a refused one. -/
def pxFinish (s : State) (n : Nat) (op : PxOp) (w ea : Nat) (res : AccRes) (v region : Nat) : State :=
  match res with
  | .refused => ptFault s n pfREFUSED region ea
  | .error => ptFault s n (if isStore op then pfPOISON_WRITE else pfPOISON_READ) 0 ea
  | .ok =>
    let (size, write, sign) := pxShape op
    if write then nextPc s n else pxDone s n (pxD w) (pxExtend size sign v)

/-- R565: an atomic on a Stockpot word. -/
def pxAtomicRun (s : State) (n : Nat) (op : PxOp) (w a ea : Nat) : State :=
  let b := pxGet s n (pxB w)
  let (r, bs, s) := memRead s (reqPT n) a 4
  let old := BitVec.ofNat 32 (ofLeBytes bs)
  if r ≠ .ok then pxFinish s n op w ea r 0 0x09
  else
    let put (s : State) (v : Word) : State :=
      let (r, s) := memWrite s (reqPT n) a (leBytes 4 v.toNat)
      pxFinish s n op w ea r old.toNat 0x09
    match op with
    | .amoadd => put s (old + b)
    | .amoswap => put s b
    | _ => if old = pxGet s n (pxD w) then put s b else pxFinish s n op w ea .ok old.toNat 0

/-- R563–R566: the issue of a load, a store or an atomic. -/
def pxMemIssue (s : State) (n : Nat) (op : PxOp) (w : Nat) : State :=
  let ea := pxEa s n op w
  let (size, write, _) := pxShape op
  if ea % size ≠ 0 then ptFault s n pfMISALIGN 0 ea
  else match pxAddr s n ea with
    | none => ptFault s n pfWINDOW 0 ea
    | some a =>
      if isAtomic op && areaOf s a != .stockpot then ptFault s n pfREFUSED (memRegion s a) ea
      else if areaOf s a = .slice n then
        if write then
          let (r, s) := memWrite s (reqPT n) a (leBytes size (pxGet s n (pxD w)).toNat)
          pxFinish s n op w ea r 0 0
        else
          let (r, b, s) := memRead s (reqPT n) a size
          pxFinish s n op w ea r (ofLeBytes b) 0
      else noteStall ((s.setPt n { s.pt n with block := .access ea }).put (PXE_PT_STAT_STATE n) ptBLOCKED) (n / 16)

/-- A blocked thread becomes READY, or HALTED when a HALT waits (R559). -/
def ptUnblock (s : State) (n : Nat) : State :=
  let t := s.pt n
  let s := s.setPt n { t with block := .none, haltPend := false }
  let s := noteStall (s.put (PXE_PT_STAT_STATE n) (if t.haltPend then ptHALTED else ptREADY)) (n / 16)
  if t.haltPend then clusterRelease s (n / 16) else s

/-- R564: the fabric access of a blocked thread completes. `acc` performs it: requester, write, address, size, value. -/
def threadAccessDone (acc : State → Nat → Bool → Nat → Nat → Nat → AccRes × Nat × State) (s : State) (n : Nat) : State :=
  match (s.pt n).block with
  | .access ea =>
    if ptState s n ≠ ptBLOCKED then s
    else
      let w := pxWord s n
      let op := pxDecode w
      match pxAddr s n ea with
      | none => ptFault s n pfWINDOW 0 ea
      | some a =>
        let (size, write, _) := pxShape op
        let s := ptUnblock s n
        if isAtomic op then pxAtomicRun s n op w a ea
        else
          let region := memRegion s a
          let (r, v, s) := acc s (reqPT n) write a size (pxGet s n (pxD w)).toNat
          pxFinish s n op w ea r v region
  | _ => s

/-! ### CSRs (R580) -/

/-- The reader's shadow of a 64-bit CSR. -/
def csrShadow (c : Nat) : Nat := 2 ^ 40 + c

def pxCsrRead (s : State) (n d c : Nat) : State :=
  let t := s.pt n
  let done (v : Nat) (s : State) : State := pxDone s n d (BitVec.ofNat 32 v)
  let pair (lo v : Nat) : State := done (wrap 32 v) (s.latch (reqPT n) (csrShadow lo) (v / 2 ^ 32))
  let high (lo v : Nat) : State := done ((s.shadow? (reqPT n) (csrShadow lo)).getD (v / 2 ^ 32)) s
  match c with
  | 0x000 => done (n / 16 * 64 + n) s
  | 0x001 => done (s.get (PXE_PT_STAT_PEND n)) s
  | 0x002 => done (t.tsrc * 2 ^ 28 + t.tdir * 2 ^ 26 + t.tlead) s
  | 0x004 => done t.fireT s
  | 0x010 => pair 0x10 s.T
  | 0x011 => high 0x10 s.T
  | 0x030 => pair 0x30 t.icnt
  | 0x031 => high 0x30 t.icnt
  | _ => done (t.win.get 0 (c - 0x20)) s

def pxCsrWrite (s : State) (n c v : Nat) : State :=
  let t := s.pt n
  let s := if c = 2 then
      let src := bits v 28 4
      let dir := bits v 26 2
      let keep := 8 < src || dir == 3
      s.setPt n { t with tsrc := if keep then t.tsrc else src, tdir := if keep then t.tdir else dir, tlead := if keep then t.tlead else wrap 16 v }
    else s.setPt n { t with win := t.win.set (c - 0x20) (bits v 31 1 * 2 ^ 31 + wrap 6 v) }
  nextPc s n

/-! ### WAIT (R568, R569, R573) -/

/-- A WAIT completes with the flags of its firing. -/
def waitComplete (s : State) (n d flags : Nat) : State :=
  let v := flags * 256 + s.get (PXE_PT_STAT_PEND n)
  let s := s.setPt n { s.pt n with wokenFlags := none }
  pxDone (s.put (PXE_PT_STAT_PEND n) 0) n d (BitVec.ofNat 32 v)

/-- The wake compare is armed and the thread waits. -/
def waitArm (s : State) (n : Nat) (a : WakeArm) : State :=
  let s := s.setPt n { s.pt n with wake := some a, jumpT := none, moveT := none, heldFlag := false }
  noteStall ((s.put (PXE_PT_STAT_STATE n) ptWAITING).put (PXE_PT_STAT_NEVER n) (b2n (wakeNever a))) (n / 16)

/-- WAIT and WAITR: completes at once, completes after its firing, or arms. -/
def pxWait (s : State) (n d : Nat) (a : WakeArm) : State :=
  match (s.pt n).wokenFlags with
  | some f => waitComplete s n d f
  | none => if s.get (PXE_PT_STAT_PEND n) ≠ 0 then waitComplete s n d 0 else waitArm s n a

/-- R568: the arming of WAIT Xd, Xa, Xb. -/
def waitArmOf (s : State) (n a b : Nat) : WakeArm :=
  let t := s.pt n
  if t.tsrc = 8 then
    let tgt := b * 2 ^ 32 + a
    { src := 8, dir := t.tdir, lead := t.tlead, tgt := tgt, deadline := none, armT := s.T, atTgt := false, late := tgt - t.tlead ≤ s.T }
  else
    let pos := livePos s t.tsrc s.T
    let at_ := wrap 32 pos == a
    { src := t.tsrc, dir := t.tdir, lead := t.tlead, tgt := a, deadline := if b = 0 then none else some (s.T + b), armT := s.T, atTgt := at_, armPos := pos,
      late := t.tlead != 0 && !srcHolds s t.tsrc && leadMet t.tdir t.tlead pos (liveSpeed s t.tsrc s.T) a at_ pos }

/-- R569. -/
def waitrArmOf (s : State) (a : Nat) : WakeArm :=
  { src := 8, dir := 0, lead := 0, tgt := wrap 64 (s.T + a), deadline := none, armT := s.T, atTgt := false, late := a == 0 }

/-! ### TPUT and datapath commands (R577, R578, Table 16.10) -/

/-- A slice address of thread `n`, by its alias or its own absolute address, with `len` bytes behind it inside the slice. -/
def sliceAddr (s : State) (n ea len : Nat) : Option Nat :=
  match pxAddr s n ea with
  | some a => if areaOf s a = .slice n ∧ areaOf s (a + len - 1) = .slice n then some a else none
  | none => none

def tcOK : Nat := 0
def tcNOBUF : Nat := 1
def tcTOOLONG : Nat := 2
def tcDENIED : Nat := 3
def tcSOURCE : Nat := 4

/-- R577: the ring is a RUNNING TELEMETRY ring that its stream's INS_STREAMs entry names. -/
def tputRing (s : State) (r : Nat) : Bool :=
  let st := s.get (HIF_RING_CTX6_STREAM r)
  r < 32768 && ringRunning s r && ringKind s r == rkTELEMETRY && 0x100 ≤ st && st < 0x200 && s.flag (INS_STREAM_VALID (st - 0x100)) &&
    s.get (INS_STREAM_RING (st - 0x100)) == r

/-- The thread waits for the TPUT with the code known so far. -/
def tputBlock (s : State) (n d r seq code : Nat) : State :=
  noteStall ((s.setPt n { s.pt n with block := .tput d r seq code }).put (PXE_PT_STAT_STATE n) ptBLOCKED) (n / 16)

/-- R577, R578: the record of thread `n` goes into the posted buffer `b` of ring `r`. -/
def tputSend (s : State) (n d r src len : Nat) (b : Desc) : State :=
  if len = 0 ∨ b.len < len then tputBlock s n d r 0 tcTOOLONG
  else
    let (res, bs, s) := memRead s (reqPT n) src len
    let s := startItem s r [b]
    match res with
    | .ok => tputBlock (awaitDma (s.emit (.dma (ringInst s r) b.addr bs)) r b.seq { status := stOK, length := len }) n d r b.seq tcOK
    | .refused => tputBlock (finish s r b.seq { status := stFAILED_DMA }) n d r b.seq tcSOURCE
    | .error =>
      let k := goodPrefix s src len
      let s := if k = 0 then s else s.emit (.dma (ringInst s r) b.addr (bs.take k))
      tputBlock (finish s r b.seq { status := stPOISONED_TARGET, length := k }) n d r b.seq tcSOURCE

/-- A posted buffer of ring `r` that the engine has not used, fetched or not. -/
def tputPosted (s : State) (r : Nat) : Bool :=
  (s.ring r).next != (s.ring r).tail || (s.ring r).descs.any (fun d => !d.started && d.done.isNone)

/-- R577, R578: the engine takes a TPUT: it delivers, fails, or waits for a posted buffer that it cannot use yet. -/
def tputTry (s : State) (n d r src len : Nat) : State :=
  if !tputRing s r then tputBlock (s.bump PXE_TPUT_CNT_DENIED) n d r 0 tcDENIED
  else match nextItem s r rkTELEMETRY with
    | some [b] => tputSend s n d r src len b
    | _ =>
      if tputPosted s r then
        noteStall ((s.setPt n { s.pt n with block := .tputWait d r src len }).put (PXE_PT_STAT_STATE n) ptBLOCKED) (n / 16)
      else tputBlock (s.bump PXE_TPUT_CNT_NOBUF) n d r 0 tcNOBUF

/-- R577: TPUT Xd, Xa, Xb reads its command block. -/
def pxTput (s : State) (n d r ea : Nat) : State :=
  if ea % 8 ≠ 0 then ptFault s n pfMISALIGN 0 ea
  else match sliceAddr s n ea 12 with
    | none => ptFault s n pfREFUSED (match pxAddr s n ea with | some a => memRegion s a | none => 0x0A) ea
    | some a => tputTry s n d r (s.load a 4 + s.load (a + 4) 1 * 2 ^ 32) (s.load (a + 8) 4)

/-- The waiting TPUT that was issued first, of those whose ring has a buffer to use now. -/
def tputNext (s : State) : Option Nat :=
  (List.range 64).foldl (fun acc n =>
    match (s.pt n).block with
    | .tputWait _ r _ _ =>
      if (nextItem s r rkTELEMETRY).isNone then acc
      else match acc with
        | some k => if (s.pt n).issueT.getD 0 < (s.pt k).issueT.getD 0 then some n else acc
        | none => some n
    | _ => acc) none

/-- R578: the ring engine serves the TPUTs that waited for a buffer. -/
def tputServe (s : State) : State :=
  iterate (fun s => match tputNext s with
    | some n => (match (s.pt n).block with
        | .tputWait d r src len => tputTry s n d r src len
        | _ => s)
    | none => s) 64 s

/-- The status with which SEQ `seq` of ring `r` completed, once its record is written. -/
def recStatus (s : State) (r seq : Nat) : Option Nat :=
  ((s.ring r).recs.reverse.find? (fun e => e.1 == ringLocal s r && e.2.1 == seq)).map (·.2.2)

/-- R577, R578: a TPUT ends: its completion has been written, or it has failed. -/
def tputDone (s : State) (n : Nat) : State :=
  match (s.pt n).block with
  | .tput d r seq code =>
    let done (s : State) (c : Nat) : State := pxDone (ptUnblock s n) n d (BitVec.ofNat 32 c)
    if ptState s n ≠ ptBLOCKED then s
    else if code ≠ tcOK then done s code
    else if (s.ring r).descs.any (fun e => e.seq == seq) then s
    else match recStatus s r seq with
      | some st => done s (if st = stOK then tcOK else if st = stFAILED_DMA ∨ st = stPOISONED_TARGET then tcSOURCE else tcDENIED)
      | none => done s tcDENIED
  | .tputWait d r _ _ =>
    let done (s : State) (c : Nat) : State := pxDone (ptUnblock s n) n d (BitVec.ofNat 32 c)
    if ptState s n ≠ ptBLOCKED then s
    else if !tputRing s r then done (s.bump PXE_TPUT_CNT_DENIED) tcDENIED
    else if !tputPosted s r then done (s.bump PXE_TPUT_CNT_NOBUF) tcNOBUF
    else s
  | _ => s

/-- What waited for the fetch of posted buffers goes on: TPUTs and received frames. -/
def hostServe (s : State) : State := rxServe (tputServe s)

/-- R587: FCMD executes the record in the slice and writes its result back. -/
def pxFcmd (s : State) (n d ea : Nat) : State :=
  match sliceAddr s n ea 96 with
  | none => ptFault s n pfREFUSED (match pxAddr s n ea with | some a => memRegion s a | none => 0x0A) ea
  | some a =>
    let (s, r) := execRecord s none (s.bytesAt a 96)
    pxDone (s.setBytes a r) n d (BitVec.ofNat 32 (le r 2 1))

def pxFlook (s : State) (n d ea : Nat) : State :=
  match sliceAddr s n ea 48 with
  | none => ptFault s n pfREFUSED (match pxAddr s n ea with | some a => memRegion s a | none => 0x0A) ea
  | some a => pxDone s n d (BitVec.ofNat 32 (flook s (s.bytesAt a 48)))

/-- Table 16.10: the other datapath commands. -/
def pxData (s : State) (n : Nat) (op : PxOp) (d a b : Nat) : State :=
  let ret (r : State × Nat) : State := pxDone r.1 n d (BitVec.ofNat 32 r.2)
  match op with
  | .prx => ret (prx s n (a % 16))
  | .ptx => ret (ptx s a b)
  | .palloc => ret (palloc s (wrap 14 a) (wrap 7 b))
  | .pfree => nextPc (pfree s a) n
  | .flook => pxFlook s n d a
  | .fcmd => pxFcmd s n d a
  | _ => s

/-! ### The instructions -/

/-- The instruction `op` of thread `n`, encoded by word `w` at its program counter. -/
def pxExec (s : State) (n : Nat) (op : PxOp) (w : Nat) : State :=
  let d := pxD w
  let a := pxGet s n (pxA w)
  let b := pxGet s n (pxB w)
  let old := pxGet s n d
  match op with
  | .add | .sub | .and_ | .or_ | .xor_ | .sll | .srl | .sra | .slt | .sltu | .mul | .mulhu | .clz | .popc | .bswap | .crc32c | .csum =>
    pxDone s n d (pxAluVal op a b old)
  | .addi | .andi | .ori | .xori | .slli | .srli | .srai | .slti | .sltiu | .lui | .bext | .bins => pxDone s n d (pxImmVal op a (pxImm w) old)
  | .lw | .lh | .lhu | .lb | .lbu | .sw | .sh | .sb | .amoadd | .amoswap | .cas => pxMemIssue s n op w
  | .beq | .bne | .blt | .bge | .bltu | .bgeu => if pxTaken op old a then setPc s n (pcPlus (ptPc s n) (pxImm w)) else nextPc s n
  | .jal => setPc (pxPut s n d (BitVec.ofNat 32 ((ptPc s n + 1) % 16384))) n (pcPlus (ptPc s n) (pxImm w))
  | .jalr => setPc (pxPut s n d (BitVec.ofNat 32 ((ptPc s n + 1) % 16384))) n (pcPlus (a.toNat % 16384) (pxImm w))
  | .csrr => pxCsrRead s n d (pxImm w)
  | .csrw => pxCsrWrite s n (pxImm w) old.toNat
  | .nop => nextPc s n
  | .wait => pxWait s n d (waitArmOf s n a.toNat b.toNat)
  | .waitr => pxWait s n d (waitrArmOf s a.toNat)
  | .poke => nextPc (threadWake s (a.toNat % 64) causePOKE) n
  | .halt => clusterRelease ((ptStop (nextPc s n) n ptHALTED).irq .pxe) (n / 16)
  | .brk => ptFault s n pfBREAK 0 0
  | .tput => pxTput s n d a.toNat b.toNat
  | .prx | .ptx | .pfree | .palloc | .flook | .fcmd => pxData s n op d a.toNat b.toNat
  | .illegal => ptFault s n pfILLEGAL 0 0

/-- R555: the row of an instruction: thread `n` issues it when its turn comes and its word encodes it. -/
def pxRow (s : State) (n : Nat) (op : PxOp) : State :=
  if !ptChosen s n then s
  else
    let w := pxWord s n
    if pxDecode w = op then pxExec (noteIssue s n) n op w else s

/-! ### The PXE registers (R559) -/

/-- A write of `v` at offset `off` of the PXE block. -/
def pxeRegWrite (s : State) (m off v : Nat) : State :=
  if !isMC m then s.refuseWrite m 20 off
  else if 0x100 ≤ off ∧ off < 0x180 then
    let c := (off - 0x100) / 0x20
    let k := (off - 0x100) % 0x20
    if k = 0 then clCtrlWrite s m c v
    else if k = 4 then
      s.puts [(PXE_CL_STAT_STALL c, s.get (PXE_CL_STAT_STALL c) * b2n (!bit v 30)), (PXE_CL_STAT_CFG_IGN c, s.get (PXE_CL_STAT_CFG_IGN c) * b2n (!bit v 29))]
    else if k = 8 then (if 10 ≤ wrap 16 v then s.put (PXE_CL_STALL_LIM_US c) v else s.put (PXE_CL_STAT_CFG_IGN c) 1)
    else s
  else if 0x1000 ≤ off ∧ off < 0x1800 then
    let n := (off - 0x1000) / 0x20
    let k := (off - 0x1000) % 0x20
    if k = 0 then ptCtrlWrite s m n v
    else if k = 4 then s.put (PXE_PT_ENTRY_ENTRY n) v
    else if k = 8 then (if bit v 27 then s.put (PXE_PT_STAT_CFG_IGN n) 0 else s)
    else s
  else if 0x2000 ≤ off ∧ off < 0x2400 ∧ off % 4 = 0 then
    let k := (off - 0x2000) / 4
    s.puts [(PXE_RWAKE_EN k, bits v 31 1), (PXE_RWAKE_PT k, bits v 24 6), (PXE_RWAKE_RING k, bits v 0 15)]
  else s

/-- The values of the block computed when read; a running thread's PC is not shown. -/
def livePxe (s : State) (k : FKey) : Option Nat :=
  if k = (PXE_CL_STAT_HALTED k.i).key then some (b2n (clusterHalted s k.i))
  else if k = (PXE_CL_STAT_NEVER k.i).key then
    some (((List.range 16).filter (fun j => ptState s (16 * k.i + j) == ptWAITING && s.flag (PXE_PT_STAT_NEVER (16 * k.i + j)))).foldl setBit 0)
  else if k = (PXE_PT_STAT_PC k.i).key then (if ptStopped s k.i then none else some (wrap 14 (Config.freeWord s.free)))
  else none

end Sys2Proof.Machine
end

