-- ==== Sys2Proof/Machine/Flash.lean ====
section
/-! DEFINITION. The Ledger in its flash (R406–R417): records, the journal's two phases, checkpoints, pruning, the start-up scan. -/
namespace Sys2Proof.Machine
open Sys2Proof.Reg

def rtGENESIS : Nat := 0x01
def rtCHECKPOINT : Nat := 0x02
def rtPRUNED : Nat := 0x03
def rtINTERRUPTED : Nat := 0x04
def rtAON_COLD : Nat := 0x05
def rtHEAD_ROLLBACK : Nat := 0x06
def rtSTATE_CARRY : Nat := 0x07
def rtBOOT : Nat := 0x10
def rtCOMPAT_ACK : Nat := 0x11
def rtIMAGE_LOAD : Nat := 0x12
def rtSESSION_OPEN : Nat := 0x20
def rtSESSION_FAIL : Nat := 0x21
def rtSESSION_CLOSE : Nat := 0x22
def rtKEY_ENROL : Nat := 0x23
def rtPASSWORD_SET : Nat := 0x24
def rtLIFECYCLE : Nat := 0x25
def rtDEBUG_OPEN : Nat := 0x26
def rtKEYS_ERASED : Nat := 0x27
def rtTAMPER_CFG : Nat := 0x28
def rtTAMPER : Nat := 0x29
def rtTAMPER_OVERFLOW : Nat := 0x2A
def rtTAMPER_REARM : Nat := 0x2B
def rtPSET_CHANGE : Nat := 0x30
def rtSESS_CFG : Nat := 0x32
def rtODO_CFG : Nat := 0x60
def rtODO_DISAGREE : Nat := 0x61
def rtODO_AGREE : Nat := 0x62
def rtODO_TOTAL : Nat := 0x63
def rtGRANT_SET : Nat := 0x64
def rtDROPPED : Nat := 0x70

/-- The codes of `LdgAfter` besides the grid profile's 1: a security message, the first step of DEBUG_OPEN, the checkpoint
before an erase. -/
def afterMSG : Nat := 3
def afterERASED : Nat := 4
def afterPRUNE : Nat := 5

/-- `l` cut or filled with zeros to `n` bytes. -/
def fixBytes (n : Nat) (l : List Byte) : List Byte := l.take n ++ List.replicate (n - l.length) 0

/-- The DK signature r ‖ s over SHA-256 of `b`. -/
def dkSign (b : List Byte) : List Byte := fixBytes 64 (Config.ecdsaSign (Config.sha256 b))

/-- R407: H of a record. -/
def recHash (hdr pl : List Byte) : List Byte := fixBytes 32 (Config.sha256 (hdr ++ pl))

/-- Table 10.4: the header of the record that follows the head. -/
def ldgHeader (s : State) (typ plen source inst : Nat) : List Byte :=
  let flags := b2n (!s.flag SEC_STAT_LIFECYCLE) + b2n (s.flag SEC_STAT_DEBUG_OPEN) * 2 + b2n (s.flag SEC_STAT_EPOCH_SAT) * 4
  leBytes 2 0x4C47 ++ leBytes 1 1 ++ leBytes 1 flags ++ leBytes 2 typ ++ leBytes 2 plen ++ leBytes 8 (s.ldg.headSeq + 1) ++ leBytes 8 s.T ++
    leBytes 4 (s.get SEC_EPOCH_EPOCH) ++ leBytes 1 source ++ leBytes 1 inst ++ [0, 0] ++ fixBytes 32 s.ldg.headHash

/-- R408: the payload of a CHECKPOINT under a header. -/
def ckptPayload (s : State) (hdr : List Byte) : List Byte :=
  let p := leBytes 8 (s.ldg.ckpt + 1) ++ leBytes 4 (s.get SEC_EPOCH_EPOCH) ++ leBytes 4 0
  p ++ dkSign (hdr ++ p)

/-- The record of a submission, in the next free slot. -/
def buildRec (s : State) (q : LdgReq) : LdgRec :=
  let plen := if q.typ = rtCHECKPOINT then 80 else q.pl.length
  let hdr := ldgHeader s q.typ plen q.source q.inst
  { slot := s.ldg.slot, seq := s.ldg.headSeq + 1, typ := q.typ, hdr := hdr, pl := if q.typ = rtCHECKPOINT then ckptPayload s hdr else q.pl }

/-- R411: the record slots, and the slots' blocks that hold records or the next slot. -/
def ldgSlots : Nat := (Config.ledgerBlocks - 1) * 128
def usedBlocks (l : Ldg) : List Nat :=
  ((l.recs.map (fun (r : LdgRec) => r.slot / 128)) ++ (if l.slot % 128 = 0 then [] else [l.slot / 128])).eraseDups
def freeBlocks (l : Ldg) : Nat := (Config.ledgerBlocks - 1) - (usedBlocks l).length

/-- The next slot lies in an erased block. -/
def slotFree (l : Ldg) : Bool := l.slot % 128 != 0 || !(usedBlocks l).contains (l.slot / 128)

def nextSlot (n : Nat) : Nat := if n + 1 < ldgSlots then n + 1 else 0

/-- What the LDG registers show of the head, the oldest record and the newest checkpoint. -/
def ldgShow (s : State) : State :=
  let l := s.ldg
  let oldest := match l.recs with | r :: _ => r.seq | [] => 0
  let s := s.puts [(LDG_HEAD_LO_SEQ, wrap 32 l.headSeq), (LDG_HEAD_HI_SEQ, l.headSeq / 2 ^ 32), (LDG_OLDEST_LO_SEQ, wrap 32 oldest),
    (LDG_OLDEST_HI_SEQ, oldest / 2 ^ 32), (LDG_CKPT_LO_SEQ, wrap 32 l.ckpt), (LDG_CKPT_HI_SEQ, l.ckpt / 2 ^ 32)]
  (List.range 8).foldl (fun s i => s.put (LDG_HEAD_HASH_HASH i) (ofBeBytes ((l.headHash.drop (4 * i)).take 4))) s

/-- R412, step 2: the record is in flash and the head moves to it. -/
def appendRec (s : State) (r : LdgRec) : State :=
  let l := s.ldg
  ldgShow { s with ldg := { l with recs := l.recs ++ [r], slot := nextSlot r.slot, headSeq := r.seq, headHash := recHash r.hdr r.pl,
                                   ckpt := if r.typ = rtCHECKPOINT then r.seq else l.ckpt } }

/-- Commits a record of the security core at once, outside the queue: at its start and before pruning. -/
def commitNow (s : State) (typ : Nat) (pl : List Byte) : State :=
  appendRec s (buildRec s { typ := typ, pl := pl, source := reqSecurity, inst := 0xFF, cls := clsOTHER, after := none })

/-- A submission of the security core that goes ahead of the queue. -/
def ckptReq (after : Option LdgAfter) : LdgReq :=
  { typ := rtCHECKPOINT, pl := [], source := reqSecurity, inst := 0xFF, cls := clsOTHER, after := after }

/-- R410: a DROPPED record as soon as the queue has room. -/
def pushDropped (s : State) : State :=
  let d := s.ldg.dropped
  if d.all (fun e => e.2 == 0) then s
  else
    let r : LdgReq := { typ := rtDROPPED, pl := (List.range 8).flatMap (fun c => leBytes 2 (d.get 0 c)), source := reqLedger, inst := 0xFF, cls := clsOTHER, after := none }
    if ldgRoom s r then ldgPush { s with ldg := { s.ldg with dropped := [] } } r else s

/-- R408, R409, R412, step 1: the flash engine writes the journal entry of the next record. -/
def commitStart (s : State) : State :=
  if s.ldg.busy.isSome || !s.flag LDG_STAT_FLASH_OK || !slotFree s.ldg then s
  else
    let due := 255 ≤ s.ldg.headSeq - s.ldg.ckpt
    match (if due && (s.ldg.queue.head?.map (·.typ)) != some rtCHECKPOINT then ckptReq none :: s.ldg.queue else s.ldg.queue) with
    | [] => s
    | q :: t => pushDropped { s with ldg := { s.ldg with queue := t, busy := some (q, buildRec s q) } }

/-- R412, step 2: the record is programmed, or its commit fails and its slot is voided: what was committed, and whether. -/
def commitEnd (s : State) (ok : Bool) : State × Option LdgReq :=
  match s.ldg.busy with
  | none => (s, none)
  | some (q, r) =>
    let s := { s with ldg := { s.ldg with busy := none } }
    if ok then (appendRec s r, some q) else ({ s with ldg := { s.ldg with slot := nextSlot r.slot } }, some q)

/-! ### Pruning (R414) -/

/-- The kind of configuration that a record holds, for a record itself or one carried: type and, for KEY_ENROL, its slot. -/
def carryKind (r : LdgRec) : Option (Nat × Nat) :=
  let (typ, pl) := if r.typ = rtSTATE_CARRY then (ofLeBytes ((r.pl.drop 4).take 2), r.pl.drop 64) else (r.typ, r.pl)
  if typ = rtKEY_ENROL then some (typ, ofLeBytes (pl.take 1))
  else if [rtPASSWORD_SET, rtTAMPER_CFG, rtODO_CFG, rtGRANT_SET, rtSESS_CFG, rtLIFECYCLE, rtPSET_CHANGE, rtODO_TOTAL].contains typ then some (typ, 0)
  else none

/-- The records of the block of the oldest record whose configuration has no newer record. -/
def carries (l : Ldg) (b : Nat) : List LdgRec :=
  let mine := l.recs.filter (fun r => r.slot / 128 == b)
  mine.filter (fun r => (carryKind r).isSome && !(l.recs.any (fun x => r.seq < x.seq && carryKind x == carryKind r)))

/-- The STATE_CARRY of a record. -/
def carryReq (x : LdgRec) : LdgReq :=
  let pl := if x.typ = rtSTATE_CARRY then x.pl else x.hdr ++ x.pl
  { typ := rtSTATE_CARRY, pl := pl, source := reqSecurity, inst := 0xFF, cls := clsOTHER, after := none }

/-- R414: with fewer than 2 erased blocks the oldest block is carried forward and a checkpoint committed, ahead of the queue;
its erase follows that commit. -/
def ledgerPrune (s : State) : State :=
  let l := s.ldg
  match l.recs with
  | [] => s
  | r :: _ =>
    let b := r.slot / 128
    let last := (l.recs.filter (fun x => x.slot / 128 == b)).foldl (fun a x => max a x.seq) 0
    if 2 ≤ freeBlocks l ∨ l.queue.any (fun q => (q.after.map (·.code)) == some afterPRUNE) then s
    else if l.ckpt ≤ last then s.put LDG_STAT_PRUNE_BLOCKED 1
    else
      let c : List LdgReq := (carries l b).map carryReq
      { s with ldg := { l with queue := c ++ [ckptReq (some { code := afterPRUNE, args := [b] })] ++ l.queue } }

/-- R414: the block is erased and a PRUNED record goes ahead of the queue. -/
def pruneErase (s : State) (b : Nat) : State :=
  let l := s.ldg
  match (l.recs.filter (fun x => x.slot / 128 == b)).getLast? with
  | none => s
  | some r =>
    let q : LdgReq := { typ := rtPRUNED, pl := leBytes 8 r.seq ++ recHash r.hdr r.pl, source := reqSecurity, inst := 0xFF, cls := clsOTHER, after := none }
    ldgShow { s with ldg := { l with recs := l.recs.filter (fun x => x.slot / 128 != b), queue := q :: l.queue } }

/-! ### Start (R413, R415–R417) -/

/-- R413: what a cut commit leaves: 0 the journal entry is partial, 1 the slot was cut, 2 the slot was programmed whole. -/
def journalCheck (s : State) (cut : Nat) : State :=
  match s.ldg.busy with
  | none => s
  | some (_, r) =>
    let s := { s with ldg := { s.ldg with busy := none } }
    if cut = 2 then
      commitNow (appendRec s r) rtINTERRUPTED (leBytes 8 r.seq ++ leBytes 2 r.typ ++ [1, 0])
    else
      let s := if cut = 1 then { s with ldg := { s.ldg with slot := nextSlot r.slot } } else s
      commitNow s rtINTERRUPTED (leBytes 8 r.seq ++ leBytes 2 r.typ ++ [0, 0])

/-- R415–R417: the security core finds its head: `missing` records that retained SRAM knows are not in flash, or the head's hash
differs; `cold` for a cold start of the always-on domain. -/
def ledgerStart (s : State) (cold : Bool) (cut missing : Nat) (altered : Bool) : State :=
  let s := { s with ldg := { s.ldg with recs := s.ldg.recs.take (s.ldg.recs.length - missing) } }
  let last := s.ldg.recs.getLast?
  let fSeq := match last with | some r => r.seq | none => 0
  let fHash := match last with | some r => recHash r.hdr r.pl | none => List.replicate 32 0
  let fCkpt := (s.ldg.recs.filter (fun r => r.typ == rtCHECKPOINT)).foldl (fun a r => max a r.seq) 0
  let old := s.ldg.headSeq
  let back := !cold && (fSeq < old || altered)
  let s := { s with ldg := { s.ldg with headSeq := fSeq, headHash := fHash, ckpt := fCkpt, queue := [], dropped := [] } }
  let s := s.put LDG_STAT_FLASH_OK 1
  let s := if last.isNone then commitNow s rtGENESIS (leBytes 1 (s.get SEC_STAT_LIFECYCLE) ++ [0, 0, 0] ++ fixBytes 16 Config.deviceId) else s
  let s := if cold then
      let e := min 4095 (s.get SEC_EPOCH_EPOCH + 1)
      let s := s.puts [(SEC_EPOCH_EPOCH, e), (SEC_STAT_EPOCH_SAT, b2n (e == 4095)), (LDG_STAT_ROLLBACK, 0), (LDG_DROPPED_COUNT, 0)]
      let s := journalCheck s cut
      commitNow s rtAON_COLD (leBytes 4 e ++ leBytes 8 fSeq)
    else journalCheck s cut
  if back then commitNow (s.put LDG_STAT_ROLLBACK 1) rtHEAD_ROLLBACK (leBytes 8 old ++ leBytes 8 fSeq) else ldgShow s

/-- The values of the LDG block computed when read. -/
def liveLdg (s : State) (k : FKey) : Option Nat :=
  if k = LDG_STAT_QDEPTH.key then some (min 31 s.ldg.queue.length)
  else if k = LDG_STAT_FREE_BLOCKS.key then some (freeBlocks s.ldg)
  else none

/-- R418, section 10.6: the padded slot images of `n` records from SEQ `first`; none outside the range held. -/
def slotImages (s : State) (first n : Nat) : Option (List Byte) :=
  let rs := s.ldg.recs.filter (fun r => first ≤ r.seq && r.seq < first + n)
  if n ≠ 0 && rs.length = n then
    some (rs.flatMap (fun r => let b := r.hdr ++ r.pl; b ++ List.replicate (512 - b.length) 0xFF))
  else none

end Sys2Proof.Machine
end

