-- ==== Sys2Proof/Machine/Safety.lean ====
section
/-! DEFINITION. The safety domain (08_machine_safety.md): inputs and test pulses, snapshots and commits, channel states, SS1,
straps, the parameter set, faults. -/
namespace Sys2Proof.Machine
open Sys2Proof.Reg

def dsBOOT : Nat := 0
def dsOPERATIONAL : Nat := 1
def dsSAFE : Nat := 2
def dsIMAGE_FAIL : Nat := 3
def dsRESTRICTED : Nat := 4

def scINIT : Nat := 0
def scSTO : Nat := 1
def scRUN : Nat := 2
def scSS1 : Nat := 3
def scFAULT : Nat := 4

/-- CAUSE codes (Table 8.13). -/
def scPOWERUP : Nat := 1
def scDEMAND : Nat := 2
def scSS1END : Nat := 3
def scINPUT : Nat := 4
def scSPEED : Nat := 5
def scOUTPUT : Nat := 6
def scLOST : Nat := 7
def scUNBOUND : Nat := 8
def scCOMPAT : Nat := 9
def scPSET : Nat := 10
def scDISABLED : Nat := 11
def scDOMAIN : Nat := 12

def State.sin (s : State) (n : Nat) : SinIn := s.saf.ins.get {} n
def State.setSin (s : State) (n : Nat) (v : SinIn) : State := { s with saf := { s.saf with ins := s.saf.ins.set n v } }
def State.sch (s : State) (c : Nat) : SafCh := s.saf.ch.get {} c
def State.setSch (s : State) (c : Nat) (v : SafCh) : State := { s with saf := { s.saf with ch := s.saf.ch.set c v } }

/-! ### The parameter set (Table 8.6) -/

def psWord (ps : List Nat) (i : Nat) : Nat := ps.getD i 0

def inFUNC (ps : List Nat) (n : Nat) : Nat := bits (psWord ps (4 + n)) 30 2
def inMASK (ps : List Nat) (n : Nat) : Nat := bits (psWord ps (4 + n)) 26 4
def inFILT (ps : List Nat) (n : Nat) : Nat := bits (psWord ps (4 + n)) 23 3
def inTP (ps : List Nat) (n : Nat) : Bool := bit (psWord ps (4 + n)) 22
def inDISC (ps : List Nat) (n : Nat) : Nat := bits (psWord ps (4 + n)) 0 16

/-- Word `k` of channel c. -/
def chWord (ps : List Nat) (c k : Nat) : Nat := psWord ps (12 + 12 * c + k)
def chEN (ps : List Nat) (c : Nat) : Bool := bit (chWord ps c 0) 31
def chAUTO (ps : List Nat) (c : Nat) : Bool := bit (chWord ps c 0) 30
def chNWIN (ps : List Nat) (c : Nat) : Nat := bits (chWord ps c 0) 10 4 + 1
def chCPT (ps : List Nat) (c : Nat) : Nat := bits (chWord ps c 1) 0 16 + 1

/-- Table 8.2: the filter time in µs. -/
def filtTime (code : Nat) : Nat := if code = 0 then 500 else 1000 * 2 ^ (code - 1)

/-- Table 8.5: whether set `ps` lies within the envelope of strap value `v`. The table exempts no input with FUNC NONE and no
disabled channel (log entry 70). -/
def envelopeOk (ps : List Nat) (v : Nat) : Bool :=
  let tmax := if bits v 2 2 = 0 then 2000 else if bits v 2 2 = 1 then 5000 else if bits v 2 2 = 2 then 10000 else 30000
  (List.range 8).all (fun n =>
    inFILT ps n ≤ bits v 0 2 + 2 && (inFUNC ps n != 2 || bit v 5) && (inTP ps n || bit v 6)) &&
  (List.range 4).all (fun c => bits (chWord ps c 5) 0 16 ≤ tmax && (!chAUTO ps c || bit v 4))

def within (lo hi v : Nat) : Bool := lo ≤ v && v ≤ hi

/-- R341 code 3: the ranges of input word n and of the words of channel c. -/
def inRange (ps : List Nat) (n : Nat) : Bool :=
  bits (psWord ps (4 + n)) 16 6 == 0 && (inMASK ps n != 0 || inFUNC ps n == 0) && inFILT ps n ≤ 5 && within 10 500 (inDISC ps n)

def chRange (ps : List Nat) (c : Nat) : Bool :=
  let w := chWord ps c
  bits (w 0) 24 3 == 0 && bit (w 0) 15 == false && bits (w 0) 0 10 == 0 && within 1 64 (bits (w 0) 16 8) && bits (w 1) 16 16 == 0 &&
  within 1 1000000 (w 2) && w 3 ≤ 1000000 && within 1 10000000 (w 4) && within 1 30000 (bits (w 5) 0 16) &&
  bits (w 5) 16 16 < bits (w 5) 0 16 && within 1 1000000 (w 6) && bits (w 7) 24 8 ≤ 64 && within 1 255 (bits (w 7) 16 8) &&
  bits (w 7) 0 16 == 0 && (List.range 4).all (fun k => w (8 + k) == 0) &&
  (!chEN ps c || chAUTO ps c || (List.range 8).any (fun n => inFUNC ps n == 3 && bit (inMASK ps n) c))

def psRange (ps : List Nat) : Bool :=
  let w2 := psWord ps 2
  psWord ps 0 != 0 && bits (psWord ps 1) 0 16 == 0 && within 10 80 (bits w2 24 8) && bits w2 16 8 ≤ 100 && within 20 1000 (bits w2 0 16) &&
  bits (psWord ps 3) 8 24 == 0 && (List.range 8).all (inRange ps) && (List.range 4).all (chRange ps) &&
  psWord ps 60 == 0 && psWord ps 61 == 0 && psWord ps 62 == 0

/-- R341 code 4. -/
def spacingOk (ps : List Nat) : Bool :=
  let w2 := psWord ps 2
  let f := (List.range 8).foldl (fun a n => if inTP ps n then max a (filtTime (inFILT ps n)) else a) 0
  (bits w2 24 8 + bits w2 16 8) * 10 + f ≤ bits w2 0 16 * 500

def psCrc (ps : List Nat) : Nat := crc32 (wordsBytes (ps.take 63))

/-- R341: 0, or the first result code that refuses the set. -/
def psetCheck (s : State) (ps : List Nat) : Nat :=
  if psCrc ps ≠ psWord ps 63 then 1
  else if bits (psWord ps 1) 16 16 ≠ 1 then 2
  else if !psRange ps then 3
  else if !spacingOk ps then 4
  else if !envelopeOk ps s.saf.boot then 5
  else if (List.range 4).any (fun c => s.get (SAF_CH_STAT_STATE c) == scRUN || s.get (SAF_CH_STAT_STATE c) == scSS1) then 6
  else 0

/-! ### Records (R345) -/

/-- A safety-event record of kind `k` for channel `ch` (4: the domain). -/
def safEvent (s : State) (k ch : Nat) : State :=
  let pl := leBytes 1 (if ch < 4 then ch else Config.domainCh) ++ leBytes 1 (Config.safetyEvent k) ++ leBytes 2 0 ++ leBytes 8 s.saf.lastT ++
    leBytes 4 (if ch < 4 then mapWord s (fun _ => none) 0 RegMap.mapSaf (0x100 + 0x20 * ch) else 0) ++
    leBytes 4 (mapWord s (fun _ => none) 0 RegMap.mapSaf 0)
  ldgSubmit s { typ := 0x31, pl := pl, source := reqSafety, inst := 0xFF, cls := clsSAFETY, after := none }

/-! ### Inputs (R319–R325) -/

/-- The level at which an input demands its function; for a RESET input, its active level. -/
def demandLevel (func : Nat) : Bool := func == 3

/-- R325: the fault clears once both channels have shown the demand level together and then the idle level together. -/
def sinClear (func : Nat) (v : SinIn) : SinIn :=
  if v.code = 0 then v
  else
    let dl := demandLevel func
    if v.a = dl ∧ v.b = dl then { v with seenDemand := true }
    else if v.a = !dl ∧ v.b = !dl ∧ v.seenDemand = true then { v with code := 0, seenDemand := false }
    else v

/-- R320, R325: whether input n demands. -/
def sinDemands (s : State) (n : Nat) : Bool :=
  let f := inFUNC s.saf.pset n
  let v := s.sin n
  (f == 1 || f == 2) && (v.code != 0 || !v.a || !v.b)

/-- The channels in the masks of the inputs that meet `p`. -/
def inMasks (s : State) (p : Nat → Bool) : Nat :=
  (List.range 4).foldl (fun a c => if (List.range 8).any (fun n => p n && bit (inMASK s.saf.pset n) c) then setBit a c else a) 0

/-- A mask of the inputs that meet `p`. -/
def inBits (p : Nat → Bool) : Nat := (List.range 8).foldl (fun a n => if p n then setBit a n else a) 0

/-- Bits of `a` that `d` does not hold, over the four channels. -/
def maskOff (a d : Nat) : Nat := (List.range 4).foldl (fun x c => if bit a c && !bit d c then setBit x c else x) 0

/-- The channels that some input's demand names. -/
def State.demanded (s : State) : Nat := inMasks s (sinDemands s)

/-! ### Test pulses (R322, R323) -/

/-- TP_W, TP_W + TP_SETTLE and TP_PER of the active set, in ns. -/
def State.tpW (s : State) : Nat := bits (psWord s.saf.pset 2) 24 8 * 10000
def State.tpBlank (s : State) : Nat := s.tpW + bits (psWord s.saf.pset 2) 16 8 * 10000
def State.tpPer (s : State) : Nat := bits (psWord s.saf.pset 2) 0 16 * 1000000

/-- T of the last pulse's start on TPA (`sideB` false) or TPB. -/
def State.pulse (s : State) (sideB : Bool) : Option Nat := if sideB then s.saf.pulseB else s.saf.pulseA

/-- The level of TPA or TPB at the present T: high, except for TP_W from a pulse's start. -/
def tpLevel (s : State) (sideB : Bool) : Bool :=
  match s.pulse sideB with
  | some t => decide (t + s.tpW ≤ s.T)
  | none => true

/-- Whether the channels that TPA or TPB feeds are in a blanking window. -/
def blanked (s : State) (sideB : Bool) : Bool :=
  match s.pulse sideB with
  | some t => decide (s.T < t + s.tpBlank)
  | none => false

/-- R322: a test pulse starts: on TPA at a snapshot instant, TP_PER or more after the last one; on TPB TP_PER ÷ 2 after TPA's
(log entry 214). -/
def testPulse (s : State) (sideB : Bool) : State :=
  if !s.saf.started then s
  else if sideB then
    match s.saf.pulseA with
    | some a => if s.T = a + s.tpPer / 2 then { s with saf := { s.saf with pulseB := some s.T } } else s
    | none => s
  else
    let due := match s.saf.pulseA with
      | some a => decide (a + s.tpPer ≤ s.T)
      | none => true
    if due && s.saf.snaps.any (fun k => k.t == s.T) then { s with saf := { s.saf with pulseA := some s.T } } else s

/-- R325: input n declares a fault. -/
def sinFault (s : State) (n code : Nat) : State :=
  let v := s.sin n
  if v.code ≠ 0 then s else s.setSin n { v with code := code, seenDemand := false }

/-- R323: the test-pulsed inputs with accepted level 1 on the pulsed channel. -/
def State.pulsedOn (s : State) (sideB : Bool) (n : Nat) : Bool :=
  inTP s.saf.pset n && (if sideB then (s.sin n).b else (s.sin n).a)

/-- R323: the raw levels of the pulsed channels and of the other ones at the last 1 µs sample of the pulse in progress, where a
missing pulse shows, and those of the other ones at the end of its blanking window (`otherEnd`), where a short between the channels
does. -/
def testCheck (s : State) (sideB : Bool) (pulsed other otherEnd : Nat) : State :=
  match s.pulse sideB with
  | none => s
  | some t =>
    if s.T < t + s.tpW ∧ t + s.tpW ≤ s.T + 1000 then
      let susp := inBits (fun n => s.pulsedOn sideB n && !bit other n)
      let s := (List.range 8).foldl (fun s n => if s.pulsedOn sideB n && bit pulsed n then sinFault s n 2 else s) s
      if sideB then { s with saf := { s.saf with suspB := susp } } else { s with saf := { s.saf with suspA := susp } }
    else if t + s.tpBlank ≤ s.T ∧ s.T < t + s.tpBlank + 1000 then
      let susp := if sideB then s.saf.suspB else s.saf.suspA
      let s := (List.range 8).foldl (fun s n => if bit susp n && bit otherEnd n then sinFault s n 3 else s) s
      if sideB then { s with saf := { s.saf with suspB := 0 } } else { s with saf := { s.saf with suspA := 0 } }
    else s

/-- R324; before a set is active there is no DISC. -/
def discTimeout (s : State) (n : Nat) : State :=
  match (s.sin n).differ with
  | some t => if !s.saf.pset.isEmpty ∧ t + inDISC s.saf.pset n * 1000000 < s.T then sinFault s n 1 else s
  | none => s

/-- R321: input n's acknowledgement reaches the channels of its MASK, but not those that a demand holds (R333). -/
def acknowledge (s : State) (n : Nat) : State :=
  let l := maskOff (inMASK s.saf.pset n) s.demanded
  { s with saf := { s.saf with acks := (List.range 4).foldl (fun a c => if bit l c then setBit a c else a) s.saf.acks } }

/-- R319: channel A (`sideB` false) or B of input n has read `level` at `held` successive 1 µs samples outside the blanking windows
(log entry 213): it is accepted once they make F, unless the channel is blanked. -/
def sinAccept (s : State) (n : Nat) (sideB level : Bool) (held : Nat) : State :=
  let ps := s.saf.pset
  if (inTP ps n && blanked s sideB) || !s.saf.started || held < filtTime (inFILT ps n) then s
  else
    let v := s.sin n
    let v := if sideB then { v with b := level } else { v with a := level }
    let v := { v with differ := if v.a = v.b then none else (match v.differ with | some t => some t | none => some s.T) }
    let v := sinClear (inFUNC ps n) v
    if inFUNC ps n ≠ 3 then s.setSin n v
    else
      let both := v.a && v.b
      match v.oneT with
      | none =>
        let v := if !v.a && !v.b then { v with jam := false } else v
        s.setSin n (if both && !v.jam then { v with oneT := some s.T } else v)
      | some t =>
        if both then s.setSin n v
        else
          let d := s.T - t
          let long := 3000000000 < d
          let ok := decide (50000000 ≤ d) && !long && v.code == 0
          let s := s.setSin n { v with oneT := none, jam := long && (v.a || v.b) }
          if ok then acknowledge s n else s

/-! ### Channel-B counters (R327) -/

/-- Whether a level that changes at the present T has held for the 200 ns of the filter since its last accepted edge. -/
def spcHeld (s : State) (last : Option Nat) : Bool :=
  match last with
  | some t => decide (t + 200 ≤ s.T)
  | none => true

/-- R327: edges on SPCNTc_A and SPCNTc_B to the levels `a` and `b`; the 200 ns filter takes no edge that follows its line's last
one sooner. A change of both lines at once has no direction and is not counted (log entry 215). -/
def spcntEdge (s : State) (c : Nat) (a b : Bool) : State :=
  let p := s.saf.spc.get {} c
  let ea := a != p.a && spcHeld s p.ta
  let eb := b != p.b && spcHeld s p.tb
  let q : SpcIn := { a := if ea then a else p.a, b := if eb then b else p.b, ta := if ea then some s.T else p.ta, tb := if eb then some s.T else p.tb }
  let d : Int :=
    if bit (chWord s.saf.pset c 0) 14 then (if ea && q.a then 1 else 0)
    else if ea == eb then 0
    else
      -- the sequence 00, 10, 11, 01 is the order in which A leads
      let lead := if ea then q.a != p.b else q.b == p.a
      if lead = Config.spcntForward then 1 else -1
  { s with saf := { s.saf with spc := s.saf.spc.set c q, cnt := s.saf.cnt.set c (s.saf.cnt.get 0 c + d) } }

/-! ### Snapshots (R315, R317) -/

/-- The snapshot at the present T, by a capture (`ext`) or on the pair's own timer. An acknowledgement beside a demand is
discarded (R333). -/
def takeSnap (s : State) (ext : Bool) (srcs : List CapSrc) : State :=
  let f := s.saf
  let run := if ext then f.capRun + 1 else 0
  let lost := if ext then f.lost && decide (run < 8) else f.lost || f.first
  let snap : Snap := {
    t := s.T, ext := ext, counted := ext || f.first, srcs := srcs, cnt := (List.range 4).map (fun c => f.cnt.get 0 c),
    sto := inMasks s (fun n => sinDemands s n && inFUNC f.pset n == 1), ss1 := inMasks s (fun n => sinDemands s n && inFUNC f.pset n == 2),
    flt := inMasks s (fun n => (s.sin n).code != 0), ack := maskOff f.acks s.demanded,
    demand := inBits (fun n => sinDemands s n), inFault := inBits (fun n => (s.sin n).code != 0),
    lvlA := inBits (fun n => (s.sin n).a), lvlB := inBits (fun n => (s.sin n).b),
    codes := (List.range 8).foldl (fun a n => a + (s.sin n).code * 4 ^ n) 0, lost := lost }
  { s with saf := { f with snaps := f.snaps ++ [snap], first := f.first || ext, capRun := run, lost := lost, lastT := s.T, acks := 0 } }

/-- R98, R315: a capture on consumer 0xF0. -/
def safCapture (s : State) : State := if s.saf.started then takeSnap s true (captureSources s).srcs else s

/-- R317: the pair's own snapshot, after 255 µs without a capture, or on its own 250 µs timer before the first one. -/
def ownSnapshot (s : State) : State :=
  let gap := if s.saf.first then 255000 else 250000
  if s.saf.started && s.saf.lastT + gap ≤ s.T then takeSnap s false [] else s

/-! ### One commit (R316, R326–R337) -/

/-- R339, R344: the DFAULT code of the straps; 0 when they are valid and agree with the set. The latest value is held against the
envelope first, after a strap change too (log entry 216). -/
def strapFault (f : Saf) : Nat :=
  if f.opened then 7
  else if popCount 8 f.live % 2 = 0 then 6
  else if !f.pset.isEmpty && !envelopeOk f.pset f.live then 9
  else if f.live ≠ f.boot then 8
  else 0

/-- Speeds in 10^-6 mturn/s (R326, R327). -/
def speedA (ps : List Nat) (c : Nat) (raw : Int) : Int :=
  Int.tdiv (raw * 10 ^ 18) ((2 ^ 48 * bits (chWord ps c 0) 16 8 : Nat) : Int)

def speedB (ps : List Nat) (c : Nat) (d : Int) : Int :=
  Int.tdiv (d * 4000000 * 10 ^ 6) ((chCPT ps c * chNWIN ps c : Nat) : Int)

/-- The captured state of channel A's source. -/
def srcOfA (ps : List Nat) (c : Nat) (k : Snap) : Option CapSrc :=
  if k.ext then k.srcs[bits (chWord ps c 0) 27 3]? else none

/-- R328: whether the two speeds disagree. -/
def speedMismatch (ps : List Nat) (c : Nat) (va : Option Int) (vb : Int) : Bool :=
  match va with
  | none => true
  | some a =>
    let big := max a.natAbs vb.natAbs
    let tol := max (chWord ps c 6 * 1000000) (bits (chWord ps c 7) 24 8 * big / 256)
    tol < (a - vb).natAbs

/-- R336: v_lim at `dt` ns after t0, in 10^-6 mturn/s. -/
def speedLimit (ps : List Nat) (c : Nat) (v0 : Int) (dt : Nat) : Int :=
  let top := v0 + chWord ps c 3 * 1000000
  let delay := bits (chWord ps c 5) 16 16 * 1000000
  if dt ≤ delay then top else top - ((chWord ps c 4 * (dt - delay) / 1000 : Nat) : Int)

/-- Enters STO with a cause (R330, R346). -/
def chToSto (s : State) (c cause : Nat) : State :=
  let was := s.get (SAF_CH_STAT_STATE c)
  let s := s.puts [(SAF_CH_STAT_STATE c, scSTO), (SAF_CH_STAT_CAUSE c, cause)]
  let s := s.setSch c { s.sch c with outT := none, dyn := false }
  if was = scSTO then s else s.bump (SAF_CH_CNT_STO_ENTRIES c)

/-- Enters FAULT with a cause (Table 8.7); a channel in FAULT is still out of STO (R346). -/
def chToFault (s : State) (c cause : Nat) : State :=
  if s.get (SAF_CH_STAT_STATE c) = scFAULT then s
  else safEvent (s.puts [(SAF_CH_STAT_STATE c, scFAULT), (SAF_CH_STAT_CAUSE c, cause)]) cause c

/-- The causes for which an automatic acknowledgement is enough (R332). -/
def autoEnough (s : State) (c : Nat) : Bool :=
  let k := s.get (SAF_CH_STAT_CAUSE c)
  k == scPOWERUP || k == scUNBOUND || k == scDEMAND ||
    (k == scSS1END && (s.get (SAF_CH_STAT_SS1_END c) == 1 || s.get (SAF_CH_STAT_SS1_END c) == 2))

/-- R336, R337: a channel in SS1 at snapshot `k` with speed `v`. -/
def ss1Eval (s : State) (c : Nat) (k : Snap) (v : Int) : State :=
  let ps := s.saf.pset
  let h := s.sch c
  let dt := k.t - h.t0
  let finish (code : Nat) : State := chToSto (s.put (SAF_CH_STAT_SS1_END c) code) c scSS1END
  if bit k.sto c then chToSto s c scDEMAND
  else if speedLimit ps c h.v0 dt < v then safEvent (finish 3) (0x100 + 3) c
  else if v < chWord ps c 2 * 1000000 then finish 1
  else if bits (chWord ps c 5) 0 16 * 1000000 ≤ dt then safEvent (finish 2) (0x100 + 2) c
  else
    let lim := Int.tdiv (speedLimit ps c h.v0 dt) 1000000
    s.puts [(SAF_CH_VLIM_VLIM c, unsigned 32 lim), (SAF_CH_SS1_T_T c, dt / 1000)]

/-- R332–R334: a channel in STO at snapshot `k`; `low` says that both balls read back low. -/
def stoEval (s : State) (c : Nat) (k : Snap) (op low : Bool) : State :=
  let demand := bit k.sto c || bit k.ss1 c
  let others := !demand && op && low && !k.lost
  let ack := bit k.ack c || (chAUTO s.saf.pset c && autoEnough s c)
  if others && ack then
    let s := s.setSch c { s.sch c with outT := some s.T }
    s.puts [(SAF_CH_STAT_STATE c, scRUN), (SAF_CH_STAT_CAUSE c, 0), (SAF_CH_STAT_SS1_END c, 0), (SAF_CH_STAT_RST_WAIT c, 0)]
  else s.put (SAF_CH_STAT_RST_WAIT c) (b2n others)

/-- Table 8.3: a channel in RUN at snapshot `k` with speed `v`. -/
def runEval (s : State) (c : Nat) (k : Snap) (v : Int) : State :=
  let role := s.get (PWM_BIND_ROLE c)
  if bit k.sto c || (bit k.ss1 c && (role == roleGRID || role == roleDCDC)) then chToSto s c scDEMAND
  else if bit k.ss1 c then
    let s := s.setSch c { s.sch c with t0 := k.t, v0 := v }
    s.puts [(SAF_CH_STAT_STATE c, scSS1), (SAF_CH_STAT_CAUSE c, 0), (SAF_CH_SS1_T_T c, 0),
      (SAF_CH_VLIM_VLIM c, unsigned 32 (Int.tdiv (speedLimit s.saf.pset c v 0) 1000000))]
  else s

/-- Table 8.3: the first state after the domain's start. -/
def initCause (s : State) (c ds : Nat) : Nat :=
  if ds = dsRESTRICTED then scCOMPAT
  else if ds = dsSAFE then scDOMAIN
  else if !chEN s.saf.pset c then scDISABLED
  else if !s.flag (PWM_BIND_BOUND c) then scUNBOUND
  else scPOWERUP

/-- R326–R329: the speeds of channel c at snapshot `k`, their mirrors and the cross-check; answers v. -/
def speedEval (s : State) (c : Nat) (k : Snap) : State × Int :=
  let ps := s.saf.pset
  let h := s.sch c
  let now := k.cnt.getD c 0
  let old := match s.saf.hist[chNWIN ps c - 1]? with
    | some l => l.getD c 0
    | none => match s.saf.hist.getLast? with
      | some l => l.getD c 0
      | none => now
  let a := srcOfA ps c k
  let va : Option Int := match a with
    | some e => if e.state = srcTRACKING ∨ e.state = srcFOLLOWING then some (speedA ps c e.speed) else none
    | none => none
  let neg := match va with
    | some v => decide (v < 0)
    | none => h.neg
  let d := now - old
  let d : Int := if bit (chWord ps c 0) 14 then (if neg then -(d.natAbs : Int) else (d.natAbs : Int)) else d
  let vb := speedB ps c d
  let bad := k.counted && speedMismatch ps c va vb
  let h := { h with neg := neg, mism := if bad then h.mism + 1 else if k.counted then 0 else h.mism,
                    okRun := if bad then 0 else if k.counted then h.okRun + 1 else h.okRun }
  let h := { h with speedFault := if bits (chWord ps c 7) 16 8 ≤ h.mism ∧ h.mism ≠ 0 then true else h.speedFault && h.okRun < 8 }
  let s := s.setSch c h
  let s := s.when bad (fun s => s.bump (SAF_CH_CNT_MISMATCH c))
  let s := s.puts [(SAF_CH_STAT_A_VALID c, b2n va.isSome), (SAF_CH_VB_V c, unsigned 32 (Int.tdiv vb 1000000)),
    (SAF_CH_VA_V c, unsigned 32 (Int.tdiv (va.getD 0) 1000000))]
  (s, max (va.getD 0).natAbs vb.natAbs)

/-- Table 8.7: readback against the command of the last commit. -/
def readbackEval (s : State) (c : Nat) (ra rb : Bool) : State :=
  let h := s.sch c
  let agree := ra == bit (s.get SAF_OUT_STOA) c && rb == bit (s.get SAF_OUT_STOB) c
  let h := { h with rbBad := if agree then 0 else h.rbBad + 1, rbOk := if agree then h.rbOk + 1 else 0 }
  let h := { h with outFault := if 2 ≤ h.rbBad then true else h.outFault && h.rbOk < 2 }
  (s.setSch c h).puts [(SAF_CH_STAT_STOA_RB c, b2n ra), (SAF_CH_STAT_STOB_RB c, b2n rb)]

/-- The cause of the fault that stands on channel c at snapshot `k`; 0 for none. -/
def chFault (s : State) (c : Nat) (k : Snap) : Nat :=
  if bit k.flt c then scINPUT else if (s.sch c).speedFault then scSPEED else if (s.sch c).outFault then scOUTPUT else 0

/-- Table 8.7: a lost capture puts the channel in STO, from FAULT too; a fault that still stands moves it back at the next commit. -/
def chLost (s : State) (c : Nat) : State :=
  chToSto (s.when (s.get (SAF_CH_STAT_CAUSE c) != scLOST) (fun s => safEvent s scLOST c)) c scLOST

/-- Table 8.3: the transition of channel c at the commit of snapshot `k`. Before the first capture a channel keeps what it got at
INIT (R317); a channel in FAULT leaves it by an acknowledgement, unbound and disabled too (log entry 69). -/
def chEval (s : State) (c ds : Nat) (k : Snap) (v : Int) (low : Bool) : State :=
  let st := s.get (SAF_CH_STAT_STATE c)
  let s := s.puts [(SAF_CH_STAT_RST_WAIT c, 0), (SAF_CH_VLIM_VLIM c, 0), (SAF_CH_SS1_T_T c, 0)]
  if st = scINIT then chToSto s c (initCause s c ds)
  else if ds ≠ dsOPERATIONAL then
    let cause := if ds = dsRESTRICTED then scCOMPAT else scDOMAIN
    if st = scFAULT then s.put (SAF_CH_STAT_CAUSE c) cause else chToSto s c cause
  else if !k.counted then s
  else if st ≠ scFAULT ∧ chEN s.saf.pset c = false then chToSto s c scDISABLED
  else if st ≠ scFAULT ∧ s.flag (PWM_BIND_BOUND c) = false then chToSto s c scUNBOUND
  else if !k.ext then chLost s c
  else if chFault s c k ≠ 0 then chToFault s c (chFault s c k)
  else if st = scFAULT then
    (if bit k.ack c then chToSto s c (s.get (SAF_CH_STAT_CAUSE c)) else s)
  else if st = scSTO then stoEval s c k (ds == dsOPERATIONAL) low
  else if st = scRUN then runEval s c k v
  else ss1Eval s c k v

/-- The permit, the STO balls and PERMIT of channel c after its transition (R330). -/
def chOutputs (s : State) (c : Nat) : State :=
  let on := s.get (SAF_CH_STAT_STATE c) == scRUN || s.get (SAF_CH_STAT_STATE c) == scSS1
  let s := s.puts
    [(SAF_CH_STAT_PERMIT c, b2n on), (SAF_CH_STAT_DYN_DUE c, b2n (s.sch c).dyn),
     (SAF_OUT_STOA, if on then setBit (s.get SAF_OUT_STOA) c else clrBit (s.get SAF_OUT_STOA) c),
     (SAF_OUT_STOB, if on then setBit (s.get SAF_OUT_STOB) c else clrBit (s.get SAF_OUT_STOB) c)]
  setPermit s c on

/-- R335: SDOx is high only while every channel in its mask is in RUN or SS1. -/
def sdoLevel (s : State) (x : Nat) : Bool :=
  let m := bits (psWord s.saf.pset 3) (4 * x) 4
  m != 0 && (setBits 4 m).all (fun c => s.get (SAF_CH_STAT_STATE c) == scRUN || s.get (SAF_CH_STAT_STATE c) == scSS1)

/-- DSTATE and DFAULT at a commit (R314, R339, R344), and the mirrors of the straps and of the set. -/
def domainEval (s : State) : State :=
  let f := s.saf
  let sf := strapFault f
  let df := if f.hw ≠ 0 then f.hw else sf
  let ds := if df ≠ 0 then dsSAFE else if f.line ≠ 2 then dsRESTRICTED else dsOPERATIONAL
  let s := s.when (sf != 0 && f.strapF != sf) (fun s => safEvent s (0x200 + sf) 4)
  ({ s with saf := { s.saf with strapF := sf } } : State).puts
    [(SAF_STAT_DSTATE, ds), (SAF_STAT_DFAULT, df), (SAF_STAT_STRAP_OK, b2n (sf == 0)), (SAF_STAT_PSET_OK, b2n (!f.pset.isEmpty)),
    (SAF_STRAP_OPEN, b2n f.opened), (SAF_STRAP_BOOT, f.boot), (SAF_STRAP_LIVE, f.live), (SAF_PSET_ID_ID, psWord f.pset 0),
    (SAF_PSET_CRC_CRC, psWord f.pset 63), (SAF_PSET_RES_CODE, f.res)]

/-- R316: the commit of the oldest snapshot is due. -/
def commitDue (s : State) : Bool :=
  match s.saf.snaps with
  | [] => false
  | k :: _ => s.saf.started && decide (k.t + 500000 ≤ s.T)

/-- R342, step 5: the pair takes the set whose record is committed. -/
def takeSet (s : State) : State :=
  match s.saf.activate with
  | none => s
  | some ps => { s with saf := { s.saf with pset := ps, activate := none, res := 0, changed := true } }

/-- Channel c at a commit: the read-backs, the speeds, the transition, the outputs. The activation of a set puts it in STO,
whatever else its snapshot asks for (R342, log entry 217). -/
def chCommit (s : State) (ds : Nat) (k : Snap) (ra rb : Bool) (c : Nat) : State :=
  let (s, v) := speedEval (readbackEval s c ra rb) c k
  chOutputs (if s.saf.changed then chToSto s c scPSET else chEval s c ds k v (!ra && !rb)) c

/-- R316: the commit of snapshot `k`: permits, SDO levels and every SAF mirror; `rba`, `rbb` are the read-back levels of STOA_c and
STOB_c. -/
def commitSnap (s : State) (k : Snap) (rba rbb : Nat) : State :=
  let s := domainEval (takeSet s)
  let ds := s.get SAF_STAT_DSTATE
  let s := (List.range 4).foldl (fun s c => chCommit s ds k (bit rba c) (bit rbb c) c) s
  let s := s.when s.saf.changed (fun s => safEvent s 0x300 4)
  let s := { s with saf := { s.saf with hist := (k.cnt :: s.saf.hist).take 16, changed := false } }
  let cyc := wrap 64 (s.get SAF_CYCLE_LO_COUNT + s.get SAF_CYCLE_HI_COUNT * 2 ^ 32 + 1)
  s.puts [(SAF_SIN_DEMAND, k.demand), (SAF_SIN_FAULT, k.inFault), (SAF_SIN_A, k.lvlA), (SAF_SIN_B, k.lvlB), (SAF_SIN_FLT_CODES, k.codes),
    (SAF_OUT_SDO, b2n (sdoLevel s 0) + 2 * b2n (sdoLevel s 1)), (SAF_SNAP_T_T, wrap 32 k.t), (SAF_CYCLE_LO_COUNT, wrap 32 cyc),
    (SAF_CYCLE_HI_COUNT, cyc / 2 ^ 32)]

/-- SAFETY_COMMIT: the commit of the oldest snapshot, where it is due. -/
def safCommit (s : State) (rba rbb : Nat) : State :=
  match s.saf.snaps with
  | [] => s
  | k :: rest => if commitDue s then commitSnap { s with saf := { s.saf with snaps := rest } } k rba rbb else s

/-! ### Domain faults and starts (R311–R313, R315, R339, R352) -/

/-- Hardware drives every STO and SDO ball low and withdraws every permit. -/
def dropAll (s : State) : State :=
  let s := s.puts [(SAF_OUT_STOA, 0), (SAF_OUT_STOB, 0), (SAF_OUT_SDO, 0)]
  (List.range 4).foldl (fun s c => setPermit s c false) s

/-- R311, R312: a fault that hardware detects, with its DFAULT code; DFAULT shows the latest, and a fault that already stands is no
new entry (log entry 71). -/
def hwFault (s : State) (code : Nat) : State :=
  let s' := (dropAll { s with saf := { s.saf with hw := code } }).puts [(SAF_STAT_DSTATE, dsSAFE), (SAF_STAT_DFAULT, code)]
  if s.saf.hw = code then s' else safEvent s' (0x200 + code) 4

/-- R312: a commit that was due is missing. -/
def cycleMiss (s : State) : State :=
  if commitDue s then hwFault s 2 else s

/-- R705, R352: a reset of the safety domain: permits withdrawn at once, every SAF register at its reset value, units 124–127
disarmed (R78) and the units that the safety pair had claimed released (R80); the verdict line is the security core's. -/
def safetyReset (s : State) : State :=
  let s := (List.range 4).foldl (fun s k => disarmUnit s (124 + k)) (releaseUnits (dropAll s) reqSafety)
  { s with regs := s.regs.resetBlock 12, saf := { line := s.saf.line, spc := s.saf.spc },
           shadows := s.shadows.filter (fun e => e.1 / 256 < blockBase 12 0 ∨ blockBase 13 0 ≤ e.1 / 256) }

/-- R78: the CFG, TGT and STEP writes and the ARM that a domain makes through its arming port, by the rules of an owner's writes:
unit 124 on T, PERIODIC, STEP 250,000 ns, consumer 0xF0 (R315); unit 120 with 10^9 ns and 0xF1 (R419). -/
def armPort (s : State) (u step cons : Nat) : State :=
  let tgt := wrap 64 (s.T + step)
  let s := s.puts [(TSP_CMP_CFG_SRC u, 8), (TSP_CMP_CFG_DIR u, 0), (TSP_CMP_CFG_MODE u, 1), (TSP_CMP_CFG_CONS u, cons),
    (TSP_CMP_CFG_LEAD u, 0), (TSP_CMP_STEP_STEP u, step)]
  let s := writeTarget (writeTarget s u true (tgt / 2 ^ 32)) u false (wrap 32 tgt)
  armUnit s (if u < 124 then reqSecurity else reqSafety) u

/-- R313: the image does not verify: DSTATE stays at IMAGE_FAIL and every channel in STO until a reset of the safety domain. -/
def imageFail (s : State) : State :=
  let s := { s with saf := { s.saf with failed := true } }
  let s := (List.range 4).foldl (fun s c => chToSto s c scDOMAIN) s
  safEvent (s.puts [(SAF_STAT_DSTATE, dsIMAGE_FAIL), (SAF_STAT_DFAULT, 5)]) (0x200 + 5) 4

/-- R339: the readings under weak pull-ups and under weak pull-downs: the value, and whether a ball follows the pull. The value of
such a ball is the second reading (log entry 218). -/
def strapOpen (up down : Nat) : Bool := (List.range 8).any (fun k => bit up k && !bit down k)

/-- R313, R343: the loader verifies the image (`valid`), reads the straps and takes the active set. -/
def domainStart (s : State) (valid : Bool) (up down : Nat) : State :=
  if !s.saf.delivered || s.saf.started || s.saf.failed then s
  else if !valid then imageFail s
  else
    let s := { s with saf := { s.saf with started := true, pset := s.saf.sent, boot := down, live := down, opened := strapOpen up down,
                                          strapT := s.T, lastT := s.T } }
    armPort s 124 250000 0xF0

/-- R339: the strap reader's sample, every 100 ms; it acts at the next commit. -/
def strapSample (s : State) (up down : Nat) : State :=
  if s.saf.started && s.saf.strapT + 100000000 ≤ s.T then
    { s with saf := { s.saf with live := down, opened := strapOpen up down, strapT := s.T } }
  else s

/-! ### Changing the set (R342) -/

/-- A result code, which the next commit publishes (R316). -/
def State.setRes (s : State) (code : Nat) : State := { s with saf := { s.saf with res := code } }

/-- The delivery reaches the safety pair: R341's code, or 9 PENDING. -/
def psetDeliver (s : State) (ps : List Nat) : State :=
  let c := psetCheck s ps
  if c ≠ 0 then s.setRes c
  else { s with saf := { s.saf with pend := some ps, confirmBy := s.T + 60000000000, res := 9 } }

/-- R342, step 3: a missing or wrong confirmation. -/
def psetTimeout (s : State) (wrong : Bool) : State :=
  if s.saf.pend.isSome && (wrong || s.saf.confirmBy ≤ s.T) then { s with saf := { s.saf with pend := none, res := 7 } } else s

/-- R342, steps 4 and 5: the record of the change is committed or has failed. -/
def psetCommitted (s : State) (ps : List Nat) (ok : Bool) : State :=
  if ok then { s with saf := { s.saf with activate := some ps } } else s.setRes 8

/-- PSET_ACTIVATE (R342, step 5): at a commit that is due the pair takes the set; SAFETY_COMMIT publishes it, with every channel in
STO, and takes a set that waits itself where this row does not come first. -/
def psetActivate (s : State) : State := if commitDue s then takeSet s else s

/-- R346: a channel out of STO for 168 h; the next commit shows DYN_DUE. -/
def dynDue (s : State) (c : Nat) : State :=
  let h := s.sch c
  match h.outT with
  | some t => if t + 168 * 3600 * 1000000000 ≤ s.T ∧ h.dyn = false then safEvent (s.setSch c { h with dyn := true }) 0x400 c else s
  | none => s

/-! ### Reads (R350, R351) -/

/-- The offsets of the SAF registers other than SAF_STAT. -/
def safOffsets : List Nat :=
  (List.range 10).map (fun k => 4 * k + 4) ++ (List.range 4).flatMap (fun n => (List.range 6).map (fun k => 0x100 + 0x20 * n + 4 * k))

/-- R351: a read of SAF_STAT latches every other SAF register. -/
def safStatRead (s : State) (m : Nat) : State :=
  if !isMaster m then s.refuseRead m 12 0
  else
    let w (o : Nat) : Nat := mapWord s (fun _ => none) 0 RegMap.mapSaf o
    let s' := safOffsets.foldl (fun a o => a.latch m (blockBase 12 0 + o) (w o)) s
    s'.answer (w 0)

end Sys2Proof.Machine
end

