-- ==== Sys2Proof/Machine/Security.lean ====
section
/-! DEFINITION. The security core (10_security_and_ledger.md): messages and sessions, lockout, key slots, motion evidence, tamper
responses, the debug port. -/
namespace Sys2Proof.Machine
open Sys2Proof.Reg

/-- RESULT codes (Table 10.2). -/
def rsOK : Nat := 0
def rsDENIED : Nat := 1
def rsLOCKED_OUT : Nat := 2
def rsBAD_FORMAT : Nat := 3
def rsBUSY : Nat := 4
def rsNO_KEY : Nat := 5
def rsEXPIRED : Nat := 6
def rsLEDGER_FAIL : Nat := 7
def rsWRONG_INSTANCE : Nat := 8
def rsPENDING : Nat := 9

/-- Session kinds (Table 10.1). -/
def skMANAGER : Nat := 0
def skWORKSHOP : Nat := 1
def skSAFETY : Nat := 2
def skLEDGER : Nat := 3

/-! ### Sessions (R399–R404) -/

def setSessions (s : State) (l : List Session) : State :=
  let s := { s with sec := { s.sec with sessions := l } }
  let bit_ (k : Nat) : Nat := b2n (l.any (fun x => x.kind == k)) * 2 ^ k
  s.puts [(SEC_SESS_OPEN, bit_ 0 + bit_ 1 + bit_ 2 + bit_ 3), (SEC_SESS_LR_COUNT, (l.filter (fun x => x.kind == skLEDGER)).length)]

def idleNs (s : State) : Nat := s.get SEC_SESS_IDLE_MIN * 60000000000

/-- R403: the idle time of a session has run out. -/
def expired (s : State) (x : Session) : Bool := x.t + idleNs s ≤ s.T

/-- The SESSION_CLOSE record. -/
def closeReq (x : Session) (reason : Nat) (after : Option LdgAfter) : LdgReq :=
  { typ := rtSESSION_CLOSE, pl := leBytes 4 x.value ++ leBytes 1 reason, source := reqSecurity, inst := x.inst, cls := clsSESSION, after := after }

/-- R403, R429: session `x` closes; a WORKSHOP session takes the SAFETY-PARAMETER session and the debug port with it. -/
def closeSession (s : State) (x : Session) (reason : Nat) (after : Option LdgAfter) : State :=
  let s := setSessions s (s.sec.sessions.filter (fun y => y.value != x.value))
  let s := ldgSubmit s (closeReq x reason after)
  if x.kind ≠ skWORKSHOP then s
  else
    let s := s.put SEC_STAT_DEBUG_OPEN 0
    s.sec.sessions.foldl (fun s y =>
      if y.kind = skSAFETY ∧ y.inst = x.inst then ldgSubmit (setSessions s (s.sec.sessions.filter (fun z => z.value != y.value))) (closeReq y 5 none) else s) s

/-- Every session that satisfies `p` closes. -/
def closeAll (s : State) (p : Session → Bool) (reason : Nat) : State :=
  s.sec.sessions.foldl (fun s x => if p x && s.sec.sessions.any (fun y => y.value == x.value) then closeSession s x reason none else s) s

/-- R403: the idle timeout of the session with value `v`. -/
def idleTimeout (s : State) (v : Nat) : State := closeAll s (fun x => x.value == v && expired s x) 1

/-- R399: a SESSION value that is not 0 and has not been issued since the start. -/
def sessionValue (s : State) : Nat × State :=
  let (v, s) := s.fresh 32
  let used (x : Nat) : Bool := x == 0 || s.sec.issued.contains x
  let w := if used v then ((List.range (s.sec.issued.length + 2)).find? (fun x => !used x)).getD 1 else v
  (w, { s with sec := { s.sec with issued := w :: s.sec.issued } })

/-- Table 10.3: the lock after `n` consecutive failures, in seconds. -/
def lockSeconds (n : Nat) : Nat := if n < 4 then 0 else if n = 4 then 60 else if n = 5 then 300 else if n = 6 then 1800 else if n = 7 then 7200 else 28800

def lockRemain (s : State) (k : Nat) : Nat := (s.sec.lockT.get 0 k - s.T + 999999999) / 1000000000
def kindLocked (s : State) (k : Nat) : Bool := s.T < s.sec.lockT.get 0 k

/-- R404: the lockout of kind `k` has elapsed. -/
def lockoutExpiry (s : State) (k : Nat) : State := if kindLocked s k then s else { s with sec := { s.sec with lockT := s.sec.lockT.erase k } }

/-- R399: a challenge expires 30 s after its reply. -/
def challengeExpiry (s : State) (n : Nat) : State :=
  match s.sec.chal.get none n with
  | some c => if c.expires ≤ s.T then { s with sec := { s.sec with chal := s.sec.chal.set n none } } else s
  | none => s

/-! ### Messages (R397, R398) -/

/-- The oldest item of SECURITY ring `r`. -/
def msgItem (s : State) (r : Nat) : Option Desc :=
  match nextItem s r rkSECURITY with
  | some [d] => some d
  | _ => none

/-- Where the answer of a message goes: ring, SEQ, TYPE, SESSION, request length. -/
structure MsgTo where
  r : Nat
  seq : Nat
  typ : Nat
  sess : Nat
  len : Nat
deriving DecidableEq, Repr

/-- R397: the reply with RESULT, the two bytes after it and a payload; its completion follows the DMA. -/
def reply (s : State) (t : MsgTo) (result low : Nat) (pl : List Byte) : State :=
  match (s.ring t.r).descs.find? (fun d => d.seq == t.seq && d.done.isNone) with
  | none => s
  | some d =>
    let b := leBytes 2 (t.typ + 0x8000) ++ leBytes 2 (4 + pl.length) ++ leBytes 4 t.sess ++ leBytes 2 result ++ leBytes 2 low ++ pl
    awaitDma (s.emit (.dma (ringInst s t.r) (d.kw 0 + d.kw 1 * 2 ^ 32) b)) t.r t.seq { status := stOK, length := 8 + t.len }

/-- R398, R402: the common part of every message on ring `r`: its format, the gate's session of kind `gate`, then its effect `f`
on the instance that sent it. -/
def message (s : State) (r typ sess len : Nat) (pl : List Byte) (want : Nat) (gate : Option Nat) (f : State → MsgTo → Nat → State) : State :=
  match msgItem s r with
  | none => s
  | some d =>
    let n := ringInst s r
    if len ≠ pl.length ∨ len ≠ want ∨ d.len ≠ 8 + len then finishItem s r [d] stFAILED_FORMAT (fun _ => 0)
    else
      let t : MsgTo := { r := r, seq := d.seq, typ := typ, sess := sess, len := len }
      match gate with
      | none => f (startItem s r [d]) t n
      | some k =>
        if s.sec.sessions.any (fun x => x.value == sess && x.inst == n && x.kind == k && !expired s x) then
          let s := setSessions s (s.sec.sessions.map (fun x => if x.value = sess then { x with t := s.T } else x))
          f (startItem s r [d]) t n
        else finishItem s r [d] stDENIED_SESSION (fun _ => 0)

/-- R410: a message that writes a record awaits its commit; `res` is the RESULT then, `more` what the commit applies. -/
def commitMsg (s : State) (t : MsgTo) (n typ : Nat) (pl : List Byte) (res : Nat) (more : List Nat) : State :=
  let q : LdgReq := { typ := typ, pl := pl, source := reqSecurity, inst := n, cls := clsSESSION,
                      after := some { code := afterMSG, args := [t.r, t.seq, t.typ, t.sess, t.len, n, res] ++ more } }
  if ldgRoom s q then ldgPush s q else reply s t rsLEDGER_FAIL 0 []

/-- Bytes as numbers, for the arguments of `commitMsg`. -/
def nums (b : List Byte) : List Nat := b.map (·.toNat)
def bytesOf (l : List Nat) : List Byte := l.map (BitVec.ofNat 8 ·)

def fails (s : State) (k : Nat) : Nat := s.get (SEC_LOCK_FAILS k)
def isProduction (s : State) : Bool := s.flag SEC_STAT_LIFECYCLE

/-- The key slot's public key, when its mask holds the kind. -/
def slotKey (s : State) (slot kind : Nat) : Option (List Byte) :=
  match s.sec.slots.get (0, []) slot with
  | (mask, key) => if slot < 16 && bit mask kind then some key else none

/-- R396, R399, R401, R404, R426: OPEN. -/
def msgOpen (s : State) (r sess len : Nat) (pl : List Byte) : State :=
  message s r 0x0001 sess len pl 4 none (fun s t n =>
    let kind := ofLeBytes (pl.take 1)
    let method := ofLeBytes ((pl.drop 1).take 1)
    let slot := ofLeBytes ((pl.drop 2).take 1)
    let open_ := s.sec.sessions.filter (fun x => x.kind == kind)
    if 3 < kind ∨ method ≠ b2n (kind == skSAFETY) ∨ ofLeBytes (pl.drop 3) ≠ 0 then reply s t rsBAD_FORMAT 0 []
    else if kind ≠ skLEDGER ∧ n ≠ 0 then reply s t rsWRONG_INSTANCE 0 []
    else if s.flag SEC_STAT_TAMPER_LOCK ∧ kind ≠ skWORKSHOP then reply s t rsDENIED 0 []
    else if kindLocked s kind then reply s t rsLOCKED_OUT (lockRemain s kind) []
    else if (if kind = skLEDGER then 8 ≤ open_.length || open_.any (fun x => x.inst == n) else !open_.isEmpty) then reply s t rsBUSY 0 []
    else if kind = skSAFETY ∧ !(s.sec.sessions.any (fun x => x.kind == skWORKSHOP && x.inst == n)) then reply s t rsDENIED 0 []
    else if (if kind = skSAFETY then s.sec.pw.isNone else (slotKey s slot kind).isNone && !(kind == skWORKSHOP && !isProduction s)) then reply s t rsNO_KEY 0 []
    else
      let (v, s) := sessionValue s
      let (nonce, s) := s.fresh 256
      let c : Chal := { kind := kind, method := method, slot := slot, value := v, nonce := leBytes 32 nonce, expires := s.T + 30000000000 }
      let s := { s with sec := { s.sec with chal := s.sec.chal.set n (some c) } }
      let (salt, iter) := match s.sec.pw with | some (a, i, _) => if kind = skSAFETY then (a, i) else ([], 0) | none => ([], 0)
      reply s t rsOK 0 (leBytes 4 v ++ leBytes 32 nonce ++ fixBytes 16 Config.deviceId ++ fixBytes 16 salt ++ leBytes 4 iter))

/-- R400: the message that the proof covers. -/
def proofText (c : Chal) (n : Nat) : List Byte :=
  c.nonce ++ leBytes 1 c.kind ++ leBytes 1 n ++ leBytes 4 c.value ++ fixBytes 16 Config.deviceId

/-- R395, R400: whether a proof matches. -/
def proofOk (s : State) (c : Chal) (n : Nat) (pl : List Byte) : Bool :=
  let m := proofText c n
  if c.method = 1 then match s.sec.pw with
    | some (_, _, k) => pl == fixBytes 32 (Config.hmac k m)
    | none => false
  else
    (match slotKey s c.slot c.kind with | some k => Config.ecdsaVerify k (Config.sha256 m) pl | none => false) ||
      (c.kind == skWORKSHOP && !isProduction s && Config.ecdsaVerify Config.factoryKey (Config.sha256 m) pl)

/-- R401, R404: PROVE. -/
def msgProve (s : State) (r sess len : Nat) (pl : List Byte) : State :=
  let n := ringInst s r
  let c? := s.sec.chal.get none n
  let want := match c? with | some c => if c.method = 1 then 32 else 64 | none => if len = 32 then 32 else 64
  message s r 0x0002 sess len pl want none (fun s t n =>
    match c? with
    | none => reply s t rsEXPIRED 0 []
    | some c =>
      if c.expires ≤ s.T ∨ c.value ≠ sess then reply s t rsEXPIRED 0 []
      else
        let s := { s with sec := { s.sec with chal := s.sec.chal.set n none } }
        let head := leBytes 1 c.kind ++ leBytes 1 c.method ++ leBytes 1 c.slot
        if proofOk s c n pl then
          let s := s.put (SEC_LOCK_FAILS c.kind) 0
          commitMsg s t n rtSESSION_OPEN (head ++ [0] ++ leBytes 4 c.value) rsOK [c.kind, c.value]
        else
          let s := s.bump (SEC_LOCK_FAILS c.kind)
          let k := fails s c.kind
          let s := { s with sec := { s.sec with lockT := s.sec.lockT.set c.kind (s.T + lockSeconds k * 1000000000) } }
          commitMsg s t n rtSESSION_FAIL (head ++ leBytes 1 k ++ leBytes 4 (lockSeconds k)) rsDENIED [])

/-- R403: CLOSE. -/
def msgClose (s : State) (r sess len : Nat) (pl : List Byte) : State :=
  message s r 0x0003 sess len pl 0 none (fun s t n =>
    match s.sec.sessions.find? (fun x => x.value == sess && x.inst == n && !expired s x) with
    | none => reply s t rsDENIED 0 []
    | some x =>
      let q := closeReq x 0 (some { code := afterMSG, args := [t.r, t.seq, t.typ, t.sess, t.len, n, rsOK] })
      if ldgRoom s q then closeSession s x 0 q.after else reply (closeSession s x 0 none) t rsLEDGER_FAIL 0 [])

/-- R418: GET_CERT. -/
def msgGetCert (s : State) (r sess len : Nat) (pl : List Byte) : State :=
  message s r 0x0004 sess len pl 0 none (fun s t _ =>
    let c := Config.dkCert.take 1000
    reply s t rsOK 0 (leBytes 2 c.length ++ [0, 0] ++ c))

/-- The words of a parameter set. -/
def wordsOf (n : Nat) (b : List Byte) : List Nat := (List.range n).map (fun i => ofLeBytes ((b.drop (4 * i)).take 4))

/-- R341, R342: PSET_DELIVER. -/
def msgPsetDeliver (s : State) (r sess len : Nat) (pl : List Byte) : State :=
  message s r 0x0010 sess len pl 256 (some skSAFETY) (fun s t _ =>
    let ps := wordsOf 64 pl
    let s := psetDeliver s ps
    let c := s.saf.res
    reply s t (if c = 9 then rsPENDING else if c = 6 then rsBUSY else rsBAD_FORMAT) 0 (leBytes 4 (psWord ps 0) ++ leBytes 4 (psWord ps 63)))

/-- R342: PSET_CONFIRM. -/
def msgPsetConfirm (s : State) (r sess len : Nat) (pl : List Byte) : State :=
  message s r 0x0011 sess len pl 4 (some skSAFETY) (fun s t n =>
    match s.saf.pend with
    | none => reply s t rsEXPIRED 0 []
    | some ps =>
      if s.saf.confirmBy ≤ s.T ∨ ofLeBytes pl ≠ psWord ps 63 then reply (psetTimeout s true) t rsEXPIRED 0 []
      else
        let s := { s with saf := { s.saf with pend := none } }
        let old := s.saf.pset
        let rec_ := leBytes 4 (psWord old 0) ++ leBytes 4 (psWord old 63) ++ leBytes 4 (psWord ps 0) ++ leBytes 4 (psWord ps 63) ++ wordsBytes ps
        let q : LdgReq := { typ := rtPSET_CHANGE, pl := rec_, source := reqSecurity, inst := n, cls := clsSESSION,
                            after := some { code := afterMSG, args := [t.r, t.seq, t.typ, t.sess, t.len, n, rsOK] ++ ps } }
        if ldgRoom s q then ldgPush s q else reply (psetCommitted s ps false) t rsLEDGER_FAIL 0 [])

/-- KEY_ENROL: writes or clears a key slot. -/
def msgKeyEnrol (s : State) (r sess len : Nat) (pl : List Byte) : State :=
  message s r 0x0020 sess len pl 68 (some skWORKSHOP) (fun s t n =>
    if 15 < ofLeBytes (pl.take 1) ∨ ofLeBytes ((pl.drop 2).take 2) ≠ 0 then reply s t rsBAD_FORMAT 0 []
    else commitMsg s t n rtKEY_ENROL pl rsOK (nums pl))

/-- R400: PASSWORD_SET; the record carries the verifier in wrapped form. -/
def msgPasswordSet (s : State) (r sess len : Nat) (pl : List Byte) : State :=
  message s r 0x0021 sess len pl 52 (some skWORKSHOP) (fun s t n =>
    let iter := ofLeBytes ((pl.drop 16).take 4)
    if iter < 10000 ∨ 1000000 < iter then reply s t rsBAD_FORMAT 0 []
    else commitMsg s t n rtPASSWORD_SET (pl.take 20 ++ fixBytes 48 (Config.cipher 3 [] [] (pl.drop 20))) rsOK (nums pl))

/-- R403: SESS_CFG. -/
def msgSessCfg (s : State) (r sess len : Nat) (pl : List Byte) : State :=
  message s r 0x0022 sess len pl 4 (some skWORKSHOP) (fun s t n =>
    let m := ofLeBytes (pl.take 1)
    if m = 0 ∨ 60 < m ∨ ofLeBytes (pl.drop 1) ≠ 0 then reply s t rsBAD_FORMAT 0 []
    else commitMsg s t n rtSESS_CFG (pl.take 1) rsOK [m])

/-- R426: TAMPER_CFG. -/
def msgTamperCfg (s : State) (r sess len : Nat) (pl : List Byte) : State :=
  message s r 0x0023 sess len pl 4 (some skWORKSHOP) (fun s t n =>
    let v := ofLeBytes pl
    if bits v 20 4 ≠ 0 ∨ (List.range 8).any (fun j => bits v (2 * j) 2 == 3) then reply s t rsBAD_FORMAT 0 []
    else commitMsg s t n rtTAMPER_CFG pl rsOK [v])

/-- R426: TAMPER_REARM. -/
def msgTamperRearm (s : State) (r sess len : Nat) (pl : List Byte) : State :=
  message s r 0x0024 sess len pl 0 (some skWORKSHOP) (fun s t n =>
    if s.get SEC_TAMPER_LIVE ≠ 0 then reply s t rsBUSY 0 []
    else commitMsg s t n rtTAMPER_REARM (leBytes 1 (s.get SEC_TAMPER_SEEN)) rsOK [])

/-- Table 10.7. -/
def odoOf (pl : List Byte) : OdoCfg :=
  let u (o n : Nat) : Nat := ofLeBytes ((pl.drop o).take n)
  { srcA := u 0 1, srcB := u 1 1, ch := u 2 1, win := u 3 1, circA := u 4 4, circB := u 8 4, tolAbs := u 12 4, tolRel := u 16 4 }

def odoBad (s : State) (c : OdoCfg) : Bool :=
  7 < c.srcA || 7 < c.srcB || c.srcA == c.srcB || 3 < c.ch || c.win == 0 || 60 < c.win || c.circA == 0 || 20000000 < c.circA ||
    c.circB == 0 || 20000000 < c.circB || c.tolAbs == 0 || 100000 < c.tolAbs || 100000 < c.tolRel ||
    s.get (TSP_SRC_CFG_KIND c.srcA) == kindWHEEL || s.get (TSP_SRC_CFG_KIND c.srcB) != kindWHEEL

/-- R424: ODO_CFG. -/
def msgOdoCfg (s : State) (r sess len : Nat) (pl : List Byte) : State :=
  message s r 0x0025 sess len pl 20 (some skWORKSHOP) (fun s t n =>
    if odoBad s (odoOf pl) then reply s t rsBAD_FORMAT 0 [] else commitMsg s t n rtODO_CFG pl rsOK (nums pl))

/-- Every tenant key and KWK become 0 (R426, R429). -/
def eraseKeys (s : State) : State :=
  (eraseTenantKeys { s with sec := { s.sec with kwk := [] } }).put SEC_STAT_KWK_VALID 0

/-- R429: DEBUG_OPEN; in PRODUCTION the keys go first, and KEYS_ERASED is committed before DEBUG_OPEN. -/
def msgDebugOpen (s : State) (r sess len : Nat) (pl : List Byte) : State :=
  message s r 0x0026 sess len pl 0 (some skWORKSHOP) (fun s t n =>
    if isProduction s then
      let s := eraseKeys s
      let q : LdgReq := { typ := rtKEYS_ERASED, pl := [0], source := reqSecurity, inst := n, cls := clsSESSION,
                          after := some { code := afterERASED, args := [t.r, t.seq, t.typ, t.sess, t.len, n] } }
      if ldgRoom s q then ldgPush s q else reply s t rsLEDGER_FAIL 0 []
    else commitMsg s t n rtDEBUG_OPEN (leBytes 4 sess) rsOK [])

/-- R394: LIFECYCLE_ADVANCE. -/
def msgLifecycle (s : State) (r sess len : Nat) (pl : List Byte) : State :=
  message s r 0x0027 sess len pl 0 (some skWORKSHOP) (fun s t n =>
    let workshop := (List.range 16).any (fun k => (slotKey s k skWORKSHOP).isSome)
    if isProduction s ∨ !workshop ∨ s.sec.pw.isNone then reply s t rsDENIED 0 []
    else commitMsg s t n rtLIFECYCLE [1] rsOK [])

/-- R536, R537: GRANT_SET. -/
def msgGrantSet (s : State) (r sess len : Nat) (pl : List Byte) : State :=
  message s r 0x0028 sess len pl 4 (some skMANAGER) (fun s t n =>
    let i := ofLeBytes (pl.take 1)
    if 127 < i ∨ ofLeBytes (pl.drop 1) ≠ 0 then reply s t rsBAD_FORMAT 0 []
    else if i ≠ 0 ∧ s.get (INS_INFO_INSTATE i) = 0 then reply s t rsDENIED 0 []
    else commitMsg s t n rtGRANT_SET (pl.take 1) rsOK [i])

/-- R408: CHECKPOINT_NOW. -/
def msgCheckpoint (s : State) (r sess len : Nat) (pl : List Byte) : State :=
  message s r 0x0029 sess len pl 0 (some skMANAGER) (fun s t n => commitMsg (s.put LDG_STAT_PRUNE_BLOCKED 0) t n rtCHECKPOINT [] rsOK [])

/-- R714: COMPAT_ACK. -/
def msgCompatAck (s : State) (r sess len : Nat) (pl : List Byte) : State :=
  message s r 0x0030 sess len pl 0 (some skMANAGER) (fun s t n =>
    if s.flag BOOT_STAGE_RESTRICTED then commitMsg s t n rtCOMPAT_ACK [] rsOK [] else reply s t rsDENIED 0 [])

/-- R537: the motion-evidence grant goes to instance `i`, or to none. -/
def setGrant (s : State) (i : Nat) : State :=
  s.puts [(INS_MOTION_VALID, b2n (i != 0)), (INS_MOTION_INSTANCE, i), (SEC_ODO_STAT_GRANT_VALID, b2n (i != 0)), (SEC_ODO_STAT_GRANT_INST, i),
    (INS_MOTION_RING_VALID, 0), (INS_MOTION_RING_RING, 0)]

/-- What a message's commit applies. `more` are the arguments after RESULT. -/
def applyMsg (s : State) (t : MsgTo) (n : Nat) (more : List Nat) : State :=
  let a := more.getD 0 0
  if t.typ = 0x0002 then
    match more with
    | [kind, value] => setSessions s (s.sec.sessions ++ [{ kind := kind, inst := n, value := value, t := s.T }])
    | _ => s
  else if t.typ = 0x0011 then psetCommitted { s with sec := { s.sec with pset := more } } more true
  else if t.typ = 0x0020 then
    let mask := more.getD 1 0
    { s with sec := { s.sec with slots := s.sec.slots.set a (if mask = 0 then (0, []) else (mask, bytesOf (more.drop 4))) } }
  else if t.typ = 0x0021 then
    let b := bytesOf more
    { s with sec := { s.sec with pw := some (b.take 16, ofLeBytes ((b.drop 16).take 4), b.drop 20) } }
  else if t.typ = 0x0022 then s.put SEC_SESS_IDLE_MIN a
  else if t.typ = 0x0023 then s.puts [(SEC_TAMPER_CFG_EN, bits a 24 8), (SEC_TAMPER_CFG_POL, bits a 16 4), (SEC_TAMPER_CFG_RESP, bits a 0 16)]
  else if t.typ = 0x0024 then s.puts [(SEC_TAMPER_SEEN, s.get SEC_TAMPER_LIVE), (SEC_STAT_TAMPER_LOCK, 0)]
  else if t.typ = 0x0025 then
    ({ s with sec := { s.sec with odo := { s.sec.odo with cfg := some (odoOf (bytesOf more)), fresh := true } } } : State).put SEC_ODO_STAT_EN 1
  else if t.typ = 0x0026 then
    if s.sec.sessions.any (fun x => x.kind == skWORKSHOP && x.value == t.sess) then s.put SEC_STAT_DEBUG_OPEN 1 else s
  else if t.typ = 0x0027 then s.put SEC_STAT_LIFECYCLE 1
  else if t.typ = 0x0028 then setGrant s a
  else if t.typ = 0x0030 then s.put BOOT_STAGE_ACKED 1
  else s

/-- R401, R408, R410: the commit that a message awaits has ended. -/
def msgCommitted (s : State) (args : List Nat) (ok : Bool) : State :=
  match args with
  | r :: seq :: typ :: sess :: len :: n :: res :: more =>
    let t : MsgTo := { r := r, seq := seq, typ := typ, sess := sess, len := len }
    if !ok then reply (if typ = 0x0011 then psetCommitted s more false else s) t rsLEDGER_FAIL 0 []
    else
      let kind := more.getD 0 0
      let full := typ == 0x0002 && res == rsOK &&
        (if kind = skLEDGER then 8 ≤ (s.sec.sessions.filter (fun x => x.kind == kind)).length || s.sec.sessions.any (fun x => x.kind == kind && x.inst == n)
         else s.sec.sessions.any (fun x => x.kind == kind))
      if full then reply s t rsBUSY 0 []
      else
        let s := if res = rsOK then applyMsg s t n more else s
        let pl := if typ = 0x0002 ∧ res = rsOK then leBytes 4 (s.get SEC_SESS_IDLE_MIN * 60)
          else if typ = 0x0029 then leBytes 8 s.ldg.headSeq else []
        reply s t res 0 pl
  | _ => s

/-- R429: KEYS_ERASED of a DEBUG_OPEN is committed; the DEBUG_OPEN record follows. -/
def erasedCommitted (s : State) (args : List Nat) (ok : Bool) : State :=
  match args with
  | [r, seq, typ, sess, len, n] =>
    let t : MsgTo := { r := r, seq := seq, typ := typ, sess := sess, len := len }
    if ok then commitMsg s t n rtDEBUG_OPEN (leBytes 4 sess) rsOK [] else reply s t rsLEDGER_FAIL 0 []
  | _ => s

/-! ### Ledger rings (section 10.6) -/

/-- The oldest item of LEDGER ring `r`. -/
def ledgerRead (s : State) (r : Nat) : State :=
  match nextItem s r rkLEDGER with
  | some [d] =>
    let n := ringInst s r
    match slotImages s (d.kw 0 + d.kw 1 * 2 ^ 32) (d.kw 2) with
    | none => finishItem s r [d] stFAILED_FORMAT (fun _ => 0)
    | some b =>
      if s.sec.sessions.any (fun x => x.value == d.kw 3 && x.inst == n && x.kind == skLEDGER && !expired s x) then
        let s := setSessions s (s.sec.sessions.map (fun x => if x.value = d.kw 3 then { x with t := s.T } else x))
        awaitDma ((startItem s r [d]).emit (.dma n d.addr b)) r d.seq { status := stOK, length := 512 * d.kw 2 }
      else finishItem s r [d] stDENIED_SESSION (fun _ => 0)
  | _ => s

/-! ### Motion evidence (R419–R423) -/

/-- Quotient truncated toward 0. -/
def truncDiv (x : Int) (d : Nat) : Int := if x < 0 then -((-x) / (d : Int)) else x / (d : Int)

/-- Table 10.6: bytes 0–79. -/
def motionHead (s : State) (c : OdoCfg) (k : Capture) (flags mseq da db spA spB cntB wdiff : Nat) : List Byte :=
  let st (n : Nat) : Nat := match k.srcs[n]? with | some x => x.state | none => 0
  leBytes 2 0x4D45 ++ leBytes 1 1 ++ leBytes 1 flags ++ leBytes 4 (s.get SEC_EPOCH_EPOCH) ++ leBytes 8 mseq ++ leBytes 8 k.t ++
    leBytes 8 s.ldg.headSeq ++ leBytes 8 (s.sec.odo.totA / 1000) ++ leBytes 8 (s.sec.odo.totB / 1000) ++ leBytes 4 da ++ leBytes 4 db ++
    leBytes 4 spA ++ leBytes 4 spB ++ leBytes 4 cntB ++ leBytes 1 (st c.srcA) ++ leBytes 1 (st c.srcB) ++ [0, 0] ++ leBytes 4 wdiff ++ leBytes 4 0

/-- The registers that show the totals and MSEQ. -/
def odoShow (s : State) : State :=
  let o := s.sec.odo
  let a := o.totA / 1000
  let b := o.totB / 1000
  s.puts [(SEC_MSEQ_LO_VALUE, wrap 32 o.mseq), (SEC_MSEQ_HI_VALUE, o.mseq / 2 ^ 32), (SEC_ODO_A_LO_VALUE, wrap 32 a), (SEC_ODO_A_HI_VALUE, a / 2 ^ 32),
    (SEC_ODO_B_LO_VALUE, wrap 32 b), (SEC_ODO_B_HI_VALUE, b / 2 ^ 32)]

/-- R423: ODO_TOTAL. -/
def odoTotal (s : State) : State :=
  let o := s.sec.odo
  let s := ldgNote s rtODO_TOTAL clsODO (leBytes 8 (o.totA / 1000) ++ leBytes 8 (o.totB / 1000) ++ leBytes 8 o.mseq)
  ({ s with sec := { s.sec with odo := { s.sec.odo with caps := 0 } } } : State).put SEC_ODO_STAT_COLD 0

/-- R420–R423: capture k of unit 120. -/
def odoCapture (s : State) : State :=
  match s.sec.odo.cfg with
  | none => s
  | some c =>
    let k := captureSources s
    let o := s.sec.odo
    let src (n : Nat) : CapSrc := (k.srcs[n]?).getD ⟨0, 0, 0⟩
    let a := src c.srcA
    let b := src c.srcB
    let okA := a.state == srcTRACKING || a.state == srcFOLLOWING
    let first := !o.primed
    let dpA : Int := if first || !okA then 0 else signed 64 (unsigned 64 ((a.pos : Int) - o.posA))
    let dpB : Int := if first then 0 else signed 64 (unsigned 64 ((b.pos : Int) - o.posB))
    let nA := dpA * c.circA + o.remA
    let nB := dpB * c.circB + o.remB
    let dA := nA / 2 ^ 32
    let dB := nB / 2 ^ 32
    let win := ((dA.natAbs, dB.natAbs, !okA) :: (if o.fresh then [] else o.win)).take c.win
    let wdA := win.foldl (fun x e => x + e.1) 0
    let wdB := win.foldl (fun x e => x + e.2.1) 0
    let diff := max wdA wdB - min wdA wdB
    let dis := (c.tolAbs * 1000 < diff && c.tolRel * max wdA wdB < diff * 1000000) || win.any (·.2.2)
    let was := s.flag SEC_ODO_STAT_DISAGREE
    let mseq := o.mseq + 1
    let s := { s with sec := { s.sec with odo := { o with
      fresh := false, primed := true, posA := a.pos, posB := b.pos, remA := nA - dA * 2 ^ 32, remB := nB - dB * 2 ^ 32,
      totA := o.totA + dA.natAbs, totB := o.totB + dB.natAbs, win := win, mseq := mseq, caps := o.caps + 1 } } }
    let s := s.puts [(SEC_ODO_STAT_DISAGREE, b2n dis), (SEC_ODO_STAT_A_INVALID, b2n !okA)]
    let s := s.when (dis && !was) (fun s => s.bump SEC_ODO_CNT_DISAGREE_CNT)
    let flags := b2n dis + b2n (!okA) * 2 + s.get SEC_ODO_STAT_COLD * 4 + b2n (s.get SEC_TAMPER_SEEN != 0) * 8 + s.get SEC_STAT_DEBUG_OPEN * 16 +
      b2n (!isProduction s) * 32 + s.get (TSP_CMP_STAT_LATE 120) * 64
    let sp (x : CapSrc) (circ : Nat) : Nat := unsigned 32 (truncDiv (x.speed * circ * 1000000) (2 ^ 48))
    let head := motionHead s c k flags mseq (unsigned 32 dA) (unsigned 32 dB) (sp a c.circA) (sp b c.circB) (unsigned 32 (s.saf.cnt.get 0 c.ch))
      (unsigned 32 (truncDiv ((wdA : Int) - wdB) 1000))
    let r := head ++ dkSign head
    let s := { s with sec := { s.sec with odo := { s.sec.odo with recs := s.sec.odo.recs ++ [r] } } }
    let s := odoShow s
    let s := if dis && !was then ldgNote s rtODO_DISAGREE clsODO r else if !dis && was then ldgNote s rtODO_AGREE clsODO r else s
    if 3600 ≤ s.sec.odo.caps then odoTotal s else s

/-- R422: the oldest motion record goes to the grant holder's ring, or is dropped and counted. -/
def motionDelivery (s : State) : State :=
  match s.sec.odo.recs with
  | [] => s
  | b :: t =>
    let s := { s with sec := { s.sec with odo := { s.sec.odo with recs := t } } }
    let r := s.get INS_MOTION_RING_RING
    let d? := if s.flag INS_MOTION_VALID && s.flag INS_MOTION_RING_VALID then nextItem s r rkTELEMETRY else none
    match d? with
    | some [d] => awaitDma ((startItem s r [d]).emit (.dma (ringInst s r) d.addr b)) r d.seq { status := stOK, length := b.length }
    | _ => s.bump SEC_ODO_CNT_REC_DROPPED

/-! ### Tamper (R425–R427) -/

def respLOG : Nat := 0
def respLOCK : Nat := 1
def respERASE : Nat := 2

/-- R426: the response of source `j`; sources 5 and 6 are at least LOCK. -/
def tamperResp (s : State) (j : Nat) : Nat :=
  let r := bits (s.get SEC_TAMPER_CFG_RESP) (2 * j) 2
  if j = 5 ∨ j = 6 then max r respLOCK else r

def tamperSubmit (s : State) (typ : Nat) (pl : List Byte) : State :=
  ldgSubmit s { typ := typ, pl := pl, source := reqSecurity, inst := 0xFF, cls := clsTAMPER, after := none }

/-- R426: an event of source `j` while main power is on. -/
def tamperEvent (s : State) (j : Nat) : State :=
  if !bit (s.get SEC_TAMPER_CFG_EN) j then s
  else
    let r := tamperResp s j
    let s := s.puts [(SEC_TAMPER_LIVE, setBit (s.get SEC_TAMPER_LIVE) j), (SEC_TAMPER_SEEN, setBit (s.get SEC_TAMPER_SEEN) j)]
    let s := tamperSubmit s rtTAMPER (leBytes 1 j ++ leBytes 1 r ++ [0, 0] ++ leBytes 8 s.T)
    let s := s.when (respLOCK ≤ r) (fun s => (closeAll s (fun _ => true) 4).put SEC_STAT_TAMPER_LOCK 1)
    if r = respERASE then tamperSubmit (eraseKeys s) rtKEYS_ERASED [1] else s

/-- R426: source `j` is back at its idle condition. -/
def tamperReturn (s : State) (j : Nat) : State := s.put SEC_TAMPER_LIVE (clrBit (s.get SEC_TAMPER_LIVE) j)

/-- R43, R44, R427: a sample while parked detects an event of source `j`; `k` ticks have passed since the last row that showed the
counter. -/
def tamperParked (s : State) (parked : Bool) (j k : Nat) : State :=
  if !parked || !bit (s.get SEC_TAMPER_CFG_EN) j then s
  else
    let ticks := satAdd 48 s.aon.ticks k
    let s := { s with aon := { s.aon with ticks := ticks, parkT := s.aon.storedT } }
    let r := tamperResp s j
    let s := if s.sec.parked.length < 16 then { s with sec := { s.sec with parked := s.sec.parked ++ [(j, ticks, r)] } }
      else { s with sec := { s.sec with overflow := satAdd 16 s.sec.overflow 1 } }
    if r = respERASE then ({ s with sec := { s.sec with kwk := [] } } : State).put SEC_STAT_KWK_VALID 0 else s

/-- A SEC register read as its fields stand, with the remaining lockout. -/
def liveSec (s : State) (k : FKey) : Option Nat :=
  if k = (SEC_LOCK_REMAIN k.i).key then some (lockRemain s k.i) else none

/-- R432: a read of LDG_HEAD_LO latches HEAD_HI and the hash words. -/
def ldgHeadRead (s : State) (m : Nat) : State :=
  if !(isMC m || m == reqHost 0) then s.refuseRead m 15 8
  else
    let base := blockBase 15 0
    let s := s.latch m (base + 0xC) (s.get LDG_HEAD_HI_SEQ)
    let s := (List.range 8).foldl (fun s i => s.latch m (base + 0x20 + 4 * i) (s.get (LDG_HEAD_HASH_HASH i))) s
    s.answer (s.get LDG_HEAD_LO_SEQ)

end Sys2Proof.Machine
end

