-- ==== Sys2Proof/Machine/Instances.lean ====
section
/-! DEFINITION. Instances (14_instances.md) and their Folios (12_messaging.md, section 12.5): the Folio protocol, creation, grants,
setpoints, reset and removal. -/
namespace Sys2Proof.Machine
open Sys2Proof.Reg

def State.inst (s : State) (n : Nat) : Inst := s.ins.inst.get {} n
def State.setInst (s : State) (n : Nat) (x : Inst) : State := { s with ins := { s.ins with inst := s.ins.inst.set n x } }

/-- INSTATE (Table 14.1). -/
def isNONE : Nat := 0
def isREADY : Nat := 1
def isRESETTING : Nat := 2
def isREMOVING : Nat := 3
def instate (s : State) (n : Nat) : Nat := s.get (INS_INFO_INSTATE n)

/-- Pantry fields by name (Table 14.3). -/
def ptRings (s : State) (n : Nat) : Nat := pantry s n 1 0 14
def attnVec (s : State) (n : Nat) : Nat := pantry s n 9 8 7
def folioVec (s : State) (n : Nat) : Nat := pantry s n 9 0 7

/-! ### Folios (R486–R491) -/

/-- Whether requester `m` stands on the host side of the Folios of instance `n`, or on the management side. -/
def folioHost (m n : Nat) : Bool := m == reqHost n

/-- The fields of H2D (`d2h` = false) or D2H. -/
def folioData (d2h : Bool) (n i : Nat) : Fld := if d2h then MBX_FOLIO_D2H_F_DATA n i else MBX_FOLIO_H2D_F_DATA n i
def folioGO (d2h : Bool) (n : Nat) : Fld := if d2h then MBX_FOLIO_D2H_CTRL_GO n else MBX_FOLIO_H2D_CTRL_GO n
def folioIGN (d2h : Bool) (n : Nat) : Fld := if d2h then MBX_FOLIO_D2H_CTRL_IGN n else MBX_FOLIO_H2D_CTRL_IGN n
def folioKey (d2h : Bool) (n : Nat) : Nat := 2 * n + b2n d2h
def folioOff (d2h : Bool) (n : Nat) : Nat := 0x10000 + 0x200 * n + (if d2h then 0x100 else 0)

/-- R488: GO as it stood at the start of the nanosecond. -/
def goAtStart (s : State) (d2h : Bool) (n : Nat) : Bool :=
  let go := s.flag (folioGO d2h n)
  match s.mbx.goT.get none (folioKey d2h n) with
  | some t => if t = s.T then !go else go
  | none => go

/-- R489: the event of a change of GO: to the host or to the management complex. -/
def folioEvent (s : State) (n : Nat) (toHost : Bool) : State := if toHost then msixRequest s n (folioVec s n) else s.irq (.folio n)

/-- GO changes to `v`. -/
def setGO (s : State) (d2h : Bool) (n : Nat) (v : Bool) : State :=
  let s := s.put (folioGO d2h n) (b2n v)
  let s := { s with mbx := { s.mbx with goT := s.mbx.goT.set (folioKey d2h n) (some s.T) } }
  folioEvent s n (v == d2h)

/-- Table 14.1: Folios are served and written only while the instance is READY. -/
def folioLive (s : State) (n : Nat) : Bool := instate s n == isREADY

/-- R486, R487: a data write. -/
def folioWrite (s : State) (m n : Nat) (d2h : Bool) (i v : Nat) : State :=
  if !(folioHost m n || isMC m) then s.refuseWrite m 7 (folioOff d2h n + 4 * i)
  else if !folioLive s n then s
  else if folioHost m n == d2h || s.flag (folioGO d2h n) then s.bump (folioIGN d2h n)
  else s.put (folioData d2h n i) v

/-- R488: a write of CTRL with the bits POST and DONE. -/
def folioCtrl (s : State) (m n : Nat) (d2h post done : Bool) : State :=
  if !(folioHost m n || isMC m) then s.refuseWrite m 7 (folioOff d2h n + 0x80)
  else if !folioLive s n then s
  else
    let go := goAtStart s d2h n
    let writer := folioHost m n != d2h
    let postOk := post && !go && writer
    let doneOk := done && go && !writer
    let s := if post && !postOk then s.bump (folioIGN d2h n) else s
    let s := if done && !doneOk then s.bump (folioIGN d2h n) else s
    if postOk then setGO s d2h n true else if doneOk then setGO s d2h n false else s

/-- R491: both Folios to 0 without an event. -/
def folioZero (s : State) (n : Nat) : State :=
  let s := (List.range 16).foldl (fun s i => (s.put (folioData false n i) 0).put (folioData true n i) 0) s
  let s := s.puts [(folioGO false n, 0), (folioGO true n, 0), (folioIGN false n, 0), (folioIGN true n, 0)]
  { s with mbx := { s.mbx with goT := (s.mbx.goT.erase (2 * n)).erase (2 * n + 1) } }

/-! ### Requests and responses (R530, R531) -/

def frOK : Nat := 0
def frBAD_OP : Nat := 1
def frBAD_ARG : Nat := 2
def frDENIED : Nat := 3
def frNO_RESOURCE : Nat := 4
def frBUSY : Nat := 5
def frNO_INSTANCE : Nat := 6
def frEXISTS : Nat := 7
def frNO_JOURNAL : Nat := 8

/-- Word Fi of the request of instance `n`. -/
def reqWord (s : State) (n i : Nat) : Nat := s.get (folioData false n i)
def reqOp (s : State) (n : Nat) : Nat := bits (reqWord s n 0) 24 8
def reqToken (s : State) (n : Nat) : Nat := bits (reqWord s n 0) 16 8

/-- The operations of Table 14.5. -/
def knownOps : List Nat := [0x01, 0x02, 0x03, 0x04, 0x05, 0x06, 0x10, 0x11, 0x12, 0x13, 0x14, 0x15, 0x16, 0x20, 0x21]

/-- R530, steps 2–5: the response goes into D2H once GO is 0 there, and only then H2D is done. -/
def deliverAnswer (s : State) (n : Nat) : State :=
  match (s.inst n).answer with
  | some ws =>
    if s.flag (folioGO true n) || !folioLive s n then s
    else
      let s := s.setInst n { s.inst n with answer := none, exec := false }
      let s := (List.range 16).foldl (fun s i => s.put (folioData true n i) (ws.getD i 0)) s
      setGO (setGO s true n true) false n false
  | none => s

/-- The response with RESULT and the words from F1 on. -/
def answerFolio (s : State) (n op token result : Nat) (ws : List Nat) : State :=
  deliverAnswer (s.setInst n { s.inst n with exec := true, dis := none, answer := some ((op * 2 ^ 24 + token * 2 ^ 16 + result) :: ws) }) n

/-- R530, R531: the management complex serves the request with operation `op` that instance `n` has posted. -/
def serve (s : State) (n op : Nat) (f : State → (Nat → List Nat → State → State) → State) : State :=
  if !folioLive s n || !s.flag (folioGO false n) || (s.inst n).exec then s
  else
    let posted := reqOp s n
    let ans (r : Nat) (ws : List Nat) (s : State) : State := answerFolio s n posted (reqToken s n) r ws
    if !knownOps.contains posted then ans frBAD_OP [] s
    else if posted ≠ op then s
    else if 0x10 ≤ op ∧ n ≠ 0 then ans frDENIED [] s
    else f s ans

/-- F1–F13 of INFO for instance `k`. -/
def infoWords (s : State) (k : Nat) : List Nat :=
  (instate s k * 2 ^ 24 + s.get BOOT_STAGE_RESTRICTED * 2 ^ 23 + k) :: (List.range 12).map (fun j => s.get (INS_PANTRY_WORD k (j + 1)))

def opInfo (s : State) (n : Nat) : State := serve s n 0x01 (fun s ans => ans frOK (infoWords s n) s)

/-- The global ring of local index `l` of instance `n`. -/
def runRing : List (Nat × Nat) → Nat → Option Nat
  | [], _ => none
  | (b, c) :: t, l => if l < c then some (b + l) else runRing t (l - c)

/-- R532: RING_ENABLE. -/
def opRingEnable (s : State) (n : Nat) : State :=
  serve s n 0x02 (fun s ans =>
    let f := reqWord s n
    let l := bits (f 1) 0 13
    match if l < ptRings s n then runRing (s.inst n).runs l else none with
    | none => ans frDENIED [] s
    | some r =>
      if ringState s r ≠ rsDISABLED then ans frEXISTS [] s
      else
        let s := s.puts [(HIF_RING_CTX0_KIND r, bits (f 1) 16 4), (HIF_RING_CTX0_LOG2N r, bits (f 1) 20 5), (HIF_RING_CTX0_INST r, n), (HIF_RING_CTX0_LOCAL r, l),
          (HIF_RING_CTX1_DESC_BASE r, f 2), (HIF_RING_CTX2_DESC_BASE r, f 3), (HIF_RING_CTX3_CPL_BASE r, f 4), (HIF_RING_CTX4_CPL_BASE r, f 5),
          (HIF_RING_CTX5_IRQ_EN r, bits (f 6) 31 1), (HIF_RING_CTX5_VEC r, bits (f 6) 24 7), (HIF_RING_CTX5_COAL_CNT r, bits (f 6) 16 8),
          (HIF_RING_CTX5_COAL_US r, bits (f 6) 0 10), (HIF_RING_CTX6_STREAM r, bits (f 7) 16 16), (HIF_RING_CTX6_CQ r, bits (f 7) 0 13)]
        let c := enableCheck s r
        if c = rrOK then ans frOK [] (enableRing s r) else ans c [] s)

/-- R505, R530: the RING_DISABLE requests whose ring is DISABLED are answered. -/
def answerDisables (s : State) : State :=
  s.ins.inst.foldl (fun s e =>
    match e.2.dis with
    | some r => if ringState s r = rsDISABLED then answerFolio s e.1 0x03 (reqToken s e.1) frOK [] else s
    | none => s) s

/-- R505: RING_DISABLE. -/
def opRingDisable (s : State) (n : Nat) : State :=
  answerDisables (serve s n 0x03 (fun s ans =>
    let l := bits (reqWord s n 1) 0 13
    match if l < ptRings s n then runRing (s.inst n).runs l else none with
    | none => ans frDENIED [] s
    | some r =>
      if ringState s r = rsDISABLED then ans frOK [] s
      else if cqInUse s r then ans frBUSY [] s
      else
        let s := drainRing s r
        s.setInst n { s.inst n with exec := true, dis := some r }))

/-- R505: a DRAINING ring completes what is outstanding and becomes DISABLED. -/
def ringDrainDone (s : State) (r : Nat) (cut : List (Nat × Nat)) : State := answerDisables (settleRing (squashRing s r cut) r)

/-! ### The error log and attention (R546, R553) -/

/-- R553: instance `n` needs attention. -/
def attention (s : State) (n : Nat) : State :=
  let p := s.get (INS_ATTN_PEND (n / 32))
  if bit p (n % 32) then s else msixRequest (s.put (INS_ATTN_PEND (n / 32)) (setBit p (n % 32))) 0 (attnVec s 0)

/-- R546: an entry of the error log of instance `n`; it sets the INS_ATTN bit. -/
def logEntry (s : State) (n : Nat) (e : List Nat) : State :=
  let x := s.inst n
  let p := s.get (INS_ATTN_PEND (n / 32))
  let s := s.put (INS_ATTN_PEND (n / 32)) (setBit p (n % 32))
  if x.log.length < 64 then s.setInst n { x with log := x.log ++ [e] }
  else
    let last := x.log.getLastD []
    let more := if bits (last.getD 0 0) 24 8 = 4 then [4 * 2 ^ 24, 0, satAdd 32 (last.getD 2 0) 1, 0] else [4 * 2 ^ 24, 0, 2, 0]
    s.setInst n { x with log := x.log.dropLast ++ [more] }

def opErrlogRead (s : State) (n : Nat) : State :=
  serve s n 0x04 (fun s ans =>
    let k := if n = 0 then bits (reqWord s n 1) 0 7 else n
    let x := s.inst k
    ans frOK ((x.log.length - min 3 x.log.length) :: (x.log.take 3).flatten) (s.setInst k { x with log := x.log.drop 3 }))

/-- The refusal of a request that names instance `k` in a state where it cannot be served (R531). -/
def targetRefusal (s : State) (k : Nat) : Option Nat :=
  if instate s k = isNONE then some frNO_INSTANCE else if instate s k = isREADY then none else some frBUSY

def opAttn (s : State) (n : Nat) : State :=
  serve s n 0x05 (fun s ans =>
    if n ≠ 0 then ans frOK [] (attention s n)
    else
      let k := bits (reqWord s n 1) 0 7
      match targetRefusal s k with
      | some e => ans e [] s
      | none => ans frOK [] (msixRequest s k (attnVec s k)))

/-- R534: DB_RING. -/
def opDbRing (s : State) (n : Nat) : State :=
  serve s n 0x06 (fun s ans =>
    let i := bits (reqWord s n 1) 0 11
    let b := pantry s n 8 16 12 + i
    if pantry s n 8 0 12 ≤ i then ans frDENIED [] s
    else if dbAllowed s reqMC0 (b / 32) then ans frOK [] (dbRing s (b / 32) (2 ^ (b % 32)))
    else ans frDENIED [] (dbSet s reqMC0 (b / 32) (2 ^ (b % 32))))

/-! ### Creation (R522–R527) -/

/-- Instances that hold a Pantry. -/
def holders (s : State) : List Nat := (List.range 128).filter (fun n => instate s n != isNONE)

/-- What the Pantries hold of a resource, by word and bits. -/
def poolUsed (s : State) (j lo w : Nat) : Nat := (holders s).foldl (fun a n => a + pantry s n j lo w) 0

/-- The runs of rings in use, by first ring. -/
def usedRuns (s : State) : List (Nat × Nat) := s.ins.inst.flatMap (fun e => e.2.runs)

/-- The first ring at or after `a` that no run holds, with the length of the free stretch, looking past at most `fuel` runs. -/
def freeFrom (used : List (Nat × Nat)) : Nat → Nat → Option (Nat × Nat)
  | 0, _ => none
  | fuel + 1, a =>
    if 32768 ≤ a then none
    else match used.find? (fun e => e.1 ≤ a && a < e.1 + e.2) with
      | some e => freeFrom used fuel (e.1 + e.2)
      | none => some (a, (used.foldl (fun m e => if a ≤ e.1 then min m e.1 else m) 32768) - a)

/-- The lowest free rings, `k` in number, as runs. -/
def takeRuns (used : List (Nat × Nat)) : Nat → Nat → Nat → List (Nat × Nat)
  | 0, _, _ => []
  | fuel + 1, a, k =>
    if k = 0 then []
    else match freeFrom used (used.length + 1) a with
      | none => []
      | some (b, len) => let c := min k len; (b, c) :: takeRuns used fuel (b + c) (k - c)

/-- The free Stockpot units, lowest first. -/
def freeUnits (s : State) : List Nat := (List.range 5120).filter (fun i => s.get (MEM_SP_TAG_TAG i) == 0xFF)

/-- R526: a field outside its range. -/
def createBad (f : Nat → Nat) : Bool :=
  let used : List (Nat × Nat) := [(1, 0x7F3FFF), (2, 0x1FFF007F), (3, 0x7FFF), (4, 0x7FFFF), (5, 0x1FFF007F), (6, 0x1FFF0FFF), (7, 0xFF00FF), (8, 0xFFF0FFF), (9, 0x7F7F),
    (12, 0x1F), (13, 0), (14, 0), (15, 0)]
  let vec := bits (f 7) 16 8
  used.any (fun e => bitsMinus 32 (f e.1) e.2 != 0) || bits (f 1) 16 7 == 0 || 8192 < bits (f 1) 0 14 || 4096 < bits (f 2) 16 13 || 64 < bits (f 2) 0 7 ||
    16384 < bits (f 3) 0 15 || 262144 < bits (f 4) 0 19 || 4096 < bits (f 5) 16 13 || 64 < bits (f 5) 0 7 || 4096 < bits (f 6) 16 13 || 2048 < bits (f 6) 0 12 ||
    vec == 0 || 128 < vec || 128 < bits (f 7) 0 8 || 2047 < bits (f 8) 16 12 || 2048 < bits (f 8) 0 12 || 2048 < bits (f 8) 16 12 + bits (f 8) 0 12 ||
    vec ≤ bits (f 9) 8 7 || vec ≤ bits (f 9) 0 7 || wrap 12 (f 10) != 0 || wrap 5 (f 12) == 1 || 16 < wrap 5 (f 12)

/-- R524: whether the pools supply the fields. -/
def poolsHold (s : State) (f : Nat → Nat) : Bool :=
  let fits (j lo w size : Nat) : Bool := poolUsed s j lo w + bits (f j) lo w ≤ size
  let b := bits (f 8) 16 12
  let c := bits (f 8) 0 12
  fits 1 0 14 32768 && bits (f 2) 16 13 ≤ (freeUnits s).length && fits 3 0 15 16384 && fits 4 0 19 262144 && fits 5 16 13 4096 && fits 5 0 7 64 &&
    fits 6 16 13 4096 && fits 6 0 12 2048 && fits 7 16 8 2048 && fits 7 0 8 128 &&
    (holders s).all (fun n => c == 0 || pantry s n 8 0 12 == 0 || b + c ≤ pantry s n 8 16 12 || pantry s n 8 16 12 + pantry s n 8 0 12 ≤ b)

/-- R522, R527: instance `k` takes the resources that the words F1–F12 name and becomes READY. -/
def createInst (s : State) (k : Nat) (f : Nat → Nat) : State :=
  let runs := takeRuns (usedRuns s) 32768 0 (bits (f 1) 0 14)
  let s := ((freeUnits s).take (bits (f 2) 16 13)).foldl (fun s i => s.put (MEM_SP_TAG_TAG i) k) s
  let s := (List.range 12).foldl (fun s j => s.put (INS_PANTRY_WORD k (j + 1)) (f (j + 1))) s
  (s.setInst k { runs := runs }).put (INS_INFO_INSTATE k) isREADY

/-- R526, R527, R531, R547, R708: INST_CREATE. -/
def opInstCreate (s : State) (n : Nat) : State :=
  serve s n 0x10 (fun s ans =>
    let f := reqWord s n
    let k := bits (f 1) 16 7
    if s.flag BOOT_STAGE_RESTRICTED ∧ !s.flag BOOT_STAGE_ACKED then ans frDENIED [] s
    else if createBad f then ans frBAD_ARG [] s
    else if instate s k = isREADY then ans frEXISTS [] s
    else if instate s k ≠ isNONE ∨ !s.flag BOOT_STAGE_DRAM_READY then ans frBUSY [] s
    else if !s.hif.vfEnable ∨ s.hif.numVfs < k then ans frDENIED [] s
    else if !s.flag INS_STAT_JOURNAL_VALID then ans frNO_JOURNAL [] s
    else if !poolsHold s f then ans frNO_RESOURCE [] s
    else ans frOK [] (createInst s k f))

/-! ### Grants (R535–R538, R542) -/

/-- R535: the grant with VALID and holder fields goes to `k`, or is withdrawn with `k` = 0. -/
def setHolder (s : State) (v i : Fld) (k : Nat) : State := s.puts [(v, b2n (k != 0)), (i, k)]

/-- The stream slots that instance `k` uses. -/
def streamsOf (s : State) (k : Nat) : Nat :=
  ((List.range 256).filter (fun i => s.flag (INS_STREAM_GRANTED i) && s.get (INS_STREAM_INSTANCE i) == k)).length

def opGrant (s : State) (n : Nat) : State :=
  serve s n 0x14 (fun s ans =>
    let f := reqWord s n
    let kind := bits (f 1) 24 8
    let k := bits (f 1) 0 7
    let bad := if k = 0 then none else targetRefusal s k
    let give (held : Bool) (holder : Nat) (more : Option Nat) (go : State → State) : State :=
      match bad with
      | some e => ans e [] s
      | none =>
        if k ≠ 0 ∧ held ∧ holder ≠ k then ans frBUSY [] s
        else match more with
          | some e => ans e [] s
          | none => ans frOK [] (go s)
    if kind = 1 then
      let c := f 2
      if 3 < c then ans frBAD_ARG [] s
      else give (s.flag (INS_SPGRANT_VALID c)) (s.get (INS_SPGRANT_INSTANCE c)) none (fun s => setHolder s (INS_SPGRANT_VALID c) (INS_SPGRANT_INSTANCE c) k)
    else if kind = 2 then
      if f 2 < 0x100 ∨ 0x1FF < f 2 then ans frBAD_ARG [] s
      else
        let i := f 2 - 0x100
        let own := s.flag (INS_STREAM_GRANTED i) && s.get (INS_STREAM_INSTANCE i) == k
        give (s.flag (INS_STREAM_GRANTED i)) (s.get (INS_STREAM_INSTANCE i))
          (if k ≠ 0 ∧ !own ∧ pantry s k 2 0 7 ≤ streamsOf s k then some frNO_RESOURCE else none)
          (fun s =>
            if own && k != 0 then s
            else setHolder (s.puts [(INS_STREAM_VALID i, 0), (INS_STREAM_RING i, 0)]) (INS_STREAM_GRANTED i) (INS_STREAM_INSTANCE i) k)
    else if kind = 3 then give (s.flag INS_VALGRANT_VALID) (s.get INS_VALGRANT_INSTANCE) none (fun s => setHolder s INS_VALGRANT_VALID INS_VALGRANT_INSTANCE k)
    else ans frBAD_ARG [] s)

/-- R540: SETPOINT_LIMIT. -/
def opSetpointLimit (s : State) (n : Nat) : State :=
  serve s n 0x15 (fun s ans =>
    let f := reqWord s n
    let w := bits (f 1) 8 2
    let c := bits (f 1) 0 2
    if w = 0 then ans frBAD_ARG [] s
    else ans frOK [] (s.puts [(INS_SPLIM_MIN_LIMIT c (w - 1), f 2), (INS_SPLIM_MAX_LIMIT c (w - 1), f 3), (INS_SPLIM_INTV_US c, bits (f 4) 0 16)]))

/-- R547: JOURNAL_SET. -/
def opJournalSet (s : State) (n : Nat) : State :=
  serve s n 0x16 (fun s ans =>
    let f := reqWord s n
    if wrap 12 (f 1) ≠ 0 then ans frBAD_ARG [] s
    else ans frOK [] (s.puts [(INS_JOURNAL_LO_BASE, f 1), (INS_JOURNAL_HI_BASE, f 2), (INS_STAT_JOURNAL_VALID, 1)]))

def opInstQuery (s : State) (n : Nat) : State :=
  serve s n 0x13 (fun s ans =>
    let k := bits (reqWord s n 1) 0 7
    match targetRefusal s k with
    | some e => ans e [] s
    | none => ans frOK (infoWords s k) s)

/-! ### Reset and removal (R543–R549) -/

/-- R547: one journal entry for ring `r`; `fail` when the manager's host memory refuses it. -/
def journal (s : State) (n state id : Nat) (fail : Bool) (e : Nat × Nat × Nat × Nat) : State :=
  let (r, c, tail, _) := e
  if !s.flag INS_STAT_JOURNAL_VALID then s
  else if fail then s.put INS_STAT_JOURNAL_FAIL 1
  else
    let base := s.get INS_JOURNAL_LO_BASE + s.get INS_JOURNAL_HI_BASE * 2 ^ 32
    s.emit (.dma 0 (base + 16 * r) (leBytes 2 (ringLocal s r) ++ leBytes 1 n ++ leBytes 1 state ++ leBytes 4 c ++ leBytes 4 tail ++ leBytes 4 id))

/-- R549: what becomes of a Folio request of the instance. -/
def folioLost (s : State) (n : Nat) : State :=
  let x := s.inst n
  if !s.flag (folioGO false n) then s
  else
    let s := logEntry s n [2 * 2 ^ 24 + reqOp s n * 256 + reqToken s n, b2n x.exec, 0, 0]
    s.setInst n { s.inst n with exec := false, dis := none, answer := none }

/-- R549: the responses that the manager awaited are lost with its own reset. -/
def dropWaiting (s : State) : State :=
  { s with ins := { s.ins with inst := s.ins.inst.map (fun e => (e.1, { e.2 with rst := e.2.rst.map (fun x => { x with waiting := [] }) })) } }

/-- Table 14.7, steps 1–3. -/
def resetStart (s : State) (n : Nat) (removal : Bool) (waiting : List (Nat × Nat)) (jfail : Bool) : State :=
  let id := wrap 32 (s.get INS_RESET_ID_ID + 1)
  let s := s.puts [(INS_RESET_ID_ID, id), (INS_INFO_INSTATE n, if removal then isREMOVING else isRESETTING)]
  let s := folioLost s n
  let s := if n = 0 then dropWaiting s else s
  let mine := (knownRings s).filter (fun r => ringInst s r == n && ringState s r != rsDISABLED)
  let es := mine.map (fun r => (r, ringC s r, (s.ring r).tail, (s.ring r).recs.length))
  let s := mine.foldl drainRing s
  let s := es.foldl (journal · n 1 id jfail ·) s
  s.setInst n { s.inst n with rst := some { t0 := s.T, id := id, removal := removal, waiting := waiting, rings := es } }

/-- R543: a reset or removal request for instance `n`. -/
def instReset (s : State) (n : Nat) (removal : Bool) (waiting : List (Nat × Nat)) (jfail : Bool) : State :=
  if instate s n = isREADY then resetStart s n removal waiting jfail
  else if instate s n = isRESETTING then
    match (s.inst n).rst with
    | some x => s.setInst n { s.inst n with rst := some { x with removal := x.removal || removal, waiting := x.waiting ++ waiting } }
    | none => s
  else s

/-- R531, R544: INST_RESET and INST_REMOVE. -/
def opInstStop (s : State) (n op : Nat) (jfail : Bool) : State :=
  serve s n op (fun s ans =>
    let k := bits (reqWord s n 1) 0 7
    let removal := op == 0x12
    if removal ∧ k = 0 then ans frBAD_ARG [] s
    else if instate s k = isNONE then ans frNO_INSTANCE [] s
    else if instate s k = isREMOVING ∨ (instate s k = isRESETTING ∧ !removal) then ans frBUSY [] s
    else instReset (s.setInst n { s.inst n with exec := true }) k removal [(op, reqToken s n)] jfail)

/-- The port of a scheduler node. -/
def nodePort (s : State) (k : Nat) : Nat := if k < 4096 then s.get (TSN_NODE_CFG_PORT k) else (k - 4096) / 8

/-- Table 14.7, step 6: in-flight frames charged to or queued for the instance go, each counted. -/
def dropFrames (s : State) (n : Nat) : State :=
  let out (k : Nat) (x : QEnt) : Bool := x.inst == n || (nodePort s k == 6 && x.dest == n)
  let s := s.tsn.node.foldl (fun s e =>
    let nd := s.tsn.node.get {} e.1
    let s := { s with tsn := { s.tsn with node := s.tsn.node.set e.1 { nd with q := nd.q.filter (fun x => !out e.1 x) } } }
    (nd.q.filter (out e.1)).foldl (fun s x => (releaseFrame s x.h).bump (INS_CNT_QUOTA_COUNT n)) s) s
  let s := (s.net.rxWait.filter (fun x => x.2.dest == n)).foldl (fun s x => (releaseFrame s x.2.h).bump (INS_CNT_QUOTA_COUNT n)) s
  let mine := s.net.frames.filter (fun e => e.2.charge == n)
  let s := mine.foldl (fun s _ => s.bump (INS_CNT_QUOTA_COUNT n)) s
  let gone := mine.map (·.1)
  resumeHeld { s with net := { s.net with
    frames := s.net.frames.filter (fun e => e.2.charge != n), held := s.net.held.filter (fun e => !gone.contains e.2.1.h),
    cpuq := s.net.cpuq.map (fun e => (e.1, e.2.filter (fun h => !gone.contains h))), crypto := s.net.crypto.filter (fun e => e.1 != n),
    rxWait := s.net.rxWait.filter (fun x => x.2.dest != n && !gone.contains x.2.h) } }

/-- Table 14.7, step 7: grants, table entries, keys, namespaces, scheduler nodes and policers of the instance. -/
def removeRights (s : State) (n : Nat) : State :=
  let s := (List.range 4).foldl (fun s c => if s.get (INS_SPGRANT_INSTANCE c) = n then setHolder s (INS_SPGRANT_VALID c) (INS_SPGRANT_INSTANCE c) 0 else s) s
  let s := (List.range 256).foldl (fun s i =>
    if s.get (INS_STREAM_INSTANCE i) = n then setHolder (s.puts [(INS_STREAM_VALID i, 0), (INS_STREAM_RING i, 0)]) (INS_STREAM_GRANTED i) (INS_STREAM_INSTANCE i) 0 else s) s
  let s := if s.get INS_VALGRANT_INSTANCE = n then setHolder s INS_VALGRANT_VALID INS_VALGRANT_INSTANCE 0 else s
  let s := if s.flag INS_MOTION_VALID && s.get INS_MOTION_INSTANCE == n then ldgNote (setGrant s 0) rtGRANT_SET clsSESSION [0] else s
  let s := (s.ents tkFLOW).foldl (fun s e => if e.2.owner = n then delFlow s e.1 else s) s
  let s := { s with net := { s.net with tab := s.net.tab.filter (fun e => e.2.owner != n) } }
  let s := (List.range 4096).foldl (fun s i => if s.flag (TSN_NODE_CFG_EN i) && s.get (TSN_NODE_CFG_INST i) == n then s.put (TSN_NODE_CFG_EN i) 0 else s) s
  s.puts [(TSN_POLMAP_BASE n, 0), (TSN_POLMAP_COUNT n, 0)]

/-- Table 14.7, step 8: the Pantry returns to its pools. -/
def returnPantry (s : State) (n : Nat) : State :=
  let s := (List.range 5120).foldl (fun s i => if s.get (MEM_SP_TAG_TAG i) = n then (s.put (MEM_SP_TAG_TAG i) 0xFF).clearRange (4096 * i) 4096 else s) s
  let s := (List.range 12).foldl (fun s j => s.put (INS_PANTRY_WORD n (j + 1)) 0) s
  (s.setInst n { s.inst n with runs := [] }).put (INS_INFO_INSTATE n) isNONE

/-- The registers of HIF and INS that describe instance 0 and its rings after a HOST reset (R699, Table 14.7): INSTATE, the
Pantry's words, and which rings are its own. -/
def hostStays (k : FKey) : Bool :=
  (k.id == (INS_INFO_INSTATE 0).key.id && k.i == 0) || (k.id == (INS_PANTRY_WORD 0 0).key.id && k.i == 0) ||
  k.id == (HIF_RING_CTX0_INST 0).key.id || k.id == (HIF_RING_CTX0_LOCAL 0).key.id ||
  k.id == HIF_LINK_SPEED.key.id || k.id == HIF_LINK_WIDTH.key.id

/-- R15, R696: once the sequence that a HOST reset began has ended for every instance, the registers of HIF and INS that it
worked on are at their reset values too. -/
def hostResetEnd (s : State) : State :=
  if s.hif.hostRst && s.ins.inst.all (fun e => e.2.rst.isNone) then
    { s with regs := s.regs.filter (fun e => (e.1.block != 18 && e.1.block != 19) || hostStays e.1), hif := { s.hif with hostRst := false } }
  else s

/-- Table 14.7, steps 6–8. -/
def resetFinish (s : State) (n : Nat) (x : InstReset) (jfail : Bool) : State :=
  let s := closeAll s (fun y => y.inst == n) 2
  let s := dropFrames (folioZero s n) n
  let s := x.rings.foldl (fun s e => s.setRing e.1 { s.ring e.1 with descs := [], wait := [] }) s
  let s := s.puts (x.rings.flatMap (fun e => [(HIF_RING_CTX7_STATE e.1, rsDISABLED), (HIF_RING_CTX0_EN e.1, 0)]))
  let s := x.rings.foldl (journal · n 2 x.id jfail ·) s
  let s := logEntry s n [3 * 2 ^ 24 + b2n x.removal, wrap 32 x.t0, (s.T - x.t0) / 1000, x.id]
  let s := { s with hif := { s.hif with viol := s.hif.viol.erase n, dberr := s.hif.dberr.erase n } }
  let s := s.setInst n { s.inst n with rst := none, exec := false, dis := none, answer := none }
  let s := if x.removal then returnPantry (removeRights s n) n else s.put (INS_INFO_INSTATE n) isREADY
  hostResetEnd (x.waiting.foldl (fun s w => if (s.inst 0).exec then answerFolio s 0 w.1 w.2 frOK [] else s) s)

/-- Table 14.7, step 4 and the first part of step 5: committed transfers have completed; the rest is squashed. -/
def resetDrainDone (s : State) (n : Nat) (cut : List (Nat × Nat × Nat)) (jfail : Bool) : State :=
  match (s.inst n).rst with
  | none => s
  | some x =>
    if x.squashed then s
    else
      let s := x.rings.foldl (fun s e => squashRing s e.1 ((cut.filter (fun c => c.1 == e.1)).map (·.2))) s
      let flush := (x.rings.filter (fun e => ringKind s e.1 != rkSQ && ((s.ring e.1).w != 0 || !((s.ring e.1).descs.isEmpty && (s.ring e.1).wait.isEmpty)))).map (·.1)
      let x := { x with squashed := true, flush := flush }
      let s := s.setInst n { s.inst n with rst := some x }
      if flush = [] then resetFinish s n x jfail else s

/-- R545: runs of consecutive sequence numbers with one status: local index, first SEQ, count, status. -/
def lostRuns : List (Nat × Nat × Nat) → List (Nat × Nat × Nat × Nat)
  | [] => []
  | (l, q, st) :: t =>
    match lostRuns t with
    | (l', q', c, st') :: u => if l = l' ∧ st = st' ∧ q' = wrap 32 (q + 1) then (l, q, c + 1, st) :: u else (l, q, 1, st) :: (l', q', c, st') :: u
    | [] => [(l, q, 1, st)]

/-- R545: the flush read of ring `r` returns; a failed one loses every record since step 2 and the `more` records before that
whose own flush had not succeeded. Records that could not be written are lost as well. -/
def flushReadDone (s : State) (n r : Nat) (ok : Bool) (more : Nat) (jfail : Bool) : State :=
  match (s.inst n).rst with
  | none => s
  | some x =>
    match x.rings.find? (fun e => e.1 == r) with
    | none => s
    | some e =>
      if !x.squashed || !x.flush.contains r then s
      else
        let q := s.ring r
        let from_ := e.2.2.2 - more
        let unwritten : List (Nat × Nat × Nat) := q.descs.filterMap (fun d => d.done.map (fun c => (ringLocal s r, d.seq, c.status))) ++
          q.wait.map (fun w => (ringLocal s w.1, w.2.1, w.2.2.2.1.status))
        let lost := (if ok then [] else q.recs.drop from_) ++ unwritten
        let s := (lostRuns lost).foldl (fun s l => logEntry s n [2 ^ 24 + l.1, l.2.1, l.2.2.1, l.2.2.2]) s
        let x := { x with flush := x.flush.filter (· ≠ r) }
        let s := s.setInst n { s.inst n with rst := some x }
        if x.flush = [] then resetFinish s n x jfail else s

/-- R494: an FLR of function `n`. -/
def flr (s : State) (n : Nat) (jfail : Bool) : State :=
  if n ≠ 0 then instReset s n false [] jfail
  else
    let s := { s with hif := { s.hif with vfEnable := false, numVfs := 0 } }
    let s := instReset s 0 false [] jfail
    (List.range 127).foldl (fun s k => instReset s (k + 1) true [] jfail) s

/-- R523: a change of VF Enable and NumVFs. -/
def vfChange (s : State) (on : Bool) (num : Nat) (jfail : Bool) : State :=
  let s := { s with hif := { s.hif with vfEnable := on, numVfs := num } }
  (List.range 127).foldl (fun s k => if !on || num < k + 1 then instReset s (k + 1) true [] jfail else s) s

/-! ### Setpoints (R36–R38, R540, R541) -/

/-- The words of a SETPOINT descriptor. -/
def spWords (d : Desc) : List Nat := (List.range (d.fld 4 8 2)).map (fun w => d.kw (w + 1))

/-- R540, checks 1–3. -/
def spOk (s : State) (d : Desc) (n : Nat) : Bool :=
  let c := d.fld 4 0 2
  s.flag (INS_SPGRANT_VALID c) && s.get (INS_SPGRANT_INSTANCE c) == n &&
    (spWords d).zipIdx.all (fun e => signed 32 (s.get (INS_SPLIM_MIN_LIMIT c e.2)) ≤ signed 32 e.1 && signed 32 e.1 ≤ signed 32 (s.get (INS_SPLIM_MAX_LIMIT c e.2))) &&
    (match s.ins.spT.get none c with | some t => t + s.get (INS_SPLIM_INTV_US c) * 1000 ≤ s.T | none => true)

/-- R541: the queue from MC0 to the bound DSP, when it has room. -/
def spQueue (s : State) (d : Desc) : Option Nat :=
  let c := d.fld 4 0 2
  let q := s.get (PWM_BIND_DSP c)
  if s.flag (PWM_BIND_BOUND c) && (qWords s q).length + d.fld 4 8 2 + 1 ≤ 16 then some q else none

def spHeldFor (s : State) (r seq : Nat) : Option (Nat × Nat × Nat) := s.ins.held.find? (fun e => e.1 == r && e.2.1 == seq)
def spForget (s : State) (r seq : Nat) : State := { s with ins := { s.ins with held := s.ins.held.filter (fun e => e.1 != r || e.2.1 != seq) } }

/-- R37: the setpoint has waited for a full queue for 1 ms. -/
def spExpired (s : State) (r seq : Nat) : Bool :=
  match spHeldFor s r seq with
  | some (_, _, t) => t + 1000000 ≤ s.T
  | none => false

/-- R37: the descriptor is dropped. -/
def spDrop (s : State) (r : Nat) (d : Desc) : State := finishItem (spForget s r d.seq) r [d] stDROPPED_POLICY (fun _ => 0)

/-- R46, R540, R541: the next SETPOINT descriptor of ring `r`; a full queue holds it for another attempt, for up to 1 ms (R37). -/
def setpoint (s : State) (r : Nat) : State :=
  match nextItem s r rkSETPOINT with
  | some [d] =>
    let n := ringInst s r
    let c := d.fld 4 0 2
    if s.flag BOOT_STAGE_RESTRICTED then finishItem s r [d] stABORTED_COMPAT (fun _ => 0)
    else if (spHeldFor s r d.seq).isNone && !spOk s d n then finishItem s r [d] stDROPPED_POLICY (fun _ => 0)
    else if spExpired s r d.seq then spDrop s r d
    else match spQueue s d with
      | some q =>
        let head := n * 2 ^ 24 + wrap 8 d.seq * 2 ^ 16 + d.fld 4 8 2 * 256 + c
        let s := (head :: spWords d).foldl (fun s w => qPush s q w true) (spForget s r d.seq)
        finishItem { s with ins := { s.ins with spT := s.ins.spT.set c (some s.T) } } r [d] stOK (fun _ => 4 * d.fld 4 8 2)
      | none =>
        if (spHeldFor s r d.seq).isSome then s else { s with ins := { s.ins with held := s.ins.held ++ [(r, d.seq, s.T)] } }
  | _ => s

/-- R37: the queue has stayed full for 1 ms. -/
def setpointExpiry (s : State) (r : Nat) : State :=
  match nextItem s r rkSETPOINT with
  | some [d] => if spExpired s r d.seq then spDrop s r d else s
  | _ => s

/-! ### The INS block (R554) -/

def insReader (m : Nat) : Bool := isMC m || isPT m || m == reqHost 0

/-- R554: a read of INS_INFO latches the Pantry images and the counters of the selected instance. -/
def insInfoRead (s : State) (m : Nat) (word : State → Nat) : State :=
  if !insReader m then s.refuseRead m 19 8
  else
    let n := s.get INS_SEL_INSTANCE
    let base := blockBase 19 0
    let s := (List.range 12).foldl (fun s j => s.latch m (base + 0x84 + 4 * j) (s.get (INS_PANTRY_WORD n (j + 1)))) s
    let s := s.latch m (base + 0x0C) (s.get (INS_CNT_QUOTA_COUNT n))
    let s := s.latch m (base + 0x10) (s.get (INS_CNT_POLICY_COUNT n))
    let s := s.latch m (base + 0x14) (s.get (INS_CNT_VIOL_COUNT n))
    (s.latch m (base + 0x08) n).answer (word s)

/-- The values of the block computed when read. -/
def liveIns (s : State) (k : FKey) : Option Nat :=
  if k = INS_STAT_LIVE_CNT.key then some (holders s).length
  else if k = (INS_INFO_LOG k.i).key then some (s.inst k.i).log.length
  else if k = (INS_INFO_SPGRANT k.i).key then
    some (((List.range 4).filter (fun c => s.flag (INS_SPGRANT_VALID c) && s.get (INS_SPGRANT_INSTANCE c) == k.i)).foldl setBit 0)
  else if k = (INS_INFO_VALGRANT k.i).key then some (b2n (s.flag INS_VALGRANT_VALID && s.get INS_VALGRANT_INSTANCE == k.i))
  else if k = (INS_INFO_MOTION k.i).key then some (b2n (s.flag INS_MOTION_VALID && s.get INS_MOTION_INSTANCE == k.i))
  else if k = (INS_LIVE_LIVE k.i).key then some (((holders s).filter (fun n => n / 32 == k.i)).foldl (fun a n => setBit a (n % 32)) 0)
  else none

/-- HIF: a ring's OUTSTANDING, and the rings that no Pantry holds (Table 13.13). -/
def livePool (s : State) (k : FKey) : Option Nat :=
  if k = HIF_POOL_FREE.key then some (32768 - poolUsed s 1 0 14) else liveHif s k

/-- R554: a write to the INS block: SEL and the ATTN bits. -/
def insRegWrite (s : State) (m off v : Nat) : State :=
  if off = 0x004 then (if isMC m || m == reqHost 0 then s.put INS_SEL_INSTANCE v else s.refuseWrite m 19 off)
  else if 0x030 ≤ off ∧ off < 0x040 ∧ off % 4 = 0 then
    let i := (off - 0x030) / 4
    if isMC m || m == reqHost 0 then s.put (INS_ATTN_PEND i) (bitsMinus 32 (s.get (INS_ATTN_PEND i)) v) else s.refuseWrite m 19 off
  else if isMC m then s else s.refuseWrite m 19 off

end Sys2Proof.Machine
end

