-- ==== Sys2Proof/Machine/Valolo.lean ====
section
/-! DEFINITION. Cell monitoring, the controller's side (09_cell_monitoring.md): ports, exchanges, sample sets, waking and sleeping,
open-wire runs, the VAL registers. -/
namespace Sys2Proof.Machine
open Sys2Proof.Reg

def State.vport (s : State) (p : Nat) : ValPort := s.val.port.get {} p
def State.setVport (s : State) (p : Nat) (x : ValPort) : State := { s with val := { s.val with port := s.val.port.set p x } }
def State.setVal (s : State) (x : Val) : State := { s with val := x }

def vpOFF : Nat := 0
def vpWAKING : Nat := 1
def vpACTIVE : Nat := 2
def vpSLEEP : Nat := 3
def vpFAULT : Nat := 4

def fcNO_RESPONSE : Nat := 1
def fcID_MISMATCH : Nat := 2
def fcSAT_FAULT : Nat := 3
def fcLINE_SHORT : Nat := 4
def fcCFG_FAIL : Nat := 5

def vstate (s : State) (p : Nat) : Nat := s.get (VAL_PORT_STAT_STATE p)
def valOn (s : State) : Bool := s.flag VAL_CFG_EN
def ports : List Nat := List.range 32

/-- R353: who writes VAL registers. -/
def valCmdPt (s : State) (m : Nat) : Bool := s.flag VAL_CFG_CMD_PT_EN && m == reqPT (s.get VAL_CFG_CMD_PT)

/-! ### Frames (Table 9.4, R362–R364) -/

def frTYPES : List (Nat × Nat) := [(0x01, 2), (0x02, 2), (0x04, 0), (0x05, 2), (0x83, 2), (0x84, 60), (0x85, 2), (0xFF, 4)]

/-- R363: the LEN that Table 9.5 allows for a TYPE. -/
def lenAllowed (typ len : Nat) : Bool :=
  if typ = 0x03 then 4 ≤ len && len ≤ 18 && len % 2 == 0
  else if typ = 0x82 then 4 ≤ len && len ≤ 66 && len % 2 == 0
  else match frTYPES.find? (fun e => e.1 == typ) with
    | some e => len == e.2
    | none => len ≤ 96

/-- Table 9.4: the bytes of a frame: the preamble 1, 0, 1, 0, …, least significant bit first, SD, TYPE, LEN, payload and CRC. -/
def frameOf (typ : Nat) (pl : List Byte) : List Byte :=
  let b := leBytes 1 typ ++ leBytes 1 pl.length ++ pl
  [0x55, 0x55, 0xD5] ++ b ++ beBytes 2 (crc16 b)

/-- R363: a received frame is valid; `clean`: no Manchester violation and LEN agrees with its length. -/
def frameValid (typ : Nat) (pl : List Byte) (crc : Nat) (clean : Bool) : Bool :=
  clean && pl.length ≤ 96 && crc16 (leBytes 1 typ ++ leBytes 1 pl.length ++ pl) == crc && lenAllowed typ pl.length

/-- R361: the duration of a frame. -/
def frameNs (len : Nat) : Nat := 14000 + 2000 * len

/-- R364: T at which a frame may start on port `p`. -/
def linkStart (s : State) (p : Nat) : Nat := max s.T (s.vport p).idleT

/-- Sends a request on port `p`, at once or after 2 µs of idle since the last frame (R364). -/
def valSend (s : State) (p kind typ : Nat) (pl : List Byte) (tries : Nat) : State :=
  let e := linkStart s p + frameNs pl.length
  let s := s.emit (.valolo p false (frameOf typ pl))
  s.setVport p { s.vport p with x := some { kind := kind, req := leBytes 1 typ ++ pl, endT := e, tries := tries }, lastT := s.T, idleT := e + 2000 }

/-- The same request again. -/
def valResend (s : State) (p : Nat) (x : Xchg) : State :=
  valSend s p x.kind (ofLeBytes (x.req.take 1)) (x.req.drop 1) (x.tries + 1)

def xkBURST : Nat := 0
def xkWAKE : Nat := 1
def xkSET : Nat := 2
def xkACC : Nat := 3
def xkKEEP : Nat := 4
def xkSLEEP : Nat := 5
def xkOWD : Nat := 6
def xkOWRES : Nat := 7

/-- R367: an exchange or a wake burst is in flight. -/
def inFlight (s : State) (p : Nat) : Bool :=
  match (s.vport p).x with
  | some x => x.kind != xkBURST || s.T < x.endT
  | none => false

/-! ### Port transitions (Table 9.10) -/

/-- A pending PORTp_ACC access ends with ERR. -/
def accFail (s : State) (p : Nat) : State :=
  if s.flag (VAL_PORT_ACC_GO_BUSY p) then
    (s.puts [(VAL_PORT_ACC_GO_BUSY p, 0), (VAL_PORT_ACC_ERR p, 1)]).setVport p { s.vport p with acc := false, accTries := 0 }
  else s

/-- The port stops what it was doing. -/
def portClear (s : State) (p : Nat) : State :=
  let s := accFail s p
  s.setVport p { s.vport p with x := none, inSet := false, owdGo := false, owdAt := none, sleepGo := false, off := false }

def portOff (s : State) (p : Nat) : State := (portClear s p).put (VAL_PORT_STAT_STATE p) vpOFF

/-- R388: the port becomes FAULT; one whose EN is 0 becomes OFF. -/
def portFault (s : State) (p code : Nat) : State :=
  if !s.flag (VAL_PORT_CFG_EN p) then portOff s p
  else
    let s := (portClear s p).puts [(VAL_PORT_STAT_STATE p, vpFAULT), (VAL_PORT_STAT_FCODE p, code)]
    (s.setVport p { s.vport p with faultT := s.T }).irq .val

/-- R386, step 1. -/
def valBurst (s : State) (p : Nat) : State :=
  if s.val.set.isSome then s
  else
    let e := linkStart s p + 250000
    (s.emit (.wake p)).setVport p { s.vport p with x := some { kind := xkBURST, req := [], endT := e }, lastT := s.T, idleT := e }

/-- R385: the port enters WAKING; a cell count that no module has fails at once (Table 9.13). -/
def valWake (s : State) (p : Nat) : State :=
  let s := (portClear s p).puts [(VAL_PORT_STAT_STATE p, vpWAKING), (VAL_PORT_STAT_FCODE p, 0)]
  if s.get (VAL_PORT_CFG_NCELL p) < 7 then portFault s p fcCFG_FAIL
  else valBurst (s.setVport p { s.vport p with step := 0, failed := 0, cfgFail := false }) p

/-- R386: a failed step repeats the whole sequence; the third failure makes the port FAULT. -/
def wakeFail (s : State) (p : Nat) (cfg : Bool) : State :=
  let v := s.vport p
  if 2 ≤ v.failed then portFault s p (if cfg then fcCFG_FAIL else fcNO_RESPONSE)
  else valBurst (s.setVport p { v with x := none, step := 0, failed := v.failed + 1, cfgFail := cfg }) p

/-- The words that the engine writes to satellite registers 0x04–0x06 (R356). -/
def cfgWords (s : State) (p : Nat) : List Nat :=
  [s.get (VAL_PORT_CFG_NCELL p) * 4096 + s.get VAL_SCFG0_CONV * 1024 + s.get VAL_SCFG0_SDELAY * 256,
   s.get VAL_SCFG0_OW_THR * 256 + s.get VAL_SCFG0_OW_SETTLE, s.get VAL_SCFG1_BAL_TMO * 256 + s.get VAL_SCFG1_BAL_TLIM]

def words16 (l : List Nat) : List Byte := l.flatMap (leBytes 2)

/-- R386: the next step of a waking port, when the engine may start an exchange. -/
def wakeStep (s : State) (p : Nat) : State :=
  let v := s.vport p
  if vstate s p ≠ vpWAKING ∨ s.val.set.isSome then s
  else match v.x with
    | some x =>
      if x.kind = xkBURST ∧ x.endT + 2500000 ≤ s.T then
        valSend (s.setVport p { v with step := 1 }) p xkWAKE 0x02 [0x00, 4] 0
      else s
    | none =>
      if v.step = 0 then valBurst s p
      else if s.T < v.stepT then s
      else if v.step = 1 then valSend s p xkWAKE 0x02 [0x00, 4] 0
      else if v.step = 2 then valSend s p xkWAKE 0x05 [0x03, 0] 0
      else if v.step = 3 then valSend s p xkWAKE 0x03 ([0x04, 3] ++ words16 (cfgWords s p)) 0
      else valSend s p xkWAKE 0x02 [0x04, 3] 0

/-- R387: the Ledger records of an identity. -/
def valNote (s : State) (typ : Nat) (pl : List Byte) : State := ldgNote s typ clsVALOLO pl

/-- R386, R387: the reply to a wake step, with its payload. -/
def wakeReply (s : State) (p typ : Nat) (pl : List Byte) : State :=
  let v := s.vport p
  let next (s : State) (k : Nat) : State := s.setVport p { s.vport p with x := none, step := k, stepT := s.T + 2000 }
  let w (i : Nat) : Nat := ofLeBytes ((pl.drop (2 + 2 * i)).take 2)
  if v.step = 1 then
    if typ ≠ 0x82 ∨ pl.length ≠ 10 then wakeFail s p false
    else
      let id := w 0 + w 1 * 65536
      let exp := s.get (VAL_PORT_EXPID_ID p)
      let s := s.put (VAL_PORT_ID_ID p) id
      if exp = 0 then next (valNote s 0x50 (leBytes 1 p ++ [0, 0, 0] ++ leBytes 4 id)) 2
      else if exp ≠ id then portFault (valNote s 0x51 (leBytes 1 p ++ [0, 0, 0] ++ leBytes 4 exp ++ leBytes 4 id)) p fcID_MISMATCH
      else next s 2
  else if v.step = 2 then (if typ = 0x85 then next s 3 else wakeFail s p false)
  else if v.step = 3 then (if typ = 0x83 then next s 4 else wakeFail s p true)
  else if typ = 0x82 ∧ pl.length = 8 ∧ (List.range 3).map w = cfgWords s p then
    let s := s.setVport p { s.vport p with x := none, step := 0 }
    s.puts [(VAL_PORT_STAT_STATE p, vpACTIVE), (VAL_PORT_STAT_CONSEC_MISS p, 0)]
  else wakeFail s p true

/-! ### Pending exchanges (R367, R384, R385, R391) -/

/-- Starts what waits on an ACTIVE port when no set is in progress. With the engine off nothing is sent, and a port whose EN was
written 0 becomes OFF without its SLEEP (log entry 131). -/
def valPump (s : State) (p : Nat) : State :=
  let v := s.vport p
  if s.val.set.isSome ∨ vstate s p ≠ vpACTIVE ∨ v.x.isSome then s
  else if !valOn s then (if v.off then portOff s p else s)
  else if v.sleepGo then valSend (s.setVport p { v with sleepGo := false }) p xkSLEEP 0x05 [0x02, 0] 0
  else if v.owdGo then valSend (s.setVport p { v with owdGo := false }) p xkOWD 0x05 [0x01, 0] 0
  else if v.acc then
    let a := leBytes 1 (s.get (VAL_PORT_ACC_ADDR p))
    if s.flag (VAL_PORT_ACC_WRITE p) then valSend s p xkACC 0x03 (a ++ [1] ++ leBytes 2 (s.get (VAL_PORT_ACC_DATA p))) v.accTries
    else valSend s p xkACC 0x02 (a ++ [1]) v.accTries
  else s

/-- The run time of an open-wire run (R382), in ns. -/
def convNs (code : Nat) : Nat := if code = 0 then 256000 else if code = 1 then 1024000 else 4096000
def delayNs (code : Nat) : Nat := if code = 0 then 20000 else if code = 1 then 100000 else if code = 2 then 500000 else 2000000
def owdNs (s : State) : Nat := 2 * convNs (s.get VAL_SCFG0_CONV) + s.get VAL_SCFG0_OW_SETTLE * 500000 + 100000

/-- R384: the results of one run count for each line. -/
def owdCount (s : State) (p lines : Nat) : State :=
  let need := s.get VAL_LINK_OW_CONFIRM
  (List.range 17).foldl (fun s k =>
    let v := s.vport p
    let set := bit (s.get (VAL_PORT_OW_LINES p)) k
    if bit lines k then
      let n := v.flagged.get 0 k + 1
      let s := s.setVport p { v with flagged := v.flagged.set k n, clear := v.clear.set k 0 }
      if need ≤ n && !set then (s.put (VAL_PORT_OW_LINES p) (setBit (s.get (VAL_PORT_OW_LINES p)) k)).irq .val else s
    else
      let n := v.clear.get 0 k + 1
      let s := s.setVport p { v with flagged := v.flagged.set k 0, clear := v.clear.set k n }
      if need ≤ n && set then s.put (VAL_PORT_OW_LINES p) (clrBit (s.get (VAL_PORT_OW_LINES p)) k) else s) s

/-- R384: results not yet there: another reading after 200 µs, for at most 1 ms. -/
def owdAgain (s : State) (p : Nat) : State :=
  let v := s.vport p
  s.setVport p { v with x := none, owdAt := if s.T + 200000 ≤ v.owdEnd then some (s.T + 200000) else none }

/-! ### Sample sets (R366–R374) -/

def slotAddr (s : State) (i : Nat) : Nat := (s.get VAL_BUF_BASE + i) * 4096
def valWrite4 (s : State) (a v n : Nat) : State := (memWrite s reqVal a (leBytes n v)).2

/-- R366: a trigger: by a write (`sw`) or by Turnspit. SYNC goes out in a later bit-clock cycle, so a firing in the cycle of the write
finds its set before SYNC. A NEXT beyond the ring that VAL_BUF now names starts it at slot 0 (log entry 219). -/
def valTrigger (s : State) (sw : Bool) : State :=
  if !valOn s then s
  else match s.val.set with
    | some st =>
      let s := s.bump VAL_TRIG_CNT_DROPPED
      if !sw && st.sw && st.trigT / 250 == s.T / 250 then
        s.setVal { s.val with set := some { st with trigT := s.T, sw := false } }
      else s
    | none =>
      let seq := if wrap 32 (s.val.seq + 1) = 0 then 1 else wrap 32 (s.val.seq + 1)
      let slot := if s.get VAL_BUF_NSETS < s.get VAL_SET_IDX_NEXT then 0 else s.get VAL_SET_IDX_NEXT
      let s := (s.setVal { s.val with seq := seq, set := some { trigT := s.T, sw := sw, seq := seq, slot := slot } }).put VAL_STAT_SET_BUSY 1
      if s.flag VAL_BUF_EN then valWrite4 s (slotAddr s slot + 0x3C) 0 4 else s

/-- R367: SYNC goes out of every ACTIVE port at one bit-clock edge, the present T, with 2 µs of idle before it on each (R364). -/
def valSync (s : State) : State :=
  match s.val.set with
  | none => s
  | some st =>
    let act := ports.filter (fun p => vstate s p == vpACTIVE)
    if st.syncT.isSome ∨ s.T % 250 ≠ 0 ∨ s.T < st.trigT + 100 ∨ ports.any (inFlight s) ∨ act.any (fun p => s.T < (s.vport p).idleT) then s
    else
      let s := s.setVal { s.val with set := some { st with syncT := some (s.T + frameNs 2), mask := act.foldl setBit 0 } }
      act.foldl (fun s p =>
        (s.emit (.valolo p false (frameOf 0x01 (leBytes 2 st.seq)))).setVport p
          { s.vport p with inSet := true, code := 2, pl := [], x := none, lastT := s.T, idleT := s.T + frameNs 2 + 2000 }) s

/-- Table 9.7: the block of port `p`. -/
def setBlock (s : State) (st : ValSet) (p : Nat) : List Byte :=
  let v := s.vport p
  let code := if !s.flag (VAL_PORT_CFG_EN p) then 4 else if bit st.mask p then v.code else 3
  let pl := if code ≤ 1 then fixBytes 60 v.pl else List.replicate 60 0
  leBytes 1 code ++ leBytes 1 (s.get (VAL_PORT_CFG_STRING p)) ++ leBytes 1 (s.get (VAL_PORT_CFG_POS p)) ++ leBytes 1 (s.get (VAL_PORT_STAT_FCODE p)) ++ pl

/-- R372: the header with COMMIT left out. -/
def setHeader (s : State) (st : ValSet) : List Byte :=
  let mask (c : Nat) : Nat := (ports.filter (fun p => s.flag (VAL_PORT_CFG_EN p) && bit st.mask p && (s.vport p).code == c)).foldl setBit 0
  let cells := (setBits 32 (mask 0)).foldl (fun a p => a + s.get (VAL_PORT_CFG_NCELL p) + 1) 0
  leBytes 4 st.seq ++ leBytes 8 st.trigT ++ leBytes 8 (st.syncT.getD 0) ++ leBytes 4 (mask 0) ++ leBytes 4 (mask 1) ++ leBytes 4 (mask 2) ++
    leBytes 4 ((ports.filter (fun p => s.get (VAL_PORT_OW_LINES p) != 0)).foldl setBit 0) ++ leBytes 2 cells ++ [0, 0] ++ List.replicate 20 0

/-- R372, R374: the set completes once no port awaits its data. -/
def setCommit (s : State) : State :=
  match s.val.set with
  | none => s
  | some st =>
    if !st.got ∨ ports.any (fun p => (s.vport p).inSet) then s
    else
      let a := slotAddr s st.slot
      let s := if s.flag VAL_BUF_EN then
          let s := ports.foldl (fun s p => (memWrite s reqVal (a + 0x40 + 0x40 * p) (setBlock s st p)).2) s
          let s := (memWrite s reqVal a (setHeader s st)).2
          let s := valWrite4 s (a + 0x3C) st.seq 4
          s.put VAL_SET_IDX_NEXT (if st.slot < s.get VAL_BUF_NSETS then st.slot + 1 else 0)
        else s
      let s := (s.puts [(VAL_SET_IDX_SEQ, st.seq), (VAL_STAT_SET_BUSY, 0)]).bump VAL_TRIG_CNT_DONE
      let s := s.setVal { s.val with set := none }
      let s := if s.flag VAL_CFG_NOTIFY_EN then threadWake s (s.get VAL_CFG_NOTIFY_PT) causeNOTIFY else s
      ports.foldl valPump s

/-- R370: GET_SET on each port that received SYNC. -/
def valGetSet (s : State) : State :=
  match s.val.set with
  | some st => match st.syncT with
    | some t =>
      if st.got ∨ s.T < t + delayNs (s.get VAL_SCFG0_SDELAY) + convNs (s.get VAL_SCFG0_CONV) + 20000 then s
      else
        let s := s.setVal { s.val with set := some { st with got := true } }
        setCommit (ports.foldl (fun s p => if (s.vport p).inSet then valSend s p xkSET 0x04 [] 0 else s) s)
    | none => s
  | none => s

/-- R388: the outcome of port `p` in the set. -/
def setOutcome (s : State) (p : Nat) : State :=
  let v := s.vport p
  let s := s.setVport p { v with x := none, inSet := false }
  let s := if v.code = 0 then s.put (VAL_PORT_STAT_CONSEC_MISS p) 0 else s.bump (VAL_PORT_STAT_CONSEC_MISS p)
  let s := if v.code ≠ 0 ∧ s.get VAL_LINK_MISS_LIMIT ≤ s.get (VAL_PORT_STAT_CONSEC_MISS p) then portFault s p fcNO_RESPONSE else s
  setCommit s

/-! ### The end of an exchange -/

/-- R370, R386, R391: an exchange without an accepted reply. -/
def xchgFail (s : State) (p : Nat) (x : Xchg) : State :=
  let more := x.tries < s.get VAL_LINK_RETRY
  let held := s.val.set.isSome
  if x.kind = xkSET then (if more then valResend s p x else setOutcome s p)
  else if x.kind = xkWAKE then wakeFail s p (3 ≤ (s.vport p).step)
  else if x.kind = xkACC then
    if !more then valPump (accFail (s.setVport p { s.vport p with x := none }) p) p
    else if held then s.setVport p { s.vport p with x := none, accTries := x.tries + 1 }
    else valResend s p x
  else if x.kind = xkOWRES then valPump (owdAgain s p) p
  else if more && !held && x.kind ≠ xkKEEP then valResend s p x
  else
    let s := s.setVport p { s.vport p with x := none }
    if x.kind = xkSLEEP ∧ (s.vport p).off then portOff s p else valPump s p

/-- R370, R391: no SD within RESP_TMO of the request's end. -/
def valTimeout (s : State) (p : Nat) : State :=
  match (s.vport p).x with
  | some x =>
    if x.kind = xkBURST ∨ s.T < x.endT + s.get VAL_LINK_RESP_TMO * 1000 then s
    else xchgFail (s.bump (VAL_PORT_CNT_TIMEOUT p)) p x
  | none => s

/-- R370: a SET_DATA is kept for the block of port `p`; its SEQ is the SYNC's or not. -/
def setGood (s : State) (pl : List Byte) : Bool := ofLeBytes ((pl.drop 2).take 2) == wrap 16 ((s.val.set.map (·.seq)).getD 0)
def keepSet (s : State) (p : Nat) (pl : List Byte) : State := s.setVport p { s.vport p with code := b2n (!setGood s pl), pl := pl }

/-- R391: the reply that completes the register access of port `p`, and its effect. -/
def accOk (s : State) (p typ : Nat) (pl : List Byte) : Bool :=
  if s.flag (VAL_PORT_ACC_WRITE p) then typ == 0x83 else typ == 0x82 && pl.length == 4

def accDone (s : State) (p : Nat) (pl : List Byte) : State :=
  let s := s.puts [(VAL_PORT_ACC_GO_BUSY p, 0), (VAL_PORT_ACC_DONE p, 1)]
  let s := if s.flag (VAL_PORT_ACC_WRITE p) then s else s.put (VAL_PORT_ACC_DATA p) (ofLeBytes (pl.drop 2))
  s.setVport p { s.vport p with acc := false, accTries := 0 }

/-- R384: a reading of the open-wire results with OWD_DONE set, and its effect. -/
def owdOk (typ : Nat) (pl : List Byte) : Bool := typ == 0x82 && pl.length == 6 && bit (ofLeBytes (pl.take 2)) 12
def owdTake (s : State) (p : Nat) (pl : List Byte) : State :=
  let s := owdCount s p (ofLeBytes ((pl.drop 2).take 2) + bits (ofLeBytes (pl.drop 4)) 0 1 * 65536)
  s.setVport p { s.vport p with owdAt := none }

/-- The accepted reply of an exchange that is no wake step. -/
def xchgReply (s : State) (p : Nat) (x : Xchg) (typ : Nat) (pl : List Byte) : State :=
  let done := s.setVport p { s.vport p with x := none }
  if x.kind = xkSET then
    if typ ≠ 0x84 then xchgFail s p x
    else if setGood s pl then setOutcome (keepSet s p pl) p
    else xchgFail (keepSet s p pl) p x
  else if x.kind = xkACC then
    if typ = 0xFF then valPump (accFail done p) p
    else if accOk s p typ pl then valPump (accDone done p pl) p
    else xchgFail s p x
  else if x.kind = xkSLEEP then
    if typ ≠ 0x85 then xchgFail s p x
    else if (s.vport p).off then portOff s p
    else (portClear s p).put (VAL_PORT_STAT_STATE p) vpSLEEP
  else if x.kind = xkOWD then
    if typ ≠ 0x85 then valPump done p
    else
      let t := s.T + owdNs s
      valPump (done.setVport p { done.vport p with owdAt := some t, owdEnd := t + 1000000 }) p
  else if x.kind = xkOWRES then
    if owdOk typ pl then valPump (owdTake done p pl) p else valPump (owdAgain s p) p
  else valPump done p

/-- R388: the block of port `p` counts in CONSEC_MISS where the port awaits its data in the set. -/
def countMiss (s : State) (p : Nat) (valid : Bool) : State :=
  if !(s.vport p).inSet then s
  else if valid then s.put (VAL_PORT_STAT_CONSEC_MISS p) 0 else s.bump (VAL_PORT_STAT_CONSEC_MISS p)

/-- R388: a reply with STATUS.FAULT on an ACTIVE port: what it completes counts, then the port is FAULT and sends nothing more
(log entry 220). -/
def satFault (s : State) (p : Nat) (x : Xchg) (typ : Nat) (pl : List Byte) : State :=
  let set := x.kind = xkSET ∧ typ = 0x84
  let s := if set then keepSet s p pl else s
  let s := countMiss s p (decide set && setGood s pl)
  let s := if x.kind = xkACC ∧ accOk s p typ pl = true then accDone s p pl else s
  let s := if x.kind = xkOWRES ∧ owdOk typ pl = true then owdTake s p pl else s
  setCommit (portFault s p fcSAT_FAULT)

/-- A frame of TYPE `typ` arrives from the satellite of port `p` (R363, R370, R388). -/
def valReply (s : State) (p typ : Nat) (pl : List Byte) (crc : Nat) (clean : Bool) : State :=
  match (s.vport p).x with
  | none => s
  | some x =>
    if x.kind = xkBURST then s
    else
      let s := s.setVport p { s.vport p with idleT := s.T + 2000 }
      if !frameValid typ pl crc clean then xchgFail (s.bump (VAL_PORT_CNT_CRC_ERR p)) p x
      else
        let status := ofLeBytes (pl.take 2)
        let s := s.put (VAL_PORT_STAT_SSTAT p) status
        let s := s.setVport p { s.vport p with lastT := s.T }
        if x.kind = xkWAKE then wakeReply s p typ pl
        else if bit status 15 && vstate s p == vpACTIVE && !(x.kind == xkSLEEP && typ == 0x85) then satFault s p x typ pl
        else xchgReply s p x typ pl

/-! ### Commands and events of the ports (R384, R385, R388, R390, R391) -/

/-- R385: WAKE_ALL. -/
def wakeAll (s : State) (m : Nat) : State :=
  if !isMC m then s.refuseWrite m 13 0x10
  else if !valOn s then s
  else ports.foldl (fun s p => if vstate s p = vpSLEEP then valWake s p else s) s

/-- R385: SLEEP_ALL. -/
def sleepAll (s : State) (m : Nat) : State :=
  if !isMC m then s.refuseWrite m 13 0x10
  else if !valOn s then s
  else ports.foldl (fun s p => if vstate s p = vpACTIVE then valPump (s.setVport p { s.vport p with sleepGo := true }) p else s) s

/-- R384: OWD_GO. -/
def owdGoAll (s : State) (m : Nat) : State :=
  if !isMC m then s.refuseWrite m 13 0x10
  else if !valOn s then s
  else ports.foldl (fun s p =>
    if vstate s p = vpACTIVE ∧ bit (s.get VAL_OWD_MASK_PORTS) p = true then valPump (s.setVport p { s.vport p with owdGo := true }) p else s) s

/-- R366: a write of VAL_CTRL.TRIG. -/
def valTrig (s : State) (m : Nat) : State := if !isMC m then s.refuseWrite m 13 0x10 else valTrigger s true

/-- R384: the engine reads the open-wire results of port `p`. -/
def owdPoll (s : State) (p : Nat) : State :=
  let v := s.vport p
  match v.owdAt with
  | some t =>
    if t ≤ s.T ∧ v.x.isNone ∧ s.val.set.isNone ∧ vstate s p = vpACTIVE then valSend s p xkOWRES 0x02 [0x08, 2] 0 else s
  | none => s

/-- R390: a port without a transaction for 500 ms. -/
def keepAlive (s : State) (p : Nat) : State :=
  let v := s.vport p
  if valOn s ∧ vstate s p = vpACTIVE ∧ v.x.isNone ∧ s.val.set.isNone ∧ v.lastT + 500000000 ≤ s.T then valSend s p xkKEEP 0x02 [0x03, 1] 0 else s

/-- R385: a FAULT port with AUTO_REC wakes 1 s after its fault. -/
def autoRecover (s : State) (p : Nat) : State :=
  if valOn s ∧ vstate s p = vpFAULT ∧ s.flag VAL_LINK_AUTO_REC ∧ (s.vport p).faultT + 1000000000 ≤ s.T then valWake s p else s

/-- R388: the transmit current limit has acted for more than 10 µs. -/
def lineShort (s : State) (p : Nat) : State :=
  if vstate s p = vpACTIVE then setCommit (portFault (countMiss s p false) p fcLINE_SHORT) else s

def valIgn (s : State) : State := s.put VAL_STAT_CFG_IGN 1

/-- R354: the common configuration may change. -/
def valFree (s : State) : Bool := !valOn s || ports.all (fun p => vstate s p == vpOFF || vstate s p == vpFAULT)

def portReg (p off : Nat) : Nat := 0x100 + 0x20 * p + off

/-- R354, R385: a write of VAL_PORTp_CFG. -/
def portEnWrite (s : State) (m p v : Nat) : State :=
  if !isMC m then s.refuseWrite m 13 (portReg p 0)
  else
    let new : List (Fld × Nat) := [(VAL_PORT_CFG_STRING p, bits v 29 2), (VAL_PORT_CFG_POS p, bits v 24 5), (VAL_PORT_CFG_NCELL p, bits v 20 4)]
    let s := if new.all (fun e => s.get e.1 == e.2) then s else if valFree s then s.puts new else valIgn s
    let s := s.put (VAL_PORT_CFG_EN p) (bits v 31 1)
    let st := vstate s p
    if bit v 31 then (if st = vpOFF ∧ valOn s then valWake s p else s)
    else if st = vpACTIVE then valPump (s.setVport p { s.vport p with sleepGo := true, off := true }) p
    else if st = vpOFF then s
    else portOff s p

/-- R357: satellite registers 0x04–0x06, which the engine owns. -/
def ownedReg (a : Nat) : Bool := 4 ≤ a && a ≤ 6

/-- The W1C bits of VAL_PORTp_ACC. -/
def accClear (s : State) (p v : Nat) : State :=
  s.puts [(VAL_PORT_ACC_ERR p, s.get (VAL_PORT_ACC_ERR p) * b2n (!bit v 29)), (VAL_PORT_ACC_DONE p, s.get (VAL_PORT_ACC_DONE p) * b2n (!bit v 28))]

/-- R357, R391: a write of VAL_PORTp_ACC. While BUSY its fields keep what the access uses (log entry 134). -/
def accGo (s : State) (m p v : Nat) : State :=
  if !(isMC m || valCmdPt s m) then s.refuseWrite m 13 (portReg p 0x18)
  else if s.flag (VAL_PORT_ACC_GO_BUSY p) then (if bit v 31 then valIgn s else accClear s p v)
  else if ownedReg (bits v 16 8) then s.put (VAL_PORT_ACC_ERR p) 1
  else
    let s := (accClear s p v).puts
      [(VAL_PORT_ACC_WRITE p, bits v 30 1), (VAL_PORT_ACC_ADDR p, bits v 16 8), (VAL_PORT_ACC_DATA p, bits v 0 16)]
    if !bit v 31 then s
    else if vstate s p ≠ vpACTIVE then s.put (VAL_PORT_ACC_ERR p) 1
    else valPump ((s.put (VAL_PORT_ACC_GO_BUSY p) 1).setVport p { s.vport p with acc := true, accTries := 0 }) p

/-- A field takes a value within its range. -/
def putIn (s : State) (f : Fld) (lo hi v : Nat) : State := if lo ≤ v ∧ v ≤ hi then s.put f v else s

/-- A write of `v` at offset `off` of the VAL block (R353, R354). -/
def valRegWrite (s : State) (m off v : Nat) : State :=
  if 0x100 ≤ off ∧ off < 0x500 ∧ (off - 0x100) % 0x20 = 0x18 then accGo s m ((off - 0x100) / 0x20) v
  else if !isMC m then s.refuseWrite m 13 off
  else if off = 0x000 then ports.foldl valPump (s.puts [(VAL_CFG_EN, bits v 31 1), (VAL_CFG_CMD_PT_EN, bits v 30 1),
    (VAL_CFG_CMD_PT, bits v 24 6), (VAL_CFG_NOTIFY_EN, bits v 23 1), (VAL_CFG_NOTIFY_PT, bits v 17 6)])
  else if off = 0x004 then
    let s := putIn s VAL_LINK_RESP_TMO 20 255 (bits v 24 8)
    let s := putIn s VAL_LINK_MISS_LIMIT 1 63 (bits v 16 6)
    let s := putIn s VAL_LINK_OW_CONFIRM 1 15 (bits v 12 4)
    s.puts [(VAL_LINK_RETRY, bits v 22 2), (VAL_LINK_AUTO_REC, bits v 11 1)]
  else if off = 0x008 then
    if !valFree s then valIgn s
    else
      let s := putIn s VAL_SCFG0_CONV 0 2 (bits v 30 2)
      let s := putIn s VAL_SCFG0_OW_THR 1 255 (bits v 20 8)
      let s := putIn s VAL_SCFG0_OW_SETTLE 1 255 (bits v 12 8)
      s.put VAL_SCFG0_SDELAY (bits v 28 2)
  else if off = 0x00C then
    if !valFree s then valIgn s
    else putIn (putIn s VAL_SCFG1_BAL_TMO 1 60 (bits v 8 8)) VAL_SCFG1_BAL_TLIM 60 110 (bits v 0 8)
  else if off = 0x010 then
    let s := if bit v 0 then valTrig s m else s
    let s := if bit v 2 then sleepAll s m else if bit v 1 then wakeAll s m else s
    if bit v 3 then owdGoAll s m else s
  else if off = 0x014 then (if bit v 30 then s.put VAL_STAT_CFG_IGN 0 else s)
  else if off = 0x018 then s.put VAL_OWD_MASK_PORTS v
  else if off = 0x024 then
    if !valFree s then valIgn s
    else s.puts [(VAL_BUF_EN, bits v 31 1), (VAL_BUF_BASE, bits v 16 13), (VAL_BUF_NSETS, bits v 0 8)]
  else if 0x100 ≤ off ∧ off < 0x500 then
    let p := (off - 0x100) / 0x20
    let k := (off - 0x100) % 0x20
    if k = 0 then portEnWrite s m p v
    else if k = 4 then (if vstate s p = vpOFF ∨ vstate s p = vpFAULT then s.put (VAL_PORT_EXPID_ID p) v else valIgn s)
    else s
  else s

/-- The values of the block computed when read. -/
def liveVal (s : State) (k : FKey) : Option Nat :=
  if k = VAL_ACTIVE_PORTS.key then some ((ports.filter (fun p => vstate s p == vpACTIVE)).foldl setBit 0)
  else if k = VAL_FAULT_PORTS.key then some ((ports.filter (fun p => vstate s p == vpFAULT)).foldl setBit 0)
  else none

end Sys2Proof.Machine
end

