-- ==== Sys2Proof/Machine/Reset.lean ====
section
/-! DEFINITION. Clocks, supplies and resets (19_clocks_power_boot.md): the oscillator and the PLLs, clock domains, the parked
state and its wake sources, the scopes of Table 19.6, the management watchdog, and the BOOT, CLK, PWR and RST registers. -/
namespace Sys2Proof.Machine
open Sys2Proof.Reg

/-! ### Oscillator, PLLs and clock domains (R684–R687) -/

/-- OSC25_LOSS (R685): no edge for 200 ns. -/
def oscLoss (s : State) : State :=
  if !s.flag CLK_STAT_REF_OK then s
  else hwFault (tamperEvent (s.puts [(CLK_STAT_REF_LOST, 1), (CLK_STAT_REF_OK, 0)]) 6) 3

/-- OSC25_RETURN (R685): T continues without a step; REF_LOST stays until it is cleared. -/
def oscReturn (s : State) : State := tamperReturn (s.put CLK_STAT_REF_OK 1) 6

/-- PLL_LOSS_OF_LOCK: PLL `k` loses lock and relocks. -/
def pllLoss (s : State) (k : Nat) : State :=
  if k ≤ 8 then (s.put CLK_LOSS_LAST_PLL k).bump CLK_LOSS_COUNT else s

/-- Table 19.2: whether domain `d` is idle, where the state tells it. -/
def domIdle (s : State) (d : Nat) : Option Bool :=
  if 13 ≤ d ∧ d ≤ 20 then some (!s.flag (ADC_UNIT_STAT_RUNNING (d - 13)))
  else if 23 ≤ d ∧ d ≤ 26 then some (chState s (d - 23) == chUNBOUND)
  else if d = 27 then some (!s.flag GRD_CFG_EN)
  else if 28 ≤ d ∧ d ≤ 47 then some (let st := s.get (CD_STAT_STATE ((d - 28) / 5)); st == cdRESET || st == cdHALTED)
  else if 48 ≤ d ∧ d ≤ 111 then
    some (let st := s.get (PXE_PT_STAT_STATE (d - 48)); st == ptHALTED || st == ptWAITING || st == ptFAULTED)
  else if 161 ≤ d ∧ d ≤ 166 then some (s.get DRM_STAT_STATE == stSELF_REFRESH)
  else if 198 ≤ d ∧ d ≤ 200 then some (!s.flag NET_NVME_CFG_EN)
  else if 201 ≤ d ∧ d ≤ 204 then some (s.get HIF_LINK_WIDTH == 0)
  else if d = 205 then some (!s.flag VAL_CFG_EN)
  else if 206 ≤ d ∧ d ≤ 237 then some (let st := vstate s (d - 206); st == vpOFF || st == vpSLEEP)
  else if d = 243 then some (!s.flag SEC_STAT_DEBUG_OPEN)
  else none

/-- GATED of domain `d` (R686, R687): idle, not held and not NOGATE; free where the state does not tell what is idle. -/
def domGated (s : State) (d : Nat) : Bool :=
  !s.flag (CLK_DOM_STAT_NOGATE d) && !s.flag (CLK_DOM_CFG_HOLD d) && (domIdle s d).getD (Config.domIdle d s.free)

/-- LOCK (Table 19.1): PLLs 0–3 and 5 from S0; PLL4 with the link; PLL6 and PLL7 from INIT; PLL8 with the safety domain. -/
def pllLock (s : State) : Nat :=
  s.get CLK_STAT_LOCK + (if s.get HIF_LINK_WIDTH = 0 then 0 else 16) + (if s.get DRM_STAT_STATE = stOFF then 0 else 192) +
    (if s.saf.started then 256 else 0)

def liveClk (s : State) (k : FKey) : Option Nat :=
  if k = CLK_STAT_LOCK.key then some (pllLock s)
  else if k = (CLK_DOM_STAT_GATED k.i).key then some (b2n (domGated s k.i))
  else if k = (CLK_DOM_STAT_UNGATE_CNT k.i).key then some (Config.ungates k.i s.free)
  else none

/-! ### The tick counter (R42, R52) -/

/-- R42: `k` ticks of OSC32K in whole ns. -/
def tickNs (k : Nat) : Nat := k * 30517578125 / 1000000

/-- R42: the tick counter counts `k` ticks more, up to 2^48 − 1. -/
def countTicks (s : State) (k : Nat) : State := { s with aon := { s.aon with ticks := satAdd 48 s.aon.ticks k } }

/-- R42, R50, R52: T at the release of PORn. -/
def restoreT (s : State) : Nat :=
  if s.aon.tValid then s.aon.storedT + tickNs (s.aon.ticks + (if s.aon.unplanned then 1 else 0)) else 0

/-! ### The parked state (R691–R694) -/

/-- The mask of the wake sources that are asserted: balls WAKE0 and WAKE1 held for 10 ms at a level, the alarm, a latched
tamper event (Table 19.5). -/
def wakeMask (s : State) (w0 w1 : Option Bool) : Nat :=
  let ball (x : Option Bool) (pol : Fld) : Bool := match x with | some l => l == s.flag pol | none => false
  b2n (ball w0 PWR_WAKE_CFG_WAKE0_POL) + 2 * b2n (ball w1 PWR_WAKE_CFG_WAKE1_POL) +
    4 * b2n (s.aon.parked && s.get PWR_ALARM_S * 32768 ≤ s.aon.ticks) + 8 * b2n (!s.sec.parked.isEmpty)

/-- PWR_WAKE_CFG by source, in the same order. -/
def wakeEnabled (s : State) : Nat :=
  s.get PWR_WAKE_CFG_WAKE0_EN + 2 * s.get PWR_WAKE_CFG_WAKE1_EN + 4 * s.get PWR_WAKE_CFG_ALARM_EN + 8 * s.get PWR_WAKE_CFG_TAMPER_EN

def andMask (a b : Nat) : Nat := (BitVec.ofNat 4 a &&& BitVec.ofNat 4 b).toNat
def orMask (w a b : Nat) : Nat := (BitVec.ofNat w a ||| BitVec.ofNat w b).toNat

/-- WAKE_SOURCE (R693, R694): an enabled source ends the parked state; one during the sequence is latched and acts once PWREN
has been low for 100 ms. `k` ticks have passed since the last row that showed the counter. -/
def wakeSource (s : State) (w0 w1 : Option Bool) (k : Nat) : State :=
  let s := s.when s.aon.parked (fun s => countTicks s k)
  let m := wakeMask s w0 w1
  if s.aon.parking.isSome then { s with aon := { s.aon with wake := orMask 4 s.aon.wake (andMask m (wakeEnabled s)) } }
  else if !s.aon.parked then s
  else if andMask m (wakeEnabled s) ≠ 0 ∧ s.aon.wake = 0 ∨ s.aon.wake ≠ 0 ∧ 3277 ≤ s.aon.ticks then
    ({ s with aon := { s.aon with parked := false, wake := 0 } } : State).put PWR_WAKE_CAUSE_CAUSE (orMask 4 m s.aon.wake)
  else s

/-- The host loses the link and every instance stops (R691). -/
def hostStop (s : State) : State :=
  let s := s.puts [(HIF_LINK_SPEED, 0), (HIF_LINK_WIDTH, 0)]
  let s := (knownRings s).foldl (fun s r =>
    (s.setRing r { s.ring r with descs := [], wait := [] }).puts [(HIF_RING_CTX7_STATE r, rsDISABLED), (HIF_RING_CTX0_EN r, 0)]) s
  { s with hif := { s.hif with bme := [], crs := true }, ins := { s.ins with held := [] } }

/-- PARK (R691): refused while a channel is out of STO; else steps 1 to 3 begin. -/
def park (s : State) (m : Nat) : State :=
  if !isMC m then s.refuseWrite m 3 4
  else if s.aon.parking.isSome then s
  else if (List.range 4).any (fun n => chState s n != chUNBOUND && chState s n != chSTO) then s.put PWR_STAT_PARK_REFUSED 1
  else
    let s := ({ s with aon := { s.aon with parking := some s.T } } : State).put PWR_STAT_STATE 1
    let s := odoTotal (sleepAll (hostStop s) m)
    ldgPush s (ckptReq none)

/-- PARK_DONE (R691, R42): the Ledger has nothing left to commit and no port is ACTIVE: T is stored, the tick counter restarts,
PWREN falls. -/
def parkDone (s : State) : State :=
  if s.aon.parking.isNone || !s.ldg.queue.isEmpty || s.ldg.busy.isSome || (List.range 32).any (fun p => vstate s p == vpACTIVE) then s
  else
    let s := { s with aon := { s.aon with parking := none, parked := true, off := true, porDone := false, storedT := s.T, ticks := 0, unplanned := false } }
    s.bump PWR_PARK_CNT_COUNT

/-- AON_T_STORE (R51). -/
def aonStore (s : State) : State :=
  if s.aon.off ∨ s.T < s.aon.storedT + 2 ^ 20 then s else { s with aon := { s.aon with storedT := s.T, ticks := 0 } }

/-! ### Scopes (Table 19.6) -/

/-- Every register of the blocks in `bs` back at its reset value (R15). -/
def resetBlocks (s : State) (bs : List Nat) : State := { s with regs := s.regs.filter (fun e => !bs.contains e.1.block) }

/-- R17: the readers' shadows of every block but the safety domain's are gone. -/
def dropShadows (s : State) : State :=
  { s with shadows := s.shadows.filter (fun e => blockBase 12 0 ≤ e.1 / 256 ∧ e.1 / 256 < blockBase 13 0) }

/-- The security core is reset (WARM and wider): sessions end, to be recorded at its start (R403), the debug port locks. -/
def resetSecurity (s : State) : State :=
  let s := { s with boot := { s.boot with cut := s.boot.cut ++ s.sec.sessions } }
  let s := setSessions { s with sec := { s.sec with chal := [], issued := [], odo := { s.sec.odo with recs := [], win := [], primed := false, fresh := true } } } []
  ({ s with saf := { s.saf with line := 0 } } : State).puts [(SEC_STAT_DEBUG_OPEN, 0), (SEC_ODO_STAT_DISAGREE, 0), (SEC_ODO_STAT_A_INVALID, 0),
    (LDG_STAT_FLASH_OK, 0), (LDG_STAT_PRUNE_BLOCKED, 0)]

/-- The blocks that WARM, POWER and COLD reset alike, but for the host blocks. Levels of balls and the satellites are not the
controller's to reset. -/
def resetReal (s : State) : State :=
  let ch := s.pwm.ch.map (fun e => (e.1, ({ pins := e.2.pins, edges := e.2.edges } : Chan)))
  let permits := (List.range 4).map (fun n => (PWM_CH_STAT_STO_PERMIT n, s.get (PWM_CH_STAT_STO_PERMIT n)))
  let s := resetBlocks s [5, 8, 9, 10, 11, 13, 16, 17, 20, 21, 22, 7]
  let s := { s with tsp := {}, adc := {}, pwm := { ch := ch }, ivs := {}, grd := {}, gptp := {}, agg := {}, dsp := [], mbx := {},
                    pxe := {}, net := {}, tsn := {}, memSt := { poison := s.memSt.poison }, val := { sat := s.val.sat, now := s.val.now }, viol := [] }
  s.puts permits

/-- HIF, INS and the PCIe endpoint. -/
def resetHost (s : State) : State :=
  let s := resetBlocks s [18, 19]
  { s with hif := {}, ins := {} }

/-- What restarts the boot: BOOT_STAGE and BOOT_VERDICT begin anew. -/
def restartBoot (s : State) : State :=
  let s := resetBlocks s [1]
  { s with boot := { s.boot with next := 0, mgmt := false, resend := false }, aon := { s.aon with rstOut := false } }

/-- RST_CAUSE bits, in the order of Table 19.17 from bit 0. -/
def rcCOLD : Nat := 0
def rcPOWER : Nat := 1
def rcUNPLANNED : Nat := 2
def rcWARM : Nat := 3
def rcMGMT : Nat := 4
def rcWDOG : Nat := 5
def rcHOST : Nat := 6

def noteCause (s : State) (b : Nat) : State := s.put RST_CAUSE_CAUSE (setBit (s.get RST_CAUSE_CAUSE) b)

/-- A reset of POWER scope; `saf` when VDD_SAF also fell. -/
def powerReset (s : State) (saf : Bool) : State :=
  let keep := [(PWR_STAT_UNPLANNED, s.get PWR_STAT_UNPLANNED), (PWR_WAKE_CFG_WAKE0_EN, s.get PWR_WAKE_CFG_WAKE0_EN),
    (PWR_WAKE_CFG_WAKE0_POL, s.get PWR_WAKE_CFG_WAKE0_POL), (PWR_WAKE_CFG_WAKE1_EN, s.get PWR_WAKE_CFG_WAKE1_EN),
    (PWR_WAKE_CFG_WAKE1_POL, s.get PWR_WAKE_CFG_WAKE1_POL), (PWR_WAKE_CFG_ALARM_EN, s.get PWR_WAKE_CFG_ALARM_EN),
    (PWR_WAKE_CFG_TAMPER_EN, s.get PWR_WAKE_CFG_TAMPER_EN), (PWR_WAKE_CAUSE_CAUSE, s.get PWR_WAKE_CAUSE_CAUSE),
    (PWR_ALARM_S, s.get PWR_ALARM_S), (PWR_PARK_CNT_COUNT, s.get PWR_PARK_CNT_COUNT)]
  let s := resetHost (resetReal (resetSecurity s))
  let s := (dropShadows (restartBoot (resetBlocks s [2, 3, 4, 6]))).puts keep
  let s := { s with drm := [], dspMem := [], memSt := {}, mem := [], aon := { s.aon with wdogSet := false, parking := none } }
  let s := if saf then safetyReset s else s
  let s := noteCause s rcPOWER
  if s.aon.unplanned then noteCause s rcUNPLANNED else s

/-- PORN_LOW (R695, R697): PORn falls; with PWREN high, main power is lost without parking. -/
def pornLow (s : State) (saf : Bool) : State :=
  let lost := !s.aon.parked && !s.aon.off
  -- the counter holds the whole ticks since the last store (log entry 200)
  let s := s.when lost (fun s => { s with aon := { s.aon with ticks := (s.T - s.aon.storedT) * 32768 / 1000000000 } })
  let s := { s with aon := { s.aon with off := true, unplanned := s.aon.unplanned || lost, porDone := true } }
  powerReset (s.when lost (fun s => s.put PWR_STAT_UNPLANNED 1)) saf

/-- UNPLANNED_POWER_LOSS (R695). -/
def powerLoss (s : State) (saf : Bool) : State := if s.aon.parked || s.aon.off then s else pornLow s saf

/-- PORN_RELEASE (R42, R52, R693, R707): main power returns from the parked state with a reset of POWER scope, in which the SAF
rails fell too (R690); `k` ticks after the last row that showed the counter. -/
def pornRelease (s : State) (k : Nat) : State :=
  if !s.aon.off || s.aon.parked then s
  else
    let s := if s.aon.porDone then s else powerReset s true
    let s := countTicks s k
    let t := wrap 64 (restoreT s)
    { s with T := t, aon := { s.aon with off := false, porDone := false, storedT := t, ticks := 0, tValid := true, unplanned := false,
                                         kick0 := t, kick1 := t } }

/-- VBAT_APPLY (R50, R697): a reset of COLD scope. Fuses, flash devices and what lies outside the controller stay. -/
def vbatApply (s : State) : State :=
  let s := powerReset s true
  let s := resetBlocks s [3, 4]
  let s := { s with T := 0, aon := { off := true, porDone := true, tValid := false }, sec := { s.sec with kwk := [], parked := [], overflow := 0, lockT := [] } }
  let s := s.puts ((SEC_STAT_KWK_VALID, 0) :: (List.range 4).map (fun k => (SEC_LOCK_FAILS k, 3)))
  noteCause s rcCOLD

/-- A field whose content is lost: a fresh free value. -/
def loseField (s : State) (x : Fld) : State :=
  let (v, s) := s.fresh x.w
  s.put x v

/-- VBAT_BROWNOUT (R741): VBAT at `mv` mV. Below 2.0 V the always-on domain loses its state: T's store, the retained SRAM with
KWK and the latched events, the failure counts, the wake settings; the next rise of VBAT is a cold start. From 2.0 V on it keeps
them. -/
def vbatBrownout (s : State) (mv : Nat) : State :=
  if 2000 ≤ mv then s
  else
    let s := { s with aon := { s.aon with storedT := 0, ticks := 0, wake := 0, unplanned := false, cold := true, tValid := false },
                      sec := { s.sec with kwk := [], parked := [], overflow := 0, lockT := [] } }
    let s := s.put SEC_STAT_KWK_VALID 0
    ([PWR_STAT_UNPLANNED, PWR_WAKE_CFG_WAKE0_EN, PWR_WAKE_CFG_WAKE0_POL, PWR_WAKE_CFG_WAKE1_EN, PWR_WAKE_CFG_WAKE1_POL,
      PWR_WAKE_CFG_ALARM_EN, PWR_WAKE_CFG_TAMPER_EN, PWR_WAKE_CAUSE_CAUSE, PWR_ALARM_S, PWR_PARK_CNT_COUNT] ++
      (List.range 4).map (fun k => SEC_LOCK_FAILS k)).foldl loseField s

/-! ### WARM and MGMT (R698, R700–R702) -/

/-- R701: fetching stops on every ring, and every ring that is not DISABLED is journalled with a fresh RESET_ID. -/
def resetJournal (s : State) (jfail : Bool) : State :=
  let id := wrap 32 (s.get INS_RESET_ID_ID + 1)
  let s := s.put INS_RESET_ID_ID id
  (knownRings s).foldl (fun s r =>
    if ringState s r = rsDISABLED then s
    else
      let s := drainRing s r
      journal s (ringInst s r) 1 id jfail (r, ringC s r, (s.ring r).tail, (s.ring r).recs.length)) s

def cutBursts (s : State) (l : List CutBurst) : State := l.foldl (fun s b => burstCut s b.m b.addr b.bytes b.discarded) s

/-- WARM (R698): refused while a channel is neither UNBOUND nor STO. -/
def warm (s : State) (m : Nat) (jfail : Bool) (cut : List CutBurst) : State :=
  if !isMC m then s.refuseWrite m 4 4
  else if (List.range 4).any (fun n => chState s n != chUNBOUND && chState s n != chSTO) then s.put RST_STAT_REFUSED 1
  else
    let s := cutBursts (resetJournal s jfail) cut
    let s := s.when (s.get DRM_STAT_STATE == stREADY) (fun s => s.put DRM_STAT_STATE stSELF_REFRESH)
    let s := dropShadows (restartBoot (resetHost (resetReal (resetSecurity s))))
    noteCause (s.bump RST_CNT_WARM) rcWARM

/-- A reset of MGMT scope: the journal, then MC0, MC1, their queues, locks and every Folio, HIF, INS and the endpoint. -/
def mgmtReset (s : State) (wdog jfail : Bool) (cut : List CutBurst) : State :=
  let s := cutBursts (resetJournal s jfail) cut
  let s := closeAll s (fun _ => true) 3
  let s := flushQueues (flushQueues s reqMC0) reqMC1
  let s := breakLocks (breakLocks s reqMC0) reqMC1
  let s := releaseUnits (releaseUnits s reqMC0) reqMC1
  let s := (List.range 128).foldl folioZero s
  let s := resetHost s
  let s := { s with shadows := s.shadows.filter (fun e => e.1 / 256 < blockBase 18 0 ∨ blockBase 20 0 ≤ e.1 / 256),
                    aon := { s.aon with kick0 := s.T, kick1 := s.T },
                    boot := { s.boot with mgmt := true, next := if s.boot.next = 0 ∨ s.boot.next = 1 then s.boot.next else 2 } }
  let s := s.when (2 ≤ s.boot.next && s.get BOOT_STAGE_STAGE != 15) (fun s => s.puts [(BOOT_STAGE_STAGE, 2), (BOOT_STAGE_HOST_READY, 0)])
  let s := noteCause (s.bump RST_CNT_MGMT) rcMGMT
  if wdog then noteCause s rcWDOG else s

/-- MGMT: a write of RST_CTRL.MGMT. -/
def mgmt (s : State) (m : Nat) (jfail : Bool) (cut : List CutBurst) : State :=
  if isMC m then mgmtReset s false jfail cut else s.refuseWrite m 4 4

/-- A write of RST_CTRL: WARM wins over MGMT. -/
def rstCtrl (s : State) (m v : Nat) : State :=
  if !isMC m then s.refuseWrite m 4 4
  else if bit v 0 then warm s m false []
  else if bit v 1 then mgmtReset s false false []
  else s

/-- WDOG_KICK (R700): each MC writes its own bit. -/
def wdogKick (s : State) (m v : Nat) : State :=
  if !isMC m then s.refuseWrite m 4 0x10
  else
    let s := if m = reqMC0 ∧ bit v 0 then { s with aon := { s.aon with kick0 := s.T } } else s
    if m = reqMC1 ∧ bit v 1 then { s with aon := { s.aon with kick1 := s.T } } else s

/-- MGMT_WDOG_EXPIRY (R700). -/
def wdogExpiry (s : State) (jfail : Bool) (cut : List CutBurst) : State :=
  if s.flag RST_WDOG_EN && decide (min s.aon.kick0 s.aon.kick1 + s.get RST_WDOG_MS * 1000000 ≤ s.T) then mgmtReset s true jfail cut else s

/-! ### HOST and SAFETY (R699, R705, R706) -/

/-- The registers of HIF and INS that the sequence of Table 14.7 still works on after a HOST reset begins. -/
def hostKeep (k : FKey) : Bool :=
  k.id == (HIF_RING_CTX0_EN 0).key.id || k.id == (HIF_RING_CTX0_KIND 0).key.id || k.id == (HIF_RING_CTX0_LOG2N 0).key.id ||
  k.id == (HIF_RING_CTX0_INST 0).key.id || k.id == (HIF_RING_CTX0_LOCAL 0).key.id || k.id == (HIF_RING_CTX7_STATE 0).key.id ||
  k.id == (HIF_RING_CTX6_CQ 0).key.id || k.id == (INS_INFO_INSTATE 0).key.id || k.id == (INS_PANTRY_WORD 0 0).key.id ||
  k.id == INS_RESET_ID_ID.key.id || k.id == INS_STAT_JOURNAL_VALID.key.id || k.id == INS_JOURNAL_LO_BASE.key.id ||
  k.id == INS_JOURNAL_HI_BASE.key.id || k.id == (INS_SPGRANT_VALID 0).key.id || k.id == (INS_SPGRANT_INSTANCE 0).key.id ||
  k.id == INS_VALGRANT_VALID.key.id || k.id == INS_VALGRANT_INSTANCE.key.id || k.id == INS_MOTION_VALID.key.id ||
  k.id == INS_MOTION_INSTANCE.key.id || k.id == (INS_STREAM_GRANTED 0).key.id || k.id == (INS_STREAM_INSTANCE 0).key.id ||
  k.id == (INS_STREAM_VALID 0).key.id || k.id == (INS_STREAM_RING 0).key.id

/-- HOST_RESET (R699): the link goes; instance 0 is reset and every tenant removed under Table 14.7; the Folios are cleared. A
reset of the endpoint that already runs is joined. -/
def hostReset (s : State) (jfail : Bool) : State :=
  if s.hif.crs then s.puts [(HIF_LINK_SPEED, 0), (HIF_LINK_WIDTH, 0)]
  else
    let s := flr s 0 jfail
    let s := { s with regs := s.regs.filter (fun e => (e.1.block != 18 && e.1.block != 19) || hostKeep e.1),
                      hif := { s.hif with bme := [], msix := [], crs := true, hostRst := true },
                      shadows := s.shadows.filter (fun e => e.1 / 256 < blockBase 18 0 ∨ blockBase 20 0 ≤ e.1 / 256) }
    let s := hostResetEnd ((List.range 128).foldl folioZero s)
    noteCause ((s.put BOOT_STAGE_HOST_READY 0).bump RST_CNT_HOST) rcHOST

/-- PERST_RELEASE (R699): the endpoint trains its link to a speed and a width of Table 13.13; it stops answering with CRS once
stage S2 has made it ready. -/
def perstRelease (s : State) (speed width : Nat) : State :=
  if s.aon.off || (!s.hif.crs && s.get HIF_LINK_WIDTH != 0) || speed == 0 || 4 < speed || !([1, 2, 4] : List Nat).contains width then s
  else
    let s := s.puts [(HIF_LINK_SPEED, speed), (HIF_LINK_WIDTH, width)]
    if s.boot.next < 3 ∨ s.get BOOT_STAGE_STAGE = 15 then s
    else ({ s with hif := { s.hif with crs := false } } : State).put BOOT_STAGE_HOST_READY 1

/-- SAF_RSTN (R705, R706): the safety domain is reset, and starts again. -/
def safRstn (s : State) : State :=
  let s := (safetyReset s).when (!s.aon.off) (fun s => s.bump RST_CNT_SAFETY)
  { s with boot := { s.boot with resend := decide (2 ≤ s.boot.next) } }

/-- What the security core sends on the delivery path (R343, R706): the image, where a valid one is present, and the active
set. A pair that runs on another set, its change cut short by a reset after the record was whole, activates the Ledger's. -/
def sendSafety (s : State) (present : Bool) : State :=
  let s := s.when present (fun s => { s with saf := { s.saf with delivered := true, sent := s.sec.pset } })
  if s.saf.started ∧ s.sec.pset ≠ [] ∧ s.sec.pset ≠ s.saf.pset then psetCommitted s s.sec.pset true else s

/-! ### Register writes and reads -/

/-- PWR and RST are written through MC0 and MC1 only; so are BOOT and CLK. -/
def pwrWrite (s : State) (m off v : Nat) : State :=
  if !isMC m then s.refuseWrite m 3 off
  else if off = 4 then (if bit v 0 then park s m else s)
  else match findRow RegMap.mapPwr off with
    | some (r, a, b) => rowWrite s 0 r a b v
    | none => s

/-- RST_WDOG is WX: the first write since its reset sets it. -/
def wdogWrite (s : State) (v : Nat) : State :=
  if s.aon.wdogSet then s
  else ({ s with aon := { s.aon with wdogSet := true, kick0 := s.T, kick1 := s.T } } : State).puts [(RST_WDOG_EN, bits v 31 1), (RST_WDOG_MS, v)]

def rstWrite (s : State) (m off v : Nat) : State :=
  if !isMC m then s.refuseWrite m 4 off
  else if off = 4 then rstCtrl s m v
  else if off = 0xC then wdogWrite s v
  else if off = 0x10 then wdogKick s m v
  else match findRow RegMap.mapRst off with
    | some (r, a, b) => rowWrite s 0 r a b v
    | none => s

def clkWrite (s : State) (m off v : Nat) : State :=
  if !isMC m then s.refuseWrite m 2 off
  else match findRow RegMap.mapClk off with
    | some (r, a, b) => rowWrite s 0 r a b v
    | none => s

def bootWrite (s : State) (m off v : Nat) : State :=
  if !isMC m then s.refuseWrite m 1 off
  else match findRow RegMap.mapBoot off with
    | some (r, a, b) => rowWrite s 0 r a b v
    | none => s

/-- RAIL_OK: rails within their limits while PORn is high (R688); the field has one bit more than Table 19.3 has rails. -/
def livePwr (s : State) (k : FKey) : Option Nat :=
  if k = PWR_STAT_RAIL_OK.key then some ((if s.aon.off then 0 else 0x3FF) + 1024 * b2n Config.railSpare) else none

end Sys2Proof.Machine
end

