-- ==== Sys2Proof/Machine/Bus.lean ====
section
/-! DEFINITION. The register range of Table 11.1 as every master reaches it: the write and the read of a register word by
requester and internal address, with the firewall of each block (R29–R31), the readers' shadows (R16–R18, R754), the fabric's
arbiter (R26–R28, R720), and the map that PF BAR0 shows (Table 13.3). -/
namespace Sys2Proof.Machine
open Sys2Proof.Reg

/-! ### Writes -/

/-- A plain write of a map's register at offset `off` by its access codes (Table 0.3); nothing where there is none (R14). -/
def plainWrite (s : State) (n : Nat) (m : List RegRow) (off v : Nat) : State :=
  match findRow m off with
  | some (r, a, b) => rowWrite s n r a b v
  | none => s

/-- A plain write that only MC0 and MC1 may make. -/
def mcWrite (s : State) (m b : Nat) (rows : List RegRow) (off v : Nat) : State :=
  if isMC m then plainWrite s 0 rows off v else s.refuseWrite m b off

/-- MEM (R436, R459, R460, R47). -/
def memRegWrite (s : State) (m off v : Nat) : State :=
  if off = 0x08 then spTagWrite s m v false
  else if off = 0x10 then drTagWrite s m v false
  else if off = 0x28 then memErrPop s m v
  else if off = 0x38 then memRstPop s m v
  else if off = 0xF08 then violPop s m v
  else mcWrite s m 5 RegMap.mapMem off v

/-- DRM (R441, R442, R449, R451, R453, R455). -/
def drmWrite (s : State) (m off v : Nat) : State :=
  if off = 0 then drmCfgWrite s m v
  else if off = 4 then
    if !isMC m then s.refuseWrite m 6 4
    else
      let s := s.when (bit v 0) (fun s => drmInit s m)
      let s := s.when (bit v 1) (fun s => srEnter s m)
      s.when (bit v 2) (fun s => srExit s m)
  else if off = 0x100 ∨ off = 0x200 then trainWrite s m ((off - 0x100) / 0x100) v
  else if 0x100 ≤ off ∧ off < 0x300 ∧ 0x20 ≤ off % 0x100 ∧ off % 0x100 < 0x40 then dlyWrite s m ((off - 0x100) / 0x100) (off % 0x20 / 4) v
  else mcWrite s m 6 RegMap.mapDrm off v

/-- R530: after the host's DONE, a response that waits for the D2H Folio enters it. -/
def folioCtrlWrite (s : State) (m n : Nat) (d2h : Bool) (v : Nat) : State :=
  deliverAnswer (folioCtrl s m n d2h (bit v 30) (bit v 29)) n

/-- MBX (12_messaging.md). -/
def mbxWrite (s : State) (m off v : Nat) : State :=
  if off = 4 then lockForce s m v
  else if 0x100 ≤ off ∧ off < 0x200 then lockWrite s m ((off - 0x100) / 4) (wrap 8 v)
  else if 0x400 ≤ off ∧ off < 0x500 ∧ off % 0x10 = 0 then mbxPush s m ((off - 0x400) / 0x10) v false
  else if 0x800 ≤ off ∧ off < 0xC00 then
    let k := (off - 0x800) / 0x10
    if off % 0x10 = 0 then dbCfg s m k v else if off % 0x10 = 4 then dbSet s m k v else if off % 0x10 = 8 then dbClear s m k v else dbMask s m k v
  else if 0x10000 ≤ off ∧ off < 0x20000 then
    let n := (off - 0x10000) / 0x200
    let d2h := bit off 8
    let k := off % 0x100
    if k < 0x40 then folioWrite s m n d2h (k / 4) v else if k = 0x80 then folioCtrlWrite s m n d2h v else s
  else mcWrite s m 7 RegMap.mapMbx off v

/-- TSP (02_turnspit.md). A write of an RO register or of an unoccupied offset has no effect (Table 0.3, R14), whichever fabric
master that R102 admits makes it (log entry 197). -/
def tspWrite (s : State) (m off v : Nat) : State :=
  if !tspWriter m then s.refuseWrite m 8 off
  else if 0x100 ≤ off ∧ off < 0x300 then
    let n := (off - 0x100) / 0x40
    let k := (off - 0x100) % 0x40
    if k = 0 then tspSrcCfgWrite s m n v
    else if k = 4 then tspSrcInWrite s m n v
    else if k = 8 then tspSrcScaleWrite s m n v
    else if k = 0xC then tspSrcLossWrite s m n v
    else if k = 0x10 then tspSrcOfsWrite s m n v
    else if k = 0x14 then tspSrcCmdWrite s m n v
    else if k = 0x18 then (if srcCommander s m n then plainWrite s 0 RegMap.mapTsp off v else s.refuseWrite m 8 off)
    else s
  else if 0x1000 ≤ off ∧ off < 0x2000 then
    let u := (off - 0x1000) / 0x20
    let k := (off - 0x1000) % 0x20
    if k = 0 then tspCmpOwnWrite s m u v else if k = 0x14 then tspCmpCtrlWrite s m u v else tspCmpRegWrite s m u k v
  else s

/-- PWM (06_power_channels.md): the common registers and the channel blocks. -/
def pwmWrite (s : State) (m off v : Nat) : State :=
  if off < 0x10 then pwmBindWrite s m (off / 4) v
  else if 0x20 ≤ off ∧ off < 0x40 then pinOwnWrite s m ((off - 0x20) / 4) v
  else if 0x100 ≤ off ∧ off < 0x500 then
    let n := (off - 0x100) / 0x100
    let k := off % 0x100
    if k = 0 then pwmCfgWrite s m n v
    else if k = 4 then pwmCtrlWrite s m n v
    else if k = 0x18 then pwmDtWrite s m n v
    else if 0x20 ≤ k ∧ k < 0x48 then shadowWrite s m n ((k - 0x20) / 4) v
    else pwmRegWrite s m n k v
  -- RO and RC registers and unoccupied offsets: no effect (Table 0.3, R14) for the parties that reach the block (R230)
  else if pwmCommonReader m then s
  else s.refuseWrite m 10 off

/-- GRD (Table 7.1). -/
def grdWrite (s : State) (m off v : Nat) : State :=
  if 0x80 ≤ off ∧ off < 0xC0 then
    if off = 0x84 then (if isMC m || isIvsDsp s m then plainWrite s 0 RegMap.mapGrd off v else s.refuseWrite m 11 off)
    else if !isIvsDsp s m then s.refuseWrite m 11 off
    else if off = 0x80 then ivsCtrl s v
    else if 0xA0 ≤ off then ivsCompareWrite s ((off - 0xA0) / 8) (bit off 2) v
    else plainWrite (beforeIvs s) 0 RegMap.mapGrd off v
  else if !isMC m then s.refuseWrite m 11 off
  else if off = 0 then withJumps s (fun s => grdCfgWrite s v)
  else if off = 4 then grdCtrl s v
  else if 0x10 ≤ off ∧ off < 0x1C then grdVinWrite s ((off - 0x10) / 4) v
  else if off = 0x24 then setTrim s v
  else if off = 0x64 ∨ off = 0x68 then injWrite s (off == 0x68) v
  else if 0xC0 ≤ off ∧ off < 0xD0 then ivsInWrite s ((off - 0xC0) / 4) v
  else if 0x1000 ≤ off ∧ off < 0x2000 then profileWrite s m ((off - 0x1000) / 0x800) ((off - 0x1000) % 0x800 / 4) v
  else plainWrite s 0 RegMap.mapGrd off v

/-- HIF: HIF_CTO (1–1,000, Table 13.13) and HIF_CFG by the manager, the rest by MC0 and MC1. -/
def hifWrite (s : State) (m off v : Nat) : State :=
  if off = 8 ∨ off = 0xC then
    if !isManager m then s.refuseWrite m 18 off
    else if off = 8 ∧ (bits v 0 10 = 0 ∨ 1000 < bits v 0 10) then s.put HIF_STAT_CFG_IGN 1
    else plainWrite s 0 RegMap.mapHif off v
  else if !isMC m then s.refuseWrite m 18 off
  else if 0x24 ≤ off ∧ off < 0x44 then ringCtxWrite s m ((off - 0x24) / 4) v
  else plainWrite s 0 RegMap.mapHif off v

/-- TSN; a commit of gPTP is followed by the captures it makes due (R665). -/
def tsnRegWrite (s : State) (m off v : Nat) : State :=
  let s := tsnWrite s m off v
  if off = 4 then captureGrid s else s

/-- A write of `v` to the register word at internal address `a`, by the blocks of Table 11.2. -/
def busWrite (s : State) (m a v : Nat) : State :=
  let off := a % 0x100000
  let v := wrap 32 v
  match (a - 0xF0000000) / 0x100000 with
  | 0 => bootWrite s m off v
  | 1 => clkWrite s m off v
  | 2 => pwrWrite s m off v
  | 3 => rstWrite s m off v
  | 4 => memRegWrite s m off v
  | 5 => drmWrite s m off v
  | 6 => mbxWrite s m off v
  | 7 => tspWrite s m off v
  | 8 => adcWrite s m off v
  | 9 => pwmWrite s m off v
  | 10 => grdWrite s m off v
  | 11 => s.refuseWrite m 12 off
  | 12 => valRegWrite s m off v
  | 13 => s.refuseWrite m 14 off
  | 14 => s.refuseWrite m 15 off
  | 15 => aggWrite s m off v
  | 16 => cdRegWrite s m 0 off v
  | 17 => cdRegWrite s m 1 off v
  | 18 => cdRegWrite s m 2 off v
  | 19 => cdRegWrite s m 3 off v
  | 20 => hifWrite s m off v
  | 21 => insRegWrite s m off v
  | 22 => pxeRegWrite s m off v
  | 23 => netWrite s m off v
  | 24 => tsnRegWrite s m off v
  | _ => s

/-! ### Reads -/

/-- R16: the 64-bit values shown as two halves: block and offset of the low half give the offset of the high half. -/
def highHalf (b off : Nat) : Option Nat :=
  if b = 8 then (if off = 0 then some 4 else if 0x100 ≤ off ∧ off < 0x300 ∧ off % 0x40 = 0x1C then some (off + 0x14) else none)
  else if b = 12 then (if off = 0x24 then some 0x28 else none)
  else if b = 14 then (if off = 0x38 ∨ off = 0x40 ∨ off = 0x48 then some (off + 4) else none)
  else if b = 15 then (if off = 0x10 ∨ off = 0x18 then some (off + 4) else none)
  else if b = 17 then (if off = 0x58 then some 0x5C else none)
  else if b = 21 then (if 0x100 ≤ off ∧ off < 0x280 ∧ (off % 0x40 = 8 ∨ off % 0x40 = 0x10) then some (off + 4) else none)
  else if b = 22 then (if off = 0x14 then some 0x18 else none)
  else none

/-- A read that the firewall admits: the reader's shadow where it holds one (R16, R17), else the live word, whose low half of a
pair latches the high half and whose RC fields clear (R754). -/
def plainRead (s : State) (m b n : Nat) (rows : List RegRow) (live : FKey → Option Nat) (off : Nat) : State :=
  let base := blockBase b n
  match s.shadow? m (base + off) with
  | some v => s.answer v
  | none =>
    let w := mapWord s live n rows off
    let s := match highHalf b off with
      | some h => s.latch m (base + h) (mapWord s live n rows h)
      | none => s
    let s := match findRow rows off with
      | some (r, i, j) => rowClear s n r i j
      | none => s
    s.answer w

/-- A read of a block that the parties of `ok` may read. -/
def blockRead (s : State) (m b : Nat) (ok : Bool) (rows : List RegRow) (live : FKey → Option Nat) (off : Nat) : State :=
  if ok then plainRead s m b 0 rows live off else s.refuseRead m b off

def noLive (_ : FKey) : Option Nat := none

/-- MEM: MEM_FAB_REQID for every master (R48), and the TAG registers (R762). -/
def memRegRead (s : State) (m off : Nat) : State :=
  if off = 0xF14 then reqidRead s m
  else if !isManager m then s.refuseRead m 5 off
  else if off = 8 then
    if 5120 ≤ s.get MEM_SP_IDX_INDEX then s.answer 0
    else autoInc (s.answer (s.get (MEM_SP_TAG_TAG (s.get MEM_SP_IDX_INDEX)))) MEM_SP_IDX_AUTOINC MEM_SP_IDX_INDEX 5120
  else if off = 0x10 then
    if regionsOf s ≤ s.get MEM_DR_IDX_INDEX then s.answer 0
    else autoInc (s.answer (s.get (MEM_DR_TAG_TAG (s.get MEM_DR_IDX_INDEX)))) MEM_DR_IDX_AUTOINC MEM_DR_IDX_INDEX (regionsOf s)
  else plainRead s m 5 0 RegMap.mapMem (liveMem s) off

/-- MBX: who reads each part (R463, R476, R477, R482, R486). -/
def mbxRead (s : State) (m off : Nat) : State :=
  let rd (ok : Bool) : State := blockRead s m 7 ok RegMap.mapMbx (liveMbx s) off
  if 0x100 ≤ off ∧ off < 0x200 then lockRead s m ((off - 0x100) / 4)
  else if 0x200 ≤ off ∧ off < 0x300 then rd (lockMaster m)
  else if 0x400 ≤ off ∧ off < 0x500 then
    let q := (off - 0x400) / 0x10
    if off % 0x10 = 4 then mbxPop s m q
    else if off % 0x10 = 8 then rd (isManager m || m == qProducer q || m == qConsumer q)
    else rd (isManager m)
  else if 0x800 ≤ off ∧ off < 0xC00 then
    let k := (off - 0x800) / 0x10
    rd (if 8 ≤ off % 0x10 then isManager m || dbReader s m k else isManager m)
  else if 0x10000 ≤ off ∧ off < 0x20000 then rd (isMC m || folioHost m ((off - 0x10000) / 0x200))
  else rd (isManager m)

/-- TSP (R99, R102, R103). -/
def tspRead (s : State) (m off : Nat) : State :=
  if 0x100 ≤ off ∧ off < 0x300 ∧ off % 0x40 = 0x20 then tspAngRead s m ((off - 0x100) / 0x40)
  else if off = 0x10 then tspConflictRead s m
  else blockRead s m 8 (tspReader m) RegMap.mapTsp (liveTsp s) off

/-- ADC (R109, R126, R127). -/
def adcRead (s : State) (m off : Nat) : State :=
  if 0x400 ≤ off ∧ off < 0x1400 ∧ off % 0x200 = 0x28 then lastValRead s m ((off - 0x400) / 0x200)
  else if 0x400 ≤ off ∧ off < 0x1400 ∧ off % 0x200 = 0x30 then lastAngRead s m ((off - 0x400) / 0x200)
  else blockRead s m 9 (adcReader m) RegMap.mapAdc (livePwm s) off

/-- PWM (R230, R270). -/
def pwmRead (s : State) (m off : Nat) : State :=
  if off = 0x10 then pwmConflictRead s m
  else if 0x100 ≤ off ∧ off < 0x500 then
    let n := (off - 0x100) / 0x100
    if pwmChanReader s m n then plainRead s m 10 0 RegMap.mapPwm (livePwm s) off
    else (s.violation m false (blockRegion 10 true) (blockBase 10 0 + off)).answer 0
  else blockRead s m 10 (pwmCommonReader m) RegMap.mapPwm (livePwm s) off

def grdRead (s : State) (m off : Nat) : State :=
  if off = 0x50 then grdRefRead s m else blockRead s m 11 (grdReader s m) RegMap.mapGrd noLive off

/-- R351: SAF_STAT latches the block; other SAF registers read as latched, else live. -/
def safRead (s : State) (m off : Nat) : State :=
  if off = 0 then safStatRead s m else blockRead s m 12 (isMaster m) RegMap.mapSaf noLive off

def ldgRead (s : State) (m off : Nat) : State :=
  if off = 8 then ldgHeadRead s m else blockRead s m 15 (isManager m) RegMap.mapLdg (liveLdg s) off

def aggRead (s : State) (m off : Nat) : State :=
  if 0x40 ≤ off ∧ off < 0xC0 ∧ off % 0x20 = 0 then aggCapRead s m ((off - 0x40) / 0x20)
  else blockRead s m 16 (aggReader m) RegMap.mapAgg noLive off

/-- CDn: the manager's side, CDn itself, and the apertures (R198). -/
def cdRead (s : State) (m n off : Nat) : State :=
  if 0x40000 ≤ off ∧ off < 0xA0000 then cdAperture s m n false off 0
  else if isManager m || m == reqCD n then plainRead s m 17 n RegMap.mapCd (liveCd s) off
  else (s.violation m false (blockRegion 17 false) (blockBase 17 n + off)).answer 0

/-- INS: INS_INFO latches (R554); a counter read from the shadow reduces the live one of the instance latched (R754). -/
def insRead (s : State) (m off : Nat) : State :=
  let base := blockBase 19 0
  if off = 8 then insInfoRead s m (fun s => mapWord s (liveIns s) 0 RegMap.mapIns 8)
  else if off = 0xC ∨ off = 0x10 ∨ off = 0x14 then
    match insReader m, s.shadow? m (base + off), s.shadow? m (base + 8) with
    | true, some v, some n =>
      let f := if off = 0xC then INS_CNT_QUOTA_COUNT n else if off = 0x10 then INS_CNT_POLICY_COUNT n else INS_CNT_VIOL_COUNT n
      (s.put f (s.get f - v)).answer v
    | ok, _, _ => blockRead s m 19 ok RegMap.mapIns (liveIns s) off
  else blockRead s m 19 (insReader m) RegMap.mapIns (liveIns s) off

/-- A read of a block with a value that is not shown while it changes takes a fresh free value. -/
def freeRead (s : State) : State := { s with free := s.free + 1 }

/-- BOOT, CLK, PWR and RST: the manager, MC0, MC1 and the security core. -/
def bootReader (m : Nat) : Bool := isManager m || m == reqSecurity

/-- A read of the register word at internal address `a`; the answer is in `resp`. -/
def busRead (s : State) (m a : Nat) : State :=
  let off := a % 0x100000
  match (a - 0xF0000000) / 0x100000 with
  | 0 => blockRead s m 1 (bootReader m) RegMap.mapBoot noLive off
  | 1 => freeRead (blockRead s m 2 (bootReader m) RegMap.mapClk (liveClk s) off)
  | 2 => freeRead (blockRead s m 3 (bootReader m) RegMap.mapPwr (livePwr s) off)
  | 3 => blockRead s m 4 (bootReader m) RegMap.mapRst noLive off
  | 4 => memRegRead s m off
  | 5 => blockRead s m 6 (isManager m) RegMap.mapDrm noLive off
  | 6 => mbxRead s m off
  | 7 => tspRead s m off
  | 8 => adcRead s m off
  | 9 => pwmRead s m off
  | 10 => grdRead s m off
  | 11 => safRead s m off
  | 12 => blockRead s m 13 (isManager m || valCmdPt s m) RegMap.mapVal (liveVal s) off
  | 13 => blockRead s m 14 (isManager m) RegMap.mapSec (liveSec s) off
  | 14 => ldgRead s m off
  | 15 => aggRead s m off
  | 16 => cdRead s m 0 off
  | 17 => cdRead s m 1 off
  | 18 => cdRead s m 2 off
  | 19 => cdRead s m 3 off
  | 20 => blockRead s m 18 (isManager m) RegMap.mapHif (livePool s) off
  | 21 => insRead s m off
  | 22 => freeRead (blockRead s m 20 (isManager m) RegMap.mapPxe (livePxe s) off)
  | 23 => blockRead s m 21 (isManager m) RegMap.mapNet noLive off
  | 24 => blockRead s m 22 (isManager m) RegMap.mapTsn (liveTsn s) off
  | _ => s.answer 0

/-! ### Accesses by address -/

/-- A register word at an aligned address of the register range: outcome, the word read, the state. -/
def regAccess (s : State) (m : Nat) (write : Bool) (a v : Nat) : AccRes × Nat × State :=
  let s : State := { s with refused := false }
  let s := if write then busWrite s m a v else busRead s m a
  (if s.refused then .refused else .ok, if write then 0 else s.resp, s)

/-- R29, R30, R350: the firewall judges a write that is no whole, aligned register word by each word that it touches: refused
where a write of that word would be; where none is, nothing is written (log entry 199). -/
def regPartial (s : State) (m a len v : Nat) : AccRes × State :=
  let words := (List.range ((a % 4 + len + 3) / 4)).map (fun i => a - a % 4 + 4 * i)
  let probe (w : Nat) : State := busWrite { s with refused := false } m w v
  match words.find? (fun w => areaOf s w == .regs && (probe w).refused) with
  | some w => (.refused, probe w)
  | none => (.ok, { s with refused := false })

/-- An access by a processor to any internal address: a register word (of which a sub-word read selects its lanes) or memory. -/
def fabAccess (s : State) (m : Nat) (write : Bool) (a size v : Nat) : AccRes × Nat × State :=
  if areaOf s a = .regs then
    if write then
      if size = 4 ∧ a % 4 = 0 then regAccess s m true a v
      else
        let (r, s) := regPartial s m a size v
        (r, 0, s)
    else
      let (r, w, s) := regAccess s m false (a - a % 4) 0
      (r, bits w (8 * (a % 4)) (8 * size), s)
  else if write then
    let (r, s) := memWrite s m a (leBytes size v)
    (r, 0, s)
  else
    let (r, b, s) := memRead s m a size
    (r, ofLeBytes b, s)

/-! ### The fabric's arbiter (R26–R28, R720) -/

/-- The number of an address's target port. -/
def portOf (s : State) (a : Nat) : Nat :=
  match areaOf s a with
  | .stockpot => 1 | .slice _ => 2 | .imem _ => 3 | .mgmt => 4 | .dram => 5
  | .regs => if 0xF1000000 ≤ a ∧ a < 0xF1400000 ∧ 0x40000 ≤ a % 0x100000 then 7 else 6
  | .none => 0

/-- The class of a master (Table 1.2): 0 real-time, 1 reserved, 2 bulk. -/
def classOf (m : Nat) : Nat := if isRealTime m then 0 else if isReserved m then 1 else 2

/-- R26: the longest burst of a master. -/
def burstMax (m : Nat) : Nat := if isRealTime m then 256 else 512

/-- R26: the masters that are processors, whose longer requests are refused. -/
def isProcessor (m : Nat) : Bool := (1 ≤ m && m ≤ 4) || isCD m || isPT m

/-- R26: the bursts of a request; a longer request of an engine is split. -/
def splitReq (q : FabReq) : List FabReq :=
  let mx := burstMax q.m.toNat
  if q.len ≤ mx ∨ isProcessor q.m.toNat then [q]
  else (List.range ((q.len + mx - 1) / mx)).map (fun i =>
    { q with addr := q.addr + BitVec.ofNat 40 (i * mx), len := min mx (q.len - i * mx), data := (q.data.drop (i * mx)).take mx, ue := q.ue && i == 0 })

/-- R720: the first of the waiting masters in ascending order after `last`, going round. -/
def nextRound (last : Option Nat) (l : List Nat) : Option Nat :=
  let lo := l.foldl (fun b x => some (match b with | some y => min x y | none => x)) none
  match last with
  | none => lo
  | some p => ((l.filter (fun x => p < x)).foldl (fun b x => some (match b with | some y => min x y | none => x)) (none : Option Nat)).orElse (fun _ => lo)

/-- R27: the class that port `p` grants next, of the classes in which a master waits. -/
def grantClass (s : State) (p : Nat) (rt rsv blk : Bool) : Nat :=
  if rt && (s.memSt.rt.get 0 p < 8 || !(rsv || blk)) then 0
  else if rsv && (!blk || 3 ≤ s.memSt.bulk.get 0 p) then 1
  else 2

/-- The counts of R27 and the rounds of R720 after a grant. -/
def noteGrant (s : State) (p c m : Nat) (rsv : Bool) : State :=
  let x := s.memSt
  s.setMem { x with
    rt := x.rt.set p (if c = 0 then min 8 (x.rt.get 0 p + 1) else 0)
    bulk := if c = 0 then x.bulk else x.bulk.set p (if c = 2 ∧ rsv then x.bulk.get 0 p + 1 else 0)
    last := x.last.set (4 * p + c) (m + 1) }

/-- R27: the grant of an access to address `a` that is the only one waiting at its port. -/
def soleGrant (s : State) (m a : Nat) : State := noteGrant s (portOf s a) (classOf m) m false

/-- An access by a processor that is the only one waiting at its port. -/
def soleAccess (s : State) (m : Nat) (write : Bool) (a size v : Nat) : AccRes × Nat × State := fabAccess (soleGrant s m a) m write a size v

/-- R564: the access of a blocked thread completes. -/
def threadDone (s : State) (n : Nat) : State := threadAccessDone soleAccess s n

/-- R163, R177: the stalled instruction goes on, no earlier than 12 cycles after it stood in ADDR. -/
def endStall (s : State) (n : Nat) : State :=
  s.setCd n { s.cd n with stalled := false, cyc := max ((s.cd n).now s.T) ((s.cd n).stallCyc + 12) }

/-- R197: a HALT that arrived during the access stops CDn after the instruction, and squashes the younger ones. -/
def stallHalt (s : State) (n : Nat) : State :=
  if (s.cd n).haltPend then
    let s := s.setCd n { s.cd n with haltPend := false }
    if cdRunning s n then cdLeave (squashAt s n (s.cd n).pc ((s.cd n).now s.T)) n cdHALTED else s
  else s

/-- R159–R163, R167, R180: the fabric access that stalls CDn, at the address it was mapped to when it was made, completes, and the
instruction retires; one that has reset CDn itself leaves nothing to retire. -/
def dspAccessDone (s : State) (n : Nat) : State :=
  let w := s.pmWord n (s.cd n).pc
  let k := dspKind w
  let b := (s.cd n).stallAddr
  if !(s.cd n).stalled then s
  else
    match (dspAccesses (s.cd n) k w).find? (fun a => a.space = 0 ∧ 0x8000 ≤ a.addr) with
    | none => stallHalt (endStall s n) n
    | some a =>
      if a.write then
        let v := (dspWork s n k w (some b) none).send.getD 0
        let (r, _, s) := soleAccess s (reqCD n) true b 4 (s.get (CD_XHI_WR n) * 2 ^ 24 + wrap 24 v)
        if !(s.cd n).stalled then s
        else
          let s := endStall s n
          let x := dspWork s n k w (some b) none
          stallHalt (dspRetire s n k w (if r = .ok then x else { x with bus := x.bus ++ [⟨true, a.space, a.addr⟩] })) n
      else
        let (r, v, s) := soleAccess s (reqCD n) false b 4 0
        let s := endStall (s.put (CD_XHI_RD n) (bits v 24 8)) n
        stallHalt (dspRetire s n k w (dspWork s n k w (some b) (some (wrap 24 v, r == .ok)))) n

/-- A read of the register word at address `a` by requester `m`; an address of no register word answers nothing. -/
def readReg (s : State) (m a : Nat) : State := if areaOf s a = .regs ∧ a % 4 = 0 then (regAccess (soleGrant s m a) m false a 0).2.2 else s

/-- A write of the register word at address `a` by requester `m`. -/
def writeReg (s : State) (m a v : Nat) : State := if areaOf s a = .regs ∧ a % 4 = 0 then (regAccess (soleGrant s m a) m true a v).2.2 else s

/-- A granted burst: the status, the bytes read and the state. -/
def fabRun (s : State) (q : FabReq) : Nat × List Byte × State :=
  let m := q.m.toNat
  let a := q.addr.toNat
  if burstMax m < q.len then (2, [], s)
  else if areaOf s a = .regs then
    if a % 4 ≠ 0 ∨ (q.len ≠ 4 ∧ q.len ≠ 8) then
      if q.write then
        let (r, s) := regPartial s m a q.len (ofLeBytes (q.data.take 4))
        (accCode r, [], s)
      else
        let (r, v, s) := fabAccess s m false a (min q.len (4 - a % 4)) 0
        (accCode r, leBytes (min q.len (4 - a % 4)) v, s)
    else
      let (r, v, s) := regAccess s m q.write a (ofLeBytes (q.data.take 4))
      if q.len = 4 then (accCode r, if q.write then [] else leBytes 4 v, s)
      else
        let (r2, v2, s) := regAccess s m q.write (a + 4) (ofLeBytes ((q.data.drop 4).take 4))
        (max (accCode r) (accCode r2), if q.write then [] else leBytes 4 v ++ leBytes 4 v2, s)
  else
    let s := if q.ue then s.setMem { s.memSt with bad := s.memSt.bad.filter (· ≠ a / 4) ++ [a / 4] } else s
    if q.write then
      let (r, s) := memWrite s m a (fixBytes q.len q.data)
      (accCode r, [], s)
    else
      let (r, b, s) := memRead s m a q.len
      (accCode r, b, s)

/-- The first waiting burst of each master: R28, a master's bursts go in order. -/
def heads : List FabReq → List Nat → List FabReq
  | [], _ => []
  | q :: t, seen => if seen.contains q.m.toNat then heads t seen else q :: heads t (q.m.toNat :: seen)

/-- The burst that the port of the first waiting burst grants. -/
def grantOf (s : State) (l : List FabReq) : Option (FabReq × Nat × Nat × Bool) :=
  match heads l [] with
  | [] => none
  | q :: t =>
    let p := portOf s q.addr.toNat
    let ws := (q :: t).filter (fun x => portOf s x.addr.toNat == p)
    let inClass (c : Nat) : List Nat := (ws.map (fun x => x.m.toNat)).filter (fun m => classOf m == c)
    let rsv := !(inClass 1).isEmpty
    let c := grantClass s p (!(inClass 0).isEmpty) rsv (!(inClass 2).isEmpty)
    let last := s.memSt.last.get 0 (4 * p + c)
    match nextRound (if last = 0 then none else some (last - 1)) (inClass c) with
    | some m => (ws.find? (fun x => x.m.toNat == m)).map (fun x => (x, p, c, rsv))
    | none => none

/-- Grants bursts until none waits; the status and the bytes of each are answered in the order of the grants. -/
def fabGrants : Nat → State → List FabReq → State
  | 0, s, _ => s
  | k + 1, s, l =>
    match grantOf s l with
    | none => s
    | some (q, p, c, rsv) =>
      -- R26: a processor's longer request is refused and takes no grant
      let (r, b, s) := fabRun (if burstMax q.m.toNat < q.len then s else noteGrant s p c q.m.toNat rsv) q
      fabGrants k { s.answer r with reply := s.reply ++ b } (l.erase q)

/-- Requests that wait at the same time (R24–R31): IDs that Table 1.2 does not list are never issued. -/
def fabricAccess (s : State) (l : List FabReq) : State :=
  let bs := (l.filter (fun q => isMaster q.m.toNat && q.len != 0)).flatMap splitReq
  fabGrants bs.length { s with reply := [] } bs

/-! ### BAR0 (R497–R500) -/

/-- Table 13.3: the internal address that PF BAR0 offset `o` reaches. -/
def bar0Addr (o : Nat) : Option Nat :=
  if o < 0x400000 then some (0xF0000000 + o / 0x40000 * 0x100000 + o % 0x40000)
  else if o < 0x800000 then some (0xF1000000 + (o - 0x400000))
  else if o < 0xD00000 then some (0xF1400000 + (o - 0x800000))
  else none

/-- Table 13.12: the word at offset `o` of the status page of instance `n`. -/
def statusWord (s : State) (n o : Nat) : Nat :=
  if o = 0 then mapWord s noLive 0 RegMap.mapBoot 0
  else if o = 4 then mapWord s noLive 0 RegMap.mapBoot 4
  else if o = 8 then instate s n * 2 ^ 24 + s.get BOOT_STAGE_RESTRICTED * 2 ^ 23 + n
  else if o = 0xC then ptRings s n
  else if o = 0x10 then s.hif.viol.get 0 n
  else if o = 0x14 then s.hif.dberr.get 0 n
  else if o = 0x18 then (s.inst n).log.length
  else 0

/-- R500: a write to the status page of instance `n` by function `fn` is discarded and counted. -/
def statusWrite (s : State) (fn : Nat) : State := s.spViol fn

/-- One 4-byte access of function `fn` at BAR0 offset `o`. -/
def bar0Word (s : State) (fn : Nat) (write : Bool) (o v : Nat) : Nat × State :=
  if fn ≠ 0 then
    if write then (0, statusWrite s fn) else (if o < 0x1000 then statusWord s fn o else 0, s)
  else if 0xE00000 ≤ o ∧ o < 0xE80000 then
    if write then (0, statusWrite s 0) else (statusWord s ((o - 0xE00000) / 0x1000) (o % 0x1000), s)
  else
    match bar0Addr o with
    | none => (0, s)
    | some a =>
      let (_, w, s) := regAccess (soleGrant s (reqHost 0) a) (reqHost 0) write a v
      (w, s)

/-- R498, R499: a BAR0 access of `size` bytes at offset `o`. -/
def bar0Access (s : State) (fn : Nat) (write : Bool) (o size v : Nat) : State :=
  if size = 4 ∧ o % 4 = 0 then
    let (w, s) := bar0Word s fn write o v
    s.answer w
  else if size = 8 ∧ o % 8 = 0 then
    let (w0, s) := bar0Word s fn write o (wrap 32 v)
    let (w1, s) := bar0Word s fn write (o + 4) (v / 2 ^ 32)
    s.answer (w0 + w1 * 2 ^ 32)
  else (s.spViol fn).answer 0

/-! ### REG_WRITE and REG_READ (R533) -/

def regRequest (s : State) (n : Nat) (write : Bool) : State :=
  serve s n (if write then 0x20 else 0x21) (fun s ans =>
    let a := reqWord s n 1
    if areaOf s a ≠ .regs then ans frDENIED [] s
    else
      let a := a - a % 4
      let (r, _, s) := if write then regAccess (soleGrant s reqMC0 a) reqMC0 true a (reqWord s n 2) else (.ok, 0, s)
      if r ≠ .ok then ans frDENIED [] s
      else
        let (r2, v, s) := regAccess (soleGrant s reqMC0 a) reqMC0 false a 0
        if write || r2 == .ok then ans frOK [v] s else ans frDENIED [] s)

end Sys2Proof.Machine
end

