-- ==== Sys2Proof/Machine/Boot.lean ====
section
/-! DEFINITION. Fufatil images, the Catalogue and the boot stages (19_clocks_power_boot.md, sections 19.5 and 19.6), IMAGE_LOAD,
and the end of a Ledger commit with what awaits it (R410, R412). -/
namespace Sys2Proof.Machine
open Sys2Proof.Reg

/-! ### Images (R710, Table 19.9) -/

/-- What a valid image says: component, version, tested-with set. -/
structure Image where
  comp : Nat
  ver : Nat
  tw : List (Nat × Nat)
deriving DecidableEq, Repr

/-- The key under which an image of the signer verifies: the fused key, or a slot with MASK bit 4. -/
def sealKey (s : State) (signer : Nat) : Option (List Byte) :=
  if signer = 0 then some Config.olovocorKey else if signer < 16 then slotKey s (signer - 1) 4 else none

/-- Components that only SIGNER 0 may sign. -/
def fusedOnly (c : Nat) : Bool := (1 ≤ c && c ≤ 3) || c == 0x40

/-- R710: the image in bytes `b`, if it is valid. -/
def imageOf (s : State) (b : List Byte) : Option Image :=
  let comp := le b 6 2
  let n := le b 12 4
  let body := (b.drop 256).take n
  let signer := le b 16 1
  let twn := le b 17 1
  if le b 0 4 = 0x41465546 ∧ le b 4 2 = 1 ∧ 256 ≤ b.length ∧ body.length = n ∧ n ≤ 4194304 ∧ twn ≤ 16 ∧ Config.sha256 body = slice b 24 32 ∧
      (signer = 0 ∨ fusedOnly comp = false) then
    match sealKey s signer with
    | some k =>
      if Config.ecdsaVerify k (Config.sha256 (b.take 192)) (slice b 192 64) then
        some { comp := comp, ver := le b 8 4, tw := (List.range twn).map (fun i => (le b (56 + 8 * i) 2, le b (60 + 8 * i) 4)) }
      else none
    | none => none
  else none

/-- Table 19.10: the components in order, but for the pseudo-component. -/
def components : List Nat := [1, 2, 3, 0x10, 0x11, 0x12, 0x13, 0x20, 0x21, 0x22, 0x23, 0x30, 0x40]
def compSILICON : Nat := 0x100
def isCustomer (c : Nat) : Bool := 0x10 ≤ c && c ≤ 0x30

/-- The valid images of component `c` in the OSPI device, with their bytes. -/
def copiesOf (s : State) (c : Nat) : List (Image × List Byte) :=
  (s.boot.ospi.filter (fun e => e.1 == c)).filterMap (fun e =>
    match imageOf s e.2 with | some i => if i.comp = c then some (i, e.2) else none | none => none)

/-- R711: the valid image with the higher VERSION. -/
def present (s : State) (c : Nat) : Option (Image × List Byte) :=
  (copiesOf s c).foldl (fun b e => match b with | some x => if x.1.ver < e.1.ver then some e else some x | none => some e) none

/-- BOOT_CHIP_REV as a version number. -/
def silicon (s : State) : Nat := mapWord s noLive 0 RegMap.mapBoot 4

/-- The images present, in the order of Table 19.10. -/
def presentAll (s : State) : List (Image × List Byte) := components.filterMap (present s)

def versionIn (s : State) (l : List (Image × List Byte)) (c : Nat) : Option Nat :=
  if c = compSILICON then some (silicon s) else (l.find? (fun e => e.1.comp == c)).map (·.1.ver)

/-! ### The verdict (R712) -/

def vdTESTED : Nat := 0
def vdUNTESTED : Nat := 1
def vdABSENT : Nat := 2
def vdCATALOGUE : Nat := 3

/-- The entries of a Catalogue body, each its non-zero pairs; none where its length does not fit its count. -/
def catalogue (body : List Byte) : Option (List (List (Nat × Nat))) :=
  let n := le body 0 4
  if body.length = 4 + 64 * n then
    some ((List.range n).map (fun i => ((List.range 8).map (fun j => (le body (4 + 64 * i + 8 * j) 2, le body (8 + 64 * i + 8 * j) 4))).filter (fun p => p != (0, 0))))
  else none

/-- An entry names exactly the four components with their present versions. -/
def entryFits (s : State) (l : List (Image × List Byte)) (e : List (Nat × Nat)) : Bool :=
  e.length == 4 && [1, 2, 3, compSILICON].all (fun c => match versionIn s l c with | some v => e.contains (c, v) | none => false)

/-- A customer image names 0x0002 and 0x0100, and every component that it names is present at that version. -/
def customerOk (s : State) (l : List (Image × List Byte)) (i : Image) : Bool :=
  i.tw.any (fun t => t.1 == 2) && i.tw.any (fun t => t.1 == compSILICON) && i.tw.all (fun t => versionIn s l t.1 == some t.2)

/-- The verdict of a set of images, with the first component that failed; none where the Catalogue alone has no entry for them. A Catalogue
that is stored but not valid is CATALOGUE_INVALID. -/
def verdictOf (s : State) (l : List (Image × List Byte)) : Nat × Option Nat :=
  match [3, 0x30, 0x40].find? (fun c => (versionIn s l c).isNone) with
  | some c => (if c = 0x40 ∧ s.boot.ospi.any (fun e => e.1 == 0x40) then vdCATALOGUE else vdABSENT, some c)
  | none =>
    match (l.find? (fun e => e.1.comp == 0x40)).bind (fun e => catalogue (e.2.drop 256)) with
    | none => (vdCATALOGUE, some 0x40)
    | some cat =>
      if !cat.any (entryFits s l) then (vdUNTESTED, none)
      else
        match l.find? (fun e => isCustomer e.1.comp && !customerOk s l e.1) with
        | some e => (vdUNTESTED, some e.1.comp)
        | none => (vdTESTED, some 0)

/-- BOOT_COMP.STATUS codes. -/
def csLOADED : Nat := 0
def csABSENT : Nat := 1
def csBAD_SIG : Nat := 2
def csUNTESTED : Nat := 3
def csNOT_LOADED : Nat := 4

/-- The status of a component that is loaded. -/
def loadedStatus (s : State) (l : List (Image × List Byte)) (i : Image) : Nat := if isCustomer i.comp && !customerOk s l i then csUNTESTED else csLOADED

def compIndex (c : Nat) : Nat := components.idxOf c

/-- BOOT_COMP after the verdict: an image of a DSP or cluster is loaded by S4 only. -/
def showComps (s : State) (l : List (Image × List Byte)) : State :=
  components.foldl (fun s c =>
    let k := compIndex c
    let s := s.put (BOOT_COMP_COMPONENT k) c
    match l.find? (fun e => e.1.comp == c) with
    | some e => s.puts [(BOOT_COMP_VER_VERSION k, e.1.ver), (BOOT_COMP_STATUS k, if 0x10 ≤ c ∧ c < 0x30 then csNOT_LOADED else loadedStatus s l e.1)]
    | none => s.puts [(BOOT_COMP_VER_VERSION k, 0), (BOOT_COMP_STATUS k, if s.boot.ospi.any (fun e => e.1 == c) then csBAD_SIG else csABSENT)]) s

/-! ### Stages (Table 19.7) -/

def stageEnd (s : State) (k : Nat) : State := s.put (BOOT_STAGE_T_T k) (wrap 32 s.T)

/-- The boot ends at a component with no valid image (R711). -/
def bootFail (s : State) (c : Nat) : State :=
  let s := s.puts [(BOOT_STAGE_STAGE, 15), (BOOT_STAGE_FAIL_COMP, c)]
  { s with boot := { s.boot with next := 4 } }

/-- BOOT_S0_ROM: `prog` is what has been programmed into the OSPI device in circuit since the last boot. -/
def bootS0 (s : State) (prog : Option (List (Nat × List Byte))) : State :=
  if s.boot.next ≠ 0 ∨ s.aon.off ∨ s.aon.parked then s
  else
    let s := match prog with | some l => { s with boot := { s.boot with ospi := l } } | none => s
    let s := s.puts [(CLK_STAT_LOCK, 0x2F), (CLK_STAT_REF_OK, 1)]
    match present s 1 with
    | none => bootFail (stageEnd s 0) 1
    | some _ => { (stageEnd s 0).put BOOT_STAGE_STAGE 1 with boot := { s.boot with next := 1 } }

/-- The newest record of configuration kind `(typ, slot)`, as TYPE and payload. -/
def newestOf (s : State) (k : Nat × Nat) : Option (List Byte) :=
  ((s.ldg.recs.filter (fun r => carryKind r == some k)).getLast?).map (fun r => if r.typ = rtSTATE_CARRY then r.pl.drop 64 else r.pl)

/-- `f` of the newest record of type `typ`, where the Ledger holds one. -/
def withNewest (s : State) (typ : Nat) (f : State → List Byte → State) : State :=
  match newestOf s (typ, 0) with
  | some pl => f s pl
  | none => s

/-- R403: the 16 key slots as their newest KEY_ENROL records give them. -/
def restoreSlots (s : State) : State :=
  (List.range 16).foldl (fun s k =>
    match newestOf s (rtKEY_ENROL, k) with
    | some pl =>
      let mask := le pl 1 1
      { s with sec := { s.sec with slots := s.sec.slots.set k (if mask = 0 then (0, []) else (mask, slice pl 4 64)) } }
    | none => s) s

/-- The configuration that the Ledger holds is in force after a start (R343, R403, R414, R424, R426, R537). -/
def restoreConfig (s : State) (cold : Bool) : State :=
  let s := restoreSlots s
  let s := withNewest s rtTAMPER_CFG (fun s pl => let a := le pl 0 4
    s.puts [(SEC_TAMPER_CFG_EN, bits a 24 8), (SEC_TAMPER_CFG_POL, bits a 16 4), (SEC_TAMPER_CFG_RESP, bits a 0 16)])
  let s := withNewest s rtSESS_CFG (fun s pl => s.put SEC_SESS_IDLE_MIN (le pl 0 1))
  let s := withNewest s rtLIFECYCLE (fun s pl => s.put SEC_STAT_LIFECYCLE (le pl 0 1))
  let s := withNewest s rtODO_CFG (fun s pl =>
    ({ s with sec := { s.sec with odo := { s.sec.odo with cfg := some (odoOf pl), fresh := true } } } : State).put SEC_ODO_STAT_EN 1)
  let s := withNewest s rtGRANT_SET (fun s pl => setGrant s (le pl 0 1))
  let s := withNewest s rtPSET_CHANGE (fun s pl => { s with sec := { s.sec with pset := wordsOf 64 (pl.drop 16) } })
  if cold then
    withNewest s rtODO_TOTAL (fun s pl =>
      let o := s.sec.odo
      odoShow (({ s with sec := { s.sec with odo := { o with totA := le pl 0 8 * 1000, totB := le pl 8 8 * 1000, mseq := le pl 16 8 } } } : State).put SEC_ODO_STAT_COLD 1))
  else s

/-- R43, R44, R427: the records of what the tamper block latched while parked. -/
def parkedRecords (s : State) : State :=
  let l := s.sec.parked
  let s := l.foldl (fun s e =>
    let (j, ticks, r) := e
    let s := commitNow s rtTAMPER (leBytes 1 j ++ leBytes 1 r ++ [1, 0] ++ leBytes 8 (s.aon.parkT + tickNs ticks))
    let s := s.put SEC_TAMPER_SEEN (setBit (s.get SEC_TAMPER_SEEN) j)
    s.when (respLOCK ≤ r) (fun s => s.put SEC_STAT_TAMPER_LOCK 1)) s
  let s := s.when (s.sec.overflow != 0) (fun s => commitNow s rtTAMPER_OVERFLOW (leBytes 2 s.sec.overflow))
  let s := s.when (l.any (fun e => e.2.2 == respERASE)) (fun s => commitNow s rtKEYS_ERASED [2])
  { s with sec := { s.sec with parked := [], overflow := 0 } }

/-- R427: a new KWK where retained SRAM holds none. -/
def newKwk (s : State) : State :=
  if s.flag SEC_STAT_KWK_VALID then s
  else
    let (v, s) := s.fresh 256
    ({ s with sec := { s.sec with kwk := leBytes 32 v } } : State).put SEC_STAT_KWK_VALID 1

/-- The verdict, BOOT_VERDICT, BOOT_COMP, the verdict line and the BOOT record (R712, R713). -/
def bootVerdict (s : State) : State :=
  let l := presentAll s
  let (v, first) := verdictOf s l
  let (free, s) := s.fresh 16
  let s := s.puts [(BOOT_VERDICT_VERDICT, v), (BOOT_VERDICT_COUNT, l.length), (BOOT_VERDICT_FIRST, first.getD free),
    (BOOT_STAGE_RESTRICTED, b2n (v != vdTESTED)), (BOOT_STAGE_ACKED, 0)]
  let s := showComps { s with saf := { s.saf with line := if v = vdTESTED then 2 else 1 } } l
  let pl := leBytes 1 v ++ leBytes 1 l.length ++ l.flatMap (fun e => leBytes 2 e.1.comp ++ leBytes 4 e.1.ver)
  appendRec s (buildRec s { typ := rtBOOT, pl := pl, source := reqSecurity, inst := 0xFF, cls := clsBOOT, after := none })

/-- Stage S1: the security core recovers the Ledger (`cut`, `missing`, `altered`: what it finds in flash), restores its
configuration and the parked records, … -/
def ledgerRecover (s : State) (cut missing : Nat) (altered : Bool) : State :=
  let cold := s.aon.cold
  let s := restoreConfig (ledgerStart s cold cut missing altered) cold
  let s := s.boot.cut.foldl (fun s x => appendRec s (buildRec s (closeReq x 3 none))) s
  let s := newKwk (parkedRecords { s with boot := { s.boot with cut := [] }, aon := { s.aon with cold := false } })
  s.when cold (fun s => s.puts ((List.range 4).map (fun k => (SEC_LOCK_FAILS k, 3))))

/-- … reaches the verdict, sends the safety image and set, arms its unit, … -/
def verdictSend (s : State) : State :=
  let s := bootVerdict s
  let s := armPort (sendSafety s (present s 3).isSome) 120 1000000000 0xF1
  stageEnd { s with aon := { s.aon with rstOut := true } } 1

/-- … and starts stage S2 where its image is present. -/
def startS2 (s : State) : State :=
  match present s 2 with
  | none => bootFail s 2
  | some _ => { s.put BOOT_STAGE_STAGE 2 with boot := { s.boot with next := 2, resend := false } }

/-- BOOT_S1_SC. -/
def bootS1 (s : State) (cut missing : Nat) (altered : Bool) : State :=
  if s.boot.next ≠ 1 then s else startS2 (verdictSend (ledgerRecover s cut missing altered))

/-- R21: the component whose processor runs what lies at address `a`: a word of PM of CDn, or of a cluster's instruction memory. -/
def codeOf (a : Nat) : Option Nat :=
  if 0xF1000000 ≤ a ∧ a < 0xF1400000 ∧ 0x40000 ≤ a % 0x100000 ∧ a % 0x100000 < 0x60000 then some (0x10 + (a - 0xF1000000) / 0x100000)
  else if 0x21000000 ≤ a ∧ a < 0x21040000 then some (0x20 + (a - 0x21000000) / 0x10000)
  else none

/-- The aligned little-endian words of an image's body (log entry 201). -/
def bodyWords (b : List Byte) : List Nat := wordsOf (b.length / 4 - 64) (b.drop 256)

/-- Register and memory writes that MC0 makes, in order. A write of a program memory is a load: it is made only where `codes` holds
an image for that processor and the word is one of its body (R21). -/
def mcWrites (s : State) (codes : List (Nat × List Nat)) (l : List (BitVec 40 × BitVec 32)) : State :=
  l.foldl (fun s e =>
    let put (s : State) : State := (fabAccess (soleGrant s reqMC0 e.1.toNat) reqMC0 true e.1.toNat 4 e.2.toNat).2.2
    match codeOf e.1.toNat with
    | none => put s
    | some c =>
      if codes.any (fun x => x.1 == c && x.2.contains e.2.toNat) then
        let s := put { s with boot := { s.boot with loading := some c } }
        { s with boot := { s.boot with loading := none } }
      else s) s

/-- R702: what tenants held before a MGMT reset goes. -/
def cleanTenants (s : State) : State :=
  let s := (s.ents tkFLOW).foldl (fun s e => if e.2.owner = 0 then s else delFlow s e.1) s
  let s := { s with net := { s.net with tab := s.net.tab.filter (fun e => e.2.owner == 0) } }
  let s := (List.range 4096).foldl (fun s i => if s.get (TSN_NODE_CFG_INST i) = 0 then s else s.put (TSN_NODE_CFG_EN i) 0) s
  let s := (List.range 127).foldl (fun s k => s.puts [(TSN_POLMAP_BASE (k + 1), 0), (TSN_POLMAP_COUNT (k + 1), 0)]) s
  (List.range 5120).foldl (fun s i =>
    let t := s.get (MEM_SP_TAG_TAG i)
    if 1 ≤ t ∧ t < 0x80 then (s.put (MEM_SP_TAG_TAG i) 0xFF).clearRange (4096 * i) 4096 else s) s

/-- Table 14.2, column "Instance 0", as the words of Table 14.3. -/
def pantryZero (k : Nat) : Nat :=
  match k with
  | 1 => 256
  | 2 => 512 * 65536 + 8
  | 3 => 1024
  | 4 => 4096
  | 5 => 64 * 65536 + 4
  | 6 => 64 * 65536 + 64
  | 7 => 32 * 65536 + 4
  | _ => 0

/-- R522: instance 0; Stockpot units that it already holds stay its own. -/
def createZero (s : State) (f : Nat → Nat) : State :=
  let have_ := ((List.range 5120).filter (fun i => s.get (MEM_SP_TAG_TAG i) == 0)).length
  let want := bits (f 2) 16 13
  let s := createInst s 0 (fun k => if k = 2 then (want - have_) * 65536 + bits (f 2) 0 7 else f k)
  s.put (INS_PANTRY_WORD 0 2) (f 2)

def stageDone (s : State) : State :=
  if s.flag BOOT_STAGE_DRAM_READY && s.flag BOOT_STAGE_RT_READY then
    { s.put BOOT_STAGE_STAGE 4 with boot := { s.boot with next := 4 } }
  else s

/-- BOOT_S2_MC: MC0 and MC1 run, the endpoint is ready, instance 0 exists, BOOTCFG is applied: `pantry` the words F1–F12 that it
replaces (none: Table 14.2), `writes` its register writes. -/
def bootS2 (s : State) (pantry : Option (List (BitVec 32))) (writes : List (BitVec 40 × BitVec 32)) : State :=
  if s.boot.next ≠ 2 ∨ s.get BOOT_STAGE_STAGE = 15 then s
  else
    let s := s.when s.boot.mgmt cleanTenants
    let f (k : Nat) : Nat := match pantry with | some l => (l.getD (k - 1) 0).toNat | none => pantryZero k
    let s := createZero { s with hif := { s.hif with crs := false }, boot := { s.boot with mgmt := false, next := 3 } } f
    let s := mcWrites (s.puts [(BOOT_STAGE_HOST_READY, 1), (BOOT_STAGE_STAGE, 3)]) [] writes
    stageDone (stageEnd s 2)

/-- BOOT_S3_DRAM (R708). -/
def bootS3 (s : State) : State :=
  if s.boot.next ≠ 3 ∨ s.flag BOOT_STAGE_DRAM_READY ∨ s.get DRM_STAT_STATE ≠ stREADY then s
  else stageDone (stageEnd (s.put BOOT_STAGE_DRAM_READY 1) 3)

/-- BOOT_S4_REALTIME: REFBUF, the writes of BOOTCFG, and the DSP and cluster images that it names. -/
def bootS4 (s : State) (writes : List (BitVec 40 × BitVec 32)) (loaded : List Nat) : State :=
  if s.boot.next ≠ 3 ∨ s.flag BOOT_STAGE_RT_READY then s
  else
    let l := presentAll s
    let named := l.filter (fun e => 0x10 ≤ e.1.comp && e.1.comp < 0x30 && loaded.contains e.1.comp)
    let s := mcWrites (refCtrl s true) (named.map (fun e => (e.1.comp, bodyWords e.2))) writes
    let s := named.foldl (fun s e =>
      s.put (BOOT_COMP_STATUS (compIndex e.1.comp)) (loadedStatus s l e.1)) s
    stageDone (stageEnd (s.put BOOT_STAGE_RT_READY 1) 4)

/-- SAFETY_RESEND (R706). -/
def safetyResend (s : State) : State :=
  if !s.boot.resend then s
  else sendSafety ({ s with boot := { s.boot with resend := false } } : State) (present s 3).isSome

/-! ### IMAGE_LOAD (R715) -/

/-- R22: a channel bound to the DSP of component `c` is out of STO. -/
def dspBusy (s : State) (c : Nat) : Bool := 0x10 ≤ c && c < 0x14 && dspChannelOut s (c - 0x10)

/-- Table 1.1: components that may be reloaded at run time. -/
def reloadable (c : Nat) : Bool := (0x10 ≤ c && c < 0x14) || (0x20 ≤ c && c < 0x24)

/-- The set of images with the new one in place of the present one of its component. -/
def withImage (l : List (Image × List Byte)) (i : Image) (b : List Byte) : List (Image × List Byte) :=
  components.filterMap (fun c => if c = i.comp then some (i, b) else l.find? (fun e => e.1.comp == c))

/-- IMAGE_LOAD: `img` are the bytes that the ring engine reads (none: the read failed), `writes` what MC0 writes to load them. -/
def imageLoad (s : State) (r sess len : Nat) (pl : List Byte) (img : Option (List Byte)) (writes : List (BitVec 40 × BitVec 32)) : State :=
  let comp := le pl 0 2
  let flags := le pl 2 2
  let run := bit flags 1
  match msgItem s r with
  | none => s
  | some d =>
    if pl.length = 16 ∧ run = true ∧ dspBusy s comp then
      message s r 0x0031 sess len pl 16 (some skMANAGER) (fun s _ _ => finishItem s r [d] stDENIED_SESSION (fun _ => 0))
    else
      message s r 0x0031 sess len pl 16 (some skMANAGER) (fun s t n =>
        match img with
        | none => finishItem s r [d] stFAILED_DMA (fun _ => 0)
        | some b =>
          if run && 0x20 ≤ comp && comp < 0x24 && !clusterHalted s (comp - 0x20) then reply s t rsBUSY 0 []
          else
            match imageOf s b with
            | none => reply s t rsBAD_FORMAT 0 []
            | some i =>
              if i.comp ≠ comp ∨ b.length ≠ le pl 4 4 ∨ (run = true ∧ reloadable comp = false) then reply s t rsBAD_FORMAT 0 []
              else if s.get BOOT_VERDICT_VERDICT = vdTESTED ∧ (verdictOf s (withImage (presentAll s) i b)).1 ≠ vdTESTED then reply s t rsDENIED 0 []
              else
                let (target, s) := s.fresh 8
                let ws := writes.flatMap (fun e => [e.1.toNat, e.2.toNat])
                commitMsg s t n rtIMAGE_LOAD (leBytes 2 comp ++ leBytes 4 i.ver ++ leBytes 1 target) rsOK ([comp, flags, i.ver, writes.length] ++ ws ++ nums b))

/-- The pairs of a flat list. -/
def pairsOf : Nat → List Nat → List (BitVec 40 × BitVec 32)
  | n + 1, a :: v :: t => (BitVec.ofNat 40 a, BitVec.ofNat 32 v) :: pairsOf n t
  | _, _ => []

/-- The image replaces the older copy of its component (R711, R715). -/
def storeImage (s : State) (c : Nat) (b : List Byte) : State :=
  let keep := (present s c).map (·.2)
  let others := s.boot.ospi.filter (fun e => e.1 != c)
  { s with boot := { s.boot with ospi := others ++ (match keep with | some k => [(c, k)] | none => []) ++ [(c, b)] } }

/-- R715: the load that RUN orders. -/
def imageRun (s : State) (comp ver n : Nat) (rest : List Nat) (b : List Byte) : State :=
  let s := mcWrites s [(comp, bodyWords b)] (pairsOf n rest)
  let st := match imageOf s b with | some i => loadedStatus s (withImage (presentAll s) i b) i | none => csLOADED
  s.puts [(BOOT_COMP_VER_VERSION (compIndex comp), ver), (BOOT_COMP_STATUS (compIndex comp), st)]

/-- R21, R22, R715: the loads that the state refuses: a DSP with a bound channel out of STO, a cluster that is not halted. -/
def loadRefused (s : State) (comp : Nat) : Bool := dspBusy s comp || (0x20 ≤ comp && comp < 0x24 && !clusterHalted s (comp - 0x20))

/-- The end of the commit of an IMAGE_LOAD: STORE and RUN; a RUN that the state has come to refuse in the meantime is answered as
R715 answers it, and nothing is loaded. -/
def imageCommitted (s : State) (args : List Nat) (ok : Bool) : State :=
  match args with
  | r :: seq :: typ :: sess :: len :: _ :: _ :: comp :: flags :: ver :: n :: rest =>
    let b := bytesOf (rest.drop (2 * n))
    let s := if ok && bit flags 0 then storeImage s comp b else s
    if !ok || !bit flags 1 then msgCommitted s args ok
    else if dspBusy s comp then finish s r seq { status := stDENIED_SESSION, length := 0 }
    else if loadRefused s comp then reply s { r := r, seq := seq, typ := typ, sess := sess, len := len } rsBUSY 0 []
    else msgCommitted (imageRun s comp ver n rest b) args ok
  | _ => msgCommitted s args ok

/-! ### The end of a commit -/

/-- LEDGER_COMMIT_DONE (R412): what the submission awaited follows (R410). -/
def ledgerDone (s : State) (ok : Bool) : State :=
  let (s, q) := commitEnd s ok
  match q.bind (·.after) with
  | none => s
  | some a =>
    if a.code = afterPROFILE then profileCommitted s ok
    else if a.code = afterMSG then
      if a.args.getD 2 0 = 0x0031 then imageCommitted s a.args ok else msgCommitted s a.args ok
    else if a.code = afterERASED then erasedCommitted s a.args ok
    else if a.code = afterPRUNE && ok then pruneErase s (a.args.getD 0 0)
    else s

end Sys2Proof.Machine
end

