-- ==== Sys2Proof/Machine/Deliver.lean ====
section
/-! DEFINITION. Compare events and their consumers (02_turnspit.md, section 2.7). -/
namespace Sys2Proof.Machine
open Sys2Proof.Reg

/-- R97, Table 2.5: the event of a firing reaches its one consumer. -/
def deliverEvent (s : State) (cons : Nat) : State :=
  if 0x10 ≤ cons ∧ cons ≤ 0x13 then xferEvent s (cons - 0x10)
  else if 0x18 ≤ cons ∧ cons ≤ 0x1F then urgRequest s (cons - 0x18) true
  else if 0x20 ≤ cons ∧ cons ≤ 0x9F then dspRelease s ((cons - 0x20) / 32) ((cons - 0x20) % 32) (wrap 32 s.T)
  else if 0xA0 ≤ cons ∧ cons ≤ 0xDF then threadWake s (cons - 0xA0) causeTSP
  else if 0xE0 ≤ cons ∧ cons ≤ 0xE7 then gateFire s (cons - 0xE0)
  else if cons = 0xE8 then valTrigger s false
  else if cons = 0xF0 then safCapture s
  else if cons = 0xF1 then odoCapture s
  else s

/-- COMPARE_FIRE (R82–R95): unit `u` fires when it is due; on a LOST or ACQUIRING source a due crossing is held (R90);
a second crossing within the nanosecond only advances the target (R93). -/
def compareFire (s : State) (u : Nat) : State :=
  match (s.cmp u).arm with
  | none => s
  | some a =>
    if a.src < 8 && srcHolds s a.src then
      if wouldBeDue s a.src a.dir a.lead a.tgt a.armT then s.put (TSP_CMP_STAT_HELD u) 1 else s
    else if unitDue s u then
      if (s.cmp u).firedT = some s.T then overrunUnit s u a else deliverEvent (fireUnit s u a) a.cons
    else s

end Sys2Proof.Machine
end

