-- ==== Sys2Proof/Machine/Satellite.lean ====
section
/-! DEFINITION. The HN-9016 satellite (09_cell_monitoring.md): its frames, its conversion window, balancing, open-wire runs, sleep. -/
namespace Sys2Proof.Machine
open Sys2Proof.Reg

/-- The satellites' own time: it runs with T, and goes on while the main rails are off (log entry 221). -/
def State.satT (s : State) : Nat := s.val.now

/-- R389: the satellite of port `p`; 100 µs after its CMD_ACK to SLEEP it is asleep and keeps its identity only. -/
def State.sat (s : State) (p : Nat) : Sat :=
  let x := s.val.sat.get {} p
  match x.sleepAt with
  | some t => if t ≤ s.satT then { cause := x.cause } else x
  | none => x
def State.setSat (s : State) (p : Nat) (x : Sat) : State := s.setVal { s.val with sat := s.val.sat.set p x }

/-- Fields of the registers (Table 9.14). -/
def Sat.ncell (x : Sat) : Nat := bits x.cfg 12 4 + 1
def Sat.convT (x : Sat) : Nat := convNs (bits x.cfg 10 2)
def Sat.delayT (x : Sat) : Nat := delayNs (bits x.cfg 8 2)

/-- The open-wire run is in progress at `t`. -/
def Sat.owdRuns (x : Sat) (t : Nat) : Bool := match x.owdT with | some t0 => t0 ≤ t | none => false

/-- R380, R382: the lines on which an open-wire run draws at present: C0 from its source, C1 to C(NCELL) into their sinks, from the
end of the conversion of V_off through OW_SETTLE to that of V_on; bit k: line Ck. -/
def openWireSinks (s : State) (x : Sat) : Nat :=
  match x.owdT with
  | some t => if t + x.convT ≤ s.satT ∧ s.satT < t + 2 * x.convT + wrap 8 x.owCfg * 500000 then 2 ^ (x.ncell + 1) - 1 else 0
  | none => 0

/-- Table 9.14, STATUS. -/
def satStatus (s : State) (x : Sat) : Nat :=
  b2n (x.fault != 0) * 2 ^ 15 + b2n x.fresh * 2 ^ 14 + b2n (x.owdRuns s.satT) * 2 ^ 13 + b2n x.owdDone * 2 ^ 12 + b2n x.lim * 2 ^ 11 + b2n x.stop * 2 ^ 10

/-- R377–R379: the switches that are closed. -/
def closedSwitches (s : State) (x : Sat) : Nat :=
  if !x.awake || x.win.isSome || x.owdRuns s.satT || x.stop then 0
  else
    let on := x.balEn % 2 ^ x.ncell
    if x.lim then (BitVec.ofNat 16 on &&& (if x.even then 0xAAAA else 0x5555)).toNat else on

/-- A valid frame has arrived. -/
def satHeard (s : State) (p : Nat) : State := s.setSat p { s.sat p with frameT := s.satT }

/-- A reply of the satellite. -/
def satSend (s : State) (p typ : Nat) (pl : List Byte) : State := s.emit (.valolo p true (frameOf typ pl))

def satNak (s : State) (p reason typ : Nat) : State :=
  satSend s p 0xFF (leBytes 2 (satStatus s (s.sat p)) ++ leBytes 1 reason ++ leBytes 1 typ)

/-- A reply that carries STATUS only. -/
def satAck (s : State) (p typ : Nat) : State := satSend s p typ (leBytes 2 (satStatus s (s.sat p)))

/-- R364: T at the end of a reply of `len` payload bytes, which begins 8–12 µs from now. -/
def replyEnd (s : State) (len : Nat) : Nat × State :=
  let (v, s) := s.fresh 32
  (s.satT + 8000 + v % 4001 + frameNs len, s)

/-- R363: a request of TYPE `typ` that the satellite accepts as a frame runs `f`. -/
def satRequest (s : State) (p typ : Nat) (pl : List Byte) (crc : Nat) (clean : Bool) (f : State → State) : State :=
  if (s.sat p).awake && frameValid typ pl crc clean then f (satHeard s p) else s

/-- R368, R382: a valid SYNC. -/
def satSync (s : State) (p : Nat) (pl : List Byte) (crc : Nat) (clean : Bool) : State :=
  satRequest s p 0x01 pl crc clean (fun s =>
    let x := s.sat p
    s.setSat p { x with win := some (ofLeBytes pl, s.satT, closedSwitches s x, x.owdT.isSome), owdT := none, synced := true })

/-- R371: a cell voltage in µV as its code. -/
def cellCode (uv : Int) : Nat := let c := roundDiv uv 100; if c < 0 then 0 else min 0xFFFF c.toNat
def cellOvr (uv : Int) : Bool := uv < 0 || 5100000 < uv

/-- R368, R371, R376: the window ends with the means of the cell voltages (µV), V(Tj) and V(VTREF) (µV), DIE_T and MODULE. -/
def satWindowEnd (s : State) (p : Nat) (cells : List Int) (temps : List Nat) (vtref die module : Nat) : State :=
  let x := s.sat p
  match x.win with
  | some (seq, t, bal, dis) =>
    if !x.awake ∨ s.satT < t + x.delayT + x.convT then s
    else
      let cs := (cells ++ List.replicate 16 0).take x.ncell
      let ts := (List.range 8).map (fun j => if vtref = 0 then 0xFFFF else min 0xFFFF (65536 * temps.getD j 0 / vtref))
      s.setSat p { x with win := none, seq := seq, cells := cs.map cellCode, temps := ts, die := wrap 16 die, module := wrap 16 module, bal := bal,
                          flags := b2n (cs.any cellOvr) + b2n dis * 4 }
  | none => s

/-- Table 9.14: a register of the satellite; none for an address the table does not list. -/
def satReg (s : State) (p a : Nat) : Option Nat :=
  let x := s.sat p
  if a = 0 then some (wrap 16 (Config.satId p))
  else if a = 1 then some (bits (Config.satId p) 16 16)
  else if a = 2 then some 0x0021
  else if a = 3 then some (satStatus s x)
  else if a = 4 then some x.cfg
  else if a = 5 then some x.owCfg
  else if a = 6 then some x.balCfg
  else if a = 7 then some x.balEn
  else if a = 8 then some (wrap 16 x.owRes)
  else if a = 9 then some (bits x.owRes 16 1)
  else if a = 0x0B then some x.fault
  else if 0x10 ≤ a ∧ a < 0x20 then some (x.cells.getD (a - 0x10) 0)
  else if 0x20 ≤ a ∧ a < 0x28 then some (x.temps.getD (a - 0x20) 0)
  else if a = 0x28 then some x.die
  else if a = 0x29 then some x.module
  else if a = 0x2A then some x.seq
  else none

/-- R365, R392: RD. -/
def satRd (s : State) (p : Nat) (pl : List Byte) (crc : Nat) (clean : Bool) : State :=
  satRequest s p 0x02 pl crc clean (fun s =>
    let a := ofLeBytes (pl.take 1)
    let n := ofLeBytes (pl.drop 1)
    let ws := (List.range n).map (fun i => satReg s p (a + i))
    if n = 0 ∨ 32 < n ∨ ws.any Option.isNone then satNak s p 2 0x02
    else satSend s p 0x82 (leBytes 2 (satStatus s (s.sat p)) ++ words16 (ws.map (·.getD 0))))

/-- One written word. -/
def satPut (s : State) (p a v : Nat) : State :=
  let x := s.sat p
  if a = 4 then s.setSat p { x with cfg := v / 256 * 256, fresh := false }
  else if a = 5 then s.setSat p { x with owCfg := v }
  else if a = 6 then s.setSat p { x with balCfg := v }
  else s.setSat p { x with balEn := v, balT := s.satT }

/-- R365, R377: WR. -/
def satWr (s : State) (p : Nat) (pl : List Byte) (crc : Nat) (clean : Bool) : State :=
  satRequest s p 0x03 pl crc clean (fun s =>
    let a := ofLeBytes (pl.take 1)
    let n := ofLeBytes ((pl.drop 1).take 1)
    let as := (List.range n).map (fun i => a + i)
    if pl.length ≠ 2 + 2 * n then satNak s p 1 0x03
    else if n = 0 ∨ 8 < n ∨ as.any (fun k => (satReg s p k).isNone) then satNak s p 2 0x03
    else if as.any (fun k => k < 4 || 7 < k) then satNak s p 3 0x03
    else
      let s := (List.range n).foldl (fun s i => satPut s p (a + i) (ofLeBytes ((pl.drop (2 + 2 * i)).take 2))) s
      satAck s p 0x83)

/-- R368, Table 9.6: GET_SET. -/
def satGetSet (s : State) (p : Nat) (pl : List Byte) (crc : Nat) (clean : Bool) : State :=
  satRequest s p 0x04 pl crc clean (fun s =>
    let x := s.sat p
    let flags := x.flags + b2n (!x.synced) * 2 + b2n x.lim * 8 + b2n x.stop * 16
    let cells := (List.range 16).map (fun k => x.cells.getD k 0)
    let temps := (List.range 8).map (fun j => x.temps.getD j 0)
    let b := leBytes 2 (satStatus s x) ++ leBytes 2 x.seq ++ words16 cells ++ words16 temps ++ leBytes 2 x.die ++ leBytes 2 x.module ++ leBytes 2 x.bal ++ leBytes 2 flags
    satSend (s.setSat p { x with synced := false }) p 0x84 b)

/-- R365: a CMD with CODE `code`. -/
def satCmd (s : State) (p code : Nat) (pl : List Byte) (crc : Nat) (clean : Bool) (f : State → State) : State :=
  satRequest s p 0x05 pl crc clean (fun s =>
    if ofLeBytes (pl.take 1) = code ∧ ofLeBytes (pl.drop 1) = 0 then f s else satNak s p 5 0x05)

/-- R380, R392: OWD_RUN. -/
def satOwdRun (s : State) (p : Nat) (pl : List Byte) (crc : Nat) (clean : Bool) : State :=
  satCmd s p 1 pl crc clean (fun s =>
    if (s.sat p).owdT.isSome then satNak s p 4 0x05
    else
      let (t, s) := replyEnd s 2
      let s := s.setSat p { s.sat p with owdDone := false }
      (satAck s p 0x85).setSat p { s.sat p with owdT := some t })

/-- R389: SLEEP. -/
def satSleep (s : State) (p : Nat) (pl : List Byte) (crc : Nat) (clean : Bool) : State :=
  satCmd s p 2 pl crc clean (fun s =>
    let (t, s) := replyEnd s 2
    (satAck s p 0x85).setSat p { s.sat p with sleepAt := some (t + 100000) })

/-- R392: CLEAR_FAULT. -/
def satClearFault (s : State) (p : Nat) (pl : List Byte) (crc : Nat) (clean : Bool) : State :=
  satCmd s p 3 pl crc clean (fun s =>
    let x := s.sat p
    satAck (s.setSat p { x with fault := (BitVec.ofNat 4 x.fault &&& BitVec.ofNat 4 x.cause).toNat }) p 0x85)

/-- R365: a valid request of unknown type, or a CMD with an unknown CODE. -/
def satUnknown (s : State) (p typ : Nat) (pl : List Byte) (crc : Nat) (clean : Bool) : State :=
  satRequest s p typ pl crc clean (fun s =>
    if (1 ≤ typ ∧ typ ≤ 4) ∨ (typ = 5 ∧ 1 ≤ ofLeBytes (pl.take 1) ∧ ofLeBytes (pl.take 1) ≤ 3 ∧ ofLeBytes (pl.drop 1) = 0) then s else satNak s p 5 typ)

/-- R381: the lines that a run flags, from ΔV in µV of the cells and the threshold in µV. -/
def openLines (n : Nat) (thr : Int) (dv : List Int) : Nat :=
  let d (k : Nat) : Int := dv.getD (k - 1) 0
  ((List.range (n + 1)).filter (fun k =>
    if k = 0 then d 1 < -thr else if k = n then d n < -thr else d k < -thr && thr < d (k + 1))).foldl setBit 0

/-- R380–R382: the run ends with the voltages of both conversions, in µV. -/
def satOwdComplete (s : State) (p : Nat) (off on : List Int) : State :=
  let x := s.sat p
  match x.owdT with
  | some t =>
    if !x.awake ∨ s.satT < t + 2 * x.convT + wrap 8 x.owCfg * 500000 then s
    else
      let dv := (List.range 16).map (fun k => on.getD k 0 - off.getD k 0)
      s.setSat p { x with owdT := none, owdDone := true, owRes := openLines x.ncell (bits x.owCfg 8 8 * 10000) dv }
  | none => s

/-- R378, R389: asleep, the satellite keeps ID and REV only. -/
def satSleeps (s : State) (p : Nat) : State := s.setSat p { cause := (s.sat p).cause }

/-- R389: 2.0 s ± 10 % without a valid frame. -/
def satSilence (s : State) (p : Nat) : State :=
  let x := s.sat p
  if x.awake ∧ x.frameT + 1800000000 ≤ s.satT then satSleeps s p else s

/-- R378: BAL_EN has not been written for BAL_TMO seconds. -/
def balTimeout (s : State) (p : Nat) : State :=
  let x := s.sat p
  if x.awake ∧ x.balT + bits x.balCfg 8 8 * 1000000000 ≤ s.satT then s.setSat p { x with balEn := 0 } else s

/-- R376, R379: the die temperature, in 0.1 °C, measured every 100 ms. -/
def dieCheck (s : State) (p : Nat) (die : Int) : State :=
  let x := s.sat p
  if !x.awake ∨ s.satT < x.dieAt + 100000000 then s
  else
    let lim : Int := 10 * (wrap 8 x.balCfg : Nat)
    let x := { x with dieT := die, dieAt := s.satT }
    if die < lim - 100 then s.setSat p { x with lim := false, stop := false }
    else
      let x := if lim < die ∧ !x.lim then { x with lim := true, even := false, altT := s.satT } else x
      s.setSat p (if lim + 150 < die then { x with stop := true } else x)

/-- R379: odd and even cells alternate every second. -/
def balAlternate (s : State) (p : Nat) : State :=
  let x := s.sat p
  if x.awake ∧ x.lim ∧ x.altT + 1000000000 ≤ s.satT then s.setSat p { x with even := !x.even, altT := s.satT } else s

/-- R389: a wake burst of `ns` ns reaches the satellite. -/
def wakeBurst (s : State) (p ns : Nat) : State :=
  let x := s.sat p
  if x.awake ∨ ns < 100000 then s
  else s.setSat p { awake := true, frameT := s.satT, balT := s.satT, dieAt := s.satT, cause := x.cause, fault := x.cause }

/-- R392: the causes of register 0x0B that are present. -/
def satCauses (s : State) (p causes : Nat) : State :=
  let x := s.sat p
  let c := wrap 4 causes
  if x.awake then s.setSat p { x with cause := c, fault := (BitVec.ofNat 4 x.fault ||| BitVec.ofNat 4 c).toNat }
  else s.setSat p { x with cause := c }

end Sys2Proof.Machine
end

