-- ==== Sys2Proof/Machine/Storage.lean ====
section
/-! DEFINITION. Storage (section 16.11): namespaces, the NVMe commands of STORAGE-SQ rings, the SSD's completions. -/
namespace Sys2Proof.Machine
open Sys2Proof.Reg

def ocREAD : Nat := 1
def ocWRITE : Nat := 2
def ocFLUSH : Nat := 3
def ocWRITE_ZEROES : Nat := 4
def ocDEALLOCATE : Nat := 5

def ciXTS : Nat := 40
def ciXTS_OPEN : Nat := 41

/-- R622: every block of `data` under XTS with its SSD LBA as tweak; `code` tells encryption from decryption. -/
def xtsBlocks (code : Nat) (key : List Byte) (size : Nat) : Nat → Nat → List Byte → List Byte
  | 0, _, _ => []
  | n + 1, lba, b => fix size (Config.cipher code key [lba] (fix size (b.take size))) ++ xtsBlocks code key size n (lba + 1) (b.drop size)

def nsShift (e : TabEnt) : Nat := e.f 2 1
def nsXts (e : TabEnt) : Bool := e.flag 0 2
def nsBytes (e : TabEnt) (blocks : Nat) : Nat := blocks * 2 ^ nsShift e

/-- R621: the namespace of a descriptor, with the status that refuses it (0 none). -/
def nsCheck (s : State) (r : Nat) (d : Desc) : Option (Nat × TabEnt) × Nat :=
  let n := ringInst s r
  let i := n * 128 + bits (d.kw 0) 0 8
  let blocks := bits (d.kw 3) 0 16 + 1
  let lba := d.kw 1 + d.kw 2 * 2 ^ 32
  match (if bits (d.kw 0) 0 8 < 128 then s.ent? tkNS i else none) with
  | none => (none, stFAILED_FORMAT)
  | some e =>
    let rw := d.opc = ocREAD ∨ d.opc = ocWRITE
    if !e.flag 0 0 ∨ d.kw 0 / 256 ≠ 0 ∨ bits (d.kw 3) 16 16 ≠ 0 ∨ (rw ∧ (d.len ≠ nsBytes e blocks ∨ 1048576 < d.len)) ∨
        (¬rw ∧ (d.addr ≠ 0 ∨ d.len ≠ 0)) ∨ (d.opc = ocFLUSH ∧ (d.w.drop 4).any (· ≠ 0)) ∨
        (d.opc ≠ ocFLUSH ∧ e.f 16 8 < lba + blocks) then (none, stFAILED_FORMAT)
    else if (d.opc = ocWRITE ∧ e.flag 0 1) ∨ (nsXts e ∧ (e.lost ∨ e.key.isEmpty)) then (none, stDROPPED_POLICY)
    else (some (i, e), 0)

/-- Bytes of staging held by the commands at the SSD, and those of ring `r` there (R624). -/
def staged (s : State) : Nat := s.net.ssd.foldl (fun a c => a + c.len) 0
def atSsd (s : State) (r : Nat) : Nat := (s.net.ssd.filter (fun c => c.ring == r)).length

/-- The oldest item of STORAGE-SQ ring `r` with operation `opc`; `data` is what the host buffer of a WRITE holds. A command
that finds staging or the ring's QD full waits. -/
def storageCmd (s : State) (r opc : Nat) (data : List Byte) : State :=
  match nextItem s r rkSQ with
  | some [d] =>
    if d.opc ≠ opc then s
    else match nsCheck s r d with
      | (none, st) => finishItem s r [d] st (fun _ => 0)
      | (some (_, e), _) =>
        if s.get NET_NVME_STAT_STATE ≠ 2 then s
        else if s.get NET_NVME_CFG_QD ≤ atSsd s r ∨ s.get NET_NVME_CFG_STAGE * 4096 < staged s + d.len then s
        else
          let blocks := if opc = ocFLUSH then 0 else bits (d.kw 3) 0 16 + 1
          let lba := e.f 8 8 + d.kw 1 + d.kw 2 * 2 ^ 32
          let key := e.key.get [] 0
          let b := if opc ≠ ocWRITE then []
            else if nsXts e then xtsBlocks ciXTS key (2 ^ nsShift e) blocks lba data else fix d.len data
          let s := (startItem s r [d]).emit (.ssd opc (e.f 4 4) lba blocks b)
          let c : SsdCmd := { ring := r, seq := d.seq, opc := opc, len := d.len, xts := if nsXts e then some (ringInst s r * 128 + bits (d.kw 0) 0 8) else none,
                              lba := lba, t := s.T }
          { s with net := { s.net with ssd := s.net.ssd ++ [c] } }
  | _ => s

/-- The oldest command of descriptor `seq` at the SSD, taken out. -/
def takeCmd (s : State) (r seq : Nat) : Option SsdCmd × State :=
  let c := s.net.ssd.find? (fun c => c.ring == r && c.seq == seq)
  (c, { s with net := { s.net with ssd := match c with | some c => s.net.ssd.erase c | none => s.net.ssd } })

/-- R622, R623: the SSD completes the command of descriptor `seq`: `st` holds DNR, SCT and SC of an error (0 success), `data`
what a READ returned. The completion of an abandoned command is discarded (R624). -/
def ssdCompletion (s : State) (r seq st : Nat) (data : List Byte) : State :=
  match takeCmd s r seq with
  | (none, s) => s
  | (some c, s) =>
    if c.dead then s
    else if st ≠ 0 then finish s r seq { status := stFAILED_DMA, aux := wrap 12 st * 4 }
    else if c.opc ≠ ocREAD then finish s r seq { status := stOK, length := c.len }
    else match (s.ring r).descs.find? (fun d => d.seq == seq && d.done.isNone) with
      | none => s
      | some d =>
        let e := (c.xts.bind (s.ent? tkNS ·)).getD { img := [] }
        let b := if c.xts.isSome then xtsBlocks ciXTS_OPEN (e.key.get [] 0) (2 ^ nsShift e) (c.len / 2 ^ nsShift e) c.lba data else fix c.len data
        if c.xts.isSome && e.key.isEmpty then finishItem s r [d] stDROPPED_POLICY (fun _ => 0)
        else awaitDma (s.emit (.dma (ringInst s r) d.addr b)) r seq { status := stOK, length := c.len }

/-- R623: a command that the SSD has not completed within NET_NVME_TMO. -/
def nvmeTimeout (s : State) (r seq : Nat) : State :=
  match s.net.ssd.find? (fun c => c.ring == r && c.seq == seq) with
  | none => s
  | some c =>
    if s.T < c.t + s.get NET_NVME_TMO_MS * 1000000 then s
    else
      let s := (takeCmd s r seq).2.bump NET_NVME_STAT_TIMEOUTS
      if c.dead then s else finish s r seq { status := stFAILED_DMA, aux := 7 * 4 }

/-- R619: bring-up ends with `q` I/O queue pairs, at most 64, or fails; IOQ has no code for 64, which reads as a free value. -/
def nvmeBringup (s : State) (ok : Bool) (q : Nat) : State :=
  if s.get NET_NVME_STAT_STATE ≠ 1 then s
  else if ok then
    if q < 64 then s.puts [(NET_NVME_STAT_STATE, 2), (NET_NVME_STAT_IOQ, q)]
    else
      let (v, s) := s.fresh 6
      s.puts [(NET_NVME_STAT_STATE, 2), (NET_NVME_STAT_IOQ, v)]
  else s.put NET_NVME_STAT_STATE 3

end Sys2Proof.Machine
end

