-- ==== Sys2Proof/Machine/CmdAcquisition.lean ====
section
/-! DEFINITION. The meanings of the commands of continuous acquisition (03_continuous_acquisition.md), each over the block's shared operations. -/
namespace Sys2Proof.Machine

/-- R117: A START validates the bank to run and starts the unit at slot 0, or is refused with CFG_ERR. -/
def execAdcUnitStart (m : BitVec 8) (u : Fin 8) (s : State) : Result :=
  .next (adcCtrlWrite s m.toNat u.val 1)

/-- R121: A STOP lets a conversion in progress finish, abandons an idle OPEN wait and stops the unit. -/
def execAdcUnitStop (m : BitVec 8) (u : Fin 8) (s : State) : Result :=
  .next (adcCtrlWrite s m.toNat u.val 2)

/-- R118: A SWAP makes the inactive bank active at the end of the current pass, or at once on a stopped unit. -/
def execAdcUnitSwap (m : BitVec 8) (u : Fin 8) (s : State) : Result :=
  .next (adcCtrlWrite s m.toNat u.val 4)

/-- R118: At the end of the last slot of a pass a pending SWAP is validated and the bank changes. -/
def execAdcPassEnd (u : Fin 8) (s : State) : Result :=
  .next (passEnd s u.val)

/-- R115: The sequencer starts the next slot of the active bank, opening a conversion or an OPEN window. -/
def execSlotStart (u : Fin 8) (s : State) : Result :=
  .next (slotStart s u.val)

/-- R122: A write of URG_REQ is served as an urgent conversion inside an OPEN window or dropped and counted. -/
def execUrgReq (m : BitVec 8) (u : Fin 8) (v : BitVec 32) (s : State) : Result :=
  .next (urgReqWrite s m.toNat u.val v.toNat)

/-- R116: An OPEN window closes without a served request and the unit idles or starts the fill conversion. -/
def execOpenWindowClose (u : Fin 8) (s : State) : Result :=
  .next (windowClose s u.val)

/-- R125: At the sample instant the input is held and T and the tag-source position are captured. -/
def execSampleInstant (u : Fin 8) (code : BitVec 12) (range : BitVec 2) (s : State) : Result :=
  .next (sampleInstant s u.val code.toNat range.toNat)

/-- R112: A conversion completes and its result goes to LAST, the resolver path, the grid monitor and the DMA engine. -/
def execConversionEnd (u : Fin 8) (s : State) : Result :=
  .next (conversionEnd s u.val)

/-- R761: With QGUARD above 187 the held result is delivered once its QUIET window has ended. -/
def execQuietWindowEnd (u : Fin 8) (s : State) : Result :=
  .next (quietWindowEnd s u.val)

/-- R131: The DMA engine has written a record's four words and advances the buffer's write index. -/
def execAdcDmaCommit (u : Fin 8) (s : State) : Result :=
  .next (dmaCommit s u.val)

/-- R760: A write of URG_CFG is accepted or discarded by its input and buffer checks. -/
def execAdcUrgCfgWrite (m : BitVec 8) (u : Fin 8) (v : BitVec 32) (s : State) : Result :=
  .next (urgCfgWrite s m.toNat u.val v.toNat)

/-- R126: A read of LAST_VAL latches LAST_T, LAST_ANG and LAST_TURN of the same result. -/
def execLastValRead (m : BitVec 8) (u : Fin 8) (s : State) : Result :=
  .next (lastValRead s m.toNat u.val)

/-- R127: A read of LAST_ANG without a preceding LAST_VAL read latches LAST_TURN. -/
def execLastAngRead (m : BitVec 8) (u : Fin 8) (s : State) : Result :=
  .next (lastAngRead s m.toNat u.val)

/-- R135: ADC_REF_CTRL.EN going from 0 to 1 starts the 2.000 ms settling interval. -/
def execRefbufEnable (m : BitVec 8) (s : State) : Result :=
  .next (refCtrlWrite s m.toNat 1)

/-- R135: The settling interval ends and REFBUF is settled from that nanosecond. -/
def execRefbufSettled (s : State) : Result :=
  .next (refSettle s)

/-- R136: A REFBUF deviation persisting 1 µs ends the settled period, sets FAULT and counts a restart. -/
def execRefDeviationDetect (s : State) : Result :=
  .next (refDeviate s)

/-- R136: The end of a REFBUF deviation restarts the settling interval. -/
def execRefDeviationEnd (s : State) : Result :=
  .next (refRecover s)

/-- R143: A write of ADC_EXC_CFG starts or stops the resolver carrier and sets FREQ only while EN is 0. -/
def execAdcExcCfgWrite (m : BitVec 8) (v : BitVec 32) (s : State) : Result :=
  .next (excCfgWrite s m.toNat v.toNat)

/-- R140: An enabled comparator side whose tripped level persists FILT presents a trip request to its channels. -/
def execComparatorTrip (c : Fin 64) (x : CmpInput) (s : State) : Result :=
  .next (comparatorTrip s c.val x.high x.lvl.toNat x.held.toNat)

/-- R140: A comparator side that stopped tripping withdraws its request FILT × 4 ns later. -/
def execComparatorRelease (c : Fin 64) (x : CmpInput) (s : State) : Result :=
  .next (comparatorRelease s c.val x.high x.lvl.toNat x.held.toNat)

/-- R142: A write of ADC_CMPm_THR or CFG changes thresholds or enables unless LOCK is set. -/
def execAdcCmpWrite (m : BitVec 8) (c : Fin 64) (cfg : Bool) (v : BitVec 32) (s : State) : Result :=
  .next (adcCmpWrite s m.toNat c.val (b2n cfg) v.toNat)

/-- R142: The first write of LOCK freezes every comparator register until reset. -/
def execAdcCmpLock (m : BitVec 8) (v : BitVec 32) (s : State) : Result :=
  .next (adcLockWrite s m.toNat v.toNat)

end Sys2Proof.Machine
end

