-- ==== Sys2Proof/Machine/CmdAggregation.lean ====
section
/-! DEFINITION. The meanings of the commands of Qoronami aggregation (18_qoronami_aggregation.md), each over the block's shared operations. -/
namespace Sys2Proof.Machine

/-- R667: At each 20 ms multiple of G the AGG block captures θ, trim and cycle count. -/
def execCaptureGrid (s : State) : Result :=
  .next (captureGrid s)

/-- R668: The coordinator sends REF for a capture instant. -/
def execQorRefSend (s : State) : Result :=
  .next (qorRefSend s)

/-- R669: A node processes a REF, updating residual, trim target and injection slot. -/
def execQorRef (s : State) : Result :=
  .next (qorRef s)

/-- R681: A node accepting ISLAND writes CEASE_CMD and sets AGG_STAT.ISLAND. -/
def execQorIsland (s : State) : Result :=
  .next (qorIsland s)

/-- R683: A node accepting RESUME releases its island hold. -/
def execQorResume (s : State) : Result :=
  .next (qorResume s)

/-- R677: A coordinator answers JOIN with ACCEPT or REJECT. -/
def execQorJoin (s : State) : Result :=
  .next (qorJoin s)

/-- R675: A node receiving ACCEPT becomes JOINED. -/
def execQorAccept (s : State) : Result :=
  .next (qorAccept s)

/-- R675: A node receiving REJECT returns to SEEKING or ALIGN_FAIL. -/
def execQorReject (s : State) : Result :=
  .next (qorReject s)

/-- R677: A coordinator receiving LEAVE frees the member entry. -/
def execQorLeave (s : State) : Result :=
  .next (qorLeave s)

/-- R677: A coordinator receiving STATUS keeps the member entry alive. -/
def execQorStatus (s : State) : Result :=
  .next (qorStatus s)

/-- R675: A JOINING node repeats JOIN every 100 ms. -/
def execQorJoinRepeat (s : State) : Result :=
  .next (joinRepeat s)

/-- R675: A JOINED node without a usable REF for 100 ms enters HOLDOVER. -/
def execQorHoldoverEntry (s : State) : Result :=
  .next (holdoverEntry s)

/-- R679: HOLDOVER lasting AGG_HOLD makes the node LONE, zeroing its trim. -/
def execQorLoneEntry (s : State) : Result :=
  .next (loneEntry s)

/-- R677: A member without STATUS for 1 s is freed. -/
def execQorMemberTimeout (s : State) : Result :=
  .next (memberTimeout s)

/-- R680: AGG_CTRL.ISLAND makes the coordinator declare an island and send ISLAND. -/
def execAggIsland (m : BitVec 8) (close : Bool) (s : State) : Result :=
  .next (aggCtrlWrite s m.toNat (1 + 8 * b2n close))

/-- R683: AGG_CTRL.RESUME ends a declaration when causes are absent and sends RESUME. -/
def execAggResume (m : BitVec 8) (close : Bool) (s : State) : Result :=
  .next (aggCtrlWrite s m.toNat (2 + 8 * b2n close))

/-- R676: AGG_CTRL.LEAVE makes a node send LEAVE and return to SEEKING. -/
def execAggLeave (m : BitVec 8) (close : Bool) (s : State) : Result :=
  .next (aggCtrlWrite s m.toNat (4 + 8 * b2n close))

/-- R677: AGG_CTRL.CLOSE makes the coordinator refuse JOINs. -/
def execAggClose (m : BitVec 8) (on : Bool) (s : State) : Result :=
  .next (aggCtrlWrite s m.toNat (8 * b2n on))

/-- R667: A read of AGG_CAPk_G_LO latches the capture entry's other words. -/
def execAggCapRead (m : BitVec 8) (k : Fin 4) (s : State) : Result :=
  .next (aggCapRead s m.toNat k.val)

end Sys2Proof.Machine
end

