-- ==== Sys2Proof/Machine/CmdBoot.lean ====
section
/-! DEFINITION. The meanings of the commands of clocks, power, reset and boot (19_clocks_power_boot.md), each over the block's shared operations. -/
namespace Sys2Proof.Machine

/-- R685: OSC25 without edges for 200 ns holds the PLLs, sets REF_LOST and raises clock faults. -/
def execOsc25Loss (s : State) : Result :=
  .next (oscLoss s)

/-- R685: OSC25 returns and the PLLs relock. -/
def execOsc25Return (s : State) : Result :=
  .next (oscReturn s)

/-- R691: PARK starts the parking sequence or is refused while a channel is out of STO. -/
def execPark (m : BitVec 8) (s : State) : Result :=
  .next (park s m.toNat)

/-- R691: The parking sequence ends with T stored and PWREN low. -/
def execParkDone (s : State) : Result :=
  .next (parkDone s)

/-- R693: An enabled wake source ends the parked state and raises PWREN. -/
def execWakeSource (w0 : Option Bool) (w1 : Option Bool) (ticks : BitVec 48) (s : State) : Result :=
  .next (wakeSource s w0 w1 ticks.toNat)

/-- R695: PORn falling while PWREN is high sets UNPLANNED. -/
def execUnplannedPowerLoss (saf : Bool) (s : State) : Result :=
  .next (powerLoss s saf)

/-- R697: VBAT applied after removal performs a COLD reset and clears T. -/
def execVbatApply (s : State) : Result :=
  .next (vbatApply s)

/-- R741: VBAT below 2.0 V loses the always-on state. -/
def execVbatBrownout (mv : Nat) (s : State) : Result :=
  .next (vbatBrownout s mv)

/-- R697: PORn low performs a POWER reset. -/
def execPornLow (saf : Bool) (s : State) : Result :=
  .next (pornLow s saf)

/-- R698: RST_CTRL.WARM performs a WARM reset or is refused. -/
def execWarm (m : BitVec 8) (jfail : Bool) (cut : List CutBurst) (s : State) : Result :=
  .next (warm s m.toNat jfail cut)

/-- R702: RST_CTRL.MGMT performs a MGMT reset of the management complex. -/
def execMgmt (m : BitVec 8) (jfail : Bool) (cut : List CutBurst) (s : State) : Result :=
  .next (mgmt s m.toNat jfail cut)

/-- R700: A missed management watchdog kick starts a MGMT reset. -/
def execMgmtWdogExpiry (jfail : Bool) (cut : List CutBurst) (s : State) : Result :=
  .next (wdogExpiry s jfail cut)

/-- R700: A write of RST_WDOG_KICK restarts an MC's watchdog interval. -/
def execWdogKick (m : BitVec 8) (v : BitVec 32) (s : State) : Result :=
  .next (wdogKick s m.toNat v.toNat)

/-- R699: PERST, hot reset or link down performs a HOST reset. -/
def execHostReset (jfail : Bool) (s : State) : Result :=
  .next (hostReset s jfail)

/-- R705: SAF_RSTn low or VDD_SAF power-on resets the safety domain and withdraws every permit. -/
def execSafRstn (s : State) : Result :=
  .next (safRstn s)

/-- R706: After a safety domain restart the security core resends the image and set. -/
def execSafetyResend (s : State) : Result :=
  .next (safetyResend s)

/-- R707: Stage S0 completes with the security-core image verified and started. -/
def execBootS0Rom (prog : Option (List (Nat × List Byte))) (s : State) : Result :=
  .next (bootS0 s prog)

/-- R712: Stage S1 completes with the verdict latched, BOOT committed and the safety image sent. -/
def execBootS1Sc (cut : BitVec 2) (missing : Nat) (altered : Bool) (s : State) : Result :=
  .next (bootS1 s cut.toNat missing altered)

/-- R707: Stage S2 completes with MC running, the endpoint ready and instance 0 created. -/
def execBootS2Mc (pantry : Option (List (BitVec 32))) (writes : List (BitVec 40 × BitVec 32)) (s : State) : Result :=
  .next (bootS2 s pantry writes)

/-- R708: Stage S3 completes and DRAM_READY is set. -/
def execBootS3Dram (s : State) : Result :=
  .next (bootS3 s)

/-- R707: Stage S4 completes with real-time blocks configured and loaded. -/
def execBootS4Realtime (writes : List (BitVec 40 × BitVec 32)) (loaded : List Nat) (s : State) : Result :=
  .next (bootS4 s writes loaded)

/-- R707: PORn rises after a POWER reset and the controller starts boot stage S0, restoring T. -/
def execPornRelease (ticks : BitVec 48) (s : State) : Result :=
  .next (pornRelease s ticks.toNat)

/-- R699: PCIE_PERSTn rises and the endpoint trains its link and stops answering with CRS within 20 ms. -/
def execPerstRelease (speed : BitVec 4) (width : BitVec 6) (s : State) : Result :=
  .next (perstRelease s speed.toNat width.toNat)

/-- R685: A PLL loses lock, LAST_PLL and CLK_LOSS.COUNT record it, and the PLL relocks. -/
def execPllLossOfLock (k : Fin 9) (s : State) : Result :=
  .next (pllLoss s k.val)

end Sys2Proof.Machine
end

