-- ==== Sys2Proof/Machine/CmdDsp.lean ====
section
/-! DEFINITION. The meanings of the commands of the control DSPs (04_control_dsp.md, 05_dsp_instruction_set.md), each over the block's shared operations. -/
namespace Sys2Proof.Machine

/-- R196: A RESET of CDn clears its pipeline, registers, stacks and pending bits and holds it in RESET. -/
def execCdReset (m : BitVec 8) (n : Fin 4) (cut : List CutBurst) (s : State) : Result :=
  .next (if isMC m.toNat then cdCtrlWrite (cutBursts s cut) m.toNat n.val 4 else cdCtrlWrite s m.toNat n.val 4)

/-- R197: A HALT stops the DSP after the instruction in EXEC completes. -/
def execCdHalt (m : BitVec 8) (n : Fin 4) (s : State) : Result :=
  .next (cdCtrlWrite s m.toNat n.val 2)

/-- R197: A RUN resumes a halted DSP at CDn_PC or starts a held DSP at VBASE + 0. -/
def execCdRun (m : BitVec 8) (n : Fin 4) (s : State) : Result :=
  .next (cdCtrlWrite s m.toNat n.val 1)

/-- R198: A manager access to the PM, DA or DB aperture succeeds only while the DSP is halted or held in reset. -/
def execCdApertureAccess (m : BitVec 8) (n : Fin 4) (write : Bool) (off : BitVec 20) (v : BitVec 32) (s : State) : Result :=
  .next (cdAperture s m.toNat n.val write (0x40000 + off.toNat % 0x60000) v.toNat)

/-- R187: A write of REL_SET makes the named release lines pending and stores the current T. -/
def execRelSet (m : BitVec 8) (n : Fin 4) (v : BitVec 32) (s : State) : Result :=
  .next (relSet s m.toNat n.val v.toNat)

/-- R192: A write of REL_CANCEL clears pending lines and counts CANCELLED_BEFORE_START. -/
def execRelCancel (m : BitVec 8) (n : Fin 4) (v : BitVec 32) (s : State) : Result :=
  .next (relCancel s m.toNat n.val v.toNat)

/-- R190: A pending source above SR.IPL is accepted, squashing the pipeline, pushing address and SR and fetching the handler. -/
def execDspAccept (n : Fin 4) (s : State) : Result :=
  .next (dspAccept s n.val)

/-- R182: The coprocessor ends its latency and writes CPX, CPY and CPF, or suppresses them when squashed. -/
def execCoprocComplete (n : Fin 4) (s : State) : Result :=
  .next (coprocComplete s n.val)

/-- R204: P-class MOVE performs only its parallel move field. -/
def execDspMove (n : Fin 4) (s : State) : Result :=
  .next (dspRow s n.val (.alu 0x00))

/-- R151: MUL places the product of two D registers in ACCd. -/
def execDspMul (n : Fin 4) (s : State) : Result :=
  .next (dspRow s n.val (.alu 0x01))

/-- R208: MULN places the negated product in ACCd. -/
def execDspMuln (n : Fin 4) (s : State) : Result :=
  .next (dspRow s n.val (.alu 0x02))

/-- R208: MAC adds the product to ACCd. -/
def execDspMac (n : Fin 4) (s : State) : Result :=
  .next (dspRow s n.val (.alu 0x03))

/-- R208: MSU subtracts the product from ACCd. -/
def execDspMsu (n : Fin 4) (s : State) : Result :=
  .next (dspRow s n.val (.alu 0x04))

/-- R155: MULR places the rounded product in ACCd. -/
def execDspMulr (n : Fin 4) (s : State) : Result :=
  .next (dspRow s n.val (.alu 0x05))

/-- R155: MRA adds the product to ACCd and rounds. -/
def execDspMra (n : Fin 4) (s : State) : Result :=
  .next (dspRow s n.val (.alu 0x06))

/-- R208: ADD adds S to ACCd. -/
def execDspAdd (n : Fin 4) (s : State) : Result :=
  .next (dspRow s n.val (.alu 0x07))

/-- R208: SUB subtracts S from ACCd. -/
def execDspSub (n : Fin 4) (s : State) : Result :=
  .next (dspRow s n.val (.alu 0x08))

/-- R208: CMP S,ACCd sets flags of ACCd − S. -/
def execDspCmp (n : Fin 4) (s : State) : Result :=
  .next (dspRow s n.val (.alu 0x09))

/-- R208: CMP Dx,Dy sets flags of Dy − Dx. -/
def execDspCmpDxdy (n : Fin 4) (s : State) : Result :=
  .next (dspRow s n.val (.alu 0x0A))

/-- R210: AND masks H of ACCd with S. -/
def execDspAnd (n : Fin 4) (s : State) : Result :=
  .next (dspRow s n.val (.alu 0x0B))

/-- R210: OR combines H of ACCd with S. -/
def execDspOr (n : Fin 4) (s : State) : Result :=
  .next (dspRow s n.val (.alu 0x0C))

/-- R210: XOR combines H of ACCd with S. -/
def execDspXor (n : Fin 4) (s : State) : Result :=
  .next (dspRow s n.val (.alu 0x0D))

/-- R210: NOT inverts H of ACCd. -/
def execDspNot (n : Fin 4) (s : State) : Result :=
  .next (dspRow s n.val (.alu 0x0E))

/-- R208: CLR sets ACCd to 0. -/
def execDspClr (n : Fin 4) (s : State) : Result :=
  .next (dspRow s n.val (.alu 0x0F))

/-- R208: NEG negates ACCd. -/
def execDspNeg (n : Fin 4) (s : State) : Result :=
  .next (dspRow s n.val (.alu 0x10))

/-- R208: ABS takes the magnitude of ACCd. -/
def execDspAbs (n : Fin 4) (s : State) : Result :=
  .next (dspRow s n.val (.alu 0x11))

/-- R155: RND rounds H:L of ACCd to H. -/
def execDspRnd (n : Fin 4) (s : State) : Result :=
  .next (dspRow s n.val (.alu 0x12))

/-- R209: ASL shifts ACCd left by 1. -/
def execDspAsl (n : Fin 4) (s : State) : Result :=
  .next (dspRow s n.val (.alu 0x13))

/-- R208: ASR shifts ACCd right arithmetically by 1. -/
def execDspAsr (n : Fin 4) (s : State) : Result :=
  .next (dspRow s n.val (.alu 0x14))

/-- R208: TST sets flags of ACCd. -/
def execDspTst (n : Fin 4) (s : State) : Result :=
  .next (dspRow s n.val (.alu 0x15))

/-- R208: CPY copies S into ACCd without flags. -/
def execDspCpy (n : Fin 4) (s : State) : Result :=
  .next (dspRow s n.val (.alu 0x16))

/-- R212: IMM-class MOVE writes a 24-bit immediate to any register. -/
def execDspMoveImm (n : Fin 4) (s : State) : Result :=
  .next (dspRow s n.val .movImm)

/-- R213: MOVE R,R′ copies one register to another. -/
def execDspMoveRr (n : Fin 4) (s : State) : Result :=
  .next (dspRow s n.val .movRR)

/-- R213: MOVE ea moves between a register and memory through a pointer mode. -/
def execDspMoveEa (n : Fin 4) (s : State) : Result :=
  .next (dspRow s n.val .movEA)

/-- R214: MOVE a moves between a register and an absolute or local I/O page address. -/
def execDspMoveAbs (n : Fin 4) (s : State) : Result :=
  .next (dspRow s n.val .movAbs)

/-- R215: LDP reads one PM word into a register. -/
def execDspLdp (n : Fin 4) (s : State) : Result :=
  .next (dspRow s n.val .ldp)

/-- R216: PADR writes to APj the address a mode would produce, without memory access. -/
def execDspPadr (n : Fin 4) (s : State) : Result :=
  .next (dspRow s n.val .padr)

/-- R218: ASH #s shifts ACCd by an immediate. -/
def execDspAshImm (n : Fin 4) (s : State) : Result :=
  .next (dspRow s n.val .ashImm)

/-- R218: ASH Dn shifts ACCd by Dn[5:0]. -/
def execDspAshReg (n : Fin 4) (s : State) : Result :=
  .next (dspRow s n.val .ashReg)

/-- R218: LSH shifts a D register logically. -/
def execDspLsh (n : Fin 4) (s : State) : Result :=
  .next (dspRow s n.val .lsh)

/-- R219: NRM normalises ACCd and writes the shift to Dn. -/
def execDspNrm (n : Fin 4) (s : State) : Result :=
  .next (dspRow s n.val .nrm)

/-- R218: ADDI adds a signed immediate aligned to H. -/
def execDspAddi (n : Fin 4) (s : State) : Result :=
  .next (dspRow s n.val .addi)

/-- R218: CMPI sets flags of ACCd minus an immediate. -/
def execDspCmpi (n : Fin 4) (s : State) : Result :=
  .next (dspRow s n.val .cmpi)

/-- R181: CROT dispatches a coprocessor rotation. -/
def execDspCrot (n : Fin 4) (s : State) : Result :=
  .next (dspRow s n.val .crot)

/-- R181: CVEC dispatches a coprocessor magnitude and angle computation. -/
def execDspCvec (n : Fin 4) (s : State) : Result :=
  .next (dspRow s n.val .cvec)

/-- R181: SQRT dispatches a coprocessor square root. -/
def execDspSqrt (n : Fin 4) (s : State) : Result :=
  .next (dspRow s n.val .sqrt)

/-- R181: DIV dispatches a coprocessor fractional divide. -/
def execDspDiv (n : Fin 4) (s : State) : Result :=
  .next (dspRow s n.val .div)

/-- R200: NOP does nothing. -/
def execDspNop (n : Fin 4) (s : State) : Result :=
  .next (dspRow s n.val .nop)

/-- R176: RTS pops the return address from the call stack. -/
def execDspRts (n : Fin 4) (s : State) : Result :=
  .next (dspRow s n.val .rts)

/-- R190: RTI pops the return address and SR. -/
def execDspRti (n : Fin 4) (s : State) : Result :=
  .next (dspRow s n.val .rti)

/-- R173: LPOP pops the top loop-stack entry. -/
def execDspLpop (n : Fin 4) (s : State) : Result :=
  .next (dspRow s n.val .lpop)

/-- R226: SWI makes vector 14 pending. -/
def execDspSwi (n : Fin 4) (s : State) : Result :=
  .next (dspRow s n.val .swi)

/-- R179: JMP transfers control unconditionally. -/
def execDspJmp (n : Fin 4) (s : State) : Result :=
  .next (dspRow s n.val .jmp)

/-- R176: CALL pushes the return address and jumps. -/
def execDspCall (n : Fin 4) (s : State) : Result :=
  .next (dspRow s n.val .call)

/-- R221: Bcc branches when its condition holds on the SR flags. -/
def execDspBcc (n : Fin 4) (s : State) : Result :=
  .next (dspRow s n.val .bcc)

/-- R168: LOOP Dn starts a hardware loop with a count from a register. -/
def execDspLoopReg (n : Fin 4) (s : State) : Result :=
  .next (dspRow s n.val .loopReg)

/-- R168: LOOP #c starts a hardware loop with an immediate count. -/
def execDspLoopImm (n : Fin 4) (s : State) : Result :=
  .next (dspRow s n.val .loopImm)

/-- R174: RPT #c repeats the next instruction an immediate count of times. -/
def execDspRptImm (n : Fin 4) (s : State) : Result :=
  .next (dspRow s n.val .rptImm)

/-- R174: RPT Dn repeats the next instruction a register count of times. -/
def execDspRptReg (n : Fin 4) (s : State) : Result :=
  .next (dspRow s n.val .rptReg)

/-- R163: A DSP's fabric access through a window or the local I/O page completes, ending the pipeline stall, delivering data or taking a bus fault. -/
def execDspWindowAccessDone (n : Fin 4) (s : State) : Result :=
  .next (dspAccessDone s n.val)

/-- R200: An instruction word with an undefined or non-zero reserved encoding reaches EXEC and raises the illegal-instruction fault. -/
def execDspIllegalEncoding (n : Fin 4) (s : State) : Result :=
  .next (dspRow s n.val .illegal)

end Sys2Proof.Machine
end

