-- ==== Sys2Proof/Machine/CmdFabric.lean ====
section
/-! DEFINITION. The meanings of the commands of the internal fabric and registers without a row of their own (00_scope.md, 01_one_part_four_scenes.md), each over the block's shared operations. -/
namespace Sys2Proof.Machine

/-- R16: A read of the low half of a 64-bit value returns it and latches the high half into the reader's shadow. -/
def execLowHalfRead (m : BitVec 8) (a : BitVec 40) (s : State) : Result :=
  .next (readReg s m.toNat a.toNat)

/-- R754: A read of an RC field returns it and clears it, or reduces the live field by the value returned when read from a shadow. -/
def execRcFieldRead (m : BitVec 8) (a : BitVec 40) (s : State) : Result :=
  .next (readReg s m.toNat a.toNat)

/-- R11: A write to a register that has no row of its own sets, clears or ignores its fields by access code and the register's conditions. -/
def execRegisterWrite (m : BitVec 8) (a : BitVec 40) (v : BitVec 32) (s : State) : Result :=
  .next (writeReg s m.toNat a.toNat v.toNat)

/-- R29: A master's access on the internal fabric is arbitrated and checked by the target firewall before the target sees it. -/
def execFabricAccess (l : List FabReq) (s : State) : Result :=
  .next (fabricAccess s l)

/-- R47: A write of POP removes the oldest fabric violation entry and shows the next one. -/
def execMemFabViolPop (m : BitVec 8) (v : BitVec 32) (s : State) : Result :=
  .next (violPop s m.toNat v.toNat)

/-- R48: A read of MEM_FAB_REQID returns the requester ID of the reading master. -/
def execMemFabReqidRead (m : BitVec 8) (s : State) : Result :=
  .next (reqidRead s m.toNat)

end Sys2Proof.Machine
end

