-- ==== Sys2Proof/Machine/CmdGrid.lean ====
section
/-! DEFINITION. The meanings of the commands of the grid and solar block (07_grid_and_solar.md), each over the block's shared operations. -/
namespace Sys2Proof.Machine

/-- R276: Every 1.00 µs the mains tracker publishes phase and frequency and the reference angles. -/
def execTrackerPublish (theta : BitVec 32) (freq : BitVec 32) (perr : Int) (amp : BitVec 32) (seq : Bool) (s : State) : Result :=
  .next (trackerPublish s theta.toNat freq.toNat perr amp.toNat seq)

/-- R281: A write of GRD_TRK_TRIM sets the trim target or is discarded beyond ±2.0°. -/
def execTrkTrimWrite (m : BitVec 8) (v : BitVec 32) (s : State) : Result :=
  .next (grdWrite s m.toNat 0x24 v.toNat)

/-- R283: A half-cycle window of a phase ends, its RMS is computed or invalid, and voltage curves are evaluated. -/
def execHalfCycleEnd (k : Fin 3) (s : State) : Result :=
  .next (halfCycleEnd s k.val)

/-- R282: Each cycle of θ updates f and ROCOF, evaluates frequency curves and passive ROCOF detection. -/
def execFreqUpdate (s : State) : Result :=
  .next (freqUpdate s)

/-- R295: Each raw positive zero crossing of phase A updates vector shift and its islanding cause. -/
def execVectorShiftUpdate (s : State) : Result :=
  .next (vectorShift s)

/-- R292: The enter-service delay completes and CEASE returns to 0. -/
def execEsDelayExpiry (s : State) : Result :=
  .next (esExpiry s)

/-- R286: ACTIVATE validates the inactive profile bank and has its Ledger record committed, or refuses. -/
def execActivate (m : BitVec 8) (s : State) : Result :=
  .next (grdWrite s m.toNat 4 4)

/-- R286: At the next forward crossing of θ through 0 the profile banks swap and timers restart. -/
def execProfileBankSwap (s : State) : Result :=
  .next (profileSwap s)

/-- R293: CEASE_CMD sets cause CMD. -/
def execCeaseCmd (m : BitVec 8) (s : State) : Result :=
  .next (grdWrite s m.toNat 4 1)

/-- R293: CEASE_CLR clears cause CMD only. -/
def execCeaseClr (m : BitVec 8) (s : State) : Result :=
  .next (grdWrite s m.toNat 4 2)

/-- R297: A write of INJ_PHASE or INJ_SLOT takes effect, deferred past an injection in progress. -/
def execInjSettingWrite (m : BitVec 8) (slot : Bool) (v : BitVec 32) (s : State) : Result :=
  .next (grdWrite s m.toNat (if slot then 0x68 else 0x64) v.toNat)

/-- R297: An active-islanding injection starts at a crossing of INJ_PHASE in the slot cycle. -/
def execInjectionStart (s : State) : Result :=
  .next (injStart s)

/-- R297: An injection ends at the INJ_LEN-th following crossing of INJ_PHASE. -/
def execInjectionEnd (s : State) : Result :=
  .next (injEnd s)

/-- R298: F_WIN cycles after an injection its response updates ISL_CNT and may assert ACTIVE. -/
def execInjectionResponse (s : State) : Result :=
  .next (injResponse s)

/-- R301: A read of GRD_REF_A latches REF_B, REF_C and REF_T of the same publication. -/
def execGrdRefARead (m : BitVec 8) (s : State) : Result :=
  .next (grdRefRead s m.toNat)

/-- R303: APPLY writes the IVS values into the channel's shadow set and commits it. -/
def execIvsApply (m : BitVec 8) (s : State) : Result :=
  .next (grdWrite s m.toNat 0x80 1)

/-- R304: SCAN starts an IV sweep of the masked strings or is discarded. -/
def execIvsScan (m : BitVec 8) (s : State) : Result :=
  .next (grdWrite s m.toNat 0x80 2)

/-- R308: ABORT ends a scan and commits the pre-scan set. -/
def execIvsAbort (m : BitVec 8) (s : State) : Result :=
  .next (grdWrite s m.toNat 0x80 4)

/-- R305: A step's dwell ends, its point is stored and the next step or string is committed. -/
def execIvsDwellEnd (s : State) : Result :=
  .next (ivsDwellEnd s)

end Sys2Proof.Machine
end

