-- ==== Sys2Proof/Machine/CmdHost.lean ====
section
/-! DEFINITION. The meanings of the commands of the host rings (13_host_rings.md), each over the block's shared operations. -/
namespace Sys2Proof.Machine

/-- R514: A BAR2 slot write advances a ring's TAIL or is discarded and counted in DBERR. -/
def execDoorbellTail (n : Fin 128) (l : BitVec 14) (wide : Bool) (high : Bool) (v : BitVec 64) (s : State) : Result :=
  .next (slotWrite s n.val l.toNat wide high v.toNat)

/-- R514: A BAR2 slot write advances a STORAGE-CQ's CHEAD, freeing room for held completions. -/
def execDoorbellChead (n : Fin 128) (l : BitVec 14) (wide : Bool) (high : Bool) (v : BitVec 64) (s : State) : Result :=
  .next (slotWrite s n.val l.toNat wide high v.toNat)

/-- R511: A descriptor fetch completes, forming items, or fails with FAILED_DMA, TAG 0 and LENGTH 0. -/
def execDescFetchDone (r : BitVec 15) (ok : Bool) (w : BitVec 256) (s : State) : Result :=
  .next (hostServe (descFetch s r.toNat ok w.toNat 9216))

/-- R496: A host DMA completes or fails and the descriptor completes accordingly. -/
def execHostDmaDone (r : BitVec 15) (seq : BitVec 64) (ok : Bool) (moved : BitVec 32) (s : State) : Result :=
  .next (hostServe (hostDmaDone s r.toNat seq.toNat ok moved.toNat))

/-- R518: A ring's moderation timer reaches COAL_US and requests its vector. -/
def execMsixCoalTimeout (r : BitVec 15) (s : State) : Result :=
  .next (coalTimeout s r.toNat)

/-- R519: Unmasking a vector with its PBA bit set sends the message. -/
def execMsixUnmask (fn : Fin 128) (vec : Fin 128) (k : Fin 4) (v : BitVec 32) (s : State) : Result :=
  .next (msixWrite s fn.val vec.val k.val v.toNat)

/-- R494: A Function Level Reset resets the function's instance, removing tenants for the PF. -/
def execFlr (fn : Fin 128) (jfail : Bool) (s : State) : Result :=
  .next (flr s fn.val jfail)

/-- R495: A change of Bus Master Enable stops or resumes DMA of the function. -/
def execBusMasterEnableChange (fn : Fin 128) (on : Bool) (s : State) : Result :=
  .next (hostServe (bmeChange s fn.val on))

/-- R498: A BAR0 access reaches the fabric as the manager and passes the firewall. -/
def execBar0Access (fn : Fin 128) (write : Bool) (o : BitVec 24) (size : BitVec 4) (v : BitVec 64) (s : State) : Result :=
  .next (bar0Access s fn.val write o.toNat size.toNat v.toNat)

/-- R499: A malformed BAR0 or BAR4 access reads zeros or is discarded and counted in HIF_SP_VIOL. -/
def execBarMalformedAccess (fn : Fin 128) (write : Bool) (s : State) : Result :=
  .next (if write then s.spViol fn.val else (s.spViol fn.val).answer 0)

/-- R500: A write to a status page is discarded and counted. -/
def execStatusPageWrite (fn : Fin 128) (s : State) : Result :=
  .next (statusWrite s fn.val)

/-- R520: A ring context write is accepted only while DISABLED, enabling or disabling the ring. -/
def execRingCtxWrite (m : BitVec 8) (k : Fin 8) (v : BitVec 32) (s : State) : Result :=
  .next (hostServe (ringCtxWrite s m.toNat k.val v.toNat))

/-- R505: A DRAINING ring writes its last completion and becomes DISABLED. -/
def execRingDrainDone (r : BitVec 15) (cut : List (Nat × Nat)) (s : State) : Result :=
  .next (hostServe (ringDrainDone s r.toNat cut))

end Sys2Proof.Machine
end

