-- ==== Sys2Proof/Machine/CmdInstances.lean ====
section
/-! DEFINITION. The meanings of the commands of the instances (14_instances.md), each over the block's shared operations. -/
namespace Sys2Proof.Machine

/-- R530: INFO returns the instance's status page and Pantry images. -/
def execInfo (n : Fin 128) (s : State) : Result :=
  .next (opInfo s n.val)

/-- R532: RING_ENABLE writes the instance's ring context and enables it or refuses. -/
def execRingEnable (n : Fin 128) (s : State) : Result :=
  .next (opRingEnable s n.val)

/-- R505: RING_DISABLE drains the ring and answers when it is DISABLED. -/
def execRingDisable (n : Fin 128) (s : State) : Result :=
  .next (hostServe (opRingDisable s n.val))

/-- R546: ERRLOG_READ returns and removes the oldest error-log entries. -/
def execErrlogRead (n : Fin 128) (s : State) : Result :=
  .next (opErrlogRead s n.val)

/-- R553: ATTN sets the instance's attention bit and requests the target's attention vector. -/
def execAttn (n : Fin 128) (s : State) : Result :=
  .next (opAttn s n.val)

/-- R534: DB_RING sets a global doorbell bit of the instance's range with MC as ringer. -/
def execDbRing (n : Fin 128) (s : State) : Result :=
  .next (opDbRing s n.val)

/-- R527: INST_CREATE takes the Pantry resources and makes the instance READY, or refuses. -/
def execInstCreate (n : Fin 128) (s : State) : Result :=
  .next (opInstCreate s n.val)

/-- R544: INST_RESET runs the instance reset sequence and answers after the last step. -/
def execInstReset (n : Fin 128) (jfail : Bool) (s : State) : Result :=
  .next (opInstStop s n.val 0x11 jfail)

/-- R544: INST_REMOVE runs the removal sequence and returns the Pantry. -/
def execInstRemove (n : Fin 128) (jfail : Bool) (s : State) : Result :=
  .next (opInstStop s n.val 0x12 jfail)

/-- R530: INST_QUERY returns another instance's information. -/
def execInstQuery (n : Fin 128) (s : State) : Result :=
  .next (opInstQuery s n.val)

/-- R535: GRANT gives or withdraws a setpoint, stream or Valolo grant, or refuses. -/
def execGrant (n : Fin 128) (s : State) : Result :=
  .next (opGrant s n.val)

/-- R540: SETPOINT_LIMIT sets a channel word's limits and interval. -/
def execSetpointLimit (n : Fin 128) (s : State) : Result :=
  .next (opSetpointLimit s n.val)

/-- R547: JOURNAL_SET declares the reset journal's base. -/
def execJournalSet (n : Fin 128) (s : State) : Result :=
  .next (opJournalSet s n.val)

/-- R533: REG_WRITE performs a manager register write through MC and returns the value read back. -/
def execRegWrite (n : Fin 128) (s : State) : Result :=
  .next (regRequest s n.val true)

/-- R533: REG_READ returns a register value read through MC. -/
def execRegRead (n : Fin 128) (s : State) : Result :=
  .next (regRequest s n.val false)

/-- R523: Clearing VF Enable or lowering NumVFs removes the affected instances. -/
def execVfEnableChange (on : Bool) (num : BitVec 7) (jfail : Bool) (s : State) : Result :=
  .next (vfChange s on num.toNat jfail)

/-- R544: Committed transfers of a resetting instance complete and the rest are squashed. -/
def execResetDrainDone (n : Fin 128) (cut : List (Nat × Nat × Nat)) (jfail : Bool) (s : State) : Result :=
  .next (hostServe (resetDrainDone s n.val cut jfail))

/-- R545: A reset's completion flush read succeeds, or fails and logs LOST_COMPLETION runs. -/
def execFlushReadDone (n : Fin 128) (r : BitVec 15) (ok : Bool) (more : Nat) (jfail : Bool) (s : State) : Result :=
  .next (flushReadDone s n.val r.toNat ok more jfail)

/-- R540: A SETPOINT descriptor is checked and pushed to the bound DSP's queue or completed with a refusal. -/
def execSetpoint (r : BitVec 15) (s : State) : Result :=
  .next (setpoint s r.toNat)

/-- R37: A setpoint blocked by a full queue for 1 ms completes with DROPPED_POLICY. -/
def execSetpointRetryExpiry (r : BitVec 15) (s : State) : Result :=
  .next (setpointExpiry s r.toNat)

/-- R554: A read of INS_INFO latches the Pantry images and counters of the selected instance. -/
def execInsInfoRead (m : BitVec 8) (s : State) : Result :=
  .next (insRead s m.toNat 8)

end Sys2Proof.Machine
end

