-- ==== Sys2Proof/Machine/CmdMemory.lean ====
section
/-! DEFINITION. The meanings of the commands of memory (11_memory.md), each over the block's shared operations. -/
namespace Sys2Proof.Machine

/-- R436: A write of MEM_SP_TAG retags the indexed Stockpot unit, zeroing it when tagged 0xFF. -/
def execSpTagWrite (m : BitVec 8) (v : BitVec 32) (sec : Bool) (s : State) : Result :=
  .next (spTagWrite s m.toNat v.toNat sec)

/-- R762: A write of MEM_DR_TAG retags the indexed DRAM region or is discarded. -/
def execDrTagWrite (m : BitVec 8) (v : BitVec 32) (sec : Bool) (s : State) : Result :=
  .next (drTagWrite s m.toNat v.toNat sec)

/-- R437: After a MEM reset the zero-fill of all Stockpot units completes and tag writes are accepted. -/
def execStockpotZeroFillDone (s : State) : Result :=
  .next (zeroFillDone s)

/-- R459: A write of POP removes the oldest memory error entry. -/
def execMemErrPop (m : BitVec 8) (v : BitVec 32) (s : State) : Result :=
  .next (memErrPop s m.toNat v.toNat)

/-- R460: A write of POP removes the oldest reset log entry. -/
def execMemRstPop (m : BitVec 8) (v : BitVec 32) (s : State) : Result :=
  .next (memRstPop s m.toNat v.toNat)

/-- R441: DRM_CTRL.INIT initialises, trains and zero-fills both DRAM channels. -/
def execDrmInit (m : BitVec 8) (s : State) : Result :=
  .next (drmInit s m.toNat)

/-- R441: DRAM initialisation and zero-fill complete and STATE becomes READY. -/
def execDrmInitDone (zeroed : Bool) (fail : BitVec 2) (s : State) : Result :=
  .next (drmInitDone s zeroed fail.toNat)

/-- R442: SR_ENTER puts DRAM in self-refresh once traffic drains. -/
def execSrEnter (m : BitVec 8) (s : State) : Result :=
  .next (srEnter s m.toNat)

/-- R698: SR_EXIT leaves self-refresh. -/
def execSrExit (m : BitVec 8) (s : State) : Result :=
  .next (srExit s m.toNat)

/-- R451: A MODE write takes effect at the end of the channel's next refresh, or is discarded under INTERLEAVE. -/
def execTrainModeWrite (m : BitVec 8) (c : Fin 2) (v : BitVec 32) (s : State) : Result :=
  .next (trainWrite s m.toNat c.val v.toNat)

/-- R453: RETRAIN starts one training pause that writes new delays. -/
def execRetrain (m : BitVec 8) (c : Fin 2) (s : State) : Result :=
  .next (retrain s m.toNat c.val)

/-- R453: A DLYk write in FIXED mode takes effect at the end of the next refresh. -/
def execDlyWrite (m : BitVec 8) (c : Fin 2) (k : Fin 8) (v : BitVec 32) (s : State) : Result :=
  .next (dlyWrite s m.toNat c.val k.val v.toNat)

/-- R444: A DRAM line read checks its tag and delivers, corrects, poisons or errors. -/
def execDramLineRead (m : BitVec 8) (a : BitVec 40) (err : BitVec 2) (s : State) : Result :=
  .next (dramLineRead s m.toNat a.toNat err.toNat)

/-- R445: A 64-byte write writes data with a CLEAN tag. -/
def execDramFullWrite (m : BitVec 8) (a : BitVec 40) (bs : List Byte) (err : BitVec 2) (s : State) : Result :=
  .next (dramLineWrite s m.toNat (a.toNat - a.toNat % 64) ((fix 64 bs).map (fun b => (b, true))) err.toNat)

/-- R446: A partial write reads, merges and rewrites the line, or refuses on POISON. -/
def execDramPartialWrite (m : BitVec 8) (a : BitVec 40) (bs : List (Byte × Bool)) (err : BitVec 2) (s : State) : Result :=
  .next (dramLineWrite s m.toNat a.toNat bs err.toNat)

/-- R449: The patrol scrubber reads the next line and applies R444 without an error response. -/
def execScrubRead (c : Fin 2) (err : BitVec 2) (s : State) : Result :=
  .next (scrubRead s c.val err.toNat)

/-- R452: A due DRIFT training pause starts when allowed and retrains the delays. -/
def execDriftPause (c : Fin 2) (len : Nat) (rt : Bool) (refreshing : Bool) (delays : List Nat) (s : State) : Result :=
  .next (driftPause s c.val len rt refreshing delays)

/-- R453: Every 64 ms in FIXED mode the DQS oscillator is read and DRIFT_WARN may be raised. -/
def execDriftSense (c : Fin 2) (ps : Nat) (s : State) : Result :=
  .next (driftSense s c.val ps)

/-- R454: A refresh falls due and is issued or postponed as owed. -/
def execRefreshDue (c : Fin 2) (busy : Bool) (s : State) : Result :=
  .next (refreshDue s c.val busy)

end Sys2Proof.Machine
end

