-- ==== Sys2Proof/Machine/CmdMessaging.lean ====
section
/-! DEFINITION. The meanings of the commands of messaging (12_messaging.md), each over the block's shared operations. -/
namespace Sys2Proof.Machine

/-- R466: A push on a word queue lands or is refused with FULL, raising the not-empty event. -/
def execPush (m : BitVec 8) (q : Fin 16) (w : BitVec 32) (pop : Bool) (s : State) : Result :=
  .next (mbxPush s m.toNat q.val w.toNat pop)

/-- R465: A pop returns the oldest word, or EMPTY at depth 0, raising the space event. -/
def execPop (m : BitVec 8) (q : Fin 16) (s : State) : Result :=
  .next (mbxPop s m.toNat q.val)

/-- R474: A read of MBX_LOCKk takes a free lock or returns the owner. -/
def execLockRead (m : BitVec 8) (k : Fin 64) (s : State) : Result :=
  .next (lockRead s m.toNat k.val)

/-- R475: A write of the owner's ID by the owner releases the lock; other writes are counted. -/
def execLockWrite (m : BitVec 8) (k : Fin 64) (v : BitVec 8) (s : State) : Result :=
  .next (lockWrite s m.toNat k.val v.toNat)

/-- R479: A FORCE write by MC0 or MC1 releases a lock whatever its owner. -/
def execLockForce (m : BitVec 8) (v : BitVec 32) (s : State) : Result :=
  .next (lockForce s m.toNat v.toNat)

/-- R481: A SET write sets doorbell pending bits and raises an event for unmasked new bits. -/
def execDbSet (m : BitVec 8) (k : Fin 64) (v : BitVec 32) (s : State) : Result :=
  .next (dbSet s m.toNat k.val v.toNat)

/-- R484: A W1C clear of doorbell PEND bits clears them unless a SET meets it. -/
def execDbPendClear (m : BitVec 8) (k : Fin 64) (v : BitVec 32) (s : State) : Result :=
  .next (dbClear s m.toNat k.val v.toNat)

/-- R483: A MASK write raises an event when a pending bit is unmasked. -/
def execDbMaskWrite (m : BitVec 8) (k : Fin 64) (v : BitVec 32) (s : State) : Result :=
  .next (dbMask s m.toNat k.val v.toNat)

/-- R480: A CFG write configures target and ringer, discarded while PEND is non-zero. -/
def execDbCfgWrite (m : BitVec 8) (k : Fin 64) (v : BitVec 32) (s : State) : Result :=
  .next (dbCfg s m.toNat k.val v.toNat)

/-- R487: A Folio data write by the writer side while GO is 0 is accepted, others discarded and counted. -/
def execFolioDataWrite (m : BitVec 8) (n : Fin 128) (d2h : Bool) (k : Fin 16) (v : BitVec 32) (s : State) : Result :=
  .next (folioWrite s m.toNat n.val d2h k.val v.toNat)

/-- R488: POST from the writer sets GO and raises an event to the reader. -/
def execFolioPost (m : BitVec 8) (n : Fin 128) (d2h : Bool) (s : State) : Result :=
  .next (folioCtrlWrite s m.toNat n.val d2h 0x40000000)

/-- R488: DONE from the reader clears GO and raises an event to the writer. -/
def execFolioDone (m : BitVec 8) (n : Fin 128) (d2h : Bool) (s : State) : Result :=
  .next (folioCtrlWrite s m.toNat n.val d2h 0x20000000)

end Sys2Proof.Machine
end

