-- ==== Sys2Proof/Machine/CmdNetwork.lean ====
section
/-! DEFINITION. The meanings of the commands of the network datapath and storage (16_network_datapath.md), each over the block's shared operations. -/
namespace Sys2Proof.Machine

/-- R589: A WRITE record writes a table entry or returns a refusal. -/
def execTableWrite (n : Fin 128) (rc : List Byte) (s : State) : Result :=
  .next (recordCmd s n.val 1 rc)

/-- R588: A DELETE record removes a table entry. -/
def execTableDelete (n : Fin 128) (rc : List Byte) (s : State) : Result :=
  .next (recordCmd s n.val 2 rc)

/-- R601: A READ record returns an entry image and its statistics. -/
def execTableRead (n : Fin 128) (rc : List Byte) (s : State) : Result :=
  .next (recordCmd s n.val 3 rc)

/-- R613: KEY_LOAD places a key in key RAM and returns it wrapped under KWK. -/
def execKeyLoad (n : Fin 128) (rc : List Byte) (s : State) : Result :=
  .next (recordCmd s n.val 4 rc)

/-- R613: KEY_RESTORE unwraps a blob into key RAM or returns KEY_INVALID. -/
def execKeyRestore (n : Fin 128) (rc : List Byte) (s : State) : Result :=
  .next (recordCmd s n.val 5 rc)

/-- R616: A TX FRAME item enters Colander from its vport. -/
def execTxFrame (r : BitVec 15) (data : List Byte) (s : State) : Result :=
  .next (txFrame s r.toNat data)

/-- R616: A TX TABLE descriptor executes 1–64 table records and completes OK. -/
def execTxTable (r : BitVec 15) (data : List Byte) (s : State) : Result :=
  .next (txTable s r.toNat data)

/-- R582: A frame received on an external port is checked, timestamped and passed through Colander. -/
def execFrameReceive (p : Fin 6) (fcs : Bool) (data : List Byte) (s : State) : Result :=
  .next (frameReceive s p.val fcs data)

/-- R593: A learned FDB entry unseen for FDB_AGE is deleted. -/
def execFdbAgeExpiry (idx : BitVec 32) (s : State) : Result :=
  .next (fdbAge s idx.toNat)

/-- R601: A flow-cache miss fetch returns and the held frame resumes classification. -/
def execFlowCacheFill (idx : BitVec 32) (s : State) : Result :=
  .next (flowCacheFill s idx.toNat)

/-- R636: When a port is ready, transmission selection starts the next eligible frame. -/
def execFrameTransmitStart (p : Fin 8) (s : State) : Result :=
  .next (transmitStart s p.val)

/-- R649: A frame finishes on the wire, counting GATE_OVERRUN when it ran past the close. -/
def execFrameTransmitEnd (p : Fin 8) (s : State) : Result :=
  .next (transmitEnd s p.val)

/-- R621: A STORAGE READ descriptor reads namespace blocks through staging and XTS. -/
def execStorageRead (r : BitVec 15) (s : State) : Result :=
  .next (storageCmd s r.toNat 1 [])

/-- R621: A STORAGE WRITE descriptor writes namespace blocks through staging and XTS. -/
def execStorageWrite (r : BitVec 15) (data : List Byte) (s : State) : Result :=
  .next (storageCmd s r.toNat 2 data)

/-- R621: A FLUSH descriptor flushes the SSD. -/
def execStorageFlush (r : BitVec 15) (s : State) : Result :=
  .next (storageCmd s r.toNat 3 [])

/-- R621: A WRITE_ZEROES descriptor zeroes a block range. -/
def execStorageWriteZeroes (r : BitVec 15) (s : State) : Result :=
  .next (storageCmd s r.toNat 4 [])

/-- R621: A DEALLOCATE descriptor deallocates a block range. -/
def execStorageDeallocate (r : BitVec 15) (s : State) : Result :=
  .next (storageCmd s r.toNat 5 [])

/-- R623: The SSD completes a command and the descriptor completes with OK or FAILED_DMA. -/
def execSsdCompletion (r : BitVec 15) (seq : BitVec 64) (st : BitVec 12) (data : List Byte) (s : State) : Result :=
  .next (ssdCompletion s r.toNat seq.toNat st.toNat data)

/-- R623: An SSD command not completed within NET_NVME_TMO is aborted and fails. -/
def execNvmeTimeout (r : BitVec 15) (seq : BitVec 64) (s : State) : Result :=
  .next (nvmeTimeout s r.toNat seq.toNat)

/-- R581: An external network port's PHY link comes up or goes down after auto-negotiation, changing NET_PORTp_LINK.UP and SPEED. -/
def execPortLinkChange (p : Fin 6) (up : Bool) (speed : BitVec 3) (s : State) : Result :=
  .next (linkChange s p.val up speed.toNat)

/-- R619: SSD bring-up started by NET_NVME_CFG.EN completes, creating the I/O queues, and NET_NVME_STAT.STATE becomes READY or FAILED. -/
def execNvmeBringupDone (ok : Bool) (q : Nat) (s : State) : Result :=
  .next (nvmeBringup s ok q)

end Sys2Proof.Machine
end

