-- ==== Sys2Proof/Machine/CmdPacket.lean ====
section
/-! DEFINITION. The meanings of the commands of the packet engine (15_packet_engine.md), each over the block's shared operations. -/
namespace Sys2Proof.Machine

/-- R559: START clears a halted or faulted thread's state and makes it READY at ENTRY. -/
def execPtStart (m : BitVec 8) (n : Fin 64) (s : State) : Result :=
  .next (ptCtrlWrite s m.toNat n.val 1)

/-- R559: HALT halts the thread and disarms its wake compare. -/
def execPtHalt (m : BitVec 8) (n : Fin 64) (s : State) : Result :=
  .next (ptCtrlWrite s m.toNat n.val 2)

/-- R559: RESUME continues a halted thread at PC. -/
def execPtResume (m : BitVec 8) (n : Fin 64) (s : State) : Result :=
  .next (ptCtrlWrite s m.toNat n.val 4)

/-- R571: PXE_PTn_CTRL.POKE wakes the thread with cause POKE. -/
def execPtPoke (m : BitVec 8) (n : Fin 64) (s : State) : Result :=
  .next (ptCtrlWrite s m.toNat n.val 8)

/-- R561: HALT_ALL halts every thread of a cluster. -/
def execHaltAll (m : BitVec 8) (c : Fin 4) (s : State) : Result :=
  .next (clCtrlWrite s m.toNat c.val 2)

/-- R561: START_ALL starts every halted or faulted thread of a cluster. -/
def execStartAll (m : BitVec 8) (c : Fin 4) (s : State) : Result :=
  .next (clCtrlWrite s m.toNat c.val 1)

/-- R568: A thread's wake compare fires at its crossing, deadline or a wake, making the thread READY. -/
def execWakeCompareFire (n : Fin 64) (s : State) : Result :=
  .next (wakeCompareFire s n.val)

/-- R564: A blocked thread's fabric access completes and the thread becomes ready. -/
def execThreadAccessDone (n : Fin 64) (s : State) : Result :=
  .next (threadDone s n.val)

/-- R576: A cluster stalled on NEVER for the limit raises STALL and wakes its threads. -/
def execStallLimit (c : Fin 4) (s : State) : Result :=
  .next (stallLimit s c.val)

/-- R577: A TPUT command completes with a written completion or a failure code. -/
def execTputDone (n : Fin 64) (s : State) : Result :=
  .next (tputDone s n.val)

/-- R579: ADD writes Xa + Xb. -/
def execPxAdd (n : Fin 64) (s : State) : Result :=
  .next (pxRow s n.val .add)

/-- R579: SUB writes Xa − Xb. -/
def execPxSub (n : Fin 64) (s : State) : Result :=
  .next (pxRow s n.val .sub)

/-- R579: AND writes Xa AND Xb. -/
def execPxAnd (n : Fin 64) (s : State) : Result :=
  .next (pxRow s n.val .and_)

/-- R579: OR writes Xa OR Xb. -/
def execPxOr (n : Fin 64) (s : State) : Result :=
  .next (pxRow s n.val .or_)

/-- R579: XOR writes Xa XOR Xb. -/
def execPxXor (n : Fin 64) (s : State) : Result :=
  .next (pxRow s n.val .xor_)

/-- R579: SLL shifts left by Xb[4:0]. -/
def execPxSll (n : Fin 64) (s : State) : Result :=
  .next (pxRow s n.val .sll)

/-- R579: SRL shifts right logically. -/
def execPxSrl (n : Fin 64) (s : State) : Result :=
  .next (pxRow s n.val .srl)

/-- R579: SRA shifts right arithmetically. -/
def execPxSra (n : Fin 64) (s : State) : Result :=
  .next (pxRow s n.val .sra)

/-- R579: SLT compares signed. -/
def execPxSlt (n : Fin 64) (s : State) : Result :=
  .next (pxRow s n.val .slt)

/-- R579: SLTU compares unsigned. -/
def execPxSltu (n : Fin 64) (s : State) : Result :=
  .next (pxRow s n.val .sltu)

/-- R579: MUL writes the low product word. -/
def execPxMul (n : Fin 64) (s : State) : Result :=
  .next (pxRow s n.val .mul)

/-- R579: MULHU writes the high unsigned product word. -/
def execPxMulhu (n : Fin 64) (s : State) : Result :=
  .next (pxRow s n.val .mulhu)

/-- R579: CLZ counts leading zeros. -/
def execPxClz (n : Fin 64) (s : State) : Result :=
  .next (pxRow s n.val .clz)

/-- R579: POPC counts ones. -/
def execPxPopc (n : Fin 64) (s : State) : Result :=
  .next (pxRow s n.val .popc)

/-- R579: BSWAP reverses bytes. -/
def execPxBswap (n : Fin 64) (s : State) : Result :=
  .next (pxRow s n.val .bswap)

/-- R579: CRC32C updates a CRC-32C with four bytes. -/
def execPxCrc32c (n : Fin 64) (s : State) : Result :=
  .next (pxRow s n.val .crc32c)

/-- R579: CSUM adds into a ones'-complement checksum. -/
def execPxCsum (n : Fin 64) (s : State) : Result :=
  .next (pxRow s n.val .csum)

/-- R579: ADDI adds a sign-extended immediate. -/
def execPxAddi (n : Fin 64) (s : State) : Result :=
  .next (pxRow s n.val .addi)

/-- R579: ANDI ANDs a zero-extended immediate. -/
def execPxAndi (n : Fin 64) (s : State) : Result :=
  .next (pxRow s n.val .andi)

/-- R579: ORI ORs a zero-extended immediate. -/
def execPxOri (n : Fin 64) (s : State) : Result :=
  .next (pxRow s n.val .ori)

/-- R579: XORI XORs a zero-extended immediate. -/
def execPxXori (n : Fin 64) (s : State) : Result :=
  .next (pxRow s n.val .xori)

/-- R579: SLLI shifts left by an immediate. -/
def execPxSlli (n : Fin 64) (s : State) : Result :=
  .next (pxRow s n.val .slli)

/-- R579: SRLI shifts right logically by an immediate. -/
def execPxSrli (n : Fin 64) (s : State) : Result :=
  .next (pxRow s n.val .srli)

/-- R579: SRAI shifts right arithmetically by an immediate. -/
def execPxSrai (n : Fin 64) (s : State) : Result :=
  .next (pxRow s n.val .srai)

/-- R579: SLTI compares signed with an immediate. -/
def execPxSlti (n : Fin 64) (s : State) : Result :=
  .next (pxRow s n.val .slti)

/-- R579: SLTIU compares unsigned with an immediate. -/
def execPxSltiu (n : Fin 64) (s : State) : Result :=
  .next (pxRow s n.val .sltiu)

/-- R579: LUI loads an immediate into the upper half. -/
def execPxLui (n : Fin 64) (s : State) : Result :=
  .next (pxRow s n.val .lui)

/-- R579: BEXT extracts a bit field. -/
def execPxBext (n : Fin 64) (s : State) : Result :=
  .next (pxRow s n.val .bext)

/-- R579: BINS inserts a bit field. -/
def execPxBins (n : Fin 64) (s : State) : Result :=
  .next (pxRow s n.val .bins)

/-- R564: LW loads a word. -/
def execPxLw (n : Fin 64) (s : State) : Result :=
  .next (pxRow s n.val .lw)

/-- R564: LH loads a sign-extended halfword. -/
def execPxLh (n : Fin 64) (s : State) : Result :=
  .next (pxRow s n.val .lh)

/-- R564: LHU loads a zero-extended halfword. -/
def execPxLhu (n : Fin 64) (s : State) : Result :=
  .next (pxRow s n.val .lhu)

/-- R564: LB loads a sign-extended byte. -/
def execPxLb (n : Fin 64) (s : State) : Result :=
  .next (pxRow s n.val .lb)

/-- R564: LBU loads a zero-extended byte. -/
def execPxLbu (n : Fin 64) (s : State) : Result :=
  .next (pxRow s n.val .lbu)

/-- R564: SW stores a word. -/
def execPxSw (n : Fin 64) (s : State) : Result :=
  .next (pxRow s n.val .sw)

/-- R564: SH stores a halfword. -/
def execPxSh (n : Fin 64) (s : State) : Result :=
  .next (pxRow s n.val .sh)

/-- R564: SB stores a byte. -/
def execPxSb (n : Fin 64) (s : State) : Result :=
  .next (pxRow s n.val .sb)

/-- R565: AMOADD atomically adds to a Stockpot word. -/
def execPxAmoadd (n : Fin 64) (s : State) : Result :=
  .next (pxRow s n.val .amoadd)

/-- R565: AMOSWAP atomically swaps a Stockpot word. -/
def execPxAmoswap (n : Fin 64) (s : State) : Result :=
  .next (pxRow s n.val .amoswap)

/-- R565: CAS atomically compares and swaps a Stockpot word. -/
def execPxCas (n : Fin 64) (s : State) : Result :=
  .next (pxRow s n.val .cas)

/-- R579: BEQ branches when equal. -/
def execPxBeq (n : Fin 64) (s : State) : Result :=
  .next (pxRow s n.val .beq)

/-- R579: BNE branches when not equal. -/
def execPxBne (n : Fin 64) (s : State) : Result :=
  .next (pxRow s n.val .bne)

/-- R579: BLT branches when less, signed. -/
def execPxBlt (n : Fin 64) (s : State) : Result :=
  .next (pxRow s n.val .blt)

/-- R579: BGE branches when not less, signed. -/
def execPxBge (n : Fin 64) (s : State) : Result :=
  .next (pxRow s n.val .bge)

/-- R579: BLTU branches when less, unsigned. -/
def execPxBltu (n : Fin 64) (s : State) : Result :=
  .next (pxRow s n.val .bltu)

/-- R579: BGEU branches when not less, unsigned. -/
def execPxBgeu (n : Fin 64) (s : State) : Result :=
  .next (pxRow s n.val .bgeu)

/-- R579: JAL links and jumps PC-relative. -/
def execPxJal (n : Fin 64) (s : State) : Result :=
  .next (pxRow s n.val .jal)

/-- R579: JALR links and jumps to a register plus offset. -/
def execPxJalr (n : Fin 64) (s : State) : Result :=
  .next (pxRow s n.val .jalr)

/-- R580: CSRR reads a thread CSR. -/
def execPxCsrr (n : Fin 64) (s : State) : Result :=
  .next (pxRow s n.val .csrr)

/-- R580: CSRW writes a thread CSR. -/
def execPxCsrw (n : Fin 64) (s : State) : Result :=
  .next (pxRow s n.val .csrw)

/-- R579: NOP does nothing. -/
def execPxNop (n : Fin 64) (s : State) : Result :=
  .next (pxRow s n.val .nop)

/-- R568: WAIT completes at once on pending causes or arms the wake compare. -/
def execPxWait (n : Fin 64) (s : State) : Result :=
  .next (pxRow s n.val .wait)

/-- R569: WAITR waits relative to T. -/
def execPxWaitr (n : Fin 64) (s : State) : Result :=
  .next (pxRow s n.val .waitr)

/-- R571: POKE wakes a thread with cause POKE. -/
def execPxPoke (n : Fin 64) (s : State) : Result :=
  .next (pxRow s n.val .poke)

/-- R562: HALT halts the issuing thread and raises the PXE interrupt. -/
def execPxHalt (n : Fin 64) (s : State) : Result :=
  .next (pxRow s n.val .halt)

/-- R566: BRK faults the thread with cause BREAK. -/
def execPxBrk (n : Fin 64) (s : State) : Result :=
  .next (pxRow s n.val .brk)

/-- R577: TPUT issues a telemetry record delivery and blocks the thread. -/
def execPxTput (n : Fin 64) (s : State) : Result :=
  .next (pxRow s n.val .tput)

/-- R618: PRX takes the oldest handle of a CPU queue. -/
def execPxPrx (n : Fin 64) (s : State) : Result :=
  .next (pxRow s n.val .prx)

/-- R616: PTX sends a frame handle into Colander, a port or a vport. -/
def execPxPtx (n : Fin 64) (s : State) : Result :=
  .next (pxRow s n.val .ptx)

/-- R585: PFREE releases a handle and its charge. -/
def execPxPfree (n : Fin 64) (s : State) : Result :=
  .next (pxRow s n.val .pfree)

/-- R585: PALLOC allocates a handle charged to an instance. -/
def execPxPalloc (n : Fin 64) (s : State) : Result :=
  .next (pxRow s n.val .palloc)

/-- R599: FLOOK looks up a flow key. -/
def execPxFlook (n : Fin 64) (s : State) : Result :=
  .next (pxRow s n.val .flook)

/-- R587: FCMD executes one table record from the slice. -/
def execPxFcmd (n : Fin 64) (s : State) : Result :=
  .next (pxRow s n.val .fcmd)

/-- R579: A PX word that Table 15.7 does not define issues and faults its thread with cause ILLEGAL. -/
def execPxIllegalEncoding (n : Fin 64) (s : State) : Result :=
  .next (pxRow s n.val .illegal)

end Sys2Proof.Machine
end

