-- ==== Sys2Proof/Machine/CmdPower.lean ====
section
/-! DEFINITION. The meanings of the commands of the power channels (06_power_channels.md), each over the block's shared operations. -/
namespace Sys2Proof.Machine

/-- R228: The first accepted write of PWM_BINDn binds the channel to a DSP with role and trip masks. -/
def execPwmBind (m : BitVec 8) (n : Fin 4) (v : BitVec 32) (s : State) : Result :=
  .next (pwmBindWrite s m.toNat n.val v.toNat)

/-- R241: A write to a shadow register updates it and clears VALID. -/
def execShadowWrite (m : BitVec 8) (n : Fin 4) (r : Fin 10) (v : BitVec 32) (s : State) : Result :=
  .next (shadowWrite s m.toNat n.val r.val v.toNat)

/-- R241: COMMIT validates the shadow set and sets VALID or refuses with CFG_ERR. -/
def execPwmCommit (m : BitVec 8) (n : Fin 4) (s : State) : Result :=
  .next (pwmCtrlWrite s m.toNat n.val 4)

/-- R250: RUN, when accepted, performs a transfer and starts the channel pattern. -/
def execPwmRun (m : BitVec 8) (n : Fin 4) (s : State) : Result :=
  .next (pwmCtrlWrite s m.toNat n.val 1)

/-- R251: STOP makes all outputs inactive and leaves the channel STOPPED. -/
def execPwmStop (m : BitVec 8) (n : Fin 4) (s : State) : Result :=
  .next (pwmCtrlWrite s m.toNat n.val 2)

/-- R256: FORCE_TRIP asserts the software trip source and sets the trip latch. -/
def execForceTrip (m : BitVec 8) (n : Fin 4) (s : State) : Result :=
  .next (pwmCtrlWrite s m.toNat n.val 16)

/-- R261: TRIP_CLR clears the trip latch when no unmasked source is live, or sets CLR_REFUSED. -/
def execTripClr (m : BitVec 8) (n : Fin 4) (s : State) : Result :=
  .next (pwmCtrlWrite s m.toNat n.val 8)

/-- R266: DRVRST drives DRVRSTn_n low for DRV.WIDTH µs. -/
def execDrvrst (m : BitVec 8) (n : Fin 4) (s : State) : Result :=
  .next (pwmCtrlWrite s m.toNat n.val 32)

/-- R266: The DRVRSTn_n pulse width elapses and the ball returns high. -/
def execDrvrstPulseEnd (n : Fin 4) (s : State) : Result :=
  .next (drvEnd s n.val)

/-- R271: A write of PWM_CHn_CFG or DT is accepted only in non-running states, claiming or releasing the X-leg balls. -/
def execPwmCfgWrite (m : BitVec 8) (n : Fin 4) (dt : Bool) (v : BitVec 32) (s : State) : Result :=
  .next (if dt then pwmDtWrite s m.toNat n.val v.toNat else pwmCfgWrite s m.toNat n.val v.toNat)

/-- R233: POS wraps at PER, giving a period start and a PERIOD or EVENT_NEXT transfer. -/
def execPeriodWrap (n : Fin 4) (s : State) : Result :=
  .next (periodWrap s n.val)

/-- R245: The effective instant of a shadow-transfer event arrives and the channel transfers or restarts per XFER. -/
def execXferEffectiveInstant (n : Fin 4) (s : State) : Result :=
  .next (xferEffective s n.val)

/-- R248: N period starts without a valid transfer declare DSP loss. -/
def execPwmWdogExpiry (n : Fin 4) (s : State) : Result :=
  .next (pwmWatchdog s n.val)

/-- R236: A command held past the dead time activates the high-side or low-side output. -/
def execDeadTimeExpiry (n : Fin 4) (j : Fin 4) (s : State) : Result :=
  .next (refreshLeg s n.val j.val)

/-- R257: A TRIPn, DESATn or comparator trip sets the trip latch asynchronously and forces outputs inactive. -/
def execHardTrip (n : Fin 4) (k : Fin 5) (s : State) : Result :=
  .next (hardTrip s n.val k.val)

/-- R268: A static-output claim of an X-leg ball succeeds or is refused with CONFLICT. -/
def execPinClaim (m : BitVec 8) (k : Fin 8) (s : State) : Result :=
  .next (pinOwnWrite s m.toNat k.val 0x80000000)

/-- R268: The owner releases a static-output ball. -/
def execPinRelease (m : BitVec 8) (k : Fin 8) (s : State) : Result :=
  .next (pinOwnWrite s m.toNat k.val 0x40000000)

/-- R270: A read of PWM_CONFLICT_INFO returns and removes the oldest conflict entry. -/
def execPwmConflictInfoRead (m : BitVec 8) (s : State) : Result :=
  .next (pwmConflictRead s m.toNat)

/-- R234: The carrier position POS reaches a leg's RISE or FALL compare and the leg command changes, starting dead time or dropping an output. -/
def execLegCommandChange (n : Fin 4) (j : Fin 4) (s : State) : Result :=
  .next (refreshLeg s n.val j.val)

/-- R261: A TRIPn or DESATn ball returns high and its bit leaves TRIP.LIVE, so a later TRIP_CLR can be accepted. -/
def execTripInputRelease (n : Fin 4) (k : Fin 5) (s : State) : Result :=
  .next (tripRelease s n.val k.val)

end Sys2Proof.Machine
end

