-- ==== Sys2Proof/Machine/CmdSafety.lean ====
section
/-! DEFINITION. The meanings of the commands of machine safety (08_machine_safety.md), each over the block's shared operations. -/
namespace Sys2Proof.Machine

/-- R313: At safety domain start the loader verifies its image and arms unit 124. -/
def execSafetyDomainStart (valid : Bool) (up : BitVec 8) (down : BitVec 8) (s : State) : Result :=
  .next (domainStart s valid up.toNat down.toNat)

/-- R316: At t_k+2 the safety pair commits permits, SDO levels and SAF mirrors for snapshot k. -/
def execSafetyCommit (rba : BitVec 8) (rbb : BitVec 8) (s : State) : Result :=
  .next (safCommit s rba.toNat rbb.toNat)

/-- R317: Without a capture for 255 µs the pair takes a snapshot on its own timer with invalid channel A. -/
def execSafetyOwnSnapshot (s : State) : Result :=
  .next (ownSnapshot s)

/-- R311: A lockstep, clock or supply fault drives every STO and SDO low and sets SAFE_STATE within 1 µs. -/
def execSafetyHwFault (k : Fin 3) (s : State) : Result :=
  .next (hwFault s (if k.val = 0 then 1 else k.val + 2))

/-- R312: A missing commit at a snapshot instant withdraws every permit with DFAULT WATCHDOG. -/
def execSafetyCycleMiss (s : State) : Result :=
  .next (cycleMiss s)

/-- R319: A safety input level that persists for F is accepted and may demand or acknowledge. -/
def execSinLevelAccept (n : Fin 8) (sideB : Bool) (x : SinLevel) (s : State) : Result :=
  .next (sinAccept s n.val sideB x.level x.held.toNat)

/-- R322: A TPA or TPB test pulse starts and blanks its channels. -/
def execTestPulseStart (sideB : Bool) (s : State) : Result :=
  .next (testPulse s sideB)

/-- R323: At the last sample of a pulse the pair checks for PULSE_MISSING and CROSS_SHORT. -/
def execTestPulseCheck (sideB : Bool) (pulsed : BitVec 8) (other : BitVec 8) (otherEnd : BitVec 8) (s : State) : Result :=
  .next (testCheck s sideB pulsed.toNat other.toNat otherEnd.toNat)

/-- R324: Channels of an input differing longer than DISC declare a DISCREPANCY fault. -/
def execDiscrepancyTimeout (n : Fin 8) (s : State) : Result :=
  .next (discTimeout s n.val)

/-- R339: The strap reader samples SAFECFG every 100 ms and may force SAFE_STATE. -/
def execStrapSample (up : BitVec 8) (down : BitVec 8) (s : State) : Result :=
  .next (strapSample s up.toNat down.toNat)

/-- R342: A parameter change not confirmed within 60 s ends with TIMEOUT. -/
def execPsetConfirmTimeout (wrong : Bool) (s : State) : Result :=
  .next (psetTimeout s wrong)

/-- R342: After the Ledger commit the pair activates the new set and puts every channel in STO. -/
def execPsetActivate (s : State) : Result :=
  .next (psetActivate s)

/-- R346: A channel out of STO for 168 h sets DYN_DUE and sends a safety-event record. -/
def execDynDueTimeout (c : Fin 4) (s : State) : Result :=
  .next (dynDue s c.val)

/-- R351: A read of SAF_STAT latches every other SAF register of the same commit. -/
def execSafStatRead (m : BitVec 8) (s : State) : Result :=
  .next (safStatRead s m.toNat)

/-- R327: An accepted edge on SPCNTc_A or SPCNTc_B changes the safety pair's channel-B speed count. -/
def execSpcntEdge (c : Fin 4) (a : Bool) (b : Bool) (s : State) : Result :=
  .next (spcntEdge s c.val a b)

end Sys2Proof.Machine
end

