-- ==== Sys2Proof/Machine/CmdScheduling.lean ====
section
/-! DEFINITION. The meanings of the commands of traffic scheduling (17_traffic_scheduling.md), each over the block's shared operations. -/
namespace Sys2Proof.Machine

/-- R627: COMMIT applies OFS and RATE and sets T_C, applying stepped gate events. -/
def execGptpCommit (m : BitVec 8) (sync : Bool) (s : State) : Result :=
  .next (tsnRegWrite s m.toNat 4 (0x80000000 + 0x40000000 * b2n sync))

/-- R640: A GCL entry interval ends and the next entry's gates apply. -/
def execGateEntryAdvance (p : Fin 8) (s : State) : Result :=
  .next (gateAdvance s p.val)

/-- R641: CHANGE validates the inactive list and schedules it or sets CFG_ERR. -/
def execGclChange (m : BitVec 8) (p : Fin 8) (len : BitVec 11) (fb : BitVec 8) (s : State) : Result :=
  .next (gclCtrlWrite s m.toNat p.val (0x80000000 + len.toNat * 1024 + fb.toNat))

/-- R642: At the change instant the GCL banks swap. -/
def execGclSwap (p : Fin 8) (s : State) : Result :=
  .next (gclSwap s p.val)

/-- R645: No angle firing for ANG_TMO applies FB_GATES and counts ANG_LOST. -/
def execAngTimeout (p : Fin 8) (s : State) : Result :=
  .next (angTimeout s p.val)

/-- R657: A queue without a start for STARVE_US is flagged to send next. -/
def execStarvationFlag (p : Fin 8) (c : Fin 8) (s : State) : Result :=
  .next (starvationFlag s p.val c.val)

/-- R633: A NODE_CFG write configures an instance scheduler node or is discarded. -/
def execNodeCfgWrite (m : BitVec 8) (v : BitVec 32) (s : State) : Result :=
  .next (nodeCfgWrite s m.toNat v.toNat)

/-- R650: The IEEE 802.3br verify exchange with the link partner succeeds and TSN_PORTp_STAT.VERIFIED is set, activating preemption. -/
def execVerifyExchangeDone (p : Fin 6) (s : State) : Result :=
  .next (verifyDone s p.val)

end Sys2Proof.Machine
end

