-- ==== Sys2Proof/Machine/CmdSecurity.lean ====
section
/-! DEFINITION. The meanings of the commands of the security core and the Ledger (10_security_and_ledger.md), each over the block's shared operations. -/
namespace Sys2Proof.Machine

/-- R399: OPEN allocates a session value and issues a challenge, or refuses. -/
def execSecOpen (r : BitVec 15) (sess : BitVec 32) (len : BitVec 16) (pl : List Byte) (s : State) : Result :=
  .next (msgOpen s r.toNat sess.toNat len.toNat pl)

/-- R401: PROVE checks the proof and opens the session or counts a failure. -/
def execSecProve (r : BitVec 15) (sess : BitVec 32) (len : BitVec 16) (pl : List Byte) (s : State) : Result :=
  .next (msgProve s r.toNat sess.toNat len.toNat pl)

/-- R403: CLOSE ends the session and commits SESSION_CLOSE. -/
def execSecClose (r : BitVec 15) (sess : BitVec 32) (len : BitVec 16) (pl : List Byte) (s : State) : Result :=
  .next (msgClose s r.toNat sess.toNat len.toNat pl)

/-- R418: GET_CERT returns the DER certificate of DK. -/
def execGetCert (r : BitVec 15) (sess : BitVec 32) (len : BitVec 16) (pl : List Byte) (s : State) : Result :=
  .next (msgGetCert s r.toNat sess.toNat len.toNat pl)

/-- R341: PSET_DELIVER passes a parameter set for validation and returns PSET_ID and CRC. -/
def execPsetDeliver (r : BitVec 15) (sess : BitVec 32) (len : BitVec 16) (pl : List Byte) (s : State) : Result :=
  .next (msgPsetDeliver s r.toNat sess.toNat len.toNat pl)

/-- R342: PSET_CONFIRM confirms the CRC and starts the Ledger commit of the change. -/
def execPsetConfirm (r : BitVec 15) (sess : BitVec 32) (len : BitVec 16) (pl : List Byte) (s : State) : Result :=
  .next (msgPsetConfirm s r.toNat sess.toNat len.toNat pl)

/-- R396: KEY_ENROL writes or clears a key slot and commits its record. -/
def execKeyEnrol (r : BitVec 15) (sess : BitVec 32) (len : BitVec 16) (pl : List Byte) (s : State) : Result :=
  .next (msgKeyEnrol s r.toNat sess.toNat len.toNat pl)

/-- R400: PASSWORD_SET stores the wrapped verifier and commits its record. -/
def execPasswordSet (r : BitVec 15) (sess : BitVec 32) (len : BitVec 16) (pl : List Byte) (s : State) : Result :=
  .next (msgPasswordSet s r.toNat sess.toNat len.toNat pl)

/-- R403: SESS_CFG sets the idle timeout. -/
def execSessCfg (r : BitVec 15) (sess : BitVec 32) (len : BitVec 16) (pl : List Byte) (s : State) : Result :=
  .next (msgSessCfg s r.toNat sess.toNat len.toNat pl)

/-- R426: TAMPER_CFG sets the tamper enables, polarities and responses. -/
def execTamperCfg (r : BitVec 15) (sess : BitVec 32) (len : BitVec 16) (pl : List Byte) (s : State) : Result :=
  .next (msgTamperCfg s r.toNat sess.toNat len.toNat pl)

/-- R426: TAMPER_REARM clears SEEN for non-live sources or returns BUSY. -/
def execTamperRearm (r : BitVec 15) (sess : BitVec 32) (len : BitVec 16) (pl : List Byte) (s : State) : Result :=
  .next (msgTamperRearm s r.toNat sess.toNat len.toNat pl)

/-- R424: ODO_CFG sets the odometry sources and tolerances from the next capture, or returns BAD_FORMAT. -/
def execOdoCfg (r : BitVec 15) (sess : BitVec 32) (len : BitVec 16) (pl : List Byte) (s : State) : Result :=
  .next (msgOdoCfg s r.toNat sess.toNat len.toNat pl)

/-- R429: DEBUG_OPEN erases tenant keys in PRODUCTION, commits its records and opens the debug port. -/
def execDebugOpen (r : BitVec 15) (sess : BitVec 32) (len : BitVec 16) (pl : List Byte) (s : State) : Result :=
  .next (msgDebugOpen s r.toNat sess.toNat len.toNat pl)

/-- R394: LIFECYCLE_ADVANCE moves the fused lifecycle to PRODUCTION when allowed. -/
def execLifecycleAdvance (r : BitVec 15) (sess : BitVec 32) (len : BitVec 16) (pl : List Byte) (s : State) : Result :=
  .next (msgLifecycle s r.toNat sess.toNat len.toNat pl)

/-- R537: GRANT_SET gives or withdraws the motion-evidence grant and clears INS_MOTION_RING. -/
def execGrantSet (r : BitVec 15) (sess : BitVec 32) (len : BitVec 16) (pl : List Byte) (s : State) : Result :=
  .next (msgGrantSet s r.toNat sess.toNat len.toNat pl)

/-- R408: CHECKPOINT_NOW commits a signed CHECKPOINT and returns its SEQ. -/
def execCheckpointNow (r : BitVec 15) (sess : BitVec 32) (len : BitVec 16) (pl : List Byte) (s : State) : Result :=
  .next (msgCheckpoint s r.toNat sess.toNat len.toNat pl)

/-- R714: COMPAT_ACK in RESTRICTED mode commits its record and sets BOOT_STAGE.ACKED. -/
def execCompatAck (r : BitVec 15) (sess : BitVec 32) (len : BitVec 16) (pl : List Byte) (s : State) : Result :=
  .next (msgCompatAck s r.toNat sess.toNat len.toNat pl)

/-- R715: IMAGE_LOAD checks a Fufatil image and stores it, runs it, or refuses. -/
def execImageLoad (r : BitVec 15) (sess : BitVec 32) (len : BitVec 16) (pl : List Byte) (img : Option (List Byte)) (writes : List (BitVec 40 × BitVec 32)) (s : State) : Result :=
  .next (imageLoad s r.toNat sess.toNat len.toNat pl img writes)

/-- R399: A challenge expires 30 s after its reply. -/
def execChallengeExpiry (n : Fin 128) (s : State) : Result :=
  .next (challengeExpiry s n.val)

/-- R403: A session without an accepted message for IDLE_MIN closes with reason 1. -/
def execSessionIdleTimeout (sess : BitVec 32) (s : State) : Result :=
  .next (idleTimeout s sess.toNat)

/-- R404: A session kind's lockout time elapses and OPEN is accepted again. -/
def execLockoutExpiry (k : Fin 4) (s : State) : Result :=
  .next (lockoutExpiry s k.val)

/-- R412: The flash engine writes the journal entry of the next queued record. -/
def execLedgerCommitStart (s : State) : Result :=
  .next (commitStart s)

/-- R412: The record slot is programmed, the head updated and DONE written over PREPARED. -/
def execLedgerCommitDone (ok : Bool) (s : State) : Result :=
  .next (ledgerDone s ok)

/-- R414: With fewer than 2 erased blocks ahead the oldest block is carried forward, checkpointed and erased. -/
def execLedgerPrune (s : State) : Result :=
  .next (ledgerPrune s)

/-- R418: A LEDGER ring read returns padded slot images of a SEQ range to a LEDGER-READ session holder. -/
def execLedgerRead (r : BitVec 15) (s : State) : Result :=
  .next (ledgerRead s r.toNat)

/-- R422: A signed motion record is placed on the grant holder's ring or dropped and counted. -/
def execMotionRecordDelivery (s : State) : Result :=
  .next (motionDelivery s)

/-- R426: A tamper source event applies its LOG, LOCK or ERASE response. -/
def execTamperEvent (j : Fin 8) (s : State) : Result :=
  .next (tamperEvent s j.val)

/-- R43: A parked tamper sample latches events in retained SRAM and may zeroise KWK. -/
def execTamperSampleParked (j : Fin 8) (ticks : BitVec 48) (s : State) : Result :=
  .next (tamperParked s s.aon.parked j.val ticks.toNat)

/-- R432: A read of LDG_HEAD_LO latches HEAD_HI and the head hash words. -/
def execLdgHeadLoRead (m : BitVec 8) (s : State) : Result :=
  .next (ldgHeadRead s m.toNat)

/-- R426: A live tamper source returns to its idle condition and its SEC_TAMPER.LIVE bit clears, so TAMPER_REARM may clear SEEN. -/
def execTamperSourceReturn (j : Fin 8) (s : State) : Result :=
  .next (tamperReturn s j.val)

end Sys2Proof.Machine
end

