-- ==== Sys2Proof/Machine/CmdTurnspit.lean ====
section
/-! DEFINITION. The meanings of the commands of Turnspit (02_turnspit.md), each over the block's shared operations. -/
namespace Sys2Proof.Machine

/-- R49: T increases by 1 every nanosecond and every source extrapolates its angle. -/
def execNsTick (s : State) : Result :=
  .next (nsTick s)

/-- R51: Every 2^20 ns the always-on domain stores T and restarts its tick counter. -/
def execAonTStore (s : State) : Result :=
  .next (aonStore s)

/-- R56: A write of TSP_SRCn_CFG enables or disables the source, or updates its locked fields only while EN is 0. -/
def execTspSrcCfgWrite (m : BitVec 8) (n : Fin 8) (v : BitVec 32) (s : State) : Result :=
  .next (tspSrcCfgWrite s m.toNat n.val v.toNat)

/-- R70: A write of TSP_SRCn_LOSS sets the loss action, coast time, loss consumer and command DSP, or is discarded whole. -/
def execTspSrcLossWrite (m : BitVec 8) (n : Fin 8) (v : BitVec 32) (s : State) : Result :=
  .next (tspSrcLossWrite s m.toNat n.val v.toNat)

/-- R59: A write of OFS takes effect at the source's next update, stepping the angle by the change. -/
def execTspSrcOfsWrite (m : BitVec 8) (n : Fin 8) (v : BitVec 32) (s : State) : Result :=
  .next (tspSrcOfsWrite s m.toNat n.val v.toNat)

/-- R58: A usable or unusable sin/cos pair updates the resolver tracking loop and loss count. -/
def execResolverPair (n : Fin 8) (s : State) : Result :=
  .next (tspResolverPair s n.val)

/-- R58: An accepted A or B edge updates the encoder count, angle and speed. -/
def execEncoderEdge (n : Fin 8) (a : Bool) (b : Bool) (samples : Nat) (s : State) : Result :=
  .next (tspEncoderEdge s n.val a b samples)

/-- R60: A Z edge zeroes the count after enable or RESYNC, or checks it against 0 and counts ZERR. -/
def execEncoderZEdge (n : Fin 8) (samples : Nat) (s : State) : Result :=
  .next (tspEncoderZ s n.val samples)

/-- R756: An accepted Hall code change moves the angle to a sector boundary or counts a skip. -/
def execHallCodeChange (n : Fin 8) (code : BitVec 3) (samples : Nat) (s : State) : Result :=
  .next (tspHallCode s n.val code.toNat samples)

/-- R61: An accepted WPULSE pulse advances the wheel angle by one pulse in the sign given by the reference. -/
def execWheelPulse (n : Fin 8) (samples : Nat) (s : State) : Result :=
  .next (tspWheelPulse s n.val samples)

/-- R70: A COASTING source whose coast time has run out enters LOST with HOLD behaviour. -/
def execCoastTimeout (n : Fin 8) (s : State) : Result :=
  .next (tspCoastTimeout s n.val)

/-- R67: A pulse source without an edge for the standstill timeout reports SPEED 0 and sets STANDSTILL. -/
def execStandstillTimeout (n : Fin 8) (s : State) : Result :=
  .next (tspStandstill s n.val)

/-- R758: A RESYNC command puts a lost source in ACQUIRING, or acquires the own input in the background while FOLLOWING. -/
def execResync (m : BitVec 8) (n : Fin 8) (s : State) : Result :=
  .next (tspSrcCmdWrite s m.toNat n.val 1)

/-- R74: A SWITCH command makes the source follow its fallback at the fallback's next update if R76 accepts it. -/
def execSwitch (m : BitVec 8) (n : Fin 8) (s : State) : Result :=
  .next (tspSrcCmdWrite s m.toNat n.val 2)

/-- R75: A SWBACK command returns the source to its own input, or cancels a pending switch. -/
def execSwback (m : BitVec 8) (n : Fin 8) (s : State) : Result :=
  .next (tspSrcCmdWrite s m.toNat n.val 4)

/-- R79: A CLAIM of a compare unit makes the writer its owner or is refused with CONFLICT. -/
def execCmpClaim (m : BitVec 8) (u : Fin 128) (s : State) : Result :=
  .next (tspCmpOwnWrite s m.toNat u.val 0x80000000)

/-- R79: A RELEASE by the owner disarms the unit without an event and frees it. -/
def execCmpRelease (m : BitVec 8) (u : Fin 128) (s : State) : Result :=
  .next (tspCmpOwnWrite s m.toNat u.val 0x40000000)

/-- R81: An ARM snapshots CFG, TGT and STEP and arms the unit, or is refused with CFG_ERR. -/
def execArm (m : BitVec 8) (u : Fin 128) (s : State) : Result :=
  .next (tspCmpCtrlWrite s m.toNat u.val 1)

/-- R94: A DISARM disarms the unit and cancels a firing in the same nanosecond. -/
def execDisarm (m : BitVec 8) (u : Fin 128) (s : State) : Result :=
  .next (tspCmpCtrlWrite s m.toNat u.val 2)

/-- R85: A compare unit reaches its crossing or lead instant, fires, latches FIRE_T and delivers the event to its consumer. -/
def execCompareFire (u : Fin 128) (s : State) : Result :=
  .next (compareFire s u.val)

/-- R99: A read of TSP_SRCn_ANG latches TURN, SPEED and UPD_T into the reader's shadow. -/
def execTspSrcAngRead (m : BitVec 8) (n : Fin 8) (s : State) : Result :=
  .next (tspAngRead s m.toNat n.val)

/-- R103: A read of TSP_CONFLICT_INFO returns and removes the oldest conflict entry. -/
def execTspConflictInfoRead (m : BitVec 8) (s : State) : Result :=
  .next (tspConflictRead s m.toNat)

end Sys2Proof.Machine
end

