-- ==== Sys2Proof/Machine/CmdValolo.lean ====
section
/-! DEFINITION. The meanings of the commands of cell monitoring and the satellites (09_cell_monitoring.md), each over the block's shared operations. -/
namespace Sys2Proof.Machine

/-- R366: A VAL_CTRL.TRIG write triggers a sample set or is dropped and counted. -/
def execTrig (m : BitVec 8) (s : State) : Result :=
  .next (valTrig s m.toNat)

/-- R367: Once no exchange is in flight the engine sends SYNC out of every ACTIVE port and records T_SYNC. -/
def execSync (s : State) : Result :=
  .next (valSync s)

/-- R370: Window end plus 20 µs, the engine sends GET_SET on each port that received SYNC. -/
def execValSendGetSet (s : State) : Result :=
  .next (valGetSet s)

/-- R370: A SET_DATA reply is accepted or retried, and the last one completes and commits the set. -/
def execSetData (p : Fin 32) (pl : List Byte) (crc : BitVec 32) (clean : Bool) (s : State) : Result :=
  .next (valReply s p.val 0x84 pl crc.toNat clean)

/-- R370: No SD within RESP_TMO counts TIMEOUT and retries or gives up the exchange. -/
def execValResponseTimeout (p : Fin 32) (s : State) : Result :=
  .next (valTimeout s p.val)

/-- R391: An RD_DATA reply completes a register read exchange. -/
def execRdData (p : Fin 32) (pl : List Byte) (crc : BitVec 32) (clean : Bool) (s : State) : Result :=
  .next (valReply s p.val 0x82 pl crc.toNat clean)

/-- R391: A WR_ACK reply completes a register write exchange. -/
def execWrAck (p : Fin 32) (pl : List Byte) (crc : BitVec 32) (clean : Bool) (s : State) : Result :=
  .next (valReply s p.val 0x83 pl crc.toNat clean)

/-- R385: A CMD_ACK reply completes a command exchange, such as putting a port in SLEEP. -/
def execCmdAck (p : Fin 32) (pl : List Byte) (crc : BitVec 32) (clean : Bool) (s : State) : Result :=
  .next (valReply s p.val 0x85 pl crc.toNat clean)

/-- R391: A NAK reply fails the exchange with its reason. -/
def execNak (p : Fin 32) (pl : List Byte) (crc : BitVec 32) (clean : Bool) (s : State) : Result :=
  .next (valReply s p.val 0xFF pl crc.toNat clean)

/-- R368: A satellite receiving a valid SYNC opens its balancing switches and schedules its conversion window. -/
def execSatSync (p : Fin 32) (pl : List Byte) (crc : BitVec 32) (clean : Bool) (s : State) : Result :=
  .next (satSync s p.val pl crc.toNat clean)

/-- R368: The satellite's conversion window ends; it holds the results and resumes balancing. -/
def execSatWindowEnd (p : Fin 32) (cells : List Int) (temps : List Nat) (vtref : Nat) (die : BitVec 16) (module : BitVec 16) (s : State) : Result :=
  .next (satWindowEnd s p.val cells temps vtref die.toNat module.toNat)

/-- R365: A satellite answers RD with RD_DATA or NAK. -/
def execSatRd (p : Fin 32) (pl : List Byte) (crc : BitVec 32) (clean : Bool) (s : State) : Result :=
  .next (satRd s p.val pl crc.toNat clean)

/-- R365: A satellite answers WR with WR_ACK or NAK, writing none of a read-only range. -/
def execSatWr (p : Fin 32) (pl : List Byte) (crc : BitVec 32) (clean : Bool) (s : State) : Result :=
  .next (satWr s p.val pl crc.toNat clean)

/-- R368: A satellite answers GET_SET with SET_DATA, flagging MISSED_SYNC when applicable. -/
def execSatGetSet (p : Fin 32) (pl : List Byte) (crc : BitVec 32) (clean : Bool) (s : State) : Result :=
  .next (satGetSet s p.val pl crc.toNat clean)

/-- R380: A satellite starts an open-wire run or answers NAK BUSY. -/
def execOwdRun (p : Fin 32) (pl : List Byte) (crc : BitVec 32) (clean : Bool) (s : State) : Result :=
  .next (satOwdRun s p.val pl crc.toNat clean)

/-- R389: A satellite answers CMD SLEEP and sleeps 100 µs later. -/
def execSleep (p : Fin 32) (pl : List Byte) (crc : BitVec 32) (clean : Bool) (s : State) : Result :=
  .next (satSleep s p.val pl crc.toNat clean)

/-- R392: A satellite clears FAULT bits whose causes are gone. -/
def execClearFault (p : Fin 32) (pl : List Byte) (crc : BitVec 32) (clean : Bool) (s : State) : Result :=
  .next (satClearFault s p.val pl crc.toNat clean)

/-- R365: A satellite answers an unknown type or CMD code with NAK REASON 5. -/
def execSatUnknownRequest (p : Fin 32) (typ : BitVec 8) (pl : List Byte) (crc : BitVec 32) (clean : Bool) (s : State) : Result :=
  .next (satUnknown s p.val typ.toNat pl crc.toNat clean)

/-- R381: An open-wire run ends, flags open lines and sets OWD_DONE. -/
def execSatOwdComplete (p : Fin 32) (off : List Int) (on : List Int) (s : State) : Result :=
  .next (satOwdComplete s p.val off on)

/-- R389: A satellite without a valid frame for about 2 s goes to sleep. -/
def execSatSilenceTimeout (p : Fin 32) (s : State) : Result :=
  .next (satSilence s p.val)

/-- R378: BAL_EN not written for BAL_TMO opens every switch and clears BAL_EN. -/
def execBalTmoExpiry (p : Fin 32) (s : State) : Result :=
  .next (balTimeout s p.val)

/-- R379: Every 100 ms the satellite measures its die temperature and applies its balancing limits. -/
def execSatDieTempCheck (p : Fin 32) (die : Int) (s : State) : Result :=
  .next (dieCheck s p.val die)

/-- R379: Above BAL_TLIM the satellite alternates odd and even cells every 1 s. -/
def execSatBalAlternate (p : Fin 32) (s : State) : Result :=
  .next (balAlternate s p.val)

/-- R389: A satellite receiving a wake burst wakes with FRESH set. -/
def execWakeBurst (p : Fin 32) (ns : Nat) (s : State) : Result :=
  .next (wakeBurst s p.val ns)

/-- R385: A write of PORTp_CFG.EN starts waking a port or sends it to OFF. -/
def execPortEnWrite (m : BitVec 8) (p : Fin 32) (v : BitVec 32) (s : State) : Result :=
  .next (portEnWrite s m.toNat p.val v.toNat)

/-- R386: A step of the wake sequence completes or fails, leading to ACTIVE, a repeat or FAULT. -/
def execWakeSequenceStep (p : Fin 32) (s : State) : Result :=
  .next (wakeStep s p.val)

/-- R385: WAKE_ALL starts waking every port in SLEEP. -/
def execWakeAll (m : BitVec 8) (s : State) : Result :=
  .next (wakeAll s m.toNat)

/-- R385: SLEEP_ALL sends SLEEP on every ACTIVE port. -/
def execSleepAll (m : BitVec 8) (s : State) : Result :=
  .next (sleepAll s m.toNat)

/-- R384: OWD_GO sends OWD_RUN to every ACTIVE port in the mask. -/
def execOwdGo (m : BitVec 8) (s : State) : Result :=
  .next (owdGoAll s m.toNat)

/-- R384: The engine reads open-wire results after the run time and every 200 µs until done, confirming lines. -/
def execOwdResultPoll (p : Fin 32) (s : State) : Result :=
  .next (owdPoll s p.val)

/-- R390: An ACTIVE port idle for 500 ms receives an RD of STATUS. -/
def execKeepAlive (p : Fin 32) (s : State) : Result :=
  .next (keepAlive s p.val)

/-- R385: A FAULT port with AUTO_REC waits 1 s and then wakes. -/
def execPortAutoRecover (p : Fin 32) (s : State) : Result :=
  .next (autoRecover s p.val)

/-- R388: The transmit current limit acting more than 10 µs stops the port and makes it FAULT. -/
def execLineShort (p : Fin 32) (s : State) : Result :=
  .next (lineShort s p.val)

/-- R391: A write of PORTp_ACC GO queues one satellite register access, or is refused. -/
def execAccGo (m : BitVec 8) (p : Fin 32) (v : BitVec 32) (s : State) : Result :=
  .next (accGo s m.toNat p.val v.toNat)

/-- R392: An HN-9016 oscillator, regulator, reference or thermal-shutdown cause sets its FAULT register bit and STATUS.FAULT. -/
def execSatelliteFaultCause (p : Fin 32) (causes : BitVec 4) (s : State) : Result :=
  .next (satCauses s p.val causes.toNat)

end Sys2Proof.Machine
end

