-- ==== Sys2Proof/Machine/Dispatch.lean ====
section
/-! DEFINITION. The meaning of every command: one arm per constructor. -/
namespace Sys2Proof.Machine

def exec (i : Instr) (s : State) : Host.Outcome State Fault Refusal :=
  match i with
  | .lowHalfRead m a => Sys2Proof.Machine.execLowHalfRead m a s
  | .rcFieldRead m a => Sys2Proof.Machine.execRcFieldRead m a s
  | .registerWrite m a v => Sys2Proof.Machine.execRegisterWrite m a v s
  | .fabricAccess l => Sys2Proof.Machine.execFabricAccess l s
  | .memFabViolPop m v => Sys2Proof.Machine.execMemFabViolPop m v s
  | .memFabReqidRead m => Sys2Proof.Machine.execMemFabReqidRead m s
  | .nsTick => Sys2Proof.Machine.execNsTick s
  | .aonTStore => Sys2Proof.Machine.execAonTStore s
  | .tspSrcCfgWrite m n v => Sys2Proof.Machine.execTspSrcCfgWrite m n v s
  | .tspSrcLossWrite m n v => Sys2Proof.Machine.execTspSrcLossWrite m n v s
  | .tspSrcOfsWrite m n v => Sys2Proof.Machine.execTspSrcOfsWrite m n v s
  | .resolverPair n => Sys2Proof.Machine.execResolverPair n s
  | .encoderEdge n a b samples => Sys2Proof.Machine.execEncoderEdge n a b samples s
  | .encoderZEdge n samples => Sys2Proof.Machine.execEncoderZEdge n samples s
  | .hallCodeChange n code samples => Sys2Proof.Machine.execHallCodeChange n code samples s
  | .wheelPulse n samples => Sys2Proof.Machine.execWheelPulse n samples s
  | .coastTimeout n => Sys2Proof.Machine.execCoastTimeout n s
  | .standstillTimeout n => Sys2Proof.Machine.execStandstillTimeout n s
  | .resync m n => Sys2Proof.Machine.execResync m n s
  | .switch m n => Sys2Proof.Machine.execSwitch m n s
  | .swback m n => Sys2Proof.Machine.execSwback m n s
  | .cmpClaim m u => Sys2Proof.Machine.execCmpClaim m u s
  | .cmpRelease m u => Sys2Proof.Machine.execCmpRelease m u s
  | .arm m u => Sys2Proof.Machine.execArm m u s
  | .disarm m u => Sys2Proof.Machine.execDisarm m u s
  | .compareFire u => Sys2Proof.Machine.execCompareFire u s
  | .tspSrcAngRead m n => Sys2Proof.Machine.execTspSrcAngRead m n s
  | .tspConflictInfoRead m => Sys2Proof.Machine.execTspConflictInfoRead m s
  | .adcUnitStart m u => Sys2Proof.Machine.execAdcUnitStart m u s
  | .adcUnitStop m u => Sys2Proof.Machine.execAdcUnitStop m u s
  | .adcUnitSwap m u => Sys2Proof.Machine.execAdcUnitSwap m u s
  | .adcPassEnd u => Sys2Proof.Machine.execAdcPassEnd u s
  | .slotStart u => Sys2Proof.Machine.execSlotStart u s
  | .urgReq m u v => Sys2Proof.Machine.execUrgReq m u v s
  | .openWindowClose u => Sys2Proof.Machine.execOpenWindowClose u s
  | .sampleInstant u code range => Sys2Proof.Machine.execSampleInstant u code range s
  | .conversionEnd u => Sys2Proof.Machine.execConversionEnd u s
  | .quietWindowEnd u => Sys2Proof.Machine.execQuietWindowEnd u s
  | .adcDmaCommit u => Sys2Proof.Machine.execAdcDmaCommit u s
  | .adcUrgCfgWrite m u v => Sys2Proof.Machine.execAdcUrgCfgWrite m u v s
  | .lastValRead m u => Sys2Proof.Machine.execLastValRead m u s
  | .lastAngRead m u => Sys2Proof.Machine.execLastAngRead m u s
  | .refbufEnable m => Sys2Proof.Machine.execRefbufEnable m s
  | .refbufSettled => Sys2Proof.Machine.execRefbufSettled s
  | .refDeviationDetect => Sys2Proof.Machine.execRefDeviationDetect s
  | .refDeviationEnd => Sys2Proof.Machine.execRefDeviationEnd s
  | .adcExcCfgWrite m v => Sys2Proof.Machine.execAdcExcCfgWrite m v s
  | .comparatorTrip c x => Sys2Proof.Machine.execComparatorTrip c x s
  | .comparatorRelease c x => Sys2Proof.Machine.execComparatorRelease c x s
  | .adcCmpWrite m c cfg v => Sys2Proof.Machine.execAdcCmpWrite m c cfg v s
  | .adcCmpLock m v => Sys2Proof.Machine.execAdcCmpLock m v s
  | .cdReset m n cut => Sys2Proof.Machine.execCdReset m n cut s
  | .cdHalt m n => Sys2Proof.Machine.execCdHalt m n s
  | .cdRun m n => Sys2Proof.Machine.execCdRun m n s
  | .cdApertureAccess m n write off v => Sys2Proof.Machine.execCdApertureAccess m n write off v s
  | .relSet m n v => Sys2Proof.Machine.execRelSet m n v s
  | .relCancel m n v => Sys2Proof.Machine.execRelCancel m n v s
  | .dspAccept n => Sys2Proof.Machine.execDspAccept n s
  | .coprocComplete n => Sys2Proof.Machine.execCoprocComplete n s
  | .dspMove n => Sys2Proof.Machine.execDspMove n s
  | .dspMul n => Sys2Proof.Machine.execDspMul n s
  | .dspMuln n => Sys2Proof.Machine.execDspMuln n s
  | .dspMac n => Sys2Proof.Machine.execDspMac n s
  | .dspMsu n => Sys2Proof.Machine.execDspMsu n s
  | .dspMulr n => Sys2Proof.Machine.execDspMulr n s
  | .dspMra n => Sys2Proof.Machine.execDspMra n s
  | .dspAdd n => Sys2Proof.Machine.execDspAdd n s
  | .dspSub n => Sys2Proof.Machine.execDspSub n s
  | .dspCmp n => Sys2Proof.Machine.execDspCmp n s
  | .dspCmpDxdy n => Sys2Proof.Machine.execDspCmpDxdy n s
  | .dspAnd n => Sys2Proof.Machine.execDspAnd n s
  | .dspOr n => Sys2Proof.Machine.execDspOr n s
  | .dspXor n => Sys2Proof.Machine.execDspXor n s
  | .dspNot n => Sys2Proof.Machine.execDspNot n s
  | .dspClr n => Sys2Proof.Machine.execDspClr n s
  | .dspNeg n => Sys2Proof.Machine.execDspNeg n s
  | .dspAbs n => Sys2Proof.Machine.execDspAbs n s
  | .dspRnd n => Sys2Proof.Machine.execDspRnd n s
  | .dspAsl n => Sys2Proof.Machine.execDspAsl n s
  | .dspAsr n => Sys2Proof.Machine.execDspAsr n s
  | .dspTst n => Sys2Proof.Machine.execDspTst n s
  | .dspCpy n => Sys2Proof.Machine.execDspCpy n s
  | .dspMoveImm n => Sys2Proof.Machine.execDspMoveImm n s
  | .dspMoveRr n => Sys2Proof.Machine.execDspMoveRr n s
  | .dspMoveEa n => Sys2Proof.Machine.execDspMoveEa n s
  | .dspMoveAbs n => Sys2Proof.Machine.execDspMoveAbs n s
  | .dspLdp n => Sys2Proof.Machine.execDspLdp n s
  | .dspPadr n => Sys2Proof.Machine.execDspPadr n s
  | .dspAshImm n => Sys2Proof.Machine.execDspAshImm n s
  | .dspAshReg n => Sys2Proof.Machine.execDspAshReg n s
  | .dspLsh n => Sys2Proof.Machine.execDspLsh n s
  | .dspNrm n => Sys2Proof.Machine.execDspNrm n s
  | .dspAddi n => Sys2Proof.Machine.execDspAddi n s
  | .dspCmpi n => Sys2Proof.Machine.execDspCmpi n s
  | .dspCrot n => Sys2Proof.Machine.execDspCrot n s
  | .dspCvec n => Sys2Proof.Machine.execDspCvec n s
  | .dspSqrt n => Sys2Proof.Machine.execDspSqrt n s
  | .dspDiv n => Sys2Proof.Machine.execDspDiv n s
  | .dspNop n => Sys2Proof.Machine.execDspNop n s
  | .dspRts n => Sys2Proof.Machine.execDspRts n s
  | .dspRti n => Sys2Proof.Machine.execDspRti n s
  | .dspLpop n => Sys2Proof.Machine.execDspLpop n s
  | .dspSwi n => Sys2Proof.Machine.execDspSwi n s
  | .dspJmp n => Sys2Proof.Machine.execDspJmp n s
  | .dspCall n => Sys2Proof.Machine.execDspCall n s
  | .dspBcc n => Sys2Proof.Machine.execDspBcc n s
  | .dspLoopReg n => Sys2Proof.Machine.execDspLoopReg n s
  | .dspLoopImm n => Sys2Proof.Machine.execDspLoopImm n s
  | .dspRptImm n => Sys2Proof.Machine.execDspRptImm n s
  | .dspRptReg n => Sys2Proof.Machine.execDspRptReg n s
  | .pwmBind m n v => Sys2Proof.Machine.execPwmBind m n v s
  | .shadowWrite m n r v => Sys2Proof.Machine.execShadowWrite m n r v s
  | .pwmCommit m n => Sys2Proof.Machine.execPwmCommit m n s
  | .pwmRun m n => Sys2Proof.Machine.execPwmRun m n s
  | .pwmStop m n => Sys2Proof.Machine.execPwmStop m n s
  | .forceTrip m n => Sys2Proof.Machine.execForceTrip m n s
  | .tripClr m n => Sys2Proof.Machine.execTripClr m n s
  | .drvrst m n => Sys2Proof.Machine.execDrvrst m n s
  | .drvrstPulseEnd n => Sys2Proof.Machine.execDrvrstPulseEnd n s
  | .pwmCfgWrite m n dt v => Sys2Proof.Machine.execPwmCfgWrite m n dt v s
  | .periodWrap n => Sys2Proof.Machine.execPeriodWrap n s
  | .xferEffectiveInstant n => Sys2Proof.Machine.execXferEffectiveInstant n s
  | .pwmWdogExpiry n => Sys2Proof.Machine.execPwmWdogExpiry n s
  | .deadTimeExpiry n j => Sys2Proof.Machine.execDeadTimeExpiry n j s
  | .hardTrip n k => Sys2Proof.Machine.execHardTrip n k s
  | .pinClaim m k => Sys2Proof.Machine.execPinClaim m k s
  | .pinRelease m k => Sys2Proof.Machine.execPinRelease m k s
  | .pwmConflictInfoRead m => Sys2Proof.Machine.execPwmConflictInfoRead m s
  | .trackerPublish theta freq perr amp seq => Sys2Proof.Machine.execTrackerPublish theta freq perr amp seq s
  | .trkTrimWrite m v => Sys2Proof.Machine.execTrkTrimWrite m v s
  | .halfCycleEnd k => Sys2Proof.Machine.execHalfCycleEnd k s
  | .freqUpdate => Sys2Proof.Machine.execFreqUpdate s
  | .vectorShiftUpdate => Sys2Proof.Machine.execVectorShiftUpdate s
  | .esDelayExpiry => Sys2Proof.Machine.execEsDelayExpiry s
  | .activate m => Sys2Proof.Machine.execActivate m s
  | .profileBankSwap => Sys2Proof.Machine.execProfileBankSwap s
  | .ceaseCmd m => Sys2Proof.Machine.execCeaseCmd m s
  | .ceaseClr m => Sys2Proof.Machine.execCeaseClr m s
  | .injSettingWrite m slot v => Sys2Proof.Machine.execInjSettingWrite m slot v s
  | .injectionStart => Sys2Proof.Machine.execInjectionStart s
  | .injectionEnd => Sys2Proof.Machine.execInjectionEnd s
  | .injectionResponse => Sys2Proof.Machine.execInjectionResponse s
  | .grdRefARead m => Sys2Proof.Machine.execGrdRefARead m s
  | .ivsApply m => Sys2Proof.Machine.execIvsApply m s
  | .ivsScan m => Sys2Proof.Machine.execIvsScan m s
  | .ivsAbort m => Sys2Proof.Machine.execIvsAbort m s
  | .ivsDwellEnd => Sys2Proof.Machine.execIvsDwellEnd s
  | .safetyDomainStart valid up down => Sys2Proof.Machine.execSafetyDomainStart valid up down s
  | .safetyCommit rba rbb => Sys2Proof.Machine.execSafetyCommit rba rbb s
  | .safetyOwnSnapshot => Sys2Proof.Machine.execSafetyOwnSnapshot s
  | .safetyHwFault k => Sys2Proof.Machine.execSafetyHwFault k s
  | .safetyCycleMiss => Sys2Proof.Machine.execSafetyCycleMiss s
  | .sinLevelAccept n sideB x => Sys2Proof.Machine.execSinLevelAccept n sideB x s
  | .testPulseStart sideB => Sys2Proof.Machine.execTestPulseStart sideB s
  | .testPulseCheck sideB pulsed other otherEnd => Sys2Proof.Machine.execTestPulseCheck sideB pulsed other otherEnd s
  | .discrepancyTimeout n => Sys2Proof.Machine.execDiscrepancyTimeout n s
  | .strapSample up down => Sys2Proof.Machine.execStrapSample up down s
  | .psetConfirmTimeout wrong => Sys2Proof.Machine.execPsetConfirmTimeout wrong s
  | .psetActivate => Sys2Proof.Machine.execPsetActivate s
  | .dynDueTimeout c => Sys2Proof.Machine.execDynDueTimeout c s
  | .safStatRead m => Sys2Proof.Machine.execSafStatRead m s
  | .trig m => Sys2Proof.Machine.execTrig m s
  | .sync => Sys2Proof.Machine.execSync s
  | .valSendGetSet => Sys2Proof.Machine.execValSendGetSet s
  | .setData p pl crc clean => Sys2Proof.Machine.execSetData p pl crc clean s
  | .valResponseTimeout p => Sys2Proof.Machine.execValResponseTimeout p s
  | .rdData p pl crc clean => Sys2Proof.Machine.execRdData p pl crc clean s
  | .wrAck p pl crc clean => Sys2Proof.Machine.execWrAck p pl crc clean s
  | .cmdAck p pl crc clean => Sys2Proof.Machine.execCmdAck p pl crc clean s
  | .nak p pl crc clean => Sys2Proof.Machine.execNak p pl crc clean s
  | .satSync p pl crc clean => Sys2Proof.Machine.execSatSync p pl crc clean s
  | .satWindowEnd p cells temps vtref die module => Sys2Proof.Machine.execSatWindowEnd p cells temps vtref die module s
  | .satRd p pl crc clean => Sys2Proof.Machine.execSatRd p pl crc clean s
  | .satWr p pl crc clean => Sys2Proof.Machine.execSatWr p pl crc clean s
  | .satGetSet p pl crc clean => Sys2Proof.Machine.execSatGetSet p pl crc clean s
  | .owdRun p pl crc clean => Sys2Proof.Machine.execOwdRun p pl crc clean s
  | .sleep p pl crc clean => Sys2Proof.Machine.execSleep p pl crc clean s
  | .clearFault p pl crc clean => Sys2Proof.Machine.execClearFault p pl crc clean s
  | .satUnknownRequest p typ pl crc clean => Sys2Proof.Machine.execSatUnknownRequest p typ pl crc clean s
  | .satOwdComplete p off on => Sys2Proof.Machine.execSatOwdComplete p off on s
  | .satSilenceTimeout p => Sys2Proof.Machine.execSatSilenceTimeout p s
  | .balTmoExpiry p => Sys2Proof.Machine.execBalTmoExpiry p s
  | .satDieTempCheck p die => Sys2Proof.Machine.execSatDieTempCheck p die s
  | .satBalAlternate p => Sys2Proof.Machine.execSatBalAlternate p s
  | .wakeBurst p ns => Sys2Proof.Machine.execWakeBurst p ns s
  | .portEnWrite m p v => Sys2Proof.Machine.execPortEnWrite m p v s
  | .wakeSequenceStep p => Sys2Proof.Machine.execWakeSequenceStep p s
  | .wakeAll m => Sys2Proof.Machine.execWakeAll m s
  | .sleepAll m => Sys2Proof.Machine.execSleepAll m s
  | .owdGo m => Sys2Proof.Machine.execOwdGo m s
  | .owdResultPoll p => Sys2Proof.Machine.execOwdResultPoll p s
  | .keepAlive p => Sys2Proof.Machine.execKeepAlive p s
  | .portAutoRecover p => Sys2Proof.Machine.execPortAutoRecover p s
  | .lineShort p => Sys2Proof.Machine.execLineShort p s
  | .accGo m p v => Sys2Proof.Machine.execAccGo m p v s
  | .secOpen r sess len pl => Sys2Proof.Machine.execSecOpen r sess len pl s
  | .secProve r sess len pl => Sys2Proof.Machine.execSecProve r sess len pl s
  | .secClose r sess len pl => Sys2Proof.Machine.execSecClose r sess len pl s
  | .getCert r sess len pl => Sys2Proof.Machine.execGetCert r sess len pl s
  | .psetDeliver r sess len pl => Sys2Proof.Machine.execPsetDeliver r sess len pl s
  | .psetConfirm r sess len pl => Sys2Proof.Machine.execPsetConfirm r sess len pl s
  | .keyEnrol r sess len pl => Sys2Proof.Machine.execKeyEnrol r sess len pl s
  | .passwordSet r sess len pl => Sys2Proof.Machine.execPasswordSet r sess len pl s
  | .sessCfg r sess len pl => Sys2Proof.Machine.execSessCfg r sess len pl s
  | .tamperCfg r sess len pl => Sys2Proof.Machine.execTamperCfg r sess len pl s
  | .tamperRearm r sess len pl => Sys2Proof.Machine.execTamperRearm r sess len pl s
  | .odoCfg r sess len pl => Sys2Proof.Machine.execOdoCfg r sess len pl s
  | .debugOpen r sess len pl => Sys2Proof.Machine.execDebugOpen r sess len pl s
  | .lifecycleAdvance r sess len pl => Sys2Proof.Machine.execLifecycleAdvance r sess len pl s
  | .grantSet r sess len pl => Sys2Proof.Machine.execGrantSet r sess len pl s
  | .checkpointNow r sess len pl => Sys2Proof.Machine.execCheckpointNow r sess len pl s
  | .compatAck r sess len pl => Sys2Proof.Machine.execCompatAck r sess len pl s
  | .imageLoad r sess len pl img writes => Sys2Proof.Machine.execImageLoad r sess len pl img writes s
  | .challengeExpiry n => Sys2Proof.Machine.execChallengeExpiry n s
  | .sessionIdleTimeout sess => Sys2Proof.Machine.execSessionIdleTimeout sess s
  | .lockoutExpiry k => Sys2Proof.Machine.execLockoutExpiry k s
  | .ledgerCommitStart => Sys2Proof.Machine.execLedgerCommitStart s
  | .ledgerCommitDone ok => Sys2Proof.Machine.execLedgerCommitDone ok s
  | .ledgerPrune => Sys2Proof.Machine.execLedgerPrune s
  | .ledgerRead r => Sys2Proof.Machine.execLedgerRead r s
  | .motionRecordDelivery => Sys2Proof.Machine.execMotionRecordDelivery s
  | .tamperEvent j => Sys2Proof.Machine.execTamperEvent j s
  | .tamperSampleParked j ticks => Sys2Proof.Machine.execTamperSampleParked j ticks s
  | .spTagWrite m v sec => Sys2Proof.Machine.execSpTagWrite m v sec s
  | .drTagWrite m v sec => Sys2Proof.Machine.execDrTagWrite m v sec s
  | .stockpotZeroFillDone => Sys2Proof.Machine.execStockpotZeroFillDone s
  | .memErrPop m v => Sys2Proof.Machine.execMemErrPop m v s
  | .memRstPop m v => Sys2Proof.Machine.execMemRstPop m v s
  | .drmInit m => Sys2Proof.Machine.execDrmInit m s
  | .drmInitDone zeroed fail => Sys2Proof.Machine.execDrmInitDone zeroed fail s
  | .srEnter m => Sys2Proof.Machine.execSrEnter m s
  | .srExit m => Sys2Proof.Machine.execSrExit m s
  | .trainModeWrite m c v => Sys2Proof.Machine.execTrainModeWrite m c v s
  | .retrain m c => Sys2Proof.Machine.execRetrain m c s
  | .dlyWrite m c k v => Sys2Proof.Machine.execDlyWrite m c k v s
  | .dramLineRead m a err => Sys2Proof.Machine.execDramLineRead m a err s
  | .dramFullWrite m a bs err => Sys2Proof.Machine.execDramFullWrite m a bs err s
  | .dramPartialWrite m a bs err => Sys2Proof.Machine.execDramPartialWrite m a bs err s
  | .scrubRead c err => Sys2Proof.Machine.execScrubRead c err s
  | .driftPause c len rt refreshing delays => Sys2Proof.Machine.execDriftPause c len rt refreshing delays s
  | .driftSense c ps => Sys2Proof.Machine.execDriftSense c ps s
  | .refreshDue c busy => Sys2Proof.Machine.execRefreshDue c busy s
  | .push m q w pop => Sys2Proof.Machine.execPush m q w pop s
  | .pop m q => Sys2Proof.Machine.execPop m q s
  | .lockRead m k => Sys2Proof.Machine.execLockRead m k s
  | .lockWrite m k v => Sys2Proof.Machine.execLockWrite m k v s
  | .lockForce m v => Sys2Proof.Machine.execLockForce m v s
  | .dbSet m k v => Sys2Proof.Machine.execDbSet m k v s
  | .dbPendClear m k v => Sys2Proof.Machine.execDbPendClear m k v s
  | .dbMaskWrite m k v => Sys2Proof.Machine.execDbMaskWrite m k v s
  | .dbCfgWrite m k v => Sys2Proof.Machine.execDbCfgWrite m k v s
  | .folioDataWrite m n d2h k v => Sys2Proof.Machine.execFolioDataWrite m n d2h k v s
  | .folioPost m n d2h => Sys2Proof.Machine.execFolioPost m n d2h s
  | .folioDone m n d2h => Sys2Proof.Machine.execFolioDone m n d2h s
  | .doorbellTail n l wide high v => Sys2Proof.Machine.execDoorbellTail n l wide high v s
  | .doorbellChead n l wide high v => Sys2Proof.Machine.execDoorbellChead n l wide high v s
  | .descFetchDone r ok w => Sys2Proof.Machine.execDescFetchDone r ok w s
  | .hostDmaDone r seq ok moved => Sys2Proof.Machine.execHostDmaDone r seq ok moved s
  | .msixCoalTimeout r => Sys2Proof.Machine.execMsixCoalTimeout r s
  | .msixUnmask fn vec k v => Sys2Proof.Machine.execMsixUnmask fn vec k v s
  | .flr fn jfail => Sys2Proof.Machine.execFlr fn jfail s
  | .busMasterEnableChange fn on => Sys2Proof.Machine.execBusMasterEnableChange fn on s
  | .bar0Access fn write o size v => Sys2Proof.Machine.execBar0Access fn write o size v s
  | .barMalformedAccess fn write => Sys2Proof.Machine.execBarMalformedAccess fn write s
  | .statusPageWrite fn => Sys2Proof.Machine.execStatusPageWrite fn s
  | .ringCtxWrite m k v => Sys2Proof.Machine.execRingCtxWrite m k v s
  | .ringDrainDone r cut => Sys2Proof.Machine.execRingDrainDone r cut s
  | .info n => Sys2Proof.Machine.execInfo n s
  | .ringEnable n => Sys2Proof.Machine.execRingEnable n s
  | .ringDisable n => Sys2Proof.Machine.execRingDisable n s
  | .errlogRead n => Sys2Proof.Machine.execErrlogRead n s
  | .attn n => Sys2Proof.Machine.execAttn n s
  | .dbRing n => Sys2Proof.Machine.execDbRing n s
  | .instCreate n => Sys2Proof.Machine.execInstCreate n s
  | .instReset n jfail => Sys2Proof.Machine.execInstReset n jfail s
  | .instRemove n jfail => Sys2Proof.Machine.execInstRemove n jfail s
  | .instQuery n => Sys2Proof.Machine.execInstQuery n s
  | .grant n => Sys2Proof.Machine.execGrant n s
  | .setpointLimit n => Sys2Proof.Machine.execSetpointLimit n s
  | .journalSet n => Sys2Proof.Machine.execJournalSet n s
  | .regWrite n => Sys2Proof.Machine.execRegWrite n s
  | .regRead n => Sys2Proof.Machine.execRegRead n s
  | .vfEnableChange on num jfail => Sys2Proof.Machine.execVfEnableChange on num jfail s
  | .resetDrainDone n cut jfail => Sys2Proof.Machine.execResetDrainDone n cut jfail s
  | .flushReadDone n r ok more jfail => Sys2Proof.Machine.execFlushReadDone n r ok more jfail s
  | .setpoint r => Sys2Proof.Machine.execSetpoint r s
  | .setpointRetryExpiry r => Sys2Proof.Machine.execSetpointRetryExpiry r s
  | .insInfoRead m => Sys2Proof.Machine.execInsInfoRead m s
  | .ptStart m n => Sys2Proof.Machine.execPtStart m n s
  | .ptHalt m n => Sys2Proof.Machine.execPtHalt m n s
  | .ptResume m n => Sys2Proof.Machine.execPtResume m n s
  | .ptPoke m n => Sys2Proof.Machine.execPtPoke m n s
  | .haltAll m c => Sys2Proof.Machine.execHaltAll m c s
  | .startAll m c => Sys2Proof.Machine.execStartAll m c s
  | .wakeCompareFire n => Sys2Proof.Machine.execWakeCompareFire n s
  | .threadAccessDone n => Sys2Proof.Machine.execThreadAccessDone n s
  | .stallLimit c => Sys2Proof.Machine.execStallLimit c s
  | .tputDone n => Sys2Proof.Machine.execTputDone n s
  | .pxAdd n => Sys2Proof.Machine.execPxAdd n s
  | .pxSub n => Sys2Proof.Machine.execPxSub n s
  | .pxAnd n => Sys2Proof.Machine.execPxAnd n s
  | .pxOr n => Sys2Proof.Machine.execPxOr n s
  | .pxXor n => Sys2Proof.Machine.execPxXor n s
  | .pxSll n => Sys2Proof.Machine.execPxSll n s
  | .pxSrl n => Sys2Proof.Machine.execPxSrl n s
  | .pxSra n => Sys2Proof.Machine.execPxSra n s
  | .pxSlt n => Sys2Proof.Machine.execPxSlt n s
  | .pxSltu n => Sys2Proof.Machine.execPxSltu n s
  | .pxMul n => Sys2Proof.Machine.execPxMul n s
  | .pxMulhu n => Sys2Proof.Machine.execPxMulhu n s
  | .pxClz n => Sys2Proof.Machine.execPxClz n s
  | .pxPopc n => Sys2Proof.Machine.execPxPopc n s
  | .pxBswap n => Sys2Proof.Machine.execPxBswap n s
  | .pxCrc32c n => Sys2Proof.Machine.execPxCrc32c n s
  | .pxCsum n => Sys2Proof.Machine.execPxCsum n s
  | .pxAddi n => Sys2Proof.Machine.execPxAddi n s
  | .pxAndi n => Sys2Proof.Machine.execPxAndi n s
  | .pxOri n => Sys2Proof.Machine.execPxOri n s
  | .pxXori n => Sys2Proof.Machine.execPxXori n s
  | .pxSlli n => Sys2Proof.Machine.execPxSlli n s
  | .pxSrli n => Sys2Proof.Machine.execPxSrli n s
  | .pxSrai n => Sys2Proof.Machine.execPxSrai n s
  | .pxSlti n => Sys2Proof.Machine.execPxSlti n s
  | .pxSltiu n => Sys2Proof.Machine.execPxSltiu n s
  | .pxLui n => Sys2Proof.Machine.execPxLui n s
  | .pxBext n => Sys2Proof.Machine.execPxBext n s
  | .pxBins n => Sys2Proof.Machine.execPxBins n s
  | .pxLw n => Sys2Proof.Machine.execPxLw n s
  | .pxLh n => Sys2Proof.Machine.execPxLh n s
  | .pxLhu n => Sys2Proof.Machine.execPxLhu n s
  | .pxLb n => Sys2Proof.Machine.execPxLb n s
  | .pxLbu n => Sys2Proof.Machine.execPxLbu n s
  | .pxSw n => Sys2Proof.Machine.execPxSw n s
  | .pxSh n => Sys2Proof.Machine.execPxSh n s
  | .pxSb n => Sys2Proof.Machine.execPxSb n s
  | .pxAmoadd n => Sys2Proof.Machine.execPxAmoadd n s
  | .pxAmoswap n => Sys2Proof.Machine.execPxAmoswap n s
  | .pxCas n => Sys2Proof.Machine.execPxCas n s
  | .pxBeq n => Sys2Proof.Machine.execPxBeq n s
  | .pxBne n => Sys2Proof.Machine.execPxBne n s
  | .pxBlt n => Sys2Proof.Machine.execPxBlt n s
  | .pxBge n => Sys2Proof.Machine.execPxBge n s
  | .pxBltu n => Sys2Proof.Machine.execPxBltu n s
  | .pxBgeu n => Sys2Proof.Machine.execPxBgeu n s
  | .pxJal n => Sys2Proof.Machine.execPxJal n s
  | .pxJalr n => Sys2Proof.Machine.execPxJalr n s
  | .pxCsrr n => Sys2Proof.Machine.execPxCsrr n s
  | .pxCsrw n => Sys2Proof.Machine.execPxCsrw n s
  | .pxNop n => Sys2Proof.Machine.execPxNop n s
  | .pxWait n => Sys2Proof.Machine.execPxWait n s
  | .pxWaitr n => Sys2Proof.Machine.execPxWaitr n s
  | .pxPoke n => Sys2Proof.Machine.execPxPoke n s
  | .pxHalt n => Sys2Proof.Machine.execPxHalt n s
  | .pxBrk n => Sys2Proof.Machine.execPxBrk n s
  | .pxTput n => Sys2Proof.Machine.execPxTput n s
  | .pxPrx n => Sys2Proof.Machine.execPxPrx n s
  | .pxPtx n => Sys2Proof.Machine.execPxPtx n s
  | .pxPfree n => Sys2Proof.Machine.execPxPfree n s
  | .pxPalloc n => Sys2Proof.Machine.execPxPalloc n s
  | .pxFlook n => Sys2Proof.Machine.execPxFlook n s
  | .pxFcmd n => Sys2Proof.Machine.execPxFcmd n s
  | .tableWrite n rc => Sys2Proof.Machine.execTableWrite n rc s
  | .tableDelete n rc => Sys2Proof.Machine.execTableDelete n rc s
  | .tableRead n rc => Sys2Proof.Machine.execTableRead n rc s
  | .keyLoad n rc => Sys2Proof.Machine.execKeyLoad n rc s
  | .keyRestore n rc => Sys2Proof.Machine.execKeyRestore n rc s
  | .txFrame r data => Sys2Proof.Machine.execTxFrame r data s
  | .txTable r data => Sys2Proof.Machine.execTxTable r data s
  | .frameReceive p fcs data => Sys2Proof.Machine.execFrameReceive p fcs data s
  | .fdbAgeExpiry idx => Sys2Proof.Machine.execFdbAgeExpiry idx s
  | .flowCacheFill idx => Sys2Proof.Machine.execFlowCacheFill idx s
  | .frameTransmitStart p => Sys2Proof.Machine.execFrameTransmitStart p s
  | .frameTransmitEnd p => Sys2Proof.Machine.execFrameTransmitEnd p s
  | .storageRead r => Sys2Proof.Machine.execStorageRead r s
  | .storageWrite r data => Sys2Proof.Machine.execStorageWrite r data s
  | .storageFlush r => Sys2Proof.Machine.execStorageFlush r s
  | .storageWriteZeroes r => Sys2Proof.Machine.execStorageWriteZeroes r s
  | .storageDeallocate r => Sys2Proof.Machine.execStorageDeallocate r s
  | .ssdCompletion r seq st data => Sys2Proof.Machine.execSsdCompletion r seq st data s
  | .nvmeTimeout r seq => Sys2Proof.Machine.execNvmeTimeout r seq s
  | .gptpCommit m sync => Sys2Proof.Machine.execGptpCommit m sync s
  | .gateEntryAdvance p => Sys2Proof.Machine.execGateEntryAdvance p s
  | .gclChange m p len fb => Sys2Proof.Machine.execGclChange m p len fb s
  | .gclSwap p => Sys2Proof.Machine.execGclSwap p s
  | .angTimeout p => Sys2Proof.Machine.execAngTimeout p s
  | .starvationFlag p c => Sys2Proof.Machine.execStarvationFlag p c s
  | .nodeCfgWrite m v => Sys2Proof.Machine.execNodeCfgWrite m v s
  | .captureGrid => Sys2Proof.Machine.execCaptureGrid s
  | .qorRefSend => Sys2Proof.Machine.execQorRefSend s
  | .qorRef => Sys2Proof.Machine.execQorRef s
  | .qorIsland => Sys2Proof.Machine.execQorIsland s
  | .qorResume => Sys2Proof.Machine.execQorResume s
  | .qorJoin => Sys2Proof.Machine.execQorJoin s
  | .qorAccept => Sys2Proof.Machine.execQorAccept s
  | .qorReject => Sys2Proof.Machine.execQorReject s
  | .qorLeave => Sys2Proof.Machine.execQorLeave s
  | .qorStatus => Sys2Proof.Machine.execQorStatus s
  | .qorJoinRepeat => Sys2Proof.Machine.execQorJoinRepeat s
  | .qorHoldoverEntry => Sys2Proof.Machine.execQorHoldoverEntry s
  | .qorLoneEntry => Sys2Proof.Machine.execQorLoneEntry s
  | .qorMemberTimeout => Sys2Proof.Machine.execQorMemberTimeout s
  | .aggIsland m close => Sys2Proof.Machine.execAggIsland m close s
  | .aggResume m close => Sys2Proof.Machine.execAggResume m close s
  | .aggLeave m close => Sys2Proof.Machine.execAggLeave m close s
  | .aggClose m on => Sys2Proof.Machine.execAggClose m on s
  | .aggCapRead m k => Sys2Proof.Machine.execAggCapRead m k s
  | .ldgHeadLoRead m => Sys2Proof.Machine.execLdgHeadLoRead m s
  | .osc25Loss => Sys2Proof.Machine.execOsc25Loss s
  | .osc25Return => Sys2Proof.Machine.execOsc25Return s
  | .park m => Sys2Proof.Machine.execPark m s
  | .parkDone => Sys2Proof.Machine.execParkDone s
  | .wakeSource w0 w1 ticks => Sys2Proof.Machine.execWakeSource w0 w1 ticks s
  | .unplannedPowerLoss saf => Sys2Proof.Machine.execUnplannedPowerLoss saf s
  | .vbatApply => Sys2Proof.Machine.execVbatApply s
  | .vbatBrownout mv => Sys2Proof.Machine.execVbatBrownout mv s
  | .pornLow saf => Sys2Proof.Machine.execPornLow saf s
  | .warm m jfail cut => Sys2Proof.Machine.execWarm m jfail cut s
  | .mgmt m jfail cut => Sys2Proof.Machine.execMgmt m jfail cut s
  | .mgmtWdogExpiry jfail cut => Sys2Proof.Machine.execMgmtWdogExpiry jfail cut s
  | .wdogKick m v => Sys2Proof.Machine.execWdogKick m v s
  | .hostReset jfail => Sys2Proof.Machine.execHostReset jfail s
  | .safRstn => Sys2Proof.Machine.execSafRstn s
  | .safetyResend => Sys2Proof.Machine.execSafetyResend s
  | .bootS0Rom prog => Sys2Proof.Machine.execBootS0Rom prog s
  | .bootS1Sc cut missing altered => Sys2Proof.Machine.execBootS1Sc cut missing altered s
  | .bootS2Mc pantry writes => Sys2Proof.Machine.execBootS2Mc pantry writes s
  | .bootS3Dram => Sys2Proof.Machine.execBootS3Dram s
  | .bootS4Realtime writes loaded => Sys2Proof.Machine.execBootS4Realtime writes loaded s
  | .legCommandChange n j => Sys2Proof.Machine.execLegCommandChange n j s
  | .tripInputRelease n k => Sys2Proof.Machine.execTripInputRelease n k s
  | .spcntEdge c a b => Sys2Proof.Machine.execSpcntEdge c a b s
  | .satelliteFaultCause p causes => Sys2Proof.Machine.execSatelliteFaultCause p causes s
  | .tamperSourceReturn j => Sys2Proof.Machine.execTamperSourceReturn j s
  | .dspWindowAccessDone n => Sys2Proof.Machine.execDspWindowAccessDone n s
  | .dspIllegalEncoding n => Sys2Proof.Machine.execDspIllegalEncoding n s
  | .pxIllegalEncoding n => Sys2Proof.Machine.execPxIllegalEncoding n s
  | .pornRelease ticks => Sys2Proof.Machine.execPornRelease ticks s
  | .perstRelease speed width => Sys2Proof.Machine.execPerstRelease speed width s
  | .portLinkChange p up speed => Sys2Proof.Machine.execPortLinkChange p up speed s
  | .verifyExchangeDone p => Sys2Proof.Machine.execVerifyExchangeDone p s
  | .nvmeBringupDone ok q => Sys2Proof.Machine.execNvmeBringupDone ok q s
  | .pllLossOfLock k => Sys2Proof.Machine.execPllLossOfLock k s

end Sys2Proof.Machine
end

