-- ==== Sys2Proof/Safety.lean ====
section
/-! DEFINITION. What claims say of a whole state: the invariant that every step keeps, and the safe condition of a power
channel. -/
namespace Sys2Proof.Machine
open Sys2Proof.Reg

/-- What holds of the state whatever commands come: the register file and the memories are in their canonical forms, T is a
64-bit count (R49), the violation log holds at most 16 entries (R47). -/
structure State.Inv (s : State) : Prop where
  regs : s.regs.wf = true
  mem : Memory.wf s.mem = true
  time : s.T < 2 ^ 64
  viol : s.viol.length ≤ 16

/-- Every register field but those of `l` reads in `t` as in `s`: the frame of a command over the register file. -/
def KeepsFields (s t : State) (l : List Fld) : Prop := ∀ x : Fld, (∀ y ∈ l, y.key ≠ x.key) → t.get x = s.get x

/-- Neither the high nor the low gate output of any leg of channel `n` is active. -/
def outputsOff (s : State) (n : Nat) : Bool :=
  (List.range 4).all (fun j => let l := (s.chan n).leg.get {} j; !l.hi && !l.lo)

/-- The word that CDn is about to run. -/
def dspWord (s : State) (n : Nat) : Nat := s.pmWord n (s.cd n).pc

/-- CDn is about to run a word of the row `k` of the instruction tables, in a place where that row is legal (R172, R223). -/
structure DspAt (s : State) (n : Nat) (k : DKind) : Prop where
  running : cdRunning s n = true
  free : (s.cd n).stalled = false
  row : dspKind (dspWord s n) = k
  place : illegalHere (s.cd n) k = false

/-- The address of the instruction after the one at PC: the same one while it repeats, else what the loop stack gives
(R169, R171, R174, R224). -/
def dspNext (s : State) (n : Nat) : Nat :=
  if 2 ≤ (s.cd n).rpt then (s.cd n).pc else pmAddr (loopEnd (s.cd n).loops (s.cd n).pc).2

/-- What an instruction of CDn that only works on CDn's registers leaves as it was, besides those. -/
structure DspOnly (s t : State) (n : Nat) : Prop where
  regs : t.regs = s.regs
  mem : t.mem = s.mem
  out : t.out = s.out
  time : t.T = s.T
  others : ∀ j, j ≠ n → t.cd j = s.cd j
  store : ∀ j, t.cdMem j = s.cdMem j

/-- What an instruction of CDn that works on the accumulators, the D registers or the flags leaves of CDn's other registers: the
pointers, the call stack, the coprocessor's results, and IPL, FRAC, SAT and RM in SR. -/
structure DspKeeps (a b : Dsp) : Prop where
  ptrs : b.ap = a.ap
  mods : b.am = a.am
  bases : b.ab = a.ab
  lens : b.al = a.al
  calls : b.calls = a.calls
  cop : b.cpx = a.cpx ∧ b.cpy = a.cpy ∧ b.cpf = a.cpf
  modes : ∀ k, 7 ≤ k → bit b.sr k = bit a.sr k

/-- The registers that a move can name hold the same values. -/
structure SameRegs (a b : Dsp) : Prop where
  d : a.d = b.d
  acc : a.acc = b.acc
  ap : a.ap = b.ap
  am : a.am = b.am
  ab : a.ab = b.ab
  al : a.al = b.al
  sr : a.sr = b.sr
  calls : a.calls = b.calls
  cop : a.cpx = b.cpx ∧ a.cpy = b.cpy ∧ a.cpf = b.cpf

/-- CDn with the pointer of access `a` modified. -/
def Dsp.point (d : Dsp) (a : DAccess) : Dsp :=
  match a.ptr with
  | some (k, p) => { d with ap := d.ap.set k p }
  | none => d

/-- What the accesses `l` to DA and DB of an instruction that stands in ADDR in cycle `c` do: loads, stores and nothing else in the
memories of CDn, the pointers, AMODE_ERR when a pointer set in use has a reserved ALk, and nothing outside CDn. -/
structure AccessesDone (s t : State) (n c : Nat) (l : List DAccess) : Prop where
  loadsD : ∀ a ∈ l, a.write = false → a.reg < 4 → (t.cd n).dreg a.reg = wrap 24 (s.dataWord n (a.space != 0) a.addr c)
  loadsAcc : ∀ a ∈ l, a.write = false → a.reg = 4 ∨ a.reg = 5 →
    (t.cd n).accU (a.reg - 4) = unsigned 56 (toAcc (s.dataWord n (a.space != 0) a.addr c))
  stores : ∀ a ∈ l, a.write = true →
    (if a.space = 0 then (t.cdMem n).da else (t.cdMem n).db).get 0 a.addr = ((s.cd n).read6 a.reg).1
  daKept : ∀ x, (∀ a ∈ l, a.write = true → a.space = 0 → a.addr ≠ x) → (t.cdMem n).da.get 0 x = (s.cdMem n).da.get 0 x
  dbKept : ∀ x, (∀ a ∈ l, a.write = true → a.space ≠ 0 → a.addr ≠ x) → (t.cdMem n).db.get 0 x = (s.cdMem n).db.get 0 x
  pm : (t.cdMem n).pm = (s.cdMem n).pm
  pointed : ∀ a ∈ l, ∀ k p, a.ptr = some (k, p) → (t.cd n).ap.get 0 k = p
  apKept : ∀ k, (∀ a ∈ l, ∀ p, a.ptr ≠ some (k, p)) → (t.cd n).ap.get 0 k = (s.cd n).ap.get 0 k
  amode : t.get (CD_STAT_AMODE_ERR n) = (if l.any (·.amode) then 1 else s.get (CD_STAT_AMODE_ERR n))
  fields : KeepsFields s t [CD_STAT_AMODE_ERR n]
  mem : t.mem = s.mem
  out : t.out = s.out
  time : t.T = s.T
  others : ∀ j, j ≠ n → t.cd j = s.cd j ∧ t.cdMem j = s.cdMem j

/-- The rows of the P class with their OP codes (Table 5.5). -/
def pRows (n : Fin 4) : List (Instr × Nat) :=
  [(.dspMove n, 0x00), (.dspMul n, 0x01), (.dspMuln n, 0x02), (.dspMac n, 0x03), (.dspMsu n, 0x04), (.dspMulr n, 0x05), (.dspMra n, 0x06),
   (.dspAdd n, 0x07), (.dspSub n, 0x08), (.dspCmp n, 0x09), (.dspCmpDxdy n, 0x0A), (.dspAnd n, 0x0B), (.dspOr n, 0x0C), (.dspXor n, 0x0D),
   (.dspNot n, 0x0E), (.dspClr n, 0x0F), (.dspNeg n, 0x10), (.dspAbs n, 0x11), (.dspRnd n, 0x12), (.dspAsl n, 0x13), (.dspAsr n, 0x14),
   (.dspTst n, 0x15), (.dspCpy n, 0x16)]

/-- The word that follows ALU operation `op` of word `w` of CDn in its own registers, before the move field's part. -/
def aluDone (s : State) (n op w : Nat) : Dsp := aluOp (s.cd n) op (bits w 25 1) (bits w 21 4) (bit (Config.freeWord s.free) 0)

/-- R152: the accumulator value that the exact result `v` leaves. -/
def accResult (sat : Bool) (v : Int) : Nat := if overflows v && sat then unsigned 56 (satS 56 v) else unsigned 56 v

/-- An instruction of CDn that puts the exact result `v` into accumulator `i`, sets V, SO, Z, N, GU and LZ by it (R152, R209, R211),
keeps the other accumulator, the D registers, the pointers, the call stack and everything outside CDn, and goes on to the next
instruction. -/
structure AccStep (s t : State) (n i : Nat) (v : Int) : Prop where
  acc : (t.cd n).accU i = accResult (s.cd n).sat v
  vflag : (t.cd n).flag srV = overflows v
  soflag : (t.cd n).flag srSO = (overflows v || (s.cd n).flag srSO)
  zflag : (t.cd n).flag srZ = (accResult (s.cd n).sat v == 0)
  nflag : (t.cd n).flag srN = bit (accResult (s.cd n).sat v) 55
  lzflag : (t.cd n).flag srLZ = (accL (accResult (s.cd n).sat v) == 0)
  guflag : (t.cd n).flag srGU = guOf (accResult (s.cd n).sat v)
  other : ∀ j, j ≠ i → (t.cd n).accU j = (s.cd n).accU j
  dregs : (t.cd n).d = (s.cd n).d
  keeps : DspKeeps (s.cd n) (t.cd n)
  pc : (t.cd n).pc = dspNext s n
  rest : DspOnly s t n

/-- An instruction of CDn that changes flags at most: the accumulators, the D registers, the pointers and the call stack stay. -/
structure FlagStep (s t : State) (n : Nat) : Prop where
  acc : (t.cd n).acc = (s.cd n).acc
  dregs : (t.cd n).d = (s.cd n).d
  keeps : DspKeeps (s.cd n) (t.cd n)
  pc : (t.cd n).pc = dspNext s n
  rest : DspOnly s t n

/-- What a command of the satellite of port `p` leaves as it was outside that satellite, and the frames it sends. -/
structure SatOnly (s t : State) (p : Nat) (l : List Out) : Prop where
  regs : t.regs = s.regs
  mem : t.mem = s.mem
  time : t.T = s.T
  now : t.satT = s.satT
  out : t.out = s.out ++ l
  ports : t.val.port = s.val.port
  set : t.val.set = s.val.set
  others : ∀ j, j ≠ p → t.sat j = s.sat j

/-- What a command of Valolo port `p` leaves as it was: memory, time, the satellites, every other port, and every register field
but those of `l`. -/
structure PortOnly (s t : State) (p : Nat) (l : List Fld) : Prop where
  fields : KeepsFields s t l
  mem : t.mem = s.mem
  time : t.T = s.T
  sats : t.val.sat = s.val.sat
  others : ∀ j, j ≠ p → t.vport j = s.vport j

/-! ### Messages of the security core (R397, R398, R410) -/

/-- SECURITY ring `r` is about to start descriptor `d` with a message of the payload `pl`, whose length is the one of its TYPE. -/
structure MsgAt (s : State) (r : Nat) (d : Desc) (len want : Nat) (pl : List Byte) : Prop where
  item : msgItem s r = some d
  lenOk : len = pl.length
  wantOk : len = want
  room : d.len = 8 + len

/-- R402: session `sess` of kind `k` is open on the instance of ring `r` and has not timed out. -/
def sessionOpen (s : State) (r sess k : Nat) : Bool :=
  s.sec.sessions.any (fun x => x.value == sess && x.inst == ringInst s r && x.kind == k && !expired s x)

/-- R409: the queue has room for a submission of the security core. -/
def ldgOpen (s : State) : Bool := s.ldg.queue.length < 32 && (s.ldg.queue.filter (fun q => !ldgReserved q)).length < 24

/-- What a message of Table 10.2 asks for: TYPE, LEN, the session kind that gates it, whether its payload and the state allow it,
the RESULT when they do not, the record that it commits, and the arguments that the commit applies. -/
structure SecAsk where
  code : Nat
  want : Nat
  gate : Nat
  ok : Bool
  bad : Nat
  rt : Nat
  body : List Byte
  more : List Nat

/-- The messages of Table 10.2 whose whole effect is the commit of one record. -/
def recordMsgs (s : State) (r : BitVec 15) (sess : BitVec 32) (len : BitVec 16) (pl : List Byte) : List (Instr × SecAsk) :=
  let b := ofLeBytes (pl.take 1)
  let iter := ofLeBytes ((pl.drop 16).take 4)
  let v := ofLeBytes pl
  [(.keyEnrol r sess len pl, ⟨0x20, 68, skWORKSHOP, b ≤ 15 && ofLeBytes ((pl.drop 2).take 2) == 0, rsBAD_FORMAT, rtKEY_ENROL, pl, nums pl⟩),
   (.passwordSet r sess len pl, ⟨0x21, 52, skWORKSHOP, 10000 ≤ iter && iter ≤ 1000000, rsBAD_FORMAT, rtPASSWORD_SET,
     pl.take 20 ++ fixBytes 48 (Config.cipher 3 [] [] (pl.drop 20)), nums pl⟩),
   (.sessCfg r sess len pl, ⟨0x22, 4, skWORKSHOP, 1 ≤ b && b ≤ 60 && ofLeBytes (pl.drop 1) == 0, rsBAD_FORMAT, rtSESS_CFG, pl.take 1, [b]⟩),
   (.tamperCfg r sess len pl, ⟨0x23, 4, skWORKSHOP, bits v 20 4 == 0 && (List.range 8).all (fun j => bits v (2 * j) 2 != 3), rsBAD_FORMAT,
     rtTAMPER_CFG, pl, [v]⟩),
   (.tamperRearm r sess len pl, ⟨0x24, 0, skWORKSHOP, s.get SEC_TAMPER_LIVE == 0, rsBUSY, rtTAMPER_REARM, leBytes 1 (s.get SEC_TAMPER_SEEN), []⟩),
   (.odoCfg r sess len pl, ⟨0x25, 20, skWORKSHOP, !odoBad s (odoOf pl), rsBAD_FORMAT, rtODO_CFG, pl, nums pl⟩),
   (.lifecycleAdvance r sess len pl, ⟨0x27, 0, skWORKSHOP,
     !isProduction s && (List.range 16).any (fun k => (slotKey s k skWORKSHOP).isSome) && s.sec.pw.isSome, rsDENIED, rtLIFECYCLE, [1], []⟩),
   (.grantSet r sess len pl, ⟨0x28, 4, skMANAGER, b ≤ 127 && ofLeBytes (pl.drop 1) == 0 && (b == 0 || s.get (INS_INFO_INSTATE b) != 0),
     if b ≤ 127 ∧ ofLeBytes (pl.drop 1) = 0 then rsDENIED else rsBAD_FORMAT, rtGRANT_SET, pl.take 1, [b]⟩),
   (.checkpointNow r sess len pl, ⟨0x29, 0, skMANAGER, true, rsOK, rtCHECKPOINT, [], []⟩),
   (.compatAck r sess len pl, ⟨0x30, 0, skMANAGER, s.flag BOOT_STAGE_RESTRICTED, rsDENIED, rtCOMPAT_ACK, [], []⟩)]

/-- What a message leaves as it was until its record is committed: every register field but the session counts and
PRUNE_BLOCKED, memory, time, the key slots, the password and KWK. -/
structure MsgKeeps (s t : State) : Prop where
  fields : KeepsFields s t [SEC_SESS_OPEN, SEC_SESS_LR_COUNT, LDG_STAT_PRUNE_BLOCKED]
  mem : t.mem = s.mem
  time : t.T = s.T
  slots : t.sec.slots = s.sec.slots
  pw : t.sec.pw = s.sec.pw
  kwk : t.sec.kwk = s.sec.kwk

/-! ### Rings (13_host_rings.md) -/

/-- What a command of ring `r` leaves as it was: every register field but those of `l`, memory, time and every other ring. -/
structure RingOnly (s t : State) (r : Nat) (l : List Fld) : Prop where
  fields : KeepsFields s t l
  mem : t.mem = s.mem
  time : t.T = s.T
  others : ∀ j, j ≠ r → t.ring j = s.ring j

/-- `t` has sent what `s` had sent, then the completion record of SEQ `seq` of ring `r` to its own completion area (R509), then at
most more. -/
def recordSent (s t : State) (r seq tag : Nat) (c : Cpl) : Prop :=
  ∃ l, t.out = s.out ++ .dma (ringInst s r) (cplBase s r + 16 * (seq % ringN s r)) (cplBytes s r seq tag c seq (ringN s r)) :: l

/-- The descriptor with the eight words of `w` (Table 13.5). -/
def descOf (seq : Nat) (w : BitVec 256) : Desc := { seq := seq, w := (List.range 8).map (fun k => bits w.toNat (32 * k) 32) }

/-- The counters of a discarded doorbell of instance `n` (R514). -/
def dberrCounts (s t : State) (n : Nat) : Prop :=
  t.get HIF_DB_ERR_CNT_COUNT = wrap 32 (satAdd 32 (s.get HIF_DB_ERR_CNT_COUNT) 1) ∧ t.hif.dberr.get 0 n = satAdd 32 (s.hif.dberr.get 0 n) 1

/-! ### Folio requests (14_instances.md) -/

/-- Instance `n` is READY and has posted operation `op`, which it may ask, and the management complex is not at work on a request
of it. -/
structure FolioAsk (s : State) (n op : Nat) : Prop where
  live : instate s n = isREADY
  go : s.flag (folioGO false n) = true
  idle : (s.inst n).exec = false
  posted : reqOp s n = op
  manager : 0x10 ≤ op → n = 0

/-- The manager's request `op` answers `res` and the words `ws`, with nothing else changed. -/
def managerTold (s : State) (op res : Nat) (ws : List Nat) : State := answerFolio s 0 op (reqToken s 0) res ws

/-! ### Packet threads (15_packet_engine.md) -/

/-- Thread `n` is the one its cluster issues from, and the word `w` at its program counter is an `op` (R555, R579). -/
structure PxAt (s : State) (n : Nat) (op : PxOp) (w : Nat) : Prop where
  chosen : ptChosen s n = true
  word : pxWord s n = w
  row : pxDecode w = op

/-- An instruction of thread `n` that writes `v` to Xd (nothing for X0), goes on at `pc`, and changes the register fields `l` at
most besides the program counter, no byte of memory, no other thread, T and nothing that leaves the part. -/
structure PxStep (s t : State) (n d : Nat) (v : Word) (pc : Nat) (l : List Fld) : Prop where
  result : pxGet t n d = if d = 0 then 0 else v
  regs : ∀ k, k ≠ d → pxGet t n k = pxGet s n k
  pc : ptPc t n = pc % 16384
  fields : KeepsFields s t (PXE_PT_STAT_PC n :: l)
  mem : t.mem = s.mem
  time : t.T = s.T
  out : t.out = s.out
  others : ∀ k, k ≠ n → t.pt k = s.pt k

/-- A fault of thread `n` (R566): it is FAULTED, MC0 hears of it, and the first fault since START is described. -/
structure PxFault (s t : State) (n cause ea : Nat) : Prop where
  stopped : ptState t n = ptFAULTED
  told : Out.irq .pxe ∈ t.out
  wake : (t.pt n).wake = none
  first : s.flag (PXE_PT_FAULT_INFO_VALID n) = false → t.flag (PXE_PT_FAULT_INFO_VALID n) = true ∧ t.get (PXE_PT_FAULT_INFO_CAUSE n) = cause ∧
    t.get (PXE_PT_FAULT_INFO_PC n) = wrap 14 (ptPc s n) ∧ t.get (PXE_PT_FAULT_ADDR_EA n) = wrap 32 ea
  regs : ∀ k, pxGet t n k = pxGet s n k
  later : s.flag (PXE_PT_FAULT_INFO_VALID n) = true → t.get (PXE_PT_FAULT_INFO_CAUSE n) = s.get (PXE_PT_FAULT_INFO_CAUSE n)
  mem : t.mem = s.mem
  others : ∀ k, k ≠ n → t.pt k = s.pt k

/-! ### Table records and frames (16_network_datapath.md) -/

/-- A record of Table 16.3 with CMD, TABLE, INDEX, INSTANCE and IMAGE. -/
def recordOf (cmd t idx inst : Nat) (img : List Byte) : List Byte :=
  leBytes 1 cmd ++ leBytes 1 t ++ [0, 0] ++ leBytes 4 idx ++ leBytes 1 inst ++ List.replicate 7 0 ++ fix 80 img

/-- What a table record leaves as it was: registers, memory but the flow table's images, time, rings, frames and what has left the
part; and the record is answered with RESULT `res`. -/
structure RecordDone (s t : State) (res : Nat) : Prop where
  result : t.resp = res
  inReply : le t.reply 2 1 = res
  regs : t.regs = s.regs
  time : t.T = s.T
  rings : t.hif = s.hif
  frames : t.net.frames = s.net.frames
  out : t.out = s.out

/-- No entry of any table changes. -/
def tablesKept (s t : State) : Prop := t.net.tab = s.net.tab

/-- Every entry but the one of table `k` at index `i` stays. -/
def entriesKept (s t : State) (k i : Nat) : Prop := ∀ k' i', tabKey k' i' ≠ tabKey k i → t.ent? k' i' = s.ent? k' i'

/-! ### Counters, ports and gates (17_traffic_scheduling.md) -/

/-- Counter `x` of `t` is one more than in `s`, or stays at its highest value. -/
def countedOne (s t : State) (x : Fld) : Prop := t.get x = wrap x.w (satAdd x.w (s.get x) 1)

/-- What a change of the gates of port `p` leaves as it was: every register field but those of `l`, memory, time, what has left the
part, and the frames that wait and are sent; credits and waits are brought up to T. -/
structure GateStep (s t : State) (p : Nat) (l : List Fld) : Prop where
  fields : KeepsFields s t l
  mem : t.mem = s.mem
  time : t.T = s.T
  out : t.out = s.out
  nodes : t.tsn.node = s.tsn.node
  ports : t.tsn.port = s.tsn.port
  others : ∀ q, q ≠ p → t.gcl q = s.gcl q
  rounds : ∀ c < 8, (t.tcq p c).round = (s.tcq p c).round

/-! ### Qoronami frames (18_qoronami_aggregation.md) -/

/-- The oldest frame of the receive buffer is `e`, which passes the checks of R665 as `m`, of type `t`, with a SEQ above the last
accepted one (R666); `l` are the other frames. -/
structure QorAt (s : State) (e : Nat × List Byte) (l : List (Nat × List Byte)) (m : QorMsg) (t : Nat) : Prop where
  rx : s.agg.rx = e :: l
  good : qorParse s e = some m
  typ : m.typ = t
  fresh : ∀ q, qorLast s m.src m.epoch = some q → q < m.seq

/-- The frame `m` has been taken: `l` is what was behind it, less the frames that fail the checks, which are counted with `k` more in
MISMATCH; every register field but those of `x`, memory and time stay. -/
structure QorTaken (s t : State) (m : QorMsg) (l : List (Nat × List Byte)) (k : Nat) (x : List Fld) : Prop where
  rx : t.agg.rx = l.filter (fun e => (qorParse s e).isSome)
  seq : qorLast t m.src m.epoch = some m.seq
  mismatch : t.get AGG_CNT_MISMATCH = satAdd 8 (s.get AGG_CNT_MISMATCH) ((l.filter (fun e => (qorParse s e).isNone)).length + k)
  fields : KeepsFields s t (AGG_CNT_MISMATCH :: x)
  mem : t.mem = s.mem
  time : t.T = s.T

/-- The frame of type `typ` that `s` sends next, with EPOCH, TARGET and payload (Table 18.1). -/
def qorFrame (s : State) (typ epoch target : Nat) (pl : List Byte) : Out :=
  .qor (s.get AGG_CFG_PORT) (leBytes 1 1 ++ leBytes 1 typ ++ leBytes 2 (s.get AGG_ID_GROUP) ++ leBytes 2 (s.get AGG_ID_NODE_ID) ++ leBytes 2 epoch ++
    leBytes 4 s.agg.seq ++ leBytes 2 target ++ leBytes 2 pl.length ++ pl)

/-- The rows that take a received frame, with the type that each takes. -/
def qorRows : List (Instr × Nat) :=
  [(.qorRef, qorREF), (.qorIsland, qorISLAND), (.qorResume, qorRESUME), (.qorJoin, qorJOIN), (.qorAccept, qorACCEPT), (.qorReject, qorREJECT),
   (.qorLeave, qorLEAVE), (.qorStatus, qorSTATUS)]

end Sys2Proof.Machine
end

