-- ==== Sys2Proof/Certificates/Slice0/Obligations.lean ====
section
/-! DEFINITION. The statements about the model, for the provers: one `def Obligations.<Name> : Prop` each, listed in
OBLIGATIONS.json. `KeepsFields s t l` is the frame over the register file: every field but those of `l` reads as before. -/
open Sys2Proof Sys2Proof.Machine Sys2Proof.Reg

/-- The block's step (log entry 1): first in, first out; an empty queue idles. -/
def Obligations.StepRunsFrontCommand : Prop :=
  (∀ (c : Instr) (s : State) (l : List Instr), step { s with pending := c :: l } = exec c { s with pending := l }) ∧
  (∀ s : State, s.pending = [] → step s = .next s)

/-- No command of the table stops the controller, and none touches the queue. -/
def Obligations.EveryCommandAnswers : Prop :=
  ∀ (c : Instr) (s : State), ∃ t, exec c s = .next t ∧ t.pending = s.pending

/-- The register file keeps one home per field, memory its canonical form, T its 64 bits, the violation log its 16 entries,
whatever command is in front of the queue. -/
def Obligations.StepKeepsInvariant : Prop :=
  ∀ s t : State, s.Inv → step s = .next t → t.Inv

/-- What sections 0.5, 2.1 and 11.1 give at a reset of COLD scope; where they give a field no reset value, State.reset holds the model's
(see the assumption log). -/
def Obligations.ResetHoldsResetValues : Prop :=
  State.reset.Inv ∧ (∀ x : Fld, State.reset.get x = x.rst) ∧ State.reset.T = 0 ∧ (∀ a, State.reset.byte a = 0) ∧
  State.reset.pending = [] ∧ ∃ t, exec (.rcFieldRead 1 0xF0000004) State.reset = .next t ∧ t.resp = 0x21

/-- Section 0.5 on T. -/
def Obligations.LowHalfReadLatchesHighHalf : Prop :=
  (∀ (s : State) (m : BitVec 8), tspReader m.toNat = true → s.shadow? m.toNat 0xF0700000 = none →
    ∃ t, exec (.lowHalfRead m 0xF0700000) s = .next t ∧ t.resp = wrap 32 s.T ∧
      t.shadow? m.toNat 0xF0700004 = some (wrap 32 (s.T / 2 ^ 32)) ∧
      (∀ (m' : BitVec 8) (x : Nat), m' ≠ m → t.shadow? m'.toNat x = s.shadow? m'.toNat x) ∧
      t.regs = s.regs ∧ t.mem = s.mem ∧ t.T = s.T) ∧
  (∀ (s : State) (m : BitVec 8) (x : Nat), tspReader m.toNat = true → s.shadow? m.toNat 0xF0700004 = some x →
    ∃ t, exec (.lowHalfRead m 0xF0700004) s = .next t ∧ t.resp = x)

/-- Table 0.3 on one register of each access code that a plain write or read acts by. -/
def Obligations.AccessCodesAct : Prop :=
  ∀ (s : State) (m : BitVec 8), isMC m.toNat = true →
    (s.shadow? m.toNat 0xF0400F0C = none →
      ∃ t, exec (.rcFieldRead m 0xF0400F0C) s = .next t ∧ t.resp = wrap 32 (s.get MEM_FAB_VIOL_CNT_COUNT) ∧
        t.get MEM_FAB_VIOL_CNT_COUNT = 0 ∧ KeepsFields s t [MEM_FAB_VIOL_CNT_COUNT] ∧ t.mem = s.mem ∧ t.T = s.T) ∧
    (∀ v : BitVec 32, ∃ t, exec (.registerWrite m 0xF0400040 v) s = .next t ∧ t.get MEM_CE_THR_THR = v.toNat ∧
      KeepsFields s t [MEM_CE_THR_THR] ∧ t.mem = s.mem ∧ t.T = s.T) ∧
    (∀ v : BitVec 32, s.get MEM_STAT_CFG_IGN ≤ 1 →
      ∃ t, exec (.registerWrite m 0xF0400000 v) s = .next t ∧
        t.get MEM_STAT_CFG_IGN = (if bit v.toNat 31 then 0 else s.get MEM_STAT_CFG_IGN) ∧
        KeepsFields s t [MEM_STAT_CFG_IGN] ∧ t.mem = s.mem ∧ t.T = s.T) ∧
    (∀ v : BitVec 32, ∃ t, exec (.registerWrite m 0xF0400100 v) s = .next t ∧ t.regs = s.regs ∧ t.mem = s.mem ∧ t.T = s.T)

/-- Section 1.2 on the Stockpot; the firewall's decision is the model's own `memAdmits` (section 11.1). -/
def Obligations.FabricAccessIsFenced : Prop :=
  (∀ (s : State) (q : FabReq), q.len = 1 → q.ue = false → q.write = true → isMaster q.m.toNat = true →
    areaOf s q.addr.toNat = .stockpot → memAdmits s q.m.toNat true q.addr.toNat 1 = true → s.memSt.bad = [] →
    ∃ t, exec (.fabricAccess [q]) s = .next t ∧ t.byte q.addr.toNat = q.data.headD 0 ∧
      (∀ b, b ≠ q.addr.toNat → t.byte b = s.byte b) ∧ t.regs = s.regs ∧ t.viol = s.viol ∧ t.resp = 0) ∧
  (∀ (s : State) (q : FabReq), q.len = 1 → q.ue = false → q.write = true → isMaster q.m.toNat = true →
    areaOf s q.addr.toNat = .stockpot → memAdmits s q.m.toNat true q.addr.toNat 1 = false →
    ∃ t, exec (.fabricAccess [q]) s = .next t ∧ t.mem = s.mem ∧ t.resp = 1 ∧
      t.viol = (if s.viol.length < 16 then s.viol ++ [⟨true, q.m.toNat, 0x09, q.addr.toNat⟩] else s.viol) ∧
      t.get MEM_FAB_VIOL_CNT_COUNT = wrap 32 (satAdd 32 (s.get MEM_FAB_VIOL_CNT_COUNT) 1)) ∧
  (∀ (s : State) (l : List FabReq), (∀ q ∈ l, isMaster q.m.toNat = false) →
    ∃ t, exec (.fabricAccess l) s = .next t ∧ t.regs = s.regs ∧ t.mem = s.mem ∧ t.viol = s.viol)

/-- R48, and what section 1.2's Registers say of POP. -/
def Obligations.ViolationLogPopsAndReqidAnswers : Prop :=
  (∀ (s : State) (m : BitVec 8) (v : BitVec 32), isMC m.toNat = true → bit v.toNat 0 = true →
    ∃ t, exec (.memFabViolPop m v) s = .next t ∧ t.viol = s.viol.tail ∧ t.regs = s.regs ∧ t.mem = s.mem ∧ t.T = s.T) ∧
  (∀ (s : State) (m : BitVec 8) (v : BitVec 32), isMC m.toNat = true → bit v.toNat 0 = false →
    exec (.memFabViolPop m v) s = .next s) ∧
  (∀ (s : State) (m : BitVec 8) (v : BitVec 32), isMC m.toNat = false →
    ∃ t, exec (.memFabViolPop m v) s = .next t ∧ s.viol <+: t.viol ∧ t.mem = s.mem ∧
      t.get MEM_FAB_VIOL_CNT_COUNT = wrap 32 (satAdd 32 (s.get MEM_FAB_VIOL_CNT_COUNT) 1)) ∧
  (∀ (s : State) (m : BitVec 8), exec (.memFabReqidRead m) s = .next { s with resp := m.toNat })

/-- R56, R57, R59, R64, R70, R104; the manager's rights are MC0's and MC1's (R755). -/
def Obligations.SourceConfigurationWrites : Prop :=
  (∀ (s : State) (m : BitVec 8) (n : Fin 8) (v : BitVec 32), isMC m.toNat = true → s.flag (TSP_SRC_CFG_EN n.val) = false →
    bit v.toNat 31 = false →
    ∃ t, exec (.tspSrcCfgWrite m n v) s = .next t ∧ (∀ e ∈ srcLocked n.val ++ srcOpen n.val, t.get e.1 = bits v.toNat e.2 e.1.w) ∧
      KeepsFields s t ((srcLocked n.val ++ srcOpen n.val).map (·.1)) ∧ t = { s with regs := t.regs }) ∧
  (∀ (s : State) (m : BitVec 8) (n : Fin 8) (v : BitVec 32), isMC m.toNat = true → s.flag (TSP_SRC_CFG_EN n.val) = true →
    bit v.toNat 31 = true →
    ∃ t, exec (.tspSrcCfgWrite m n v) s = .next t ∧ (∀ e ∈ srcOpen n.val, t.get e.1 = bits v.toNat e.2 e.1.w) ∧
      t.get (TSP_SRC_STAT_CFG_IGN n.val) = (if ∃ e ∈ srcLocked n.val, s.get e.1 ≠ bits v.toNat e.2 e.1.w then 1 else s.get (TSP_SRC_STAT_CFG_IGN n.val)) ∧
      KeepsFields s t (TSP_SRC_STAT_CFG_IGN n.val :: (srcOpen n.val).map (·.1)) ∧ t = { s with regs := t.regs }) ∧
  (∀ (s s1 : State) (m : BitVec 8) (n : Fin 8) (v : BitVec 32), isMC m.toNat = true → s.flag (TSP_SRC_CFG_EN n.val) = false →
    bit v.toNat 31 = true → s1 = (s.putWord (srcLocked n.val) v.toNat).putWord (srcOpen n.val) v.toNat → srcBadCfg s1 n.val = false →
    (∀ i, srcInput s1 n.val = some i → inputHolder s1 n.val i = none) → srcKind s1 n.val ≠ kindDERIVED →
    ∃ t, exec (.tspSrcCfgWrite m n v) s = .next t ∧ t.get (TSP_SRC_CFG_EN n.val) = 1 ∧ srcState t n.val = srcACQUIRING ∧
      srcKind t n.val = bits v.toNat 28 3 ∧ (t.src n.val).enabledBy = m.toNat ∧ t.mem = s.mem ∧ t.T = s.T) ∧
  (∀ (s : State) (m : BitVec 8) (n : Fin 8) (v : BitVec 32), isMC m.toNat = true → s.flag (TSP_SRC_CFG_EN n.val) = true →
    bit v.toNat 31 = false →
    ∃ t, exec (.tspSrcCfgWrite m n v) s = .next t ∧ t.get (TSP_SRC_CFG_EN n.val) = 0 ∧ srcState t n.val = srcOFF ∧ t.mem = s.mem ∧ t.T = s.T ∧
      ∀ u < 128, ∀ a, (s.cmp u).arm = some a → a.src = n.val → (t.cmp u).arm = none ∧ t.get (TSP_CMP_STAT_ARMED u) = 0 ∧
        t.get (TSP_CMP_STAT_HELD u) = 1) ∧
  (∀ (s : State) (m : BitVec 8) (n : Fin 8) (v : BitVec 32), isMC m.toNat = true → bits v.toNat 30 2 ≠ 3 →
    (bits v.toNat 8 8 = 0 ∨ (0x20 ≤ bits v.toNat 8 8 ∧ bits v.toNat 8 8 ≤ 0xDF)) →
    ∃ t, exec (.tspSrcLossWrite m n v) s = .next t ∧ t.get (TSP_SRC_LOSS_ACTION n.val) = bits v.toNat 30 2 ∧
      t.get (TSP_SRC_LOSS_COAST_US n.val) = bits v.toNat 16 14 ∧ t.get (TSP_SRC_LOSS_LOSS_CONS n.val) = bits v.toNat 8 8 ∧
      t.get (TSP_SRC_LOSS_CMD_DSP_EN n.val) = bits v.toNat 7 1 ∧ t.get (TSP_SRC_LOSS_CMD_DSP n.val) = bits v.toNat 5 2 ∧
      KeepsFields s t [TSP_SRC_LOSS_ACTION n.val, TSP_SRC_LOSS_COAST_US n.val, TSP_SRC_LOSS_LOSS_CONS n.val, TSP_SRC_LOSS_CMD_DSP_EN n.val,
        TSP_SRC_LOSS_CMD_DSP n.val] ∧ t = { s with regs := t.regs }) ∧
  (∀ (s : State) (m : BitVec 8) (n : Fin 8) (v : BitVec 32), isMC m.toNat = true →
    (bits v.toNat 30 2 = 3 ∨ ¬ (bits v.toNat 8 8 = 0 ∨ (0x20 ≤ bits v.toNat 8 8 ∧ bits v.toNat 8 8 ≤ 0xDF))) →
    exec (.tspSrcLossWrite m n v) s = .next (s.put (TSP_SRC_STAT_CFG_IGN n.val) 1)) ∧
  (∀ (s : State) (m : BitVec 8) (n : Fin 8) (v : BitVec 32), isMC m.toNat = true →
    ∃ t, exec (.tspSrcOfsWrite m n v) s = .next t ∧ t.get (TSP_SRC_OFS_OFS n.val) = v.toNat ∧
      KeepsFields s t [TSP_SRC_OFS_OFS n.val] ∧ t = { s with regs := t.regs }) ∧
  (∀ (s : State) (m : BitVec 8) (n : Fin 8) (v : BitVec 32), isMC m.toNat = false →
    exec (.tspSrcCfgWrite m n v) s = .next (s.refuseWrite m.toNat 8 (0x100 + 0x40 * n.val)) ∧
    exec (.tspSrcLossWrite m n v) s = .next (s.refuseWrite m.toNat 8 (0x10C + 0x40 * n.val)) ∧
    exec (.tspSrcOfsWrite m n v) s = .next (s.refuseWrite m.toNat 8 (0x110 + 0x40 * n.val)))

/-- R58, R60, R61, R63, R72, R756; the resolver's loop is the free value of log entry 12. -/
def Obligations.SensorEdgesAdvanceSources : Prop :=
  (∀ (s : State) (n : Fin 8) (a b : Bool) (code : BitVec 3) (k : Nat), k < s.get (TSP_SRC_CFG_FILT n.val) → s.flag (TSP_SRC_CFG_EN n.val) = true →
    (srcKind s n.val = kindENCODER → ∃ t u, exec (.encoderEdge n a b k) s = .next t ∧ exec (.encoderZEdge n k) s = .next u ∧
      t.tsp.src = s.tsp.src ∧ u.tsp.src = s.tsp.src ∧
      t.get (TSP_SRC_STAT_ILLEGAL_CNT n.val) = wrap 8 (satAdd 8 (s.get (TSP_SRC_STAT_ILLEGAL_CNT n.val)) 1) ∧
      u.get (TSP_SRC_STAT_ILLEGAL_CNT n.val) = wrap 8 (satAdd 8 (s.get (TSP_SRC_STAT_ILLEGAL_CNT n.val)) 1)) ∧
    (srcKind s n.val = kindHALL → ∃ t, exec (.hallCodeChange n code k) s = .next t ∧ t.tsp.src = s.tsp.src ∧
      t.get (TSP_SRC_STAT_ILLEGAL_CNT n.val) = wrap 8 (satAdd 8 (s.get (TSP_SRC_STAT_ILLEGAL_CNT n.val)) 1)) ∧
    (srcKind s n.val = kindWHEEL → ∃ t, exec (.wheelPulse n k) s = .next t ∧ t.tsp.src = s.tsp.src ∧
      t.get (TSP_SRC_STAT_ILLEGAL_CNT n.val) = wrap 8 (satAdd 8 (s.get (TSP_SRC_STAT_ILLEGAL_CNT n.val)) 1))) ∧
  (∀ (s : State) (n : Fin 8) (a b : Bool) (k c : Nat), srcIs s n.val kindENCODER = true → s.get (TSP_SRC_CFG_FILT n.val) ≤ k →
    ((s.src n.val).lvlA != a) ≠ ((s.src n.val).lvlB != b) →
    c = (if quadStep s n.val a b then ((s.src n.val).count + 4 * encLines s n.val - 1) % (4 * encLines s n.val)
        else ((s.src n.val).count + 1) % (4 * encLines s n.val)) →
    ∃ t, exec (.encoderEdge n a b k) s = .next t ∧ (t.src n.val).lvlA = a ∧ (t.src n.val).lvlB = b ∧ (t.src n.val).count = c ∧
      (srcState s n.val = srcTRACKING → (s.src n.val).pend = .none →
        wrap 32 (t.src n.val).pos = wrap 32 (encAngle s n.val c + s.get (TSP_SRC_OFS_OFS n.val) + (s.src n.val).ownOfs) ∧
        (t.src n.val).updT = s.T ∧ (t.src n.val).baseT = s.T ∧ srcState t n.val = srcTRACKING)) ∧
  (∀ (s : State) (n : Fin 8) (k : Nat), srcIs s n.val kindENCODER = true → s.get (TSP_SRC_CFG_FILT n.val) ≤ k → (s.src n.val).zSeen = true →
    2 < (s.src n.val).count → 2 < 4 * encLines s n.val - (s.src n.val).count →
    ∃ t, exec (.encoderZEdge n k) s = .next t ∧ (t.src n.val).count = (s.src n.val).count ∧
      t.get (TSP_SRC_STAT_ZERR_CNT n.val) = wrap 8 (satAdd 8 (s.get (TSP_SRC_STAT_ZERR_CNT n.val)) 1)) ∧
  (∀ (s : State) (n : Fin 8) (k : Nat), srcIs s n.val kindENCODER = true → s.get (TSP_SRC_CFG_FILT n.val) ≤ k → (s.src n.val).zSeen = false →
    ∃ t, exec (.encoderZEdge n k) s = .next t ∧ (t.src n.val).count = 0 ∧ (t.src n.val).zSeen = true ∧
      (srcState s n.val = srcACQUIRING → (s.src n.val).pend = .none →
        srcState t n.val = srcTRACKING ∧ t.get (TSP_SRC_STAT_OWN_OK n.val) = 1 ∧
        wrap 32 (t.src n.val).pos = wrap 32 (s.get (TSP_SRC_OFS_OFS n.val)) ∧ (t.src n.val).updT = s.T)) ∧
  (∀ (s : State) (n : Fin 8) (code : BitVec 3) (k o : Nat), srcIs s n.val kindHALL = true → s.get (TSP_SRC_CFG_FILT n.val) ≤ k →
    code ≠ 0 → code ≠ 7 → srcState s n.val = srcTRACKING → (s.src n.val).pend = .none → (s.src n.val).sector = some o → o < 6 →
    hallSectorOf s n.val code.toNat = (hallDir s n.val o + 1) % 6 →
    ∃ t, exec (.hallCodeChange n code k) s = .next t ∧ (t.src n.val).sector = some (hallNative code.toNat) ∧
      (t.src n.val).bound = hallSectorOf s n.val code.toNat ∧
      wrap 32 (t.src n.val).pos = wrap 32 (hallSectorOf s n.val code.toNat * hallStep + s.get (TSP_SRC_OFS_OFS n.val) + (s.src n.val).ownOfs) ∧
      (t.src n.val).updT = s.T ∧ srcState t n.val = srcTRACKING) ∧
  (∀ (s : State) (n : Fin 8) (k : Nat), srcIs s n.val kindWHEEL = true → s.get (TSP_SRC_CFG_FILT n.val) ≤ k →
    s.flag (TSP_SRC_CFG_REF_EN n.val) = false → s.flag (TSP_SRC_CFG_DIRINV n.val) = false →
    ∃ t, exec (.wheelPulse n k) s = .next t ∧ (t.src n.val).rem = (2 ^ 32 + (s.src n.val).rem) % wheelPPR s n.val ∧
      (srcState s n.val = srcTRACKING → (s.src n.val).pend = .none → s.get (TSP_SRC_OFS_OFS n.val) = (s.src n.val).ofsApplied →
        (t.src n.val).ownPos = wrap 64 ((s.src n.val).ownPos + (2 ^ 32 + (s.src n.val).rem) / wheelPPR s n.val) ∧
        (t.src n.val).pos = wrap 64 ((t.src n.val).ownPos + (s.src n.val).ownOfs) ∧ (t.src n.val).updT = s.T ∧ srcState t n.val = srcTRACKING)) ∧
  (∀ (s : State) (n : Fin 8) (p : Pair) (l : List Pair) (o : Nat × Int × Nat), s.adc.pair.get [] n.val = p :: l → srcIs s n.val kindRESOLVER = true →
    srcState s n.val = srcTRACKING → (s.src n.val).pend = .none → p.good = true → (s.src n.val).badAmp < 15 → (s.src n.val).badErr < 15 →
    o = Config.resolverLoop (s.get (TSP_SRC_CFG_TRK_BW n.val)) (if s.flag (TSP_SRC_CFG_DIRINV n.val) then -p.ds else p.ds) p.dc
      (unsigned 64 (((s.src n.val).ownPos : Int) - (s.src n.val).ofsApplied)) (s.src n.val).speed (s.T - (s.src n.val).updT) →
    ∃ t, exec (.resolverPair n) s = .next t ∧ t.adc.pair.get [] n.val = l ∧ srcState t n.val = srcTRACKING ∧
      wrap 32 (t.src n.val).pos = wrap 32 (o.1 + s.get (TSP_SRC_OFS_OFS n.val) + (s.src n.val).ownOfs) ∧ (t.src n.val).speed = satSpeed o.2.1 ∧
      (t.src n.val).updT = s.T ∧ (t.src n.val).badUse = 0) ∧
  (∀ (s : State) (n : Fin 8) (p : Pair) (l : List Pair), s.adc.pair.get [] n.val = p :: l → srcIs s n.val kindRESOLVER = true →
    srcState s n.val ≠ srcLOST → p.good = false → (s.src n.val).badUse < 15 →
    ∃ t, exec (.resolverPair n) s = .next t ∧ t.adc.pair.get [] n.val = l ∧ (t.src n.val).badUse = (s.src n.val).badUse + 1 ∧
      (t.src n.val).good = 0 ∧ (t.src n.val).pos = (s.src n.val).pos ∧ t.mem = s.mem) ∧
  (∀ (s : State) (n : Fin 8), s.adc.pair.get [] n.val = [] → ∃ t, exec (.resolverPair n) s = .next t ∧ t.tsp.src = s.tsp.src ∧ t.adc = s.adc ∧ t.mem = s.mem)

/-- R67, R70, R71, R73–R76, R758. -/
def Obligations.SourceTimeoutsAndCommands : Prop :=
  (∀ (s : State) (n : Fin 8), srcState s n.val = srcCOASTING → (s.src n.val).coastEnd ≤ s.T →
    ∃ t, exec (.coastTimeout n) s = .next t ∧ srcState t n.val = srcLOST ∧ t.get (TSP_SRC_STAT_LOSS_EV n.val) = 1 ∧ .irq .tsp ∈ t.out ∧
      t.mem = s.mem ∧ t.T = s.T) ∧
  (∀ (s : State) (n : Fin 8), (srcState s n.val ≠ srcCOASTING ∨ s.T < (s.src n.val).coastEnd) → exec (.coastTimeout n) s = .next s) ∧
  (∀ (s : State) (n : Fin 8), standstillDue s n.val = true →
    ∃ t, exec (.standstillTimeout n) s = .next t ∧ t.get (TSP_SRC_STAT_STANDSTILL n.val) = 1 ∧ KeepsFields s t [TSP_SRC_STAT_STANDSTILL n.val] ∧
      t.tsp = s.tsp ∧ t.mem = s.mem) ∧
  (∀ (s : State) (n : Fin 8), standstillDue s n.val = false → exec (.standstillTimeout n) s = .next s) ∧
  (∀ (s : State) (m : BitVec 8) (n : Fin 8), srcCommander s m.toNat n.val = true →
    (srcState s n.val = srcLOST ∨ srcState s n.val = srcCOASTING) → srcKind s n.val ≠ kindDERIVED →
    ∃ t, exec (.resync m n) s = .next t ∧ srcState t n.val = srcACQUIRING ∧ (t.src n.val).zSeen = false ∧ (t.src n.val).ownLost = false ∧
      t.mem = s.mem ∧ t.T = s.T) ∧
  (∀ (s : State) (m : BitVec 8) (n : Fin 8), srcCommander s m.toNat n.val = true → srcState s n.val = srcTRACKING →
    ∃ t, exec (.resync m n) s = .next t ∧ srcState t n.val = srcTRACKING ∧ t.get (TSP_SRC_STAT_CFG_IGN n.val) = 1 ∧ t.tsp.src = s.tsp.src) ∧
  (∀ (s : State) (m : BitVec 8) (n : Fin 8), srcCommander s m.toNat n.val = true →
    (srcState s n.val = srcTRACKING ∨ srcState s n.val = srcCOASTING ∨ srcState s n.val = srcLOST) →
    s.flag (TSP_SRC_CFG_FB_EN n.val) = true → (s.src n.val).pend = .none → switchOk s n.val (s.get (TSP_SRC_CFG_FALLBACK n.val)) = true →
    ∃ t, exec (.switch m n) s = .next t ∧
      (t.src n.val).pend = .toFallback (s.get (TSP_SRC_CFG_FALLBACK n.val)) (s.flag (TSP_SRC_CFG_BUMPLESS n.val)) false ∧
      t.regs = s.regs ∧ t.mem = s.mem) ∧
  (∀ (s : State) (m : BitVec 8) (n : Fin 8), srcCommander s m.toNat n.val = true → s.flag (TSP_SRC_CFG_FB_EN n.val) = false →
    exec (.switch m n) s = .next (s.put (TSP_SRC_STAT_CFG_IGN n.val) 1)) ∧
  (∀ (s : State) (m : BitVec 8) (n : Fin 8) (f : Nat) (b c : Bool), srcCommander s m.toNat n.val = true →
    (s.src n.val).pend = .toFallback f b c →
    ∃ t, exec (.swback m n) s = .next t ∧ (t.src n.val).pend = .none ∧ t.regs = s.regs ∧ t.mem = s.mem) ∧
  (∀ (s : State) (m : BitVec 8) (n : Fin 8), srcCommander s m.toNat n.val = true → (s.src n.val).pend = .none →
    srcState s n.val = srcFOLLOWING → s.flag (TSP_SRC_STAT_OWN_OK n.val) = true →
    ∃ t, exec (.swback m n) s = .next t ∧ (t.src n.val).pend = .back ∧ t.regs = s.regs ∧ t.mem = s.mem) ∧
  (∀ (s : State) (m : BitVec 8) (n : Fin 8), srcCommander s m.toNat n.val = false →
    ∀ c ∈ [Instr.resync m n, Instr.switch m n, Instr.swback m n], exec c s = .next (s.refuseWrite m.toNat 8 (0x114 + 0x40 * n.val)))

/-- R79, R81, R91, R95, R97, R99, R103. -/
def Obligations.CompareUnitsClaimArmFire : Prop :=
  (∀ (s : State) (m : BitVec 8) (u : Fin 128), tspWriter m.toNat = true → u.val < 120 → s.get (TSP_CMP_OWN_OWNER u.val) = 0 →
    exec (.cmpClaim m u) s = .next (s.put (TSP_CMP_OWN_OWNER u.val) m.toNat)) ∧
  (∀ (s : State) (m : BitVec 8) (u : Fin 128), tspWriter m.toNat = true → s.get (TSP_CMP_OWN_OWNER u.val) ≠ 0 →
    s.get (TSP_CMP_OWN_OWNER u.val) ≠ m.toNat → s.tsp.log.length < 8 →
    ∃ t, exec (.cmpClaim m u) s = .next t ∧ t.get (TSP_CMP_OWN_OWNER u.val) = s.get (TSP_CMP_OWN_OWNER u.val) ∧
      t.tsp.log = s.tsp.log ++ [⟨m.toNat, s.get (TSP_CMP_OWN_OWNER u.val), u.val⟩] ∧
      t.get TSP_CONFLICT_CNT_COUNT = wrap 16 (satAdd 16 (s.get TSP_CONFLICT_CNT_COUNT) 1) ∧ KeepsFields s t [TSP_CONFLICT_CNT_COUNT]) ∧
  (∀ (s : State) (m : BitVec 8) (u : Fin 128), tspWriter m.toNat = true → ownsUnit s m.toNat u.val = true →
    ∃ t, exec (.cmpRelease m u) s = .next t ∧ t.get (TSP_CMP_OWN_OWNER u.val) = 0 ∧ t.get (TSP_CMP_STAT_ARMED u.val) = 0 ∧
      (t.cmp u.val).arm = none ∧ KeepsFields s t [TSP_CMP_OWN_OWNER u.val, TSP_CMP_STAT_ARMED u.val] ∧ t.mem = s.mem ∧ t.out = s.out) ∧
  (∀ (s : State) (m : BitVec 8) (u : Fin 128), tspWriter m.toNat = true → ownsUnit s m.toNat u.val = true → (s.cmp u.val).arm = none →
    armRefused s m.toNat u.val = false →
    ∃ t a, exec (.arm m u) s = .next t ∧ t.get (TSP_CMP_STAT_ARMED u.val) = 1 ∧ (t.cmp u.val).arm = some a ∧ a.armT = s.T ∧
      a.src = s.get (TSP_CMP_CFG_SRC u.val) ∧ a.cons = s.get (TSP_CMP_CFG_CONS u.val) ∧ a.lead = s.get (TSP_CMP_CFG_LEAD u.val) ∧
      a.dir = s.get (TSP_CMP_CFG_DIR u.val) ∧ a.periodic = (s.get (TSP_CMP_CFG_MODE u.val) == 1) ∧ a.step = s.get (TSP_CMP_STEP_STEP u.val) ∧
      a.tgt = (if s.get (TSP_CMP_CFG_SRC u.val) = 8 then (s.cmp u.val).committed else s.get (TSP_CMP_TGT_LO_TGT_LO u.val)) ∧
      KeepsFields s t [TSP_CMP_STAT_ARMED u.val] ∧ t.mem = s.mem ∧ t.out = s.out) ∧
  (∀ (s : State) (m : BitVec 8) (u : Fin 128), tspWriter m.toNat = true → ownsUnit s m.toNat u.val = true →
    armRefused s m.toNat u.val = true → exec (.arm m u) s = .next (s.put (TSP_CMP_STAT_CFG_ERR u.val) 1)) ∧
  (∀ (s : State) (m : BitVec 8) (u : Fin 128), tspWriter m.toNat = true → ownsUnit s m.toNat u.val = true →
    ∃ t, exec (.disarm m u) s = .next t ∧ t.get (TSP_CMP_STAT_ARMED u.val) = 0 ∧ (t.cmp u.val).arm = none ∧
      KeepsFields s t [TSP_CMP_STAT_ARMED u.val, TSP_CMP_STAT_CANCELLED_BEFORE_START u.val] ∧ t.mem = s.mem ∧ t.out = s.out) ∧
  (∀ (s : State) (u : Fin 128) (a : Arming), (s.cmp u.val).arm = some a → unitDue s u.val = true →
    (8 ≤ a.src ∨ srcHolds s a.src = false) → (s.cmp u.val).firedT ≠ some s.T →
    ∃ f, exec (.compareFire u) s = .next (deliverEvent f a.cons) ∧ f.get (TSP_CMP_FIRE_T_FIRE_T u.val) = wrap 32 s.T ∧
      f.get (TSP_CMP_STAT_FIRED u.val) = 1 ∧ f.mem = s.mem ∧ f.T = s.T ∧ f.out = s.out ∧
      (a.periodic = false → (f.cmp u.val).arm = none ∧ f.get (TSP_CMP_STAT_ARMED u.val) = 0)) ∧
  (∀ (s : State) (u : Fin 128), unitDue s u.val = false → (∀ a, (s.cmp u.val).arm = some a → 8 ≤ a.src ∨ srcHolds s a.src = false) →
    exec (.compareFire u) s = .next s) ∧
  (∀ (s : State) (m : BitVec 8) (n : Fin 8), tspReader m.toNat = true →
    ∃ t, exec (.tspSrcAngRead m n) s = .next t ∧ t.resp = liveAng s n.val s.T ∧
      t.shadow? m.toNat (srcShadow n.val 1) = some (livePos s n.val s.T / 2 ^ 32) ∧
      t.shadow? m.toNat (srcShadow n.val 2) = some (unsigned 32 (liveSpeed s n.val s.T)) ∧
      t.shadow? m.toNat (srcShadow n.val 3) = some (wrap 32 (s.src n.val).updT) ∧ t.regs = s.regs ∧ t.tsp = s.tsp ∧ t.mem = s.mem) ∧
  (∀ (s : State) (m : BitVec 8), tspReader m.toNat = true →
    ∃ t, exec (.tspConflictInfoRead m) s = .next t ∧ t.resp = conflictWord s.tsp.log ∧ t.tsp.log = s.tsp.log.tail ∧ t.regs = s.regs ∧ t.mem = s.mem)

/-- R49, R51; R42 for the standing T. -/
def Obligations.TimeAdvancesAndIsStored : Prop :=
  (∀ s : State, s.aon.off = false → ∃ t, exec .nsTick s = .next t ∧ t.T = (s.T + 1) % 2 ^ 64 ∧ t.regs = s.regs ∧ t.mem = s.mem ∧ t.viol = s.viol) ∧
  (∀ s : State, s.aon.off = true → exec .nsTick s = .next { s with val := { s.val with now := s.val.now + 1 } }) ∧
  (∀ s : State, s.aon.off = false → s.aon.storedT + 2 ^ 20 ≤ s.T →
    exec .aonTStore s = .next { s with aon := { s.aon with storedT := s.T, ticks := 0 } }) ∧
  (∀ s : State, s.T < s.aon.storedT + 2 ^ 20 → exec .aonTStore s = .next s)

/-- Section 3.3, Tables 3.1 and 3.5. That a bank's check covers its slots 0 to length − 1 and a SWAP's the whole of R130 is the
model's choice (log entries 202, 203). -/
def Obligations.SequencerRunsItsBanks : Prop :=
  (∀ (s : State) (m : BitVec 8) (u : Fin 8), adcUnitWriter s m.toNat u.val = true → adcRunning s u.val = false →
    adcBankOk s u.val (s.get (ADC_UNIT_STAT_BANK u.val)) = true →
    ∃ t, exec (.adcUnitStart m u) s = .next t ∧ adcRunning t u.val = true ∧ (t.adcU u.val).phase = .ready ∧ (t.adcU u.val).slot = 0 ∧
      s.T ≤ (t.adcU u.val).next ∧ (t.adcU u.val).next < s.T + 25 ∧ (t.adcU u.val).next % 25 = 0 ∧
      KeepsFields s t [ADC_UNIT_STAT_RUNNING u.val] ∧ t.mem = s.mem ∧ t.T = s.T ∧ t.out = s.out) ∧
  (∀ (s : State) (m : BitVec 8) (u : Fin 8), adcUnitWriter s m.toNat u.val = true → adcRunning s u.val = false →
    adcBankOk s u.val (s.get (ADC_UNIT_STAT_BANK u.val)) = false →
    exec (.adcUnitStart m u) s = .next (s.put (ADC_UNIT_STAT_CFG_ERR u.val) 1)) ∧
  (∀ (s : State) (m : BitVec 8) (u : Fin 8), adcUnitWriter s m.toNat u.val = true → adcRunning s u.val = true →
    exec (.adcUnitStart m u) s = .next (s.put (ADC_UNIT_STAT_CFG_IGN u.val) 1) ∧
    (s.flag (ADC_UNIT_STAT_SWAP_PEND u.val) = false → (∀ p, (s.adcU u.val).bound = some p → p.1 ≠ s.T) →
      exec (.adcUnitSwap m u) s = .next (s.put (ADC_UNIT_STAT_SWAP_PEND u.val) 1)) ∧
    (s.flag (ADC_UNIT_STAT_SWAP_PEND u.val) = true → exec (.adcUnitSwap m u) s = .next s)) ∧
  (∀ (s : State) (m : BitVec 8) (u : Fin 8) (sv dr : Nat), adcUnitWriter s m.toNat u.val = true → adcRunning s u.val = true →
    s.flag (ADC_UNIT_STAT_SWAP_PEND u.val) = false → (s.adcU u.val).bound = some (s.T, sv, dr) → (s.adcU u.val).boundReqs = [] →
    adcBankOk s u.val (1 - s.get (ADC_UNIT_STAT_BANK u.val)) = true →
    ∃ t, exec (.adcUnitSwap m u) s = .next t ∧ t.get (ADC_UNIT_STAT_BANK u.val) = 1 - s.get (ADC_UNIT_STAT_BANK u.val) ∧
      t.get (ADC_UNIT_STAT_SLOT u.val) = 0 ∧
      (slotKIND s u.val (1 - s.get (ADC_UNIT_STAT_BANK u.val)) 0 = 0 → ∃ c, (t.adcU u.val).phase = .conv c ∧ c.start = s.T ∧
        c.input = slotINPUT s u.val (1 - s.get (ADC_UNIT_STAT_BANK u.val)) 0)) ∧
  (∀ (s : State) (m : BitVec 8) (u : Fin 8), adcUnitWriter s m.toNat u.val = true → adcRunning s u.val = false →
    exec (.adcUnitStop m u) s = .next s ∧
    ∃ t, exec (.adcUnitSwap m u) s = .next t ∧ t.get (ADC_UNIT_STAT_SWAP_PEND u.val) = 0 ∧ t.adc = s.adc ∧ t.mem = s.mem ∧
      KeepsFields s t [ADC_UNIT_STAT_SWAP_PEND u.val, ADC_UNIT_STAT_BANK u.val, ADC_UNIT_STAT_CFG_ERR u.val] ∧
      (adcBankOk s u.val (1 - s.get (ADC_UNIT_STAT_BANK u.val)) = true →
        t.get (ADC_UNIT_STAT_BANK u.val) = 1 - s.get (ADC_UNIT_STAT_BANK u.val) ∧ t.get (ADC_UNIT_STAT_CFG_ERR u.val) = s.get (ADC_UNIT_STAT_CFG_ERR u.val)) ∧
      (adcBankOk s u.val (1 - s.get (ADC_UNIT_STAT_BANK u.val)) = false →
        t.get (ADC_UNIT_STAT_BANK u.val) = s.get (ADC_UNIT_STAT_BANK u.val) ∧ t.get (ADC_UNIT_STAT_CFG_ERR u.val) = 1)) ∧
  (∀ (s : State) (m : BitVec 8) (u : Fin 8) (c : Conv), adcUnitWriter s m.toNat u.val = true → adcRunning s u.val = true →
    (s.adcU u.val).phase = .conv c →
    ∃ t, exec (.adcUnitStop m u) s = .next t ∧ (t.adcU u.val).stop = true ∧ (t.adcU u.val).phase = .conv c ∧ t.regs = s.regs ∧ t.mem = s.mem) ∧
  (∀ (s : State) (m : BitVec 8) (u : Fin 8), adcUnitWriter s m.toNat u.val = true → adcRunning s u.val = true →
    (∀ c, (s.adcU u.val).phase ≠ .conv c) →
    ∃ t, exec (.adcUnitStop m u) s = .next t ∧ adcRunning t u.val = false ∧ (t.adcU u.val).phase = .ready ∧ t.mem = s.mem ∧
      (s.flag (ADC_UNIT_STAT_SWAP_PEND u.val) = false → KeepsFields s t [ADC_UNIT_STAT_RUNNING u.val]) ∧
      (s.flag (ADC_UNIT_STAT_SWAP_PEND u.val) = true → t.get (ADC_UNIT_STAT_SWAP_PEND u.val) = 0 ∧
        (adcBankOk s u.val (1 - s.get (ADC_UNIT_STAT_BANK u.val)) = true →
          t.get (ADC_UNIT_STAT_BANK u.val) = 1 - s.get (ADC_UNIT_STAT_BANK u.val)))) ∧
  (∀ (s : State) (u : Fin 8), adcRunning s u.val = true → (s.adcU u.val).first = false → (s.adcU u.val).phase = .ready →
    (s.adcU u.val).slot = 0 → (s.adcU u.val).next ≤ s.T → s.flag (ADC_UNIT_STAT_SWAP_PEND u.val) = true →
    ∃ t, exec (.adcPassEnd u) s = .next t ∧ exec (.slotStart u) s = exec (.slotStart u) t ∧ t.get (ADC_UNIT_STAT_SWAP_PEND u.val) = 0 ∧
      t.adc = s.adc ∧ t.mem = s.mem ∧ KeepsFields s t [ADC_UNIT_STAT_SWAP_PEND u.val, ADC_UNIT_STAT_BANK u.val, ADC_UNIT_STAT_CFG_ERR u.val] ∧
      (adcBankOk s u.val (1 - s.get (ADC_UNIT_STAT_BANK u.val)) = true →
        t.get (ADC_UNIT_STAT_BANK u.val) = 1 - s.get (ADC_UNIT_STAT_BANK u.val)) ∧
      (adcBankOk s u.val (1 - s.get (ADC_UNIT_STAT_BANK u.val)) = false →
        t.get (ADC_UNIT_STAT_BANK u.val) = s.get (ADC_UNIT_STAT_BANK u.val) ∧ t.get (ADC_UNIT_STAT_CFG_ERR u.val) = 1)) ∧
  (∀ (s : State) (u : Fin 8), adcRunning s u.val = true → (s.adcU u.val).phase = .ready → (s.adcU u.val).next ≤ s.T →
    s.flag (ADC_UNIT_STAT_SWAP_PEND u.val) = false → slotKIND s u.val (s.get (ADC_UNIT_STAT_BANK u.val)) (s.adcU u.val).slot = 0 →
    ∃ t c, exec (.slotStart u) s = .next t ∧ (t.adcU u.val).phase = .conv c ∧ c.start = (s.adcU u.val).next ∧
      c.input = slotINPUT s u.val (s.get (ADC_UNIT_STAT_BANK u.val)) (s.adcU u.val).slot ∧
      c.tsrc = slotTSRC s u.val (s.get (ADC_UNIT_STAT_BANK u.val)) (s.adcU u.val).slot ∧
      c.store = slotSTORE s u.val (s.get (ADC_UNIT_STAT_BANK u.val)) (s.adcU u.val).slot ∧
      c.buf = slotBUF s u.val (s.get (ADC_UNIT_STAT_BANK u.val)) (s.adcU u.val).slot ∧ c.urg = false ∧ c.fill = false ∧
      (t.adcU u.val).next = (s.adcU u.val).next + 1000 ∧
      (t.adcU u.val).slot = (if (s.adcU u.val).slot + 1 < bankLen s u.val (s.get (ADC_UNIT_STAT_BANK u.val)) then (s.adcU u.val).slot + 1 else 0) ∧
      t.get (ADC_UNIT_STAT_SLOT u.val) = wrap 5 (s.adcU u.val).slot ∧
      KeepsFields s t [ADC_UNIT_STAT_SLOT u.val] ∧ t.mem = s.mem) ∧
  (∀ (s : State) (u : Fin 8), adcRunning s u.val = true → (s.adcU u.val).phase = .ready → (s.adcU u.val).next ≤ s.T →
    s.flag (ADC_UNIT_STAT_SWAP_PEND u.val) = false → slotKIND s u.val (s.get (ADC_UNIT_STAT_BANK u.val)) (s.adcU u.val).slot ≠ 0 →
    ∃ t f, exec (.slotStart u) s = .next t ∧ (t.adcU u.val).phase =
        .window ((s.adcU u.val).next + 25 * slotWIN s u.val (s.get (ADC_UNIT_STAT_BANK u.val)) (s.adcU u.val).slot) f ∧
      f = (slotKIND s u.val (s.get (ADC_UNIT_STAT_BANK u.val)) (s.adcU u.val).slot == 2) ∧
      (t.adcU u.val).next = (s.adcU u.val).next + 25 * slotWIN s u.val (s.get (ADC_UNIT_STAT_BANK u.val)) (s.adcU u.val).slot + 1000 ∧
      KeepsFields s t [ADC_UNIT_STAT_SLOT u.val] ∧ t.mem = s.mem) ∧
  (∀ (s : State) (u : Fin 8), adcRunning s u.val = false ∨ s.T < (s.adcU u.val).next → exec (.slotStart u) s = .next s) ∧
  (∀ (s : State) (u : Fin 8) (close : Nat), close ≤ s.T →
    ((s.adcU u.val).phase = .window close true → ∃ t c, exec (.openWindowClose u) s = .next t ∧ (t.adcU u.val).phase = .conv c ∧
      c.start = close ∧ c.fill = true ∧ c.urg = false ∧
      c.input = slotINPUT s u.val (s.get (ADC_UNIT_STAT_BANK u.val)) (s.get (ADC_UNIT_STAT_SLOT u.val)) ∧ t.regs = s.regs ∧ t.mem = s.mem) ∧
    ((s.adcU u.val).phase = .window close false →
      ∃ t, exec (.openWindowClose u) s = .next t ∧ (t.adcU u.val).phase = .ready ∧ t.regs = s.regs ∧ t.mem = s.mem)) ∧
  (∀ (s : State) (m : BitVec 8) (u : Fin 8), adcUnitWriter s m.toNat u.val = false →
    exec (.adcUnitStart m u) s = .next (s.refuseWrite m.toNat 9 (adcUnitOff u.val + 4)) ∧
    exec (.adcUnitStop m u) s = .next (s.refuseWrite m.toNat 9 (adcUnitOff u.val + 4)) ∧
    exec (.adcUnitSwap m u) s = .next (s.refuseWrite m.toNat 9 (adcUnitOff u.val + 4)))

/-- Sections 3.2 to 3.5. That the record's settings are those at its delivery is the model's choice (log entry 205). -/
def Obligations.ResultsAreTaggedAndDelivered : Prop :=
  (∀ (s : State) (m : BitVec 8) (u : Fin 8) (v : BitVec 32) (close : Nat) (f : Bool), adcUnitWriter s m.toNat u.val = true → bit v.toNat 0 = true →
    adcRunning s u.val = true → (s.adcU u.val).phase = .window close f → s.T < close →
    ∃ t c, exec (.urgReq m u v) s = .next t ∧ (t.adcU u.val).phase = .conv c ∧ c.urg = true ∧ s.T ≤ c.start ∧ c.start < s.T + 25 ∧ c.start % 25 = 0 ∧
      c.input = s.get (ADC_UNIT_URG_CFG_INPUT u.val) ∧ c.store = s.flag (ADC_UNIT_URG_CFG_STORE u.val) ∧
      t.get (ADC_UNIT_URG_CNT_SERVED u.val) = wrap 16 (satAdd 16 (s.get (ADC_UNIT_URG_CNT_SERVED u.val)) 1) ∧
      KeepsFields s t [ADC_UNIT_URG_CNT_SERVED u.val] ∧ t.mem = s.mem) ∧
  (∀ (s : State) (m : BitVec 8) (u : Fin 8) (v : BitVec 32), adcUnitWriter s m.toNat u.val = true → bit v.toNat 0 = true →
    ((adcRunning s u.val = false ∧ (s.adcU u.val).phase = .ready) ∨ ∃ c, (s.adcU u.val).phase = .conv c ∧ s.T < c.start + 1000) →
    ∃ t, exec (.urgReq m u v) s = .next t ∧
      t.get (ADC_UNIT_URG_CNT_DROPPED u.val) = wrap 16 (satAdd 16 (s.get (ADC_UNIT_URG_CNT_DROPPED u.val)) 1) ∧
      KeepsFields s t [ADC_UNIT_URG_CNT_DROPPED u.val] ∧ (t.adcU u.val).phase = (s.adcU u.val).phase ∧ t.mem = s.mem) ∧
  (∀ (s : State) (m : BitVec 8) (u : Fin 8) (v : BitVec 32),
    (adcUnitWriter s m.toNat u.val = true → bit v.toNat 0 = false → exec (.urgReq m u v) s = .next s) ∧
    (adcUnitWriter s m.toNat u.val = false → exec (.urgReq m u v) s = .next (s.refuseWrite m.toNat 9 (adcUnitOff u.val + 0x20)) ∧
      exec (.adcUrgCfgWrite m u v) s = .next (s.refuseWrite m.toNat 9 (adcUnitOff u.val + 0x1C)))) ∧
  (∀ (s : State) (m : BitVec 8) (u : Fin 8) (v : BitVec 32), adcUnitWriter s m.toNat u.val = true → 11 < bits v.toNat 0 4 →
    exec (.adcUrgCfgWrite m u v) s = .next (s.put (ADC_UNIT_STAT_CFG_IGN u.val) 1)) ∧
  (∀ (s : State) (m : BitVec 8) (u : Fin 8) (v : BitVec 32), adcUnitWriter s m.toNat u.val = true → bits v.toNat 0 4 ≤ 11 →
    (adcRunning s u.val = false ∨ bit v.toNat 23 = false ∨ bufOk s u.val (bits v.toNat 22 1) = true) →
    ∃ t, exec (.adcUrgCfgWrite m u v) s = .next t ∧ t.get (ADC_UNIT_URG_CFG_INPUT u.val) = bits v.toNat 0 4 ∧
      t.get (ADC_UNIT_URG_CFG_TSRC u.val) = bits v.toNat 24 3 ∧ t.get (ADC_UNIT_URG_CFG_STORE u.val) = bits v.toNat 23 1 ∧
      t.get (ADC_UNIT_URG_CFG_BUF u.val) = bits v.toNat 22 1 ∧
      KeepsFields s t [ADC_UNIT_URG_CFG_TSRC u.val, ADC_UNIT_URG_CFG_STORE u.val, ADC_UNIT_URG_CFG_BUF u.val, ADC_UNIT_URG_CFG_INPUT u.val] ∧
      t.mem = s.mem ∧ t.adc = s.adc) ∧
  (∀ (s : State) (u : Fin 8) (code : BitVec 12) (range : BitVec 2) (c : Conv), (s.adcU u.val).phase = .conv c → (s.adcU u.val).sample = none →
    c.start + 250 ≤ s.T →
    ∃ t r, exec (.sampleInstant u code range) s = .next t ∧ (t.adcU u.val).sample = some r ∧ r.t = c.start + 250 ∧ r.c = c ∧
      (c.input ≠ 9 → c.input ≠ 11 → r.ovr = (range.toNat != 0) ∧
        r.code = (if range.toNat = 1 then 0 else if range.toNat = 2 then 0xFFF else code.toNat)) ∧
      (c.input = 9 → r.ovr = false ∧ 0x7FC ≤ r.code ∧ r.code ≤ 0x804) ∧ (c.input = 11 → r.ovr = false ∧ r.code ≤ 4) ∧
      r.pos = livePos s c.tsrc (c.start + 250) ∧ r.refu = !refSettled s ∧ r.tstale = !tagFresh s c.tsrc ∧ t.regs = s.regs ∧ t.mem = s.mem) ∧
  (∀ (s : State) (u : Fin 8) (code : BitVec 12) (range : BitVec 2) (c : Conv), (s.adcU u.val).phase = .conv c → s.T < c.start + 250 →
    exec (.sampleInstant u code range) s = .next s ∧ exec (.conversionEnd u) s = .next s) ∧
  (∀ (s : State) (u : Fin 8) (c : Conv) (r : AdcRes), (s.adcU u.val).phase = .conv c → (s.adcU u.val).sample = some r → c.start + 1000 ≤ s.T →
    (s.adcU u.val).stop = false →
    ∃ s1, (s1.adcU u.val).phase = .ready ∧ (s1.adcU u.val).sample = none ∧ s1.regs = s.regs ∧ s1.mem = s.mem ∧
      ((s.adcU u.val).held = [] → s.get (ADC_UNIT_CFG_QGUARD u.val) ≤ 187 → exec (.conversionEnd u) s = .next (deliver s1 u.val r)) ∧
      ((s.adcU u.val).held ≠ [] ∨ 187 < s.get (ADC_UNIT_CFG_QGUARD u.val) →
        (s1.adcU u.val).held = (s.adcU u.val).held ++ [r] ∧ exec (.conversionEnd u) s = .next s1)) ∧
  (∀ (s : State) (u : Fin 8) (c : Conv) (r : AdcRes), (s.adcU u.val).phase = .conv c → (s.adcU u.val).sample = some r → c.start + 1000 ≤ s.T →
    (s.adcU u.val).stop = true → ∃ t, exec (.conversionEnd u) s = .next t ∧ adcRunning t u.val = false) ∧
  (∀ (s : State) (u : Fin 8) (r : AdcRes) (l : List AdcRes), (s.adcU u.val).held = r :: l →
    (r.t + 4 * s.get (ADC_UNIT_CFG_QGUARD u.val) ≤ s.T →
      ∃ s1, (s1.adcU u.val).held = l ∧ s1.regs = s.regs ∧ s1.mem = s.mem ∧ exec (.quietWindowEnd u) s = .next (deliver s1 u.val r)) ∧
    (s.T < r.t + 4 * s.get (ADC_UNIT_CFG_QGUARD u.val) → exec (.quietWindowEnd u) s = .next s)) ∧
  (∀ (s : State) (u : Fin 8) (r : AdcRes), ∃ t1 t2,
    t1.get (ADC_UNIT_LAST_VAL_VALUE u.val) = wrap 12 (resValue s u.val r.code) ∧ t1.get (ADC_UNIT_LAST_VAL_SLOT u.val) = wrap 5 r.c.slot ∧
    t1.get (ADC_UNIT_LAST_VAL_INPUT u.val) = wrap 4 r.c.input ∧ t1.get (ADC_UNIT_LAST_VAL_QUIET u.val) = b2n (quietOf s u.val r.t) ∧
    t1.get (ADC_UNIT_LAST_VAL_OVR u.val) = b2n r.ovr ∧ t1.get (ADC_UNIT_LAST_VAL_REFU u.val) = b2n r.refu ∧
    t1.get (ADC_UNIT_LAST_VAL_URG u.val) = b2n r.c.urg ∧ t1.get (ADC_UNIT_LAST_VAL_TSTALE u.val) = b2n r.tstale ∧
    t1.get (ADC_UNIT_LAST_VAL_FILL u.val) = b2n r.c.fill ∧ t1.get (ADC_UNIT_LAST_VAL_VALID u.val) = 1 ∧
    t1.get (ADC_UNIT_LAST_T_T u.val) = wrap 32 r.t ∧ t1.get (ADC_UNIT_LAST_ANG_ANG u.val) = wrap 32 r.pos ∧
    t1.get (ADC_UNIT_LAST_TURN_TURN u.val) = wrap 32 (r.pos / 2 ^ 32) ∧
    t2 = gridResult t1 u.val r.c.input r.t r.code r.refu r.ovr ∧ (r.c.store = false → deliver s u.val r = t2) ∧
    (r.c.store = true → ((deliver s u.val r).adcU u.val).dma = some (r.c.buf, recordWords (resValue s u.val r.code) r.c.input
      (128 * b2n (quietOf s u.val r.t) + 64 * b2n r.ovr + 32 * b2n r.refu + 16 * b2n r.c.urg + 8 * b2n r.tstale + 4 * b2n r.c.fill) r))) ∧
  (∀ (s : State) (u : Fin 8) (f : Fin 2) (a b c d : Nat), (s.adcU u.val).dma = some (f.val, [a, b, c, d]) →
    ∃ t, exec (.adcDmaCommit u) s = .next t ∧ (t.adcU u.val).dma = none ∧ t.mem = s.mem ∧
      (∀ idx mem : Fld, idx = (if f = 0 then ADC_UNIT_WIDX_WIDXA u.val else ADC_UNIT_WIDX_WIDXB u.val) →
        mem = (if f = 0 then ADC_UNIT_BUFA_MEM u.val else ADC_UNIT_BUFB_MEM u.val) →
        t.get idx = wrap 13 ((s.get idx % max 1 (bufLEN s u.val f.val) + 1) % max 1 (bufLEN s u.val f.val)) ∧ KeepsFields s t [idx] ∧
        ∀ e : Fin 4, (if s.flag mem then (t.cdMem (s.get (ADC_UNIT_CFG_DSP u.val))).db else (t.cdMem (s.get (ADC_UNIT_CFG_DSP u.val))).da).get 0
          ((bufBASE s u.val f.val + 4 * (s.get idx % max 1 (bufLEN s u.val f.val)) + e.val) % 32768) = [a, b, c, d].getD e.val 0)) ∧
  (∀ (s : State) (m : BitVec 8) (u : Fin 8), adcReader m.toNat = true →
    ∃ t, exec (.lastValRead m u) s = .next t ∧ t.resp = lastWord s u.val ∧
      t.shadow? m.toNat (lastShadow u.val 1) = some (s.get (ADC_UNIT_LAST_T_T u.val)) ∧
      t.shadow? m.toNat (lastShadow u.val 2) = some (s.get (ADC_UNIT_LAST_ANG_ANG u.val)) ∧
      t.shadow? m.toNat (lastShadow u.val 3) = some (s.get (ADC_UNIT_LAST_TURN_TURN u.val)) ∧ t.regs = s.regs ∧ t.mem = s.mem ∧
      ∃ w, exec (.lastAngRead m u) t = .next w ∧ w.resp = s.get (ADC_UNIT_LAST_ANG_ANG u.val) ∧ w.regs = s.regs) ∧
  (∀ (s : State) (m : BitVec 8) (u : Fin 8), adcReader m.toNat = true → s.shadow? m.toNat (lastShadow u.val 2) = none →
    ∃ t, exec (.lastAngRead m u) s = .next t ∧ t.resp = s.get (ADC_UNIT_LAST_ANG_ANG u.val) ∧
      t.shadow? m.toNat (lastShadow u.val 3) = some (s.get (ADC_UNIT_LAST_TURN_TURN u.val)) ∧ t.regs = s.regs ∧ t.mem = s.mem)

/-- Sections 3.6 to 3.8. The input's level and how long it has met its condition are operands, `lvl` in 1/64 of a threshold step
(the model's choice, log entry 206). -/
def Obligations.ReferenceComparatorsAndCarrier : Prop :=
  (∀ (s : State) (m : BitVec 8), isMC m.toNat = true → s.flag ADC_REF_CTRL_EN = false →
    ∃ s1, exec (.refbufEnable m) s = .next (cmpChanged s1) ∧ s1.get ADC_REF_CTRL_EN = 1 ∧ s1.adc.settleAt = some (s.T + 2000000) ∧
      KeepsFields s s1 [ADC_REF_CTRL_EN] ∧ s1.mem = s.mem) ∧
  (∀ (s : State) (m : BitVec 8), isMC m.toNat = true → s.flag ADC_REF_CTRL_EN = true → exec (.refbufEnable m) s = .next s) ∧
  (∀ (s : State) (m : BitVec 8) (c : Fin 64) (g : Bool) (v : BitVec 32), isMC m.toNat = false →
    exec (.refbufEnable m) s = .next (s.refuseWrite m.toNat 9 0) ∧
    exec (.adcCmpWrite m c g v) s = .next (s.refuseWrite m.toNat 9 (0x2000 + 8 * c.val + 4 * b2n g)) ∧
    exec (.adcCmpLock m v) s = .next (s.refuseWrite m.toNat 9 0x30) ∧ exec (.adcExcCfgWrite m v) s = .next (s.refuseWrite m.toNat 9 0xC)) ∧
  (∀ (s : State) (a : Nat), s.adc.settleAt = some a → a ≤ s.T →
    ∃ t, exec .refbufSettled s = .next t ∧ t.get ADC_REF_STAT_SETTLED = 1 ∧ t.adc.settleAt = none ∧ KeepsFields s t [ADC_REF_STAT_SETTLED] ∧
      t.mem = s.mem) ∧
  (∀ s : State, (∀ a, s.adc.settleAt = some a → s.T < a) → exec .refbufSettled s = .next s) ∧
  (∀ s : State, s.flag ADC_REF_CTRL_EN = true → s.adc.deviating = false →
    ∃ s1, exec .refDeviationDetect s = .next (cmpChanged s1) ∧ s1.get ADC_REF_STAT_SETTLED = 0 ∧ s1.get ADC_REF_STAT_FAULT = 1 ∧
      s1.get ADC_REF_STAT_RESTART_CNT = wrap 16 (satAdd 16 (s.get ADC_REF_STAT_RESTART_CNT) 1) ∧ s1.adc.settleAt = none ∧
      s1.adc.deviating = true ∧ KeepsFields s s1 [ADC_REF_STAT_SETTLED, ADC_REF_STAT_FAULT, ADC_REF_STAT_RESTART_CNT]) ∧
  (∀ s : State, s.flag ADC_REF_CTRL_EN = false → exec .refDeviationDetect s = .next s) ∧
  (∀ s : State, s.adc.deviating = true →
    ∃ t, exec .refDeviationEnd s = .next t ∧ t.adc.settleAt = some (s.T + 2000000) ∧ t.adc.deviating = false ∧ t.regs = s.regs ∧ t.mem = s.mem) ∧
  (∀ (s : State) (c : Fin 64) (h : Bool) (lvl : BitVec 16) (held : BitVec 32), cmpSideEn s c.val h = true →
    (if h then 64 * s.get (ADC_CMP_THR_HI c.val) < lvl.toNat else lvl.toNat < 64 * s.get (ADC_CMP_THR_LO c.val)) →
    4 * s.get (ADC_CMP_CFG_FILT c.val) ≤ held.toNat → 4 * s.get (ADC_CMP_CFG_FILT c.val) ≤ s.T - s.adc.cmpT.get 0 (2 * c.val + b2n h) →
    ∃ s1, exec (.comparatorTrip c ⟨h, lvl, held⟩) s = .next (cmpChanged s1) ∧ s1.adc.req.get 0 (2 * c.val + b2n h) = 1 ∧ s1.regs = s.regs ∧ s1.mem = s.mem) ∧
  (∀ (s : State) (c : Fin 64) (h : Bool) (lvl : BitVec 16) (held : BitVec 32),
    (cmpSideEn s c.val h = false ∨ cmpTripped s c.val h lvl.toNat = false ∨ cmpLasts s c.val h held.toNat = false →
      exec (.comparatorTrip c ⟨h, lvl, held⟩) s = .next s) ∧
    (cmpSideEn s c.val h = true → (cmpCleared s c.val h lvl.toNat = false ∨ cmpLasts s c.val h held.toNat = false) →
      exec (.comparatorRelease c ⟨h, lvl, held⟩) s = .next s)) ∧
  (∀ (s : State) (c : Fin 64) (h : Bool) (lvl : BitVec 16) (held : BitVec 32),
    4 * s.get (ADC_CMP_CFG_FILT c.val) ≤ s.T - s.adc.cmpT.get 0 (2 * c.val + b2n h) →
    (cmpSideEn s c.val h = false ∨ ((if h then lvl.toNat + 64 * cmpHyst s c.val < 64 * s.get (ADC_CMP_THR_HI c.val)
      else 64 * (s.get (ADC_CMP_THR_LO c.val) + cmpHyst s c.val) < lvl.toNat) ∧ 4 * s.get (ADC_CMP_CFG_FILT c.val) ≤ held.toNat)) →
    ∃ t, exec (.comparatorRelease c ⟨h, lvl, held⟩) s = .next t ∧ t.adc.req.get 0 (2 * c.val + b2n h) = 0 ∧ t.regs = s.regs ∧ t.mem = s.mem ∧ t.out = s.out) ∧
  (∀ (s : State) (m : BitVec 8) (c : Fin 64) (v : BitVec 32), isMC m.toNat = true → s.flag ADC_CMP_LOCK_LOCK = false →
    ∃ t s1, exec (.adcCmpWrite m c false v) s = .next t ∧ t.get (ADC_CMP_THR_HI c.val) = bits v.toNat 16 10 ∧
      t.get (ADC_CMP_THR_LO c.val) = bits v.toNat 0 10 ∧ KeepsFields s t [ADC_CMP_THR_HI c.val, ADC_CMP_THR_LO c.val] ∧ t.mem = s.mem ∧
      exec (.adcCmpWrite m c true v) s = .next (cmpChanged s1) ∧ s1.get (ADC_CMP_CFG_EN_HI c.val) = bits v.toNat 31 1 ∧
      s1.get (ADC_CMP_CFG_EN_LO c.val) = bits v.toNat 30 1 ∧ s1.get (ADC_CMP_CFG_TRIP c.val) = bits v.toNat 26 4 ∧
      s1.get (ADC_CMP_CFG_HYST c.val) = bits v.toNat 24 2 ∧ s1.get (ADC_CMP_CFG_FILT c.val) = bits v.toNat 19 5 ∧ s1.mem = s.mem ∧
      KeepsFields s s1 [ADC_CMP_CFG_EN_HI c.val, ADC_CMP_CFG_EN_LO c.val, ADC_CMP_CFG_TRIP c.val, ADC_CMP_CFG_HYST c.val, ADC_CMP_CFG_FILT c.val]) ∧
  (∀ (s : State) (m : BitVec 8) (c : Fin 64) (g : Bool) (v : BitVec 32), isMC m.toNat = true → s.flag ADC_CMP_LOCK_LOCK = true →
    exec (.adcCmpWrite m c g v) s = .next (s.put ADC_REF_STAT_CFG_IGN 1)) ∧
  (∀ (s : State) (m : BitVec 8) (v : BitVec 32), isMC m.toNat = true →
    (s.adc.lockWritten = false → ∃ t, exec (.adcCmpLock m v) s = .next t ∧ t.get ADC_CMP_LOCK_LOCK = v.toNat % 2 ∧ t.adc.lockWritten = true ∧
      KeepsFields s t [ADC_CMP_LOCK_LOCK] ∧ t.mem = s.mem) ∧
    (s.adc.lockWritten = true → exec (.adcCmpLock m v) s = .next (s.put ADC_REF_STAT_CFG_IGN 1))) ∧
  (∀ (s : State) (m : BitVec 8) (v : BitVec 32), isMC m.toNat = true → s.flag ADC_EXC_CFG_EN = false →
    ∃ t, exec (.adcExcCfgWrite m v) s = .next t ∧ t.get ADC_EXC_CFG_FREQ = bits v.toNat 16 15 ∧ t.get ADC_EXC_CFG_DELAY = bits v.toNat 0 16 ∧
      KeepsFields s t [ADC_EXC_CFG_FREQ, ADC_EXC_CFG_DELAY, ADC_EXC_CFG_EN, ADC_REF_STAT_CFG_IGN] ∧ t.mem = s.mem ∧
      (bit v.toNat 31 = true → 2000 ≤ bits v.toNat 16 15 → bits v.toNat 16 15 ≤ 20000 → t.get ADC_EXC_CFG_EN = 1 ∧ t.adc.excT = s.T) ∧
      (bit v.toNat 31 = true → (bits v.toNat 16 15 < 2000 ∨ 20000 < bits v.toNat 16 15) →
        t.get ADC_EXC_CFG_EN = s.get ADC_EXC_CFG_EN ∧ t.get ADC_REF_STAT_CFG_IGN = 1) ∧
      (bit v.toNat 31 = false → t.get ADC_EXC_CFG_EN = s.get ADC_EXC_CFG_EN)) ∧
  (∀ (s : State) (m : BitVec 8) (v : BitVec 32), isMC m.toNat = true → s.flag ADC_EXC_CFG_EN = true →
    ∃ t, exec (.adcExcCfgWrite m v) s = .next t ∧ t.get ADC_EXC_CFG_FREQ = s.get ADC_EXC_CFG_FREQ ∧ t.get ADC_EXC_CFG_EN = bits v.toNat 31 1 ∧
      t.get ADC_EXC_CFG_DELAY = bits v.toNat 0 16 ∧ (bits v.toNat 16 15 ≠ s.get ADC_EXC_CFG_FREQ → t.get ADC_REF_STAT_CFG_IGN = 1) ∧
      KeepsFields s t [ADC_EXC_CFG_DELAY, ADC_EXC_CFG_EN, ADC_REF_STAT_CFG_IGN] ∧ t.mem = s.mem)

/-- Tables 5.3 and 5.5. C of MUL, MULN, MULR, ABS and RND is a free value (log entry 44); that MRA sets C as an addition is the
model's reading. -/
def Obligations.DspAccumulatorArithmetic : Prop :=
  ∀ (s : State) (n : Fin 4) (w i src : Nat) (d : Dsp), w = dspWord s n.val → i = bits w 25 1 → src = bits w 21 4 → d = s.cd n.val → bits w 19 2 = 0 →
    (DspAt s n.val (.alu 0x01) → ∃ t, exec (.dspMul n) s = .next t ∧ AccStep s t n.val i (d.product (src / 4) (src % 4))) ∧
    (DspAt s n.val (.alu 0x02) → ∃ t, exec (.dspMuln n) s = .next t ∧ AccStep s t n.val i (-d.product (src / 4) (src % 4))) ∧
    (DspAt s n.val (.alu 0x03) → ∃ t, exec (.dspMac n) s = .next t ∧ AccStep s t n.val i (d.accS i + d.product (src / 4) (src % 4)) ∧
      (t.cd n.val).flag srC = carryOf (d.accS i) (d.product (src / 4) (src % 4))) ∧
    (DspAt s n.val (.alu 0x04) → ∃ t, exec (.dspMsu n) s = .next t ∧ AccStep s t n.val i (d.accS i - d.product (src / 4) (src % 4)) ∧
      (t.cd n.val).flag srC = borrowOf (d.accS i) (d.product (src / 4) (src % 4))) ∧
    (DspAt s n.val (.alu 0x05) →
      ∃ t, exec (.dspMulr n) s = .next t ∧ AccStep s t n.val i (roundAcc d.rm (d.product (src / 4) (src % 4)))) ∧
    (DspAt s n.val (.alu 0x06) →
      ∃ t, exec (.dspMra n) s = .next t ∧ AccStep s t n.val i (roundAcc d.rm (d.accS i + d.product (src / 4) (src % 4))) ∧
        (t.cd n.val).flag srC = carryOf (d.accS i) (d.product (src / 4) (src % 4))) ∧
    (DspAt s n.val (.alu 0x07) → ∃ t, exec (.dspAdd n) s = .next t ∧ AccStep s t n.val i (d.accS i + d.sOp i src) ∧
      (t.cd n.val).flag srC = carryOf (d.accS i) (d.sOp i src)) ∧
    (DspAt s n.val (.alu 0x08) → ∃ t, exec (.dspSub n) s = .next t ∧ AccStep s t n.val i (d.accS i - d.sOp i src) ∧
      (t.cd n.val).flag srC = borrowOf (d.accS i) (d.sOp i src)) ∧
    (DspAt s n.val (.alu 0x10) → ∃ t, exec (.dspNeg n) s = .next t ∧ AccStep s t n.val i (-d.accS i) ∧
      (t.cd n.val).flag srC = borrowOf 0 (d.accS i)) ∧
    (DspAt s n.val (.alu 0x11) → ∃ t, exec (.dspAbs n) s = .next t ∧ AccStep s t n.val i (d.accS i).natAbs) ∧
    (DspAt s n.val (.alu 0x12) → ∃ t, exec (.dspRnd n) s = .next t ∧ AccStep s t n.val i (roundAcc d.rm (d.accS i))) ∧
    (DspAt s n.val (.alu 0x13) → ∃ t, exec (.dspAsl n) s = .next t ∧ AccStep s t n.val i (2 * d.accS i) ∧
      (t.cd n.val).flag srC = bit (d.accU i) 55) ∧
    (DspAt s n.val (.alu 0x14) → ∃ t, exec (.dspAsr n) s = .next t ∧ AccStep s t n.val i (d.accS i / 2) ∧
      (t.cd n.val).flag srC = bit (d.accU i) 0) ∧
    (DspAt s n.val (.alu 0x0F) → ∃ t, exec (.dspClr n) s = .next t ∧ (t.cd n.val).accU i = 0 ∧ (t.cd n.val).flag srZ = true ∧
      (t.cd n.val).flag srLZ = true ∧ (t.cd n.val).flag srC = false ∧ (t.cd n.val).flag srV = false ∧ (t.cd n.val).flag srN = false ∧
      (t.cd n.val).flag srGU = false ∧ (∀ j, j ≠ i → (t.cd n.val).accU j = d.accU j) ∧ (t.cd n.val).d = d.d ∧ DspKeeps d (t.cd n.val) ∧
      (t.cd n.val).pc = dspNext s n.val ∧ DspOnly s t n.val) ∧
    (DspAt s n.val (.alu 0x16) → ∃ t, exec (.dspCpy n) s = .next t ∧ (t.cd n.val).accS i = d.sOp i src ∧ (t.cd n.val).sr = d.sr ∧
      (∀ j, j ≠ i → (t.cd n.val).accU j = d.accU j) ∧ (t.cd n.val).d = d.d ∧ DspKeeps d (t.cd n.val) ∧ (t.cd n.val).pc = dspNext s n.val ∧
      DspOnly s t n.val)

/-- Table 5.7. -/
def Obligations.DspShiftsAndImmediates : Prop :=
  ∀ (s : State) (n : Fin 4) (w i : Nat) (d : Dsp), w = dspWord s n.val → i = bits w 23 1 → d = s.cd n.val →
    (DspAt s n.val .ashImm → ∃ t, exec (.dspAshImm n) s = .next t ∧
      AccStep s t n.val i (if 0 ≤ signed 6 (bits w 0 6) then d.accS i * 2 ^ (signed 6 (bits w 0 6)).toNat
        else d.accS i / 2 ^ (-signed 6 (bits w 0 6)).toNat)) ∧
    (DspAt s n.val .ashReg → ∃ t, exec (.dspAshReg n) s = .next t ∧
      AccStep s t n.val i (if 0 ≤ signed 6 (d.dreg (bits w 0 2)) then d.accS i * 2 ^ (signed 6 (d.dreg (bits w 0 2))).toNat
        else d.accS i / 2 ^ (-signed 6 (d.dreg (bits w 0 2))).toNat)) ∧
    (DspAt s n.val .addi → ∃ t, exec (.dspAddi n) s = .next t ∧ AccStep s t n.val i (d.accS i + signed 16 (bits w 0 16) * 2 ^ 24) ∧
      (t.cd n.val).flag srC = carryOf (d.accS i) (signed 16 (bits w 0 16) * 2 ^ 24)) ∧
    (DspAt s n.val .cmpi → ∃ t, exec (.dspCmpi n) s = .next t ∧ FlagStep s t n.val ∧
      (t.cd n.val).flag srZ = (unsigned 56 (d.accS i - signed 16 (bits w 0 16) * 2 ^ 24) == 0) ∧
      (t.cd n.val).flag srN = bit (unsigned 56 (d.accS i - signed 16 (bits w 0 16) * 2 ^ 24)) 55 ∧
      (t.cd n.val).flag srC = borrowOf (d.accS i) (signed 16 (bits w 0 16) * 2 ^ 24) ∧
      (t.cd n.val).flag srV = overflows (d.accS i - signed 16 (bits w 0 16) * 2 ^ 24)) ∧
    (DspAt s n.val .lsh → ∃ t, exec (.dspLsh n) s = .next t ∧ (t.cd n.val).acc = d.acc ∧ DspKeeps d (t.cd n.val) ∧
      (t.cd n.val).dreg (bits w 8 2) = wrap 24 (if 0 ≤ signed 6 (bits w 0 6) then d.dreg (bits w 8 2) * 2 ^ (signed 6 (bits w 0 6)).toNat
        else d.dreg (bits w 8 2) / 2 ^ (-signed 6 (bits w 0 6)).toNat) ∧
      (∀ j, j ≠ bits w 8 2 → (t.cd n.val).dreg j = d.dreg j) ∧ (t.cd n.val).flag srV = false ∧
      (t.cd n.val).flag srZ = ((t.cd n.val).dreg (bits w 8 2) == 0) ∧ (t.cd n.val).flag srN = bit ((t.cd n.val).dreg (bits w 8 2)) 23 ∧
      (t.cd n.val).pc = dspNext s n.val ∧
      DspOnly s t n.val) ∧
    (DspAt s n.val .nrm → d.accS i ≠ 0 → ∃ t, ∃ k : Int, exec (.dspNrm n) s = .next t ∧ -8 ≤ k ∧ k ≤ 47 ∧
      (t.cd n.val).dreg (bits w 0 2) = unsigned 24 k ∧ bit ((t.cd n.val).accU i) 47 ≠ bit ((t.cd n.val).accU i) 46 ∧
      guOf ((t.cd n.val).accU i) = false ∧ (t.cd n.val).flag srV = false ∧
      (0 ≤ k → (t.cd n.val).accS i = d.accS i * 2 ^ k.toNat) ∧ (k < 0 → (t.cd n.val).accS i = d.accS i / 2 ^ (-k).toNat) ∧
      (∀ j, j ≠ bits w 0 2 → (t.cd n.val).dreg j = d.dreg j) ∧ (∀ j, j ≠ i → (t.cd n.val).accU j = d.accU j) ∧ DspKeeps d (t.cd n.val) ∧
      (t.cd n.val).pc = dspNext s n.val ∧ DspOnly s t n.val) ∧
    (DspAt s n.val .nrm → d.accS i = 0 → ∃ t, exec (.dspNrm n) s = .next t ∧ (t.cd n.val).accS i = 0 ∧ (t.cd n.val).dreg (bits w 0 2) = 0 ∧
      (t.cd n.val).flag srZ = true ∧ (∀ j, j ≠ bits w 0 2 → (t.cd n.val).dreg j = d.dreg j) ∧ (∀ j, j ≠ i → (t.cd n.val).accU j = d.accU j) ∧
      DspKeeps d (t.cd n.val) ∧ (t.cd n.val).pc = dspNext s n.val ∧ DspOnly s t n.val)

/-- Table 5.5. -/
def Obligations.DspLogicAndCompare : Prop :=
  ∀ (s : State) (n : Fin 4) (w i src : Nat) (d : Dsp), w = dspWord s n.val → i = bits w 25 1 → src = bits w 21 4 → d = s.cd n.val → bits w 19 2 = 0 →
    (∀ (c : Instr) (op h : Nat), (c = .dspAnd n ∧ op = 0x0B ∧ h = andN (accH (d.accU i)) (d.sLow i src) ∨
        c = .dspOr n ∧ op = 0x0C ∧ h = orN (accH (d.accU i)) (d.sLow i src) ∨
        c = .dspXor n ∧ op = 0x0D ∧ h = xorN (accH (d.accU i)) (d.sLow i src) ∨
        c = .dspNot n ∧ op = 0x0E ∧ h = 0xFFFFFF - accH (d.accU i)) → DspAt s n.val (.alu op) →
      ∃ t, exec c s = .next t ∧ accH ((t.cd n.val).accU i) = h ∧ accG ((t.cd n.val).accU i) = accG (d.accU i) ∧
        accL ((t.cd n.val).accU i) = accL (d.accU i) ∧ (t.cd n.val).flag srN = bit h 23 ∧ (t.cd n.val).flag srZ = (h == 0) ∧
        (t.cd n.val).flag srV = false ∧ (t.cd n.val).flag srC = d.flag srC ∧ (t.cd n.val).flag srSO = d.flag srSO ∧
        (∀ j, j ≠ i → (t.cd n.val).accU j = d.accU j) ∧ (t.cd n.val).d = d.d ∧ DspKeeps d (t.cd n.val) ∧
        (t.cd n.val).pc = dspNext s n.val ∧ DspOnly s t n.val) ∧
    (DspAt s n.val (.alu 0x09) → ∃ t, exec (.dspCmp n) s = .next t ∧ FlagStep s t n.val ∧
      (t.cd n.val).flag srZ = (unsigned 56 (d.accS i - d.sOp i src) == 0) ∧ (t.cd n.val).flag srV = overflows (d.accS i - d.sOp i src) ∧
      (t.cd n.val).flag srN = bit (unsigned 56 (d.accS i - d.sOp i src)) 55 ∧ (t.cd n.val).flag srC = borrowOf (d.accS i) (d.sOp i src)) ∧
    (DspAt s n.val (.alu 0x0A) → ∃ t, exec (.dspCmpDxdy n) s = .next t ∧ FlagStep s t n.val ∧
      (t.cd n.val).flag srZ = decide (signed 24 (d.dreg (src % 4)) = signed 24 (d.dreg (src / 4))) ∧ (t.cd n.val).flag srV = false ∧
      (t.cd n.val).flag srC = borrowOf (toAcc (d.dreg (src % 4))) (toAcc (d.dreg (src / 4))) ∧
      (t.cd n.val).flag srN = decide (signed 24 (d.dreg (src % 4)) < signed 24 (d.dreg (src / 4)))) ∧
    (DspAt s n.val (.alu 0x15) → ∃ t, exec (.dspTst n) s = .next t ∧ FlagStep s t n.val ∧ (t.cd n.val).flag srZ = (d.accU i == 0) ∧
      (t.cd n.val).flag srN = bit (d.accU i) 55 ∧ (t.cd n.val).flag srC = false ∧ (t.cd n.val).flag srV = false)

/-- Tables 5.2, 5.4, 5.6, 4.1 and 4.2. -/
def Obligations.DspMovesAndPointers : Prop :=
  ∀ (s : State) (n : Fin 4) (w : Nat) (d : Dsp), w = dspWord s n.val → d = s.cd n.val →
    (DspAt s n.val .movImm → lcFault d .movImm w = false → ∃ t, exec (.dspMoveImm n) s = .next t ∧
      SameRegs (t.cd n.val) (d.write6 (bits w 24 6) (bits w 0 24)) ∧ (bits w 24 6 < 4 → (t.cd n.val).dreg (bits w 24 6) = bits w 0 24) ∧
      (bits w 24 6 ≠ 0x31 → (t.cd n.val).pc = dspNext s n.val) ∧ DspOnly s t n.val) ∧
    (DspAt s n.val .movImm → bits w 24 6 = 0x31 → d.rpt = 0 → ∀ (e : LoopEnt) (l : List LoopEnt), d.loops = e :: l → e.le ≠ d.pc →
      ∃ t, exec (.dspMoveImm n) s = .next t ∧ (t.cd n.val).loops = { e with lc := bits w 0 24 } :: l ∧ (t.cd n.val).pc = pmAddr (d.pc + 1)) ∧
    (∀ d1 d2 : Dsp, d1 = (if readsCop .movRR w then d.copDone else d) → d2 = d1.write6 (bits w 0 6) (d1.read6 (bits w 6 6)).1 →
      DspAt s n.val .movRR → lcFault d .movRR w = false → ∃ t, exec (.dspMoveRr n) s = .next t ∧
      SameRegs (t.cd n.val) (if (d1.read6 (bits w 6 6)).2 then d2.setFlag srSO true else d2) ∧
      (bits w 0 6 < 4 → bits w 6 6 < 4 → (t.cd n.val).dreg (bits w 0 6) = wrap 24 (d.dreg (bits w 6 6))) ∧
      (bits w 0 6 ≠ 0x31 → (t.cd n.val).pc = dspNext s n.val) ∧ DspOnly s t n.val) ∧
    (∀ (k : DKind) (c : Instr) (a : DAccess), (k = .movEA ∧ c = .dspMoveEa n ∨ k = .movAbs ∧ c = .dspMoveAbs n) → dspAccesses d k w = [a] →
      DspAt s n.val k → lcFault d k w = false → a.addr < 0x8000 → a.amode = false →
      (a.write = false → ∃ t, exec c s = .next t ∧
        SameRegs (t.cd n.val) ((d.point a).write6 a.reg (s.dataWord n.val (a.space != 0) a.addr (addrCycle d s.T k w))) ∧
        (a.reg < 4 → (t.cd n.val).dreg a.reg = wrap 24 (s.dataWord n.val (a.space != 0) a.addr (addrCycle d s.T k w))) ∧
        (a.reg ≠ 0x31 → (t.cd n.val).pc = dspNext s n.val) ∧ DspOnly s t n.val) ∧
      (a.write = true → ∀ d1 : Dsp, d1 = (if readsCop k w then d.copDone else d) → ∃ t, exec c s = .next t ∧
        (if a.space = 0 then (t.cdMem n.val).da else (t.cdMem n.val).db).get 0 a.addr =
          ((if 0x10 ≤ a.reg ∧ a.reg < 0x18 then d1.point a else d1).read6 a.reg).1 ∧
        (∀ x, a.space ≠ 0 ∨ x ≠ a.addr → (t.cdMem n.val).da.get 0 x = (s.cdMem n.val).da.get 0 x) ∧
        (∀ x, a.space = 0 ∨ x ≠ a.addr → (t.cdMem n.val).db.get 0 x = (s.cdMem n.val).db.get 0 x) ∧
        (t.cdMem n.val).pm = (s.cdMem n.val).pm ∧ t.mem = s.mem ∧ t.regs = s.regs ∧ (t.cd n.val).d = d.d ∧ (t.cd n.val).acc = d.acc ∧
        (t.cd n.val).ap = (d.point a).ap ∧ (t.cd n.val).pc = dspNext s n.val)) ∧
    (∀ e ∈ pRows n, DspAt s n.val (.alu e.2) → (∀ a ∈ dspAccesses d (.alu e.2) w, a.addr < 0x8000) → bits w 19 2 ≠ 3 →
      ∃ t, exec e.1 s = .next t ∧ AccessesDone s t n.val (addrCycle d s.T (.alu e.2) w) (dspAccesses d (.alu e.2) w) ∧
        (∀ j, 4 + j ∉ (moveField w).2 → (t.cd n.val).accU j = (aluDone s n.val e.2 w).accU j) ∧
        (∀ j, j < 4 → j ∉ (moveField w).2 → (t.cd n.val).dreg j = d.dreg j) ∧
        (∀ k, k ≠ srSO → bit (t.cd n.val).sr k = bit (aluDone s n.val e.2 w).sr k) ∧ (t.cd n.val).calls = d.calls ∧
        (t.cd n.val).pc = dspNext s n.val) ∧
    (∀ e ∈ pRows n, DspAt s n.val (.alu e.2) → bits w 19 2 = 3 → ∃ t, exec e.1 s = .next t ∧
      (bits w 13 3 < 4 → (t.cd n.val).dreg (bits w 13 3) = wrap 24 (d.read6 (bits w 16 3)).1) ∧
      (4 ≤ bits w 13 3 → (t.cd n.val).accU (bits w 13 3 - 4) = unsigned 56 (toAcc (d.read6 (bits w 16 3)).1)) ∧
      (∀ j, 4 + j ≠ bits w 13 3 → (t.cd n.val).accU j = (aluDone s n.val e.2 w).accU j) ∧
      (∀ j, j ≠ bits w 13 3 → j < 4 → (t.cd n.val).dreg j = d.dreg j) ∧
      (∀ k, k ≠ srSO → bit (t.cd n.val).sr k = bit (aluDone s n.val e.2 w).sr k) ∧ (t.cd n.val).ap = d.ap ∧ (t.cd n.val).calls = d.calls ∧
      (t.cd n.val).pc = dspNext s n.val ∧ DspOnly s t n.val) ∧
    (DspAt s n.val .ldp → ∃ t, exec (.dspLdp n) s = .next t ∧
      (bits w 0 3 < 4 → (t.cd n.val).dreg (bits w 0 3) = wrap 24 ((s.cdMem n.val).pm.get 0 (d.ap.get 0 (bits w 19 3) % 32768) / 256)) ∧
      (4 ≤ bits w 0 3 → (t.cd n.val).accU (bits w 0 3 - 4) =
        unsigned 56 (signed 32 ((s.cdMem n.val).pm.get 0 (d.ap.get 0 (bits w 19 3) % 32768)) * 2 ^ 16)) ∧
      (t.cd n.val).ap.get 0 (bits w 19 3) = (d.ea (bits w 19 3) (bits w 16 3)).2 ∧ (t.cd n.val).sr = d.sr ∧ (t.cd n.val).pc = dspNext s n.val ∧
      (bits w 16 3 ≠ 0 → alReserved (d.al.get 0 (bits w 19 3)) = true → t.get (CD_STAT_AMODE_ERR n.val) = 1) ∧
      KeepsFields s t [CD_STAT_AMODE_ERR n.val] ∧ t.mem = s.mem ∧ ∀ j, t.cdMem j = s.cdMem j) ∧
    (DspAt s n.val .padr → ∃ t, exec (.dspPadr n) s = .next t ∧
      (t.cd n.val).ap.get 0 (bits w 0 3) = (if bits w 16 3 = 4 then (d.ea (bits w 19 3) 4).1 else (d.ea (bits w 19 3) (bits w 16 3)).2) ∧
      (∀ j, j ≠ bits w 0 3 → (t.cd n.val).ap.get 0 j = d.ap.get 0 j) ∧ (t.cd n.val).d = d.d ∧ (t.cd n.val).acc = d.acc ∧
      (t.cd n.val).sr = d.sr ∧ (t.cd n.val).pc = dspNext s n.val ∧
      (alReserved (d.al.get 0 (bits w 19 3)) = true → t.get (CD_STAT_AMODE_ERR n.val) = 1) ∧
      KeepsFields s t [CD_STAT_AMODE_ERR n.val] ∧ t.mem = s.mem ∧ ∀ j, t.cdMem j = s.cdMem j) ∧
    (∀ (k : DKind) (c : Instr) (f : Bool × Nat), (k = .movEA ∧ c = .dspMoveEa n ∨ k = .movAbs ∧ c = .dspMoveAbs n ∨ ∃ e ∈ pRows n, k = .alu e.2 ∧ c = e.1) →
      DspAt s n.val k → d.cop = none → lcFault d k w = false → dspFabric s n.val k w = some f →
      ∃ t, exec c s = .next t ∧ (t.cd n.val).stalled = true ∧ (t.cd n.val).stallAddr = f.2 ∧ (t.cd n.val).pc = d.pc ∧ SameRegs (t.cd n.val) d ∧
        DspOnly s t n.val) ∧
    (∀ a : DAccess, dspAccesses d .movEA w = [a] → DspAt s n.val .movEA → lcFault d .movEA w = false → a.write = false →
      dspTarget s n.val a.space a.addr = .unmapped → d.ipl < 4 → bits w 0 6 < 4 → d.calls.length < 16 →
      ∃ t, exec (.dspMoveEa n) s = .next t ∧ (t.cd n.val).pc = vectorAddr s n.val 1 ∧ (t.cd n.val).ipl = 4 ∧ (t.cd n.val).dreg (bits w 0 6) = 0)

/-- Section 4.6. The errors within the stated accuracy are free values (Config.coprocError, log entry 46). -/
def Obligations.DspCoprocessor : Prop :=
  (∀ (s : State) (n : Fin 4) (w : Nat) (d : Dsp), w = dspWord s n.val → d = s.cd n.val → d.cop = none →
    (DspAt s n.val .div → signed 24 (d.dreg (bits w 2 2)) ≠ 0 → (signed 24 (d.dreg (bits w 4 2))).natAbs < (signed 24 (d.dreg (bits w 2 2))).natAbs →
      ∃ t o, exec (.dspDiv n) s = .next t ∧ (t.cd n.val).cop = some o ∧ o.squashed = false ∧ o.f = 0 ∧
        o.x = unsigned 24 (Int.tdiv (signed 24 (d.dreg (bits w 4 2)) * 2 ^ 23) (signed 24 (d.dreg (bits w 2 2)))) ∧
        o.y = unsigned 24 (Int.tmod (signed 24 (d.dreg (bits w 4 2)) * 2 ^ 23) (signed 24 (d.dreg (bits w 2 2)))) ∧
        d.now s.T + 18 ≤ o.ready ∧ SameRegs (t.cd n.val) d ∧ DspOnly s t n.val) ∧
    (DspAt s n.val .div → signed 24 (d.dreg (bits w 2 2)) ≠ 0 → (signed 24 (d.dreg (bits w 2 2))).natAbs ≤ (signed 24 (d.dreg (bits w 4 2))).natAbs →
      ∃ t o, exec (.dspDiv n) s = .next t ∧ (t.cd n.val).cop = some o ∧ o.f = 1 ∧ d.now s.T + 18 ≤ o.ready ∧
        o.x = (if (signed 24 (d.dreg (bits w 4 2)) < 0) = (signed 24 (d.dreg (bits w 2 2)) < 0) then 0x7FFFFF else 0x800000) ∧
        SameRegs (t.cd n.val) d ∧ DspOnly s t n.val) ∧
    (DspAt s n.val .div → signed 24 (d.dreg (bits w 2 2)) = 0 → ∃ t o, exec (.dspDiv n) s = .next t ∧ (t.cd n.val).cop = some o ∧
      o.f = 5 ∧ o.x = (if signed 24 (d.dreg (bits w 4 2)) < 0 then 0x800000 else 0x7FFFFF) ∧ d.now s.T + 18 ≤ o.ready ∧
      SameRegs (t.cd n.val) d ∧ DspOnly s t n.val) ∧
    (DspAt s n.val .sqrt → signed 24 (d.dreg (bits w 4 2)) < 0 → ∃ t o, exec (.dspSqrt n) s = .next t ∧ (t.cd n.val).cop = some o ∧
      o.x = 0 ∧ o.y = 0 ∧ o.f = 2 ∧ d.now s.T + 16 ≤ o.ready ∧ SameRegs (t.cd n.val) d ∧ DspOnly s t n.val) ∧
    (DspAt s n.val .sqrt → 0 ≤ signed 24 (d.dreg (bits w 4 2)) → ∃ t o, exec (.dspSqrt n) s = .next t ∧ (t.cd n.val).cop = some o ∧
      o.y = 0 ∧ o.f = 0 ∧ d.now s.T + 16 ≤ o.ready ∧ (signed 24 (d.dreg (bits w 4 2))).toNat * 2 ^ 23 ≤ (o.x + 1) ^ 2 ∧
      (o.x - 1) ^ 2 ≤ (signed 24 (d.dreg (bits w 4 2))).toNat * 2 ^ 23 ∧ SameRegs (t.cd n.val) d ∧ DspOnly s t n.val) ∧
    (DspAt s n.val .cvec → ∃ t o, exec (.dspCvec n) s = .next t ∧ (t.cd n.val).cop = some o ∧ d.now s.T + 16 ≤ o.ready ∧
      (o.f = 1 ↔ (2 : Int) ^ 46 ≤ signed 24 (d.dreg (bits w 4 2)) ^ 2 + signed 24 (d.dreg (bits w 2 2)) ^ 2) ∧
      (o.f = 1 → o.x = 0x7FFFFF) ∧ (o.f = 0 ∨ o.f = 1) ∧ SameRegs (t.cd n.val) d ∧ DspOnly s t n.val) ∧
    (DspAt s n.val .crot → ∃ t o, exec (.dspCrot n) s = .next t ∧ (t.cd n.val).cop = some o ∧ d.now s.T + 14 ≤ o.ready ∧
      (o.f = 0 ∨ o.f = 1) ∧ (o.f = 1 ↔ ∃ c r v : Int, (c, r) = cosSin (d.dreg (bits w 0 2) * 2 ^ 40) ∧ 2 ^ 85 ≤ v.natAbs ∧
        (v = signed 24 (d.dreg (bits w 4 2)) * c - signed 24 (d.dreg (bits w 2 2)) * r ∨
          v = signed 24 (d.dreg (bits w 4 2)) * r + signed 24 (d.dreg (bits w 2 2)) * c)) ∧
      SameRegs (t.cd n.val) d ∧ DspOnly s t n.val)) ∧
  (∀ (s : State) (n : Fin 4) (k : DKind) (c : Instr) (e : Cop), (s.cd n.val).cop = some e →
    (k = .crot ∧ c = .dspCrot n ∨ k = .cvec ∧ c = .dspCvec n ∨ k = .sqrt ∧ c = .dspSqrt n ∨ k = .div ∧ c = .dspDiv n) → DspAt s n.val k →
    ∃ t o, exec c s = .next t ∧ (t.cd n.val).cop = some o ∧ e.ready + k.latency ≤ o.ready ∧
      (e.squashed = false → (t.cd n.val).cpx = e.x ∧ (t.cd n.val).cpy = e.y ∧ (t.cd n.val).cpf = e.f) ∧
      (e.squashed = true → (t.cd n.val).cpx = (s.cd n.val).cpx ∧ (t.cd n.val).cpy = (s.cd n.val).cpy ∧ (t.cd n.val).cpf = (s.cd n.val).cpf) ∧
      (t.cd n.val).d = (s.cd n.val).d ∧ (t.cd n.val).acc = (s.cd n.val).acc ∧ DspOnly s t n.val) ∧
  (∀ (s : State) (n : Fin 4) (o : Cop), (s.cd n.val).cop = some o → o.ready ≤ (s.cd n.val).now s.T → o.squashed = false →
    ∃ t, exec (.coprocComplete n) s = .next t ∧ (t.cd n.val).cpx = o.x ∧ (t.cd n.val).cpy = o.y ∧ (t.cd n.val).cpf = o.f ∧
      (t.cd n.val).cop = none ∧ (t.cd n.val).d = (s.cd n.val).d ∧ DspOnly s t n.val) ∧
  (∀ (s : State) (n : Fin 4) (o : Cop), (s.cd n.val).cop = some o → o.ready ≤ (s.cd n.val).now s.T → o.squashed = true →
    ∃ t, exec (.coprocComplete n) s = .next t ∧ (t.cd n.val).cpx = (s.cd n.val).cpx ∧ (t.cd n.val).cpy = (s.cd n.val).cpy ∧
      (t.cd n.val).cpf = (s.cd n.val).cpf ∧ (t.cd n.val).cop = none ∧ DspOnly s t n.val) ∧
  (∀ (s : State) (n : Fin 4) (o : Cop), (s.cd n.val).cop = some o → (s.cd n.val).now s.T < o.ready → exec (.coprocComplete n) s = .next s)

/-- Sections 4.4 and 4.7, Tables 5.8 and 5.9. That SO survives an RTI is the model's reading (log entry 211); the SR that an RTI
takes from a CALL's entry is a free value. -/
def Obligations.DspFlowLoopsAndFaults : Prop :=
  (∀ (s : State) (n : Fin 4) (w : Nat) (d : Dsp), w = dspWord s n.val → d = s.cd n.val →
    (DspAt s n.val .nop → ∃ t, exec (.dspNop n) s = .next t ∧ FlagStep s t n.val ∧ (t.cd n.val).sr = d.sr) ∧
    (DspAt s n.val .jmp → ∃ t, exec (.dspJmp n) s = .next t ∧ (t.cd n.val).pc = bits w 0 15 ∧ (t.cd n.val).calls = d.calls ∧
      (t.cd n.val).loops = d.loops ∧ (t.cd n.val).d = d.d ∧ (t.cd n.val).sr = d.sr ∧ DspOnly s t n.val) ∧
    (DspAt s n.val .call → d.calls.length < 16 → ∃ t, exec (.dspCall n) s = .next t ∧ (t.cd n.val).pc = bits w 0 15 ∧
      (t.cd n.val).calls.map (·.addr) = pmAddr (d.pc + 1) :: d.calls.map (·.addr) ∧ (t.cd n.val).sr = d.sr ∧ DspOnly s t n.val) ∧
    (∀ (e : CallEnt) (l : List CallEnt), d.calls = e :: l →
      (DspAt s n.val .rts → ∃ t, exec (.dspRts n) s = .next t ∧ (t.cd n.val).pc = e.addr ∧ (t.cd n.val).calls = l ∧ (t.cd n.val).sr = d.sr ∧
        DspOnly s t n.val) ∧
      (DspAt s n.val .rti → ∀ r, e.sr = some r → ∃ t, exec (.dspRti n) s = .next t ∧ (t.cd n.val).pc = e.addr ∧ (t.cd n.val).calls = l ∧
        (t.cd n.val).sr = (if d.flag srSO then setBit r srSO else r) ∧ (t.cd n.val).rpt = e.rpt ∧ DspOnly s t n.val) ∧
      (DspAt s n.val .rti → ∃ t, exec (.dspRti n) s = .next t ∧ (t.cd n.val).pc = e.addr ∧ (t.cd n.val).calls = l ∧ DspOnly s t n.val)) ∧
    (∀ (e : LoopEnt) (l : List LoopEnt), DspAt s n.val .lpop → d.rpt = 0 → d.loops = e :: l → ∃ t, exec (.dspLpop n) s = .next t ∧
      (t.cd n.val).loops = (loopEnd l d.pc).1 ∧ (t.cd n.val).sr = d.sr ∧ DspOnly s t n.val) ∧
    (DspAt s n.val .bcc → ∃ t, exec (.dspBcc n) s = .next t ∧ (t.cd n.val).pc = (if condition (bits w 20 4) d.sr then bits w 0 15 else dspNext s n.val) ∧
      (t.cd n.val).sr = d.sr ∧ (t.cd n.val).d = d.d ∧ (t.cd n.val).acc = d.acc ∧ DspOnly s t n.val) ∧
    (∀ (k : DKind) (c : Instr) (cnt : Nat), (k = .loopImm ∧ c = .dspLoopImm n ∧ cnt = bits w 16 12 ∨
        k = .loopReg ∧ c = .dspLoopReg n ∧ cnt = d.dreg (bits w 16 2)) → DspAt s n.val k → d.pc < bits w 0 15 → d.rpt = 0 →
      (0 < cnt → d.loops.length < 6 → ∃ t, exec c s = .next t ∧ (t.cd n.val).loops = ⟨d.pc + 1, bits w 0 15, cnt⟩ :: d.loops ∧
        (t.cd n.val).pc = pmAddr (d.pc + 1) ∧ (t.cd n.val).sr = d.sr ∧ DspOnly s t n.val) ∧
      (cnt = 0 → ∃ t, exec c s = .next t ∧ (t.cd n.val).loops = d.loops ∧ (t.cd n.val).pc = pmAddr (bits w 0 15 + 1) ∧ DspOnly s t n.val)) ∧
    (∀ (k : DKind) (c : Instr) (cnt : Nat), (k = .rptImm ∧ c = .dspRptImm n ∧ cnt = bits w 0 12 ∨ k = .rptReg ∧ c = .dspRptReg n ∧ cnt = d.dreg (bits w 0 2)) →
      DspAt s n.val k → d.rpt = 0 →
      ∃ t, exec c s = .next t ∧ (t.cd n.val).rpt = cnt ∧ (t.cd n.val).pc = pmAddr (d.pc + (if cnt = 0 then 2 else 1)) ∧
        (t.cd n.val).loops = d.loops ∧ (t.cd n.val).sr = d.sr ∧ DspOnly s t n.val) ∧
    (DspAt s n.val .swi → ∃ t, exec (.dspSwi n) s = .next t ∧ bit (t.get (CD_IRQ_PEND_PEND n.val)) 6 = true ∧
      KeepsFields s t [CD_IRQ_PEND_PEND n.val] ∧ (t.cd n.val).d = d.d ∧ t.mem = s.mem)) ∧
  (∀ (s : State) (n : Fin 4) (w v : Nat) (k : DKind) (c : Instr) (d : Dsp), w = dspWord s n.val → d = s.cd n.val → DspAt s n.val k →
    (k = .illegal ∧ c = .dspIllegalEncoding n ∧ v = 2 ∨ k = .lpop ∧ c = .dspLpop n ∧ d.loops = [] ∧ v = 3 ∨
      k = .loopImm ∧ c = .dspLoopImm n ∧ d.pc < bits w 0 15 ∧ bits w 16 12 ≠ 0 ∧ 6 ≤ d.loops.length ∧ v = 3 ∨
      k = .loopReg ∧ c = .dspLoopReg n ∧ d.pc < bits w 0 15 ∧ d.dreg (bits w 16 2) ≠ 0 ∧ 6 ≤ d.loops.length ∧ v = 3 ∨
      k = .loopImm ∧ c = .dspLoopImm n ∧ bits w 0 15 ≤ d.pc ∧ v = 2 ∨ k = .loopReg ∧ c = .dspLoopReg n ∧ bits w 0 15 ≤ d.pc ∧ v = 2 ∨
      k = .movImm ∧ c = .dspMoveImm n ∧ bits w 24 6 = 0x31 ∧ d.loops = [] ∧ v = 3 ∨
      k = .rts ∧ c = .dspRts n ∧ d.calls = [] ∧ v = 4 ∨ k = .rti ∧ c = .dspRti n ∧ d.calls = [] ∧ v = 4) →
    (d.ipl < 4 → d.calls.length < 16 →
      ∃ t, exec c s = .next t ∧ (t.cd n.val).pc = vectorAddr s n.val v ∧ (t.cd n.val).ipl = 4 ∧ (t.cd n.val).calls.length = d.calls.length + 1 ∧
        (t.cd n.val).loops = d.loops ∧ (t.cd n.val).d = d.d ∧ (t.cd n.val).acc = d.acc ∧
        (s.flag (CD_FAULT_INFO_VALID n.val) = false → t.get (CD_FAULT_INFO_VALID n.val) = 1 ∧ t.get (CD_FAULT_INFO_VEC n.val) = v ∧
          t.get (CD_FAULT_INFO_PC n.val) = wrap 15 d.pc) ∧
        (s.flag (CD_FAULT_INFO_VALID n.val) = true → t.get (CD_FAULT_INFO_MORE n.val) = 1 ∧
          t.get (CD_FAULT_INFO_VEC n.val) = s.get (CD_FAULT_INFO_VEC n.val)) ∧ t.mem = s.mem) ∧
    (d.ipl = 4 → ∃ t, exec c s = .next t ∧ t.get (CD_STAT_STATE n.val) = cdDFAULT ∧ Out.irq (.dsp n.val) ∈ t.out)) ∧
  (∀ (s : State) (n : Fin 4), DspAt s n.val .call → 16 ≤ (s.cd n.val).calls.length → (s.cd n.val).ipl < 4 →
    ∃ t, exec (.dspCall n) s = .next t ∧ (t.cd n.val).calls = (s.cd n.val).calls ∧ (t.cd n.val).pc = vectorAddr s n.val 4 ∧ (t.cd n.val).ipl = 4)

/-- Sections 4.7 and 4.8. That MC0's image load is what lets PM be written is the model's reading (log entry 201). -/
def Obligations.DspRunControlAndReleases : Prop :=
  (∀ (s : State) (m : BitVec 8) (n : Fin 4), isMC m.toNat = true → cdRunning s n.val = true → (s.cd n.val).stalled = false →
    ∃ s1, exec (.cdHalt m n) s = .next (dspStopped s1 n.val) ∧ s1.get (CD_STAT_STATE n.val) = cdHALTED ∧
      s1.get (CD_PC_PC n.val) = wrap 15 (s.cd n.val).pc ∧ KeepsFields s s1 [CD_STAT_STATE n.val, CD_PC_PC n.val] ∧ s1.mem = s.mem ∧
      (∀ j, s1.cdMem j = s.cdMem j)) ∧
  (∀ (s : State) (m : BitVec 8) (n : Fin 4), isMC m.toNat = true → cdRunning s n.val = true → (s.cd n.val).stalled = true →
    exec (.cdHalt m n) s = .next (s.setCd n.val { s.cd n.val with haltPend := true })) ∧
  (∀ (s : State) (m : BitVec 8) (n : Fin 4), isMC m.toNat = true → s.get (CD_STAT_STATE n.val) = cdHALTED →
    exec (.cdRun m n) s = .next (s.put (CD_STAT_STATE n.val) cdRUNNING) ∧ exec (.cdHalt m n) s = .next s) ∧
  (∀ (s : State) (m : BitVec 8) (n : Fin 4), isMC m.toNat = true → s.get (CD_STAT_STATE n.val) = cdRESET →
    ∃ t, exec (.cdRun m n) s = .next t ∧ cdRunning t n.val = true ∧ (t.cd n.val).pc = vectorAddr s n.val 0 ∧
      KeepsFields s t [CD_STAT_STATE n.val] ∧ t.mem = s.mem) ∧
  (∀ (s : State) (m : BitVec 8) (n : Fin 4), isMC m.toNat = true →
    (s.get (CD_STAT_STATE n.val) = cdDFAULT ∨ s.get (CD_STAT_STATE n.val) = cdRUNNING) → exec (.cdRun m n) s = .next s) ∧
  (∀ (s : State) (m : BitVec 8) (n : Fin 4), isMC m.toNat = true →
    ∃ s1, exec (.cdReset m n []) s = .next (flushQueues (breakLocks (cdLeave s1 n.val cdRESET) (reqCD n.val)) (reqCD n.val)) ∧
      (s1.cd n.val).loops = [] ∧ (s1.cd n.val).calls = [] ∧ (s1.cd n.val).d = [] ∧ (s1.cd n.val).acc = [] ∧ (s1.cd n.val).ap = [] ∧
      (s1.cd n.val).sr = 0x1A0000 ∧ (s1.cd n.val).cop = none ∧ (s1.cd n.val).stalled = false ∧ s1.get (CD_REL_PEND_PEND n.val) = 0 ∧
      s1.get (CD_IRQ_PEND_PEND n.val) = 0 ∧ (∀ j, s1.cdMem j = s.cdMem j)) ∧
  (∀ (s : State) (n : Fin 4), exec (.cdHalt (BitVec.ofNat 8 (reqCD n.val)) n) s = .next s ∧ exec (.cdRun (BitVec.ofNat 8 (reqCD n.val)) n) s = .next s ∧
    ∀ cut, exec (.cdReset (BitVec.ofNat 8 (reqCD n.val)) n cut) s = .next s) ∧
  (∀ (s : State) (m : BitVec 8) (n : Fin 4) (cut : List CutBurst), isMC m.toNat = false → m.toNat ≠ reqCD n.val →
    exec (.cdHalt m n) s = .next (s.refuseCd m.toNat n.val 0) ∧ exec (.cdRun m n) s = .next (s.refuseCd m.toNat n.val 0) ∧
    exec (.cdReset m n cut) s = .next (s.refuseCd m.toNat n.val 0)) ∧
  (∀ (s : State) (m : BitVec 8) (n : Fin 4) (off : BitVec 20) (v : BitVec 32) (k : Nat), isMC m.toNat = true → cdRunning s n.val = false →
    off.toNat < 0x60000 → k = off.toNat / 4 % 32768 →
    (∃ t, exec (.cdApertureAccess m n false off v) s = .next t ∧ t.regs = s.regs ∧ t.mem = s.mem ∧ t.dspMem = s.dspMem ∧
      t.resp = (if off.toNat < 0x20000 then (s.cdMem n.val).pm.get 0 k else if off.toNat < 0x40000 then (s.cdMem n.val).da.get 0 k
        else (s.cdMem n.val).db.get 0 k)) ∧
    ((off.toNat < 0x20000 → pmLoads s m.toNat n.val = true) →
      ∃ t, exec (.cdApertureAccess m n true off v) s = .next t ∧ t.regs = s.regs ∧ t.mem = s.mem ∧
        (t.cdMem n.val).pm.get 0 k = (if off.toNat < 0x20000 then v.toNat else (s.cdMem n.val).pm.get 0 k) ∧
        (t.cdMem n.val).da.get 0 k = (if 0x20000 ≤ off.toNat ∧ off.toNat < 0x40000 then wrap 24 v.toNat else (s.cdMem n.val).da.get 0 k) ∧
        (t.cdMem n.val).db.get 0 k = (if 0x40000 ≤ off.toNat then wrap 24 v.toNat else (s.cdMem n.val).db.get 0 k) ∧
        ∀ a, a ≠ k → (t.cdMem n.val).pm.get 0 a = (s.cdMem n.val).pm.get 0 a ∧ (t.cdMem n.val).da.get 0 a = (s.cdMem n.val).da.get 0 a ∧
          (t.cdMem n.val).db.get 0 a = (s.cdMem n.val).db.get 0 a)) ∧
  (∀ (s : State) (m : BitVec 8) (n : Fin 4) (off : BitVec 20) (v : BitVec 32), off.toNat < 0x60000 →
    (cdRunning s n.val = true ∨ (isMC m.toNat = false ∧ m.toNat ≠ 0x80) →
      exec (.cdApertureAccess m n false off v) s =
        .next ((s.violation m.toNat false (4 + n.val) (blockBase 17 n.val + (0x40000 + off.toNat))).answer 0)) ∧
    (cdRunning s n.val = true ∨ isMC m.toNat = false ∨ (off.toNat < 0x20000 ∧ pmLoads s m.toNat n.val = false) →
      exec (.cdApertureAccess m n true off v) s =
        .next (s.violation m.toNat true (4 + n.val) (blockBase 17 n.val + (0x40000 + off.toNat))))) ∧
  (∀ (s : State) (m : BitVec 8) (n : Fin 4) (l : Nat), cdWriter m.toNat n.val = true → l < 32 → bit (s.get (CD_REL_PEND_PEND n.val)) l = false →
    (s.cd n.val).cancelCyc ≠ dspCycle s.T →
    ∃ t, exec (.relSet m n (BitVec.ofNat 32 (2 ^ l))) s = .next t ∧ t.get (CD_REL_PEND_PEND n.val) = wrap 32 (setBit (s.get (CD_REL_PEND_PEND n.val)) l) ∧
      t.get (CD_RELT_T n.val l) = wrap 32 s.T ∧ KeepsFields s t [CD_REL_PEND_PEND n.val, CD_RELT_T n.val l] ∧ t.mem = s.mem) ∧
  (∀ (s : State) (m : BitVec 8) (n : Fin 4) (v : BitVec 32), cdWriter m.toNat n.val = true →
    ∃ t, exec (.relCancel m n v) s = .next t ∧ t.get (CD_REL_PEND_PEND n.val) = bitsMinus 32 (s.get (CD_REL_PEND_PEND n.val)) v.toNat ∧
      KeepsFields s t [CD_REL_PEND_PEND n.val, CD_REL_CBS_COUNT n.val] ∧ t.mem = s.mem ∧
      ((s.cd n.val).cancelCyc ≠ dspCycle s.T → (s.cd n.val).took = none →
        t.get (CD_REL_CBS_COUNT n.val) = wrap (CD_REL_CBS_COUNT n.val).w (satAdd (CD_REL_CBS_COUNT n.val).w (s.get (CD_REL_CBS_COUNT n.val))
          (setBits 32 (bitsMinus 32 v.toNat (bitsMinus 32 v.toNat (s.get (CD_REL_PEND_PEND n.val))))).length)) ∧
      (∀ k, (s.cd n.val).took = some k → k.cyc = dspCycle s.T → bit v.toNat k.line = true →
        (t.cd n.val).pc = k.pc ∧ (t.cd n.val).sr = k.sr ∧ (t.cd n.val).calls = k.calls ∧ (t.cd n.val).took = none)) ∧
  (∀ (s : State) (n : Fin 4) (v lvl : Nat), cdRunning s n.val = true → (s.cd n.val).stalled = false →
    dspPick (s.cd n.val).ipl (dspSources s n.val) = some (v, lvl) → (s.cd n.val).calls.length < 16 → lvl < 4 →
    ∃ t, exec (.dspAccept n) s = .next t ∧ (t.cd n.val).pc = vectorAddr s n.val v ∧ (t.cd n.val).ipl = lvl ∧
      (t.cd n.val).calls = ⟨(s.cd n.val).pc, some (s.cd n.val).sr, (s.cd n.val).rpt⟩ :: (s.cd n.val).calls ∧ (t.cd n.val).d = (s.cd n.val).d ∧
      (32 ≤ v → bit (t.get (CD_REL_PEND_PEND n.val)) (v - 32) = false) ∧ (v < 32 → bit (t.get (CD_IRQ_PEND_PEND n.val)) (v - 8) = false) ∧
      KeepsFields s t [CD_IRQ_PEND_PEND n.val, CD_REL_PEND_PEND n.val] ∧ t.mem = s.mem) ∧
  (∀ (s : State) (n : Fin 4), dspPick (s.cd n.val).ipl (dspSources s n.val) = none → exec (.dspAccept n) s = .next s) ∧
  (∀ (s : State) (n : Fin 4), (s.cd n.val).stalled = false → exec (.dspWindowAccessDone n) s = .next s) ∧
  (∀ (s : State) (n : Fin 4), (s.cd n.val).stalled = true → ∃ t, exec (.dspWindowAccessDone n) s = .next t ∧ (t.cd n.val).stalled = false) ∧
  (∀ (s s2 s3 : State) (n : Fin 4) (w v : Nat) (r : AccRes) (a : DAccess), (s.cd n.val).stalled = true → w = dspWord s n.val →
    (dspAccesses (s.cd n.val) (dspKind w) w).find? (fun a => a.space = 0 ∧ 0x8000 ≤ a.addr) = some a → a.write = false →
    soleAccess s (reqCD n.val) false (s.cd n.val).stallAddr 4 0 = (r, v, s2) → s3 = endStall (s2.put (CD_XHI_RD n.val) (bits v 24 8)) n.val →
    s3.get (CD_XHI_RD n.val) = bits v 24 8 ∧
    exec (.dspWindowAccessDone n) s = .next (stallHalt (dspRetire s3 n.val (dspKind w) w
      (dspWork s3 n.val (dspKind w) w (some (s.cd n.val).stallAddr) (some (wrap 24 v, r == .ok)))) n.val))

/-- Sections 6.1, 6.3, 6.4 and 6.7. That RUN takes the set as its own write's COMMIT leaves it is the model's reading (log entry 22). -/
def Obligations.ChannelBindingCommitAndRun : Prop :=
  (∀ (s : State) (m : BitVec 8) (n : Fin 4) (v : BitVec 32), isMC m.toNat = true → s.flag (PWM_BIND_BOUND n.val) = false → bit v.toNat 31 = true →
    1 ≤ bits v.toNat 28 3 → bits v.toNat 28 3 ≤ 4 →
    ∃ s1, exec (.pwmBind m n v) s = .next (tripScan s1 n.val false) ∧ s1.get (PWM_BIND_BOUND n.val) = 1 ∧
      s1.get (PWM_BIND_ROLE n.val) = bits v.toNat 28 3 ∧ s1.get (PWM_BIND_DSP n.val) = bits v.toNat 26 2 ∧
      s1.get (PWM_BIND_MTRIP n.val) = bits v.toNat 20 1 ∧ s1.get (PWM_BIND_MDESAT n.val) = bits v.toNat 16 4 ∧ (s1.chan n.val).drv = true ∧
      KeepsFields s s1 [PWM_BIND_BOUND n.val, PWM_BIND_ROLE n.val, PWM_BIND_DSP n.val, PWM_BIND_MTRIP n.val, PWM_BIND_MDESAT n.val] ∧
      s1.mem = s.mem) ∧
  (∀ (s : State) (m : BitVec 8) (n : Fin 4) (v : BitVec 32), isMC m.toNat = false →
    exec (.pwmBind m n v) s = .next (s.refuseWrite m.toNat 10 (4 * n.val))) ∧
  (∀ (s : State) (m : BitVec 8) (n : Fin 4) (v : BitVec 32), isMC m.toNat = true →
    (s.flag (PWM_BIND_BOUND n.val) = true ∨ bit v.toNat 31 = false ∨ bits v.toNat 28 3 = 0 ∨ 5 ≤ bits v.toNat 28 3) →
    exec (.pwmBind m n v) s = .next s) ∧
  (∀ (s : State) (m : BitVec 8) (n : Fin 4) (v : BitVec 32), isChanDsp s m.toNat n.val = true → ivsOwns s n.val = false →
    ∃ t w, exec (.shadowWrite m n 0 v) s = .next t ∧ t.get (PWM_CH_STAT_VALID n.val) = 0 ∧ t.get (PWM_CH_SH_PER_PER n.val) = bits v.toNat 0 24 ∧
      KeepsFields s t [PWM_CH_STAT_VALID n.val, PWM_CH_SH_PER_PER n.val] ∧ t.mem = s.mem ∧
      exec (.shadowWrite m n 1 v) s = .next w ∧ w.get (PWM_CH_STAT_VALID n.val) = 0 ∧ w.get (PWM_CH_SH_MODE_U n.val) = bits v.toNat 0 3 ∧
      w.get (PWM_CH_SH_MODE_V n.val) = bits v.toNat 4 3 ∧ w.get (PWM_CH_SH_MODE_W n.val) = bits v.toNat 8 3 ∧
      w.get (PWM_CH_SH_MODE_X n.val) = bits v.toNat 12 3 ∧ w.mem = s.mem ∧
      KeepsFields s w [PWM_CH_STAT_VALID n.val, PWM_CH_SH_MODE_U n.val, PWM_CH_SH_MODE_V n.val, PWM_CH_SH_MODE_W n.val, PWM_CH_SH_MODE_X n.val]) ∧
  (∀ (s : State) (m : BitVec 8) (n j : Fin 4) (r : Fin 10) (v : BitVec 32), isChanDsp s m.toNat n.val = true → ivsOwns s n.val = false →
    (r.val = 2 + 2 * j.val → ∃ t, exec (.shadowWrite m n r v) s = .next t ∧ t.get (PWM_CH_STAT_VALID n.val) = 0 ∧
      t.get (PWM_CH_SH_RISE_RISE n.val j.val) = bits v.toNat 0 24 ∧
      KeepsFields s t [PWM_CH_STAT_VALID n.val, PWM_CH_SH_RISE_RISE n.val j.val] ∧ t.mem = s.mem) ∧
    (r.val = 3 + 2 * j.val → ∃ t, exec (.shadowWrite m n r v) s = .next t ∧ t.get (PWM_CH_STAT_VALID n.val) = 0 ∧
      t.get (PWM_CH_SH_FALL_FALL n.val j.val) = bits v.toNat 0 24 ∧
      KeepsFields s t [PWM_CH_STAT_VALID n.val, PWM_CH_SH_FALL_FALL n.val j.val] ∧ t.mem = s.mem)) ∧
  (∀ (s : State) (m : BitVec 8) (n : Fin 4) (r : Fin 10) (v : BitVec 32), isChanDsp s m.toNat n.val = true → ivsOwns s n.val = true →
    exec (.shadowWrite m n r v) s = .next (s.put (PWM_CH_STAT_CFG_IGN n.val) 1) ∧
    exec (.pwmCommit m n) s = .next (s.put (PWM_CH_STAT_CFG_IGN n.val) 1)) ∧
  (∀ (s : State) (m : BitVec 8) (n : Fin 4), isChanDsp s m.toNat n.val = true → ivsOwns s n.val = false →
    (commitRefused s n.val = false → ∃ t, exec (.pwmCommit m n) s = .next t ∧ t.get (PWM_CH_STAT_VALID n.val) = 1 ∧
      KeepsFields s t [PWM_CH_STAT_VALID n.val] ∧ t.mem = s.mem ∧ t.out = s.out) ∧
    (commitRefused s n.val = true → ∃ t, exec (.pwmCommit m n) s = .next t ∧ t.get (PWM_CH_STAT_VALID n.val) = 0 ∧
      t.get (PWM_CH_STAT_CFG_ERR n.val) = 1 ∧ KeepsFields s t [PWM_CH_STAT_VALID n.val, PWM_CH_STAT_CFG_ERR n.val])) ∧
  (∀ (s : State) (m : BitVec 8) (n : Fin 4), isChanDsp s m.toNat n.val = true → s.flag (PWM_CH_STAT_VALID n.val) = true →
    (chState s n.val = chSTOPPED ∨ chState s n.val = chDSPLOSS) →
    ∃ t, exec (.pwmRun m n) s = .next t ∧ chState t n.val = chRUNNING ∧
      t.get (PWM_CH_STAT_VALID n.val) = 0 ∧ t.get (PWM_CH_ACT_PER_PER n.val) = wrap 24 (s.get (PWM_CH_SH_PER_PER n.val)) ∧
      (∀ j : Fin 4, t.get (PWM_CH_ACT_RISE_RISE n.val j.val) = wrap 24 (s.get (PWM_CH_SH_RISE_RISE n.val j.val)) ∧
        t.get (PWM_CH_ACT_FALL_FALL n.val j.val) = wrap 24 (s.get (PWM_CH_SH_FALL_FALL n.val j.val)) ∧
        modeOf t n.val j.val true = wrap 3 (modeOf s n.val j.val false)) ∧ (t.chan n.val).pos0 = effectiveStep s.T ∧ t.mem = s.mem) ∧
  (∀ (s : State) (m : BitVec 8) (n : Fin 4), isChanDsp s m.toNat n.val = true →
    (s.flag (PWM_CH_STAT_VALID n.val) = false ∨ chState s n.val < chDSPLOSS ∨ chState s n.val = chRUNNING) →
    exec (.pwmRun m n) s = .next (s.put (PWM_CH_STAT_RUN_REFUSED n.val) 1)) ∧
  (∀ (s : State) (m : BitVec 8) (n : Fin 4), isChanDsp s m.toNat n.val = true →
    (chState s n.val = chRUNNING ∨ chState s n.val = chDSPLOSS) →
    ∃ t, exec (.pwmStop m n) s = .next t ∧ chState t n.val = chSTOPPED ∧ outputsOff t n.val = true ∧ t.mem = s.mem) ∧
  (∀ (s : State) (m : BitVec 8) (n : Fin 4), isChanDsp s m.toNat n.val = true → chState s n.val ≠ chRUNNING → chState s n.val ≠ chDSPLOSS →
    exec (.pwmStop m n) s = .next s) ∧
  (∀ (s : State) (m : BitVec 8) (n : Fin 4) (v : BitVec 32), isChanDsp s m.toNat n.val = true →
    chState s n.val ≠ chRUNNING → chState s n.val ≠ chDSPLOSS →
    (bits v.toNat 16 16 ≤ 38400 → bits v.toNat 0 16 ≤ 38400 → ∃ t, exec (.pwmCfgWrite m n true v) s = .next t ∧
      t.get (PWM_CH_DT_DTF n.val) = bits v.toNat 16 16 ∧ t.get (PWM_CH_DT_DTR n.val) = bits v.toNat 0 16 ∧
      KeepsFields s t [PWM_CH_DT_DTF n.val, PWM_CH_DT_DTR n.val] ∧ t.mem = s.mem) ∧
    (lossAllowed (s.get (PWM_BIND_ROLE n.val)) (bits v.toNat 28 2) = true → bit v.toNat 27 = false → s.flag (PWM_CH_STAT_X_HELD n.val) = false →
      ∃ t, exec (.pwmCfgWrite m n false v) s = .next t ∧ t.get (PWM_CH_CFG_XFER n.val) = bits v.toNat 30 2 ∧
      t.get (PWM_CH_CFG_DSPLOSS n.val) = bits v.toNat 28 2 ∧ t.get (PWM_CH_CFG_WDOG n.val) = bits v.toNat 16 8 ∧
      t.get (PWM_CH_CFG_X_EN n.val) = 0 ∧ t.get (PWM_CH_CFG_IVS_EN n.val) = bits v.toNat 26 1 ∧ t.mem = s.mem ∧
      KeepsFields s t [PWM_CH_CFG_XFER n.val, PWM_CH_CFG_DSPLOSS n.val, PWM_CH_CFG_X_EN n.val, PWM_CH_CFG_IVS_EN n.val, PWM_CH_CFG_WDOG n.val]) ∧
    (lossAllowed (s.get (PWM_BIND_ROLE n.val)) (bits v.toNat 28 2) = true → bit v.toNat 27 = true → s.flag (PWM_CH_STAT_X_HELD n.val) = false →
      s.get (PWM_PIN_OWN_FUNC (2 * n.val)) = 0 → s.get (PWM_PIN_OWN_FUNC (2 * n.val + 1)) = 0 →
      ∃ t, exec (.pwmCfgWrite m n false v) s = .next t ∧ t.get (PWM_CH_STAT_X_HELD n.val) = 1 ∧ t.get (PWM_PIN_OWN_FUNC (2 * n.val)) = 1 ∧
      t.get (PWM_PIN_OWN_FUNC (2 * n.val + 1)) = 1 ∧ t.get (PWM_PIN_OWN_OWNER (2 * n.val)) = m.toNat ∧
      t.get (PWM_PIN_OWN_OWNER (2 * n.val + 1)) = m.toNat) ∧
    (lossAllowed (s.get (PWM_BIND_ROLE n.val)) (bits v.toNat 28 2) = false →
      exec (.pwmCfgWrite m n false v) s = .next (s.put (PWM_CH_STAT_CFG_IGN n.val) 1)) ∧
    (38400 < bits v.toNat 16 16 ∨ 38400 < bits v.toNat 0 16 →
      exec (.pwmCfgWrite m n true v) s = .next (s.put (PWM_CH_STAT_CFG_IGN n.val) 1))) ∧
  (∀ (s : State) (m : BitVec 8) (n : Fin 4) (g : Bool) (v : BitVec 32), isChanDsp s m.toNat n.val = true →
    (chState s n.val = chRUNNING ∨ chState s n.val = chDSPLOSS) →
    exec (.pwmCfgWrite m n g v) s = .next (s.put (PWM_CH_STAT_CFG_IGN n.val) 1)) ∧
  (∀ (s : State) (m : BitVec 8) (n : Fin 4) (r : Fin 10) (v : BitVec 32), isChanDsp s m.toNat n.val = false →
    exec (.shadowWrite m n r v) s = .next (refuseChan s m.toNat n.val (0x20 + 4 * r.val)) ∧
    exec (.pwmCommit m n) s = .next (refuseChan s m.toNat n.val 0x04) ∧ exec (.pwmRun m n) s = .next (refuseChan s m.toNat n.val 0x04) ∧
    exec (.pwmStop m n) s = .next (refuseChan s m.toNat n.val 0x04) ∧
    exec (.pwmCfgWrite m n true v) s = .next (refuseChan s m.toNat n.val 0x18) ∧
    exec (.pwmCfgWrite m n false v) s = .next (refuseChan s m.toNat n.val 0x00))

/-- Sections 6.3, 6.5 and 6.6. -/
def Obligations.TripsForceOutputsInactive : Prop :=
  (∀ (s : State) (n : Fin 4) (k : Fin 5), bit (tripMask s n.val) k.val = false → s.flag (PWM_CH_TRIP_LATCHED n.val) = false →
    ∃ t, exec (.hardTrip n k) s = .next t ∧ t.flag (PWM_CH_TRIP_LATCHED n.val) = true ∧ bit (t.get (PWM_CH_TRIP_SRC n.val)) k.val = true ∧
      outputsOff t n.val = true ∧ .irq .pwm ∈ t.out ∧ t.mem = s.mem ∧ t.T = s.T ∧
      t.get (PWM_CH_CNT_TRIP_CNT n.val) = wrap 8 (satAdd 8 (s.get (PWM_CH_CNT_TRIP_CNT n.val)) 1) ∧
      (s.get (PWM_CH_TRIP_SRC n.val) = 0 → t.get (PWM_CH_TRIP_T_T n.val) = wrap 32 s.T)) ∧
  (∀ (s : State) (m : BitVec 8) (n : Fin 4), isChanDsp s m.toNat n.val = true → s.flag (PWM_CH_TRIP_LATCHED n.val) = false → tripMask s n.val < 32 →
    ∃ t, exec (.forceTrip m n) s = .next t ∧ t.flag (PWM_CH_TRIP_LATCHED n.val) = true ∧ bit (t.get (PWM_CH_TRIP_SRC n.val)) 6 = true ∧
      outputsOff t n.val = true ∧ .irq .pwm ∈ t.out ∧ t.mem = s.mem ∧
      t.get (PWM_CH_CNT_TRIP_CNT n.val) = wrap 8 (satAdd 8 (s.get (PWM_CH_CNT_TRIP_CNT n.val)) 1)) ∧
  (∀ (s : State) (m : BitVec 8) (n : Fin 4), isChanDsp s m.toNat n.val = false →
    exec (.forceTrip m n) s = .next (refuseChan s m.toNat n.val 0x04) ∧ exec (.tripClr m n) s = .next (refuseChan s m.toNat n.val 0x04) ∧
    exec (.drvrst m n) s = .next (refuseChan s m.toNat n.val 0x04)) ∧
  (∀ (s : State) (n : Fin 4) (k : Fin 5), bitsMinus 8 (setBit (tripLive s n.val false) k.val) (tripMask s n.val) = 0 →
    ∃ t, exec (.hardTrip n k) s = .next t ∧ t.regs = s.regs ∧ t.mem = s.mem ∧ t.out = s.out) ∧
  (∀ (s : State) (n : Fin 4) (k : Fin 5), ∃ t, exec (.tripInputRelease n k) s = .next t ∧ (t.chan n.val).pins = clrBit (s.chan n.val).pins k.val ∧
      (t.chan n.val).leg = (s.chan n.val).leg ∧ t.regs = s.regs ∧ t.mem = s.mem ∧ t.out = s.out) ∧
  (∀ (s : State) (m : BitVec 8) (n : Fin 4), isChanDsp s m.toNat n.val = true →
    (bitsMinus 8 (tripLive s n.val false) (tripMask s n.val) = 0 → ∃ t, exec (.tripClr m n) s = .next t ∧ t.get (PWM_CH_TRIP_LATCHED n.val) = 0 ∧
      t.get (PWM_CH_TRIP_SRC n.val) = 0 ∧ t.get (PWM_CH_TRIP_FIRST n.val) = 0 ∧
      KeepsFields s t [PWM_CH_TRIP_LATCHED n.val, PWM_CH_TRIP_SRC n.val, PWM_CH_TRIP_FIRST n.val] ∧ t.pwm = s.pwm ∧ t.mem = s.mem) ∧
    (bitsMinus 8 (tripLive s n.val false) (tripMask s n.val) ≠ 0 →
      exec (.tripClr m n) s = .next (s.put (PWM_CH_STAT_CLR_REFUSED n.val) 1))) ∧
  (∀ (s : State) (m : BitVec 8) (n : Fin 4), isChanDsp s m.toNat n.val = true → s.get (PWM_CH_DRV_WIDTH n.val) ≠ 0 →
    chState s n.val ≠ chRUNNING → chState s n.val ≠ chDSPLOSS →
    ∃ t, exec (.drvrst m n) s = .next t ∧ (t.chan n.val).drv = false ∧ (t.chan n.val).drvEnd = some (s.T + 1000 * s.get (PWM_CH_DRV_WIDTH n.val)) ∧
      t.regs = s.regs ∧ t.mem = s.mem) ∧
  (∀ (s : State) (m : BitVec 8) (n : Fin 4), isChanDsp s m.toNat n.val = true →
    (chState s n.val = chRUNNING ∨ chState s n.val = chDSPLOSS ∨ s.get (PWM_CH_DRV_WIDTH n.val) = 0) →
    exec (.drvrst m n) s = .next (s.put (PWM_CH_STAT_CFG_IGN n.val) 1)) ∧
  (∀ (s : State) (n : Fin 4) (a : Nat), (s.chan n.val).drvEnd = some a → a ≤ s.T →
    ∃ t, exec (.drvrstPulseEnd n) s = .next t ∧ (t.chan n.val).drv = s.flag (PWM_BIND_BOUND n.val) ∧ (t.chan n.val).drvEnd = none ∧
      t.regs = s.regs ∧ t.mem = s.mem) ∧
  (∀ (s : State) (n : Fin 4), (∀ a, (s.chan n.val).drvEnd = some a → s.T < a) → exec (.drvrstPulseEnd n) s = .next s) ∧
  (∀ (s : State) (n : Fin 4), chState s n.val = chRUNNING → s.get (PWM_CH_CFG_WDOG n.val) ≠ 0 → s.get (PWM_CH_CFG_WDOG n.val) ≤ (s.chan n.val).stale →
    ∃ t, exec (.pwmWdogExpiry n) s = .next t ∧ t.get (PWM_CH_STAT_WDOG n.val) = 1 ∧ chState t n.val = chDSPLOSS ∧ .irq .pwm ∈ t.out ∧
      t.get (PWM_CH_CNT_WDOG_CNT n.val) = wrap 8 (satAdd 8 (s.get (PWM_CH_CNT_WDOG_CNT n.val)) 1) ∧ t.mem = s.mem) ∧
  (∀ (s : State) (n : Fin 4), (chState s n.val ≠ chRUNNING ∨ s.get (PWM_CH_CFG_WDOG n.val) = 0 ∨ (s.chan n.val).stale < s.get (PWM_CH_CFG_WDOG n.val)) →
    exec (.pwmWdogExpiry n) s = .next s)

/-- Sections 6.2, 6.3 and 6.7. -/
def Obligations.TransfersLegsAndPins : Prop :=
  (∀ (s : State) (n : Fin 4) (p c : Nat), rawPos s n.val = some p → s.get (PWM_CH_ACT_PER_PER n.val) ≤ p → s.get (PWM_CH_CFG_XFER n.val) = 0 →
    c = ((s.chan n.val).pos0 + s.get (PWM_CH_ACT_PER_PER n.val)) / 16 →
    (setBefore (s.chan n.val) c = none → s.flag (PWM_CH_STAT_VALID n.val) = true →
      ∃ t, exec (.periodWrap n) s = .next t ∧ (t.chan n.val).pos0 = (s.chan n.val).pos0 + s.get (PWM_CH_ACT_PER_PER n.val) ∧
        t.get (PWM_CH_ACT_PER_PER n.val) = wrap 24 (s.get (PWM_CH_SH_PER_PER n.val)) ∧
        (∀ j : Fin 4, t.get (PWM_CH_ACT_RISE_RISE n.val j.val) = wrap 24 (s.get (PWM_CH_SH_RISE_RISE n.val j.val)) ∧
          t.get (PWM_CH_ACT_FALL_FALL n.val j.val) = wrap 24 (s.get (PWM_CH_SH_FALL_FALL n.val j.val))) ∧
        t.get (PWM_CH_STAT_VALID n.val) = 0 ∧ (t.chan n.val).stale = 0 ∧ t.mem = s.mem) ∧
    (setBefore (s.chan n.val) c = none → s.flag (PWM_CH_STAT_VALID n.val) = false →
      ∃ t, exec (.periodWrap n) s = .next t ∧ (t.chan n.val).pos0 = (s.chan n.val).pos0 + s.get (PWM_CH_ACT_PER_PER n.val) ∧
        (t.chan n.val).stale = (s.chan n.val).stale + 1 ∧ t.get (PWM_CH_ACT_PER_PER n.val) = s.get (PWM_CH_ACT_PER_PER n.val) ∧
        t.get (PWM_CH_CNT_XFER_STALE n.val) = wrap (PWM_CH_CNT_XFER_STALE n.val).w
          (satAdd (PWM_CH_CNT_XFER_STALE n.val).w (s.get (PWM_CH_CNT_XFER_STALE n.val)) 1) ∧ t.mem = s.mem) ∧
    (∀ (k : Nat) (v : ShSet), setBefore (s.chan n.val) c = some (k, v, true) →
      ∃ t, exec (.periodWrap n) s = .next t ∧ (t.chan n.val).pos0 = (s.chan n.val).pos0 + s.get (PWM_CH_ACT_PER_PER n.val) ∧
        t.get (PWM_CH_ACT_PER_PER n.val) = wrap 24 v.per ∧ t.get (PWM_CH_STAT_VALID n.val) = s.get (PWM_CH_STAT_VALID n.val) ∧
        (t.chan n.val).stale = 0 ∧ t.mem = s.mem)) ∧
  (∀ (s : State) (n : Fin 4), (∀ p, rawPos s n.val = some p → p < s.get (PWM_CH_ACT_PER_PER n.val)) → exec (.periodWrap n) s = .next s) ∧
  (∀ (s : State) (n : Fin 4) (e : Nat) (l : List Nat), (s.chan n.val).evs = e :: l → chState s n.val = chRUNNING → s.get (PWM_CH_CFG_XFER n.val) = 2 →
    e ≤ stepAt s.T →
    ∃ t, exec (.xferEffectiveInstant n) s = .next t ∧ (t.chan n.val).pos0 = e ∧ (t.chan n.val).evs = l ∧ t.mem = s.mem ∧
      (setBefore (s.chan n.val) (e / 16) = none → s.flag (PWM_CH_STAT_VALID n.val) = true →
        t.get (PWM_CH_ACT_PER_PER n.val) = wrap 24 (s.get (PWM_CH_SH_PER_PER n.val)) ∧ t.get (PWM_CH_STAT_VALID n.val) = 0 ∧
        (t.chan n.val).stale = 0)) ∧
  (∀ (s : State) (n : Fin 4), (s.chan n.val).evs = [] ∨ chState s n.val ≠ chRUNNING ∨ s.get (PWM_CH_CFG_XFER n.val) ≠ 2 →
    exec (.xferEffectiveInstant n) s = .next s) ∧
  (∀ (s : State) (n j : Fin 4) (c : Instr), c = .legCommandChange n j ∨ c = .deadTimeExpiry n j →
    ∃ t, exec c s = .next t ∧ t.regs = s.regs ∧ t.mem = s.mem ∧ t.out = s.out ∧
      (((t.chan n.val).leg.get {} j.val).hi && ((t.chan n.val).leg.get {} j.val).lo) = false ∧
      (chState s n.val ≠ chRUNNING → chState s n.val ≠ chDSPLOSS →
        ((t.chan n.val).leg.get {} j.val).hi = false ∧ ((t.chan n.val).leg.get {} j.val).lo = false) ∧
      (∀ (p q : Nat) (o l : Leg), rawPos s n.val = some p → q = (if s.get (PWM_CH_ACT_PER_PER n.val) ≤ p then s.get (PWM_CH_ACT_PER_PER n.val) - 1 else p) →
        o = (s.chan n.val).leg.get {} j.val → l = (t.chan n.val).leg.get {} j.val →
        l.cmd = legCommand (s.get (PWM_CH_ACT_RISE_RISE n.val j.val)) (s.get (PWM_CH_ACT_FALL_FALL n.val j.val)) q ∧
        (l.cmd = o.cmd → l.since = o.since) ∧
        (l.hi, l.lo) = legOutputs (modeOf s n.val j.val true) l.cmd (stepAt s.T - l.since) (s.get (PWM_CH_DT_DTR n.val)) (s.get (PWM_CH_DT_DTF n.val)))) ∧
  (∀ (s : State) (m : BitVec 8) (k : Fin 8), pinWriter m.toNat = false →
    exec (.pinClaim m k) s = .next (s.refuseWrite m.toNat 10 (0x20 + 4 * k.val)) ∧
    exec (.pinRelease m k) s = .next (s.refuseWrite m.toNat 10 (0x20 + 4 * k.val))) ∧
  (∀ (s : State) (m : BitVec 8) (k : Fin 8), pinWriter m.toNat = true → s.get (PWM_PIN_OWN_FUNC k.val) = 0 →
    ∃ t, exec (.pinClaim m k) s = .next t ∧ t.get (PWM_PIN_OWN_FUNC k.val) = 2 ∧ t.get (PWM_PIN_OWN_OWNER k.val) = m.toNat ∧
      t.get (PWM_PIN_OWN_LEVEL k.val) = 0 ∧ KeepsFields s t [PWM_PIN_OWN_FUNC k.val, PWM_PIN_OWN_OWNER k.val, PWM_PIN_OWN_LEVEL k.val] ∧ t.mem = s.mem) ∧
  (∀ (s : State) (m : BitVec 8) (k : Fin 8), pinWriter m.toNat = true → s.get (PWM_PIN_OWN_FUNC k.val) ≠ 0 →
    (s.get (PWM_PIN_OWN_FUNC k.val) ≠ 2 ∨ s.get (PWM_PIN_OWN_OWNER k.val) ≠ m.toNat) →
    ∃ t, exec (.pinClaim m k) s = .next t ∧ t.mem = s.mem ∧
      t.get PWM_CONFLICT_CNT_COUNT = wrap 16 (satAdd 16 (s.get PWM_CONFLICT_CNT_COUNT) 1) ∧
      (s.pwm.log.length < 8 → t.pwm.log = s.pwm.log ++ [⟨m.toNat, s.get (PWM_PIN_OWN_OWNER k.val), k.val⟩] ∧
        KeepsFields s t [PWM_CONFLICT_CNT_COUNT]) ∧
      (8 ≤ s.pwm.log.length → t.pwm.log = s.pwm.log ∧ KeepsFields s t [PWM_CONFLICT_CNT_COUNT, PWM_CONFLICT_CNT_LOST])) ∧
  (∀ (s : State) (m : BitVec 8) (k : Fin 8), pinWriter m.toNat = true → s.get (PWM_PIN_OWN_FUNC k.val) = 2 →
    s.get (PWM_PIN_OWN_OWNER k.val) = m.toNat →
    ∃ t, exec (.pinRelease m k) s = .next t ∧ t.get (PWM_PIN_OWN_FUNC k.val) = 0 ∧ t.get (PWM_PIN_OWN_OWNER k.val) = 0 ∧
      KeepsFields s t [PWM_PIN_OWN_FUNC k.val, PWM_PIN_OWN_OWNER k.val] ∧ t.mem = s.mem) ∧
  (∀ (s : State) (m : BitVec 8) (k : Fin 8), pinWriter m.toNat = true →
    (s.get (PWM_PIN_OWN_FUNC k.val) ≠ 2 ∨ s.get (PWM_PIN_OWN_OWNER k.val) ≠ m.toNat) →
    exec (.pinRelease m k) s = .next (s.bump PWM_CONFLICT_CNT_COUNT)) ∧
  (∀ (s : State) (m : BitVec 8), pwmCommonReader m.toNat = false → exec (.pwmConflictInfoRead m) s = .next (s.refuseRead m.toNat 10 0x10)) ∧
  (∀ (s : State) (m : BitVec 8), pwmCommonReader m.toNat = true →
    ∃ t, exec (.pwmConflictInfoRead m) s = .next t ∧ t.resp = conflictWord s.pwm.log ∧ t.pwm.log = s.pwm.log.drop 1 ∧ t.regs = s.regs ∧ t.mem = s.mem)

/-- Sections 7.4 and 6.5. -/
def Obligations.CeaseStopsGridChannels : Prop :=
  (∀ (s : State) (m : BitVec 8), isMC m.toNat = true → s.flag GRD_STAT_CEASE = false → gridLive s causeCMD = false →
    ∃ t, exec (.ceaseCmd m) s = .next t ∧ t.flag GRD_STAT_CEASE = true ∧ gridLive t causeCMD = true ∧ .irq .grd ∈ t.out ∧ t.mem = s.mem ∧
      ∀ n < 4, s.get (PWM_BIND_ROLE n) = roleGRID → s.flag (PWM_BIND_BOUND n) = true → tripMask s n < 32 → s.flag (PWM_CH_TRIP_LATCHED n) = false →
        t.flag (PWM_CH_TRIP_LATCHED n) = true ∧ outputsOff t n = true) ∧
  (∀ (s : State) (m : BitVec 8) (n : Fin 4), isChanDsp s m.toNat n.val = true → s.flag GRD_STAT_CEASE = true → s.get (PWM_BIND_ROLE n.val) = roleGRID →
    s.flag (PWM_BIND_BOUND n.val) = true → tripMask s n.val < 32 → exec (.tripClr m n) s = .next (s.put (PWM_CH_STAT_CLR_REFUSED n.val) 1)) ∧
  (∀ (s : State) (m : BitVec 8), isMC m.toNat = true → aggRole s = 0 →
    ∃ t, exec (.ceaseClr m) s = .next t ∧ gridLive t causeCMD = false ∧ t.get GRD_STAT_CEASE = s.get GRD_STAT_CEASE ∧ t.pwm = s.pwm ∧
      KeepsFields s t [GRD_CAUSE_LIVE, GRD_STAT_ES_RUN] ∧ t.mem = s.mem) ∧
  (∀ (s : State) (m : BitVec 8), isMC m.toNat = true → aggRole s ≠ 0 →
    ∃ t, exec (.ceaseClr m) s = .next t ∧ t.mem = s.mem ∧ gridLive t causeCMD = (s.agg.gateHold || s.agg.islHold)) ∧
  (∀ (s : State) (m : BitVec 8), isMC m.toNat = false → exec (.ceaseCmd m) s = .next (s.refuseWrite m.toNat 11 4) ∧
    exec (.ceaseClr m) s = .next (s.refuseWrite m.toNat 11 4)) ∧
  (∀ (s : State) (a : Nat), s.grd.esFrom = some a → a + bits (pw s 4) 0 16 * 1000000000 ≤ s.T → s.flag GRD_STAT_CEASE = true →
    gridLive s causeACTIVE = false →
    ∃ t, exec .esDelayExpiry s = .next t ∧ t.get GRD_STAT_CEASE = 0 ∧ t.get GRD_STAT_ES_RUN = 0 ∧
      KeepsFields s t [GRD_STAT_CEASE, GRD_STAT_ES_RUN] ∧ t.mem = s.mem ∧ t.pwm = s.pwm) ∧
  (∀ (s : State) (a : Nat), s.grd.actFrom = some a → a + bits (pw s 4) 0 16 * 1000000000 ≤ s.T → gridLive s causeACTIVE = true →
    ∃ t, exec .esDelayExpiry s = .next t ∧ gridLive t causeACTIVE = false ∧ t.mem = s.mem) ∧
  (∀ (s : State), (∀ a, s.grd.esFrom = some a → s.T < a + bits (pw s 4) 0 16 * 1000000000) ∨ s.flag GRD_STAT_CEASE = false →
    (∀ a, s.grd.actFrom = some a → s.T < a + bits (pw s 4) 0 16 * 1000000000) ∨ gridLive s causeACTIVE = false →
    exec .esDelayExpiry s = .next s)

/-- Sections 7.2 to 7.6. The tracker's loop is an operand of the publication (the model's choice, log entry 29); which TURN a slot
goes by is the model's reading (log entry 209). -/
def Obligations.GridMonitorProfilesAndIslanding : Prop :=
  (∀ (s : State) (th fr am : BitVec 32) (pe : Int) (sq : Bool), exec (.trackerPublish th fr pe am sq) s =
      .next (withJumps s (fun s => gridPublish s th.toNat fr.toNat pe am.toNat sq)) ∧
    (s.flag GRD_CFG_EN = false → gridPublish s th.toNat fr.toNat pe am.toNat sq = mainsLoss s) ∧
    (s.flag GRD_CFG_EN = true → ∃ (t : State) (x : Nat), gridPublish s th.toNat fr.toNat pe am.toNat sq = t ∧ t.get GRD_REF_T_T = wrap 32 s.T ∧
      x = unsigned 32 ((th.toNat : Int) + signed 32
        ((if gridLocked s then slewTrim s (angDiff th.toNat s.grd.raw) else s).get GRD_TRK_TRIM_ACT_ACT)) ∧ t.get GRD_TRK_STAT_SEQ = b2n sq ∧
      ∀ k < 3, t.get (GRD_REF_ANG k) = unsigned 32 ((thetaOf t k x : Int) + signed 32 (t.get GRD_NUDGE_DELTA)))) ∧
  (∀ (s : State) (m : BitVec 8) (v : BitVec 32) (b : Bool),
    (isMC m.toNat = true → (signed 32 v.toNat).natAbs ≤ 23860929 → exec (.trkTrimWrite m v) s = .next (s.put GRD_TRK_TRIM_TRIM v.toNat)) ∧
    (isMC m.toNat = true → 23860929 < (signed 32 v.toNat).natAbs → exec (.trkTrimWrite m v) s = .next (s.put GRD_STAT_CFG_IGN 1)) ∧
    (isMC m.toNat = false → exec (.trkTrimWrite m v) s = .next (s.refuseWrite m.toNat 11 0x24) ∧
      exec (.activate m) s = .next (s.refuseWrite m.toNat 11 4) ∧
      exec (.injSettingWrite m b v) s = .next (s.refuseWrite m.toNat 11 (if b then 0x68 else 0x64)))) ∧
  (∀ (s : State) (k : Fin 3) (w : HalfWin), endedHalf s k.val = some w → (gridPhases s).contains k.val = true → 20 ≤ w.n → w.refu = false →
    gridLocked s = true →
    ∃ s1 b, exec (.halfCycleEnd k) s = .next (evalCurves (gridCause s1 causeINVALID b) true) ∧ s1.get (GRD_RMS_VALID k.val) = 1 ∧
      b = (gridPhases s).any (fun j => j != k.val && s.grd.bad.get 0 j ≥ 2) ∧
      s1.get (GRD_RMS_RMS k.val) = min 65535 (isqrt (w.sum * s.get (GRD_VIN_GAIN k.val) * s.get (GRD_VIN_GAIN k.val) / (w.n * 2 ^ 24))) ∧
      s1.get (GRD_RMS_OVR k.val) = b2n w.ovr ∧ KeepsFields s s1 [GRD_RMS_VALID k.val, GRD_RMS_OVR k.val, GRD_RMS_RMS k.val] ∧ s1.mem = s.mem) ∧
  (∀ (s : State) (k : Fin 3) (w : HalfWin), endedHalf s k.val = some w → (gridPhases s).contains k.val = true →
    (w.n < 20 ∨ w.refu = true ∨ gridLocked s = false) →
    ∃ s1, exec (.halfCycleEnd k) s = .next (evalCurves (if s.grd.bad.get 0 k.val + 1 ≥ 2 then gridCause s1 causeINVALID true else s1) true) ∧
      s1.get (GRD_RMS_VALID k.val) = 0 ∧ s1.get GRD_CNT_INVALID_HC = wrap 16 (satAdd 16 (s.get GRD_CNT_INVALID_HC) 1) ∧
      s1.get (GRD_RMS_OVR k.val) = b2n w.ovr ∧ KeepsFields s s1 [GRD_RMS_VALID k.val, GRD_RMS_OVR k.val, GRD_CNT_INVALID_HC] ∧ s1.mem = s.mem) ∧
  (∀ (s : State) (k : Fin 3), (endedHalf s k.val = none → exec (.halfCycleEnd k) s = .next s) ∧
    (endedHalf s k.val ≠ none → (gridPhases s).contains k.val = false →
      ∃ t, exec (.halfCycleEnd k) s = .next t ∧ t.regs = s.regs ∧ t.mem = s.mem ∧ t.grd.done.get none k.val = none)) ∧
  (∀ (s : State) (c t0 f : Nat), s.grd.newCycle = true → s.grd.cross.head? = some c → s.grd.cross[fWin s]? = some t0 → f = fWin s * 10 ^ 15 / (c - t0) →
    (s.grd.fHist.length < rWin s → ∃ s1, exec .freqUpdate s = .next (evalCurves (setNudge s1) false) ∧ s1.get GRD_FREQ_F = wrap 32 f ∧
      KeepsFields s s1 [GRD_FREQ_F] ∧ s1.mem = s.mem) ∧
    (∀ t1 f1 : Nat, 1 ≤ rWin s → rWin s ≤ 51 → s.grd.fHist[rWin s - 1]? = some (t1, f1) →
      ∃ s1 b, exec .freqUpdate s = .next (evalCurves (setNudge (gridCause s1 causeROCOF b)) false) ∧ s1.get GRD_FREQ_F = wrap 32 f ∧
        s1.get GRD_ROCOF_R = unsigned 32 (Int.tdiv (((f : Int) - f1) * 10 ^ 6) ((c : Int) - t1)) ∧
        KeepsFields s s1 [GRD_FREQ_F, GRD_ROCOF_R] ∧ s1.mem = s.mem)) ∧
  (∀ s : State, s.grd.newCycle = false → exec .freqUpdate s = .next s) ∧
  (∀ (s : State) (p : Nat) (l : List Nat) (sum vs : Int), s.grd.newPeriod = true → s.grd.periods = p :: l → 8 ≤ l.length →
    sum = (l.take 8).foldl (fun (a : Int) (x : Nat) => a + (x : Int)) (0 : Int) →
    vs = clampI (-2 ^ 31) (2 ^ 31 - 1) (Int.tdiv (2 ^ 32 * (8 * (p : Int) - sum)) sum) →
    ∃ s1, exec .vectorShiftUpdate s = .next (gridCause s1 causeVS (s.grd.active && pw s 6 != 0 && pw s 6 < vs.natAbs)) ∧
      s1.get GRD_VS_VS = unsigned 32 vs ∧ KeepsFields s s1 [GRD_VS_VS] ∧ s1.grd.newPeriod = false ∧ s1.mem = s.mem) ∧
  (∀ s : State, s.grd.newPeriod = false → exec .vectorShiftUpdate s = .next s) ∧
  (∀ (s : State) (m : BitVec 8), isMC m.toNat = true → s.grd.committing = true ∨ s.grd.swap = true →
    exec (.activate m) s = .next (s.put GRD_STAT_CFG_IGN 1)) ∧
  (∀ (s : State) (m : BitVec 8) (b code : Nat), isMC m.toNat = true → b = 1 - s.get GRD_STAT_BANK → s.grd.committing = false → s.grd.swap = false →
    code = (if bankRanges s b = false then 1 else if bit (s.get (GRD_PROFILE_WORD b 1)) 29 = true ∧ 89 < islBound s b then 2
      else if gridChannelLive s = true then 3 else if ldgRoom s (profileRec s b) = false then 4 else 0) →
    (code ≠ 0 → exec (.activate m) s = .next (s.puts [(GRD_STAT_PROF_ERR, 1), (GRD_STAT_PROF_CODE, code)])) ∧
    (code = 0 → ∃ t, exec (.activate m) s = .next t ∧ t.grd.committing = true ∧ t.ldg.queue = s.ldg.queue ++ [profileRec s b] ∧
      t.regs = s.regs ∧ t.mem = s.mem)) ∧
  (∀ s : State, s.grd.swap = true → (s.grd.zeroCross = true ∨ gridLocked s = false) →
    ∃ t, exec .profileBankSwap s = .next t ∧ t.get GRD_STAT_BANK = wrap 1 (1 - s.get GRD_STAT_BANK) ∧ t.grd.timer = [] ∧ t.grd.swap = false ∧
      t.grd.active = true ∧ t.get GRD_STAT_ISL_CNT = 0 ∧ gridLive t causeNOPROF = false ∧ t.get GRD_NUDGE_DELTA = unsigned 32 (nudge t) ∧ t.mem = s.mem) ∧
  (∀ s : State, s.grd.swap = false ∨ (s.grd.zeroCross = false ∧ gridLocked s = true) → exec .profileBankSwap s = .next s) ∧
  (∀ (s : State) (m : BitVec 8) (v : BitVec 32), isMC m.toNat = true →
    (s.grd.inj = none → exec (.injSettingWrite m false v) s = .next (s.put GRD_INJ_PHASE_PHASE v.toNat) ∧
      exec (.injSettingWrite m true v) s = .next (s.put GRD_INJ_SLOT_SLOT v.toNat)) ∧
    (s.grd.inj ≠ none → ∃ t u, exec (.injSettingWrite m false v) s = .next t ∧ t.regs = s.regs ∧ t.mem = s.mem ∧
      t.grd.injLate.map (·.1) = some v.toNat ∧ exec (.injSettingWrite m true v) s = .next u ∧ u.regs = s.regs ∧ u.mem = s.mem ∧
      u.grd.injLate.map (·.2) = some (v.toNat % 256))) ∧
  (∀ s : State, actEn s = true → s.grd.phaseCross = true → s.grd.inj = none → injPeriod s ≠ 0 →
    injTurn s % injPeriod s = s.get GRD_INJ_SLOT_SLOT % injPeriod s →
    ∃ t, exec .injectionStart s = .next t ∧ t.grd.inj = some (s.get GRD_FREQ_F, bits (pw s 7) 16 8) ∧ t.get GRD_NUDGE_DELTA = unsigned 32 (nudge t) ∧
      KeepsFields s t [GRD_NUDGE_DELTA] ∧ t.mem = s.mem) ∧
  (∀ s : State, actEn s = false ∨ s.grd.phaseCross = false ∨ s.grd.inj ≠ none ∨ injPeriod s = 0 ∨
    injTurn s % injPeriod s ≠ s.get GRD_INJ_SLOT_SLOT % injPeriod s → exec .injectionStart s = .next s) ∧
  (∀ (s : State) (f0 : Nat), s.grd.inj = some (f0, 0) →
    ∃ t, exec .injectionEnd s = .next t ∧ t.grd.inj = none ∧ t.grd.injLate = none ∧ t.grd.resps = s.grd.resps ++ [(f0, respWait s)] ∧
      t.get GRD_NUDGE_DELTA = unsigned 32 (nudge t) ∧ KeepsFields s t [GRD_NUDGE_DELTA, GRD_INJ_PHASE_PHASE, GRD_INJ_SLOT_SLOT] ∧ t.mem = s.mem ∧
      (s.grd.injLate = none → KeepsFields s t [GRD_NUDGE_DELTA]) ∧
      (∀ p k, s.grd.injLate = some (p, k) → t.get GRD_INJ_PHASE_PHASE = wrap 32 p ∧ t.get GRD_INJ_SLOT_SLOT = wrap 8 k)) ∧
  (∀ s : State, (∀ f0, s.grd.inj ≠ some (f0, 0)) → exec .injectionEnd s = .next s) ∧
  (∀ (s : State) (f0 : Nat) (l : List (Nat × Nat)) (r : Int), s.grd.resps = (f0, 0) :: l → r = (s.get GRD_FREQ_F : Int) - f0 →
    ((r.natAbs < bits (pw s 9) 16 16 * 1000 ∨ r = 0 ∨ (0 < r) ≠ (0 < signed 32 (pw s 8))) →
      ∃ t, exec .injectionResponse s = .next t ∧ t.get GRD_STAT_ISL_CNT = 0 ∧ t.grd.resps = l ∧ KeepsFields s t [GRD_STAT_ISL_CNT] ∧ t.mem = s.mem) ∧
    (bits (pw s 9) 16 16 * 1000 ≤ r.natAbs → r ≠ 0 → (0 < r) = (0 < signed 32 (pw s 8)) →
      (s.get GRD_STAT_ISL_CNT + 1 < bits (pw s 7) 8 8 →
        ∃ t, exec .injectionResponse s = .next t ∧ t.get GRD_STAT_ISL_CNT = wrap 4 (s.get GRD_STAT_ISL_CNT + 1) ∧ t.grd.resps = l ∧
          KeepsFields s t [GRD_STAT_ISL_CNT] ∧ t.mem = s.mem) ∧
      (bits (pw s 7) 8 8 ≤ s.get GRD_STAT_ISL_CNT + 1 →
        ∃ t, exec .injectionResponse s = .next t ∧ t.get GRD_STAT_ISL_CNT = 0 ∧ gridLive t causeACTIVE = true ∧ t.mem = s.mem))) ∧
  (∀ s : State, (∀ f0 l, s.grd.resps ≠ (f0, 0) :: l) → exec .injectionResponse s = .next s) ∧
  (∀ (s : State) (m : BitVec 8), (grdReader s m.toNat = false → exec (.grdRefARead m) s = .next (s.refuseRead m.toNat 11 0x50)) ∧
    (grdReader s m.toNat = true →
      ∃ t, exec (.grdRefARead m) s = .next t ∧ t.resp = s.get (GRD_REF_ANG 0) ∧ t.shadow? m.toNat (blockBase 11 0 + 0x54) = some (s.get (GRD_REF_ANG 1)) ∧
        t.shadow? m.toNat (blockBase 11 0 + 0x58) = some (s.get (GRD_REF_ANG 2)) ∧ t.shadow? m.toNat (blockBase 11 0 + 0x5C) = some (s.get GRD_REF_T_T) ∧
        t.regs = s.regs ∧ t.mem = s.mem))

/-- Section 7.7. That the registers of a CTRL write are those at the write's own cycle is the model's choice (log entry 36). -/
def Obligations.IvScanSequencer : Prop :=
  (∀ (s : State) (m : BitVec 8), isIvsDsp s m.toNat = true → ivsOwns s (ivsPc s) = true →
    (s.get GRD_IVS_STAT_STATE ≠ ivsSCANNING → ∃ t, exec (.ivsApply m) s = .next t ∧
      t.get (PWM_CH_SH_PER_PER (ivsPc s)) = wrap 24 (s.get GRD_IVS_PER_VALUE) ∧
      (∀ j < 4, t.get (PWM_CH_SH_RISE_RISE (ivsPc s) j) = wrap 24 (s.get (GRD_IVS_RISE_VALUE j)) ∧
        t.get (PWM_CH_SH_FALL_FALL (ivsPc s) j) = wrap 24 (s.get (GRD_IVS_FALL_VALUE j)) ∧
        modeOf t (ivsPc s) j false = bits (s.get GRD_IVS_MODE_MODE) (4 * j) 3) ∧
      (t.get (PWM_CH_STAT_VALID (ivsPc s)) = 1 ↔ commitRefused t (ivsPc s) = false) ∧ t.mem = s.mem) ∧
    (s.get GRD_IVS_STAT_STATE = ivsSCANNING → ∃ t, exec (.ivsApply m) s = .next t ∧ t.ivs.held = some (ivsRegs s) ∧ t.regs = s.regs ∧
      t.pwm = s.pwm ∧ t.mem = s.mem)) ∧
  (∀ (s : State) (m : BitVec 8) (j : Nat) (l : List Nat), isIvsDsp s m.toNat = true → ivsOwns s (ivsPc s) = true →
    setBits 4 (s.get GRD_IVS_SCAN_MASK) = j :: l → s.get GRD_IVS_STAT_STATE ≠ ivsSCANNING → chState s (ivsPc s) = chRUNNING →
    s.get (PWM_CH_CFG_XFER (ivsPc s)) = 0 → 10 ≤ s.get GRD_IVS_STEP_DWELL → s.get GRD_IVS_STEP_DWELL ≤ 10000 →
    ∃ t, exec (.ivsScan m) s = .next t ∧ t.get GRD_IVS_STAT_LEG = j ∧ t.get GRD_IVS_STAT_STEP = 0 ∧ t.ivs.leg = j ∧ t.ivs.step = 0 ∧
      t.ivs.pre = some (ivsRegs s) ∧ t.mem = s.mem ∧
      t.get (PWM_CH_SH_FALL_FALL (ivsPc s) j) = wrap 24 ((ivsRegs s).fallAt j (ivsWidth (ivsLive s) 0)) ∧
      (∀ k < 4, k ≠ j → t.get (PWM_CH_SH_FALL_FALL (ivsPc s) k) = wrap 24 (s.get (GRD_IVS_FALL_VALUE k))) ∧
      (commitRefused t (ivsPc s) = false → t.get GRD_IVS_STAT_STATE = ivsSCANNING ∧ t.ivs.waitXfer = true ∧ t.get (PWM_CH_STAT_VALID (ivsPc s)) = 1) ∧
      (commitRefused t (ivsPc s) = true → t.get GRD_IVS_STAT_STATE = ivsABORTED ∧ t.get GRD_IVS_STAT_ERR = 1 ∧ t.ivs.waitXfer = false)) ∧
  (∀ (s : State) (m : BitVec 8), isIvsDsp s m.toNat = true → ivsOwns s (ivsPc s) = true →
    (setBits 4 (s.get GRD_IVS_SCAN_MASK) = [] ∨ s.get GRD_IVS_STAT_STATE = ivsSCANNING ∨ chState s (ivsPc s) ≠ chRUNNING ∨
      s.get (PWM_CH_CFG_XFER (ivsPc s)) ≠ 0 ∨ s.get GRD_IVS_STEP_DWELL < 10 ∨ 10000 < s.get GRD_IVS_STEP_DWELL) →
    exec (.ivsScan m) s = .next (s.put GRD_IVS_STAT_CFG_IGN 1)) ∧
  (∀ (s : State) (m : BitVec 8), isIvsDsp s m.toNat = true → ivsOwns s (ivsPc s) = true →
    (s.get GRD_IVS_STAT_STATE = ivsSCANNING → ∃ t, exec (.ivsAbort m) s = .next t ∧ t.get GRD_IVS_STAT_STATE = ivsABORTED ∧ t.ivs.waitXfer = false ∧
      t.mem = s.mem ∧ ∀ v, s.ivs.pre = some v → t.get (PWM_CH_SH_PER_PER (ivsPc s)) = wrap 24 v.per ∧
        ∀ j < 4, t.get (PWM_CH_SH_RISE_RISE (ivsPc s) j) = wrap 24 (v.rise.getD j 0) ∧ t.get (PWM_CH_SH_FALL_FALL (ivsPc s) j) = wrap 24 (v.fall.getD j 0)) ∧
    (s.get GRD_IVS_STAT_STATE ≠ ivsSCANNING → exec (.ivsAbort m) s = .next s)) ∧
  (∀ (s : State) (m : BitVec 8) (c : Instr), (c = .ivsApply m ∨ c = .ivsScan m ∨ c = .ivsAbort m) →
    (isIvsDsp s m.toNat = true → ivsOwns s (ivsPc s) = false → exec c s = .next (s.put GRD_IVS_STAT_CFG_IGN 1)) ∧
    (isIvsDsp s m.toNat = false → exec c s = .next (s.refuseWrite m.toNat 11 0x80))) ∧
  (∀ (s : State) (p : Option IvsPoint) (low : Bool), s.get GRD_IVS_STAT_STATE = ivsSCANNING → s.ivs.waitXfer = false →
    s.ivs.dwell + (ivsView s).dwell * 1000 ≤ s.T → p = ivsPoint (ivsResults s (ivsView s)) s.ivs.w →
    low = (match p with | some q => decide (q.v < s.get (GRD_IVS_IN_VMIN s.ivs.leg) * 16) | none => false) →
    ∃ s1, exec .ivsDwellEnd s = .next (if low = true ∨ s.ivs.step = (ivsView s).nm1 then ivsStringDone s1 (ivsView s)
        else ivsStepCommit { s1 with ivs := { s1.ivs with step := s.ivs.step + 1 } } (ivsView s)) ∧
      KeepsFields s s1 [GRD_IV_POINT s.ivs.leg s.ivs.step] ∧ s1.mem = s.mem ∧ s1.ivs.pts = s.ivs.pts ++ [p] ∧
      s1.get (GRD_IV_POINT s.ivs.leg s.ivs.step) = wrap 32 (match p with | some q => q.v * 65536 + q.i | none => 0)) ∧
  (∀ s : State, (s.get GRD_IVS_STAT_STATE ≠ ivsSCANNING ∨ s.ivs.waitXfer = true ∨ s.T < s.ivs.dwell + (ivsView s).dwell * 1000) →
    exec .ivsDwellEnd s = .next s)

/-- Sections 8.2, 8.3, 8.5 and 8.6. That STO outranks the other demands of the snapshot at an activation is the model's reading (log
entry 217). -/
def Obligations.SafetyDemandsWithdrawPermits : Prop :=
  (∀ (s : State) (ra rb : BitVec 8) (k : Snap) (l : List Snap), s.saf.snaps = k :: l → s.saf.started = true → k.t + 500000 ≤ s.T →
    ∃ t, exec (.safetyCommit ra rb) s = .next t ∧ t.get SAF_SNAP_T_T = wrap 32 k.t ∧ t.get SAF_SIN_DEMAND = wrap 8 k.demand ∧
      t.saf.snaps = l ∧ t.saf.activate = none ∧ t.saf.changed = false ∧ t.mem = s.mem ∧
      t.get SAF_PSET_RES_CODE = (if s.saf.activate = none then wrap 8 s.saf.res else 0) ∧
      t.get SAF_CYCLE_LO_COUNT + t.get SAF_CYCLE_HI_COUNT * 2 ^ 32 =
        wrap 64 (s.get SAF_CYCLE_LO_COUNT + s.get SAF_CYCLE_HI_COUNT * 2 ^ 32 + 1) ∧
      (∀ c < 4, bit k.sto c = true →
        (k.counted = true ∨ (s.get (SAF_CH_STAT_STATE c) ≠ scRUN ∧ s.get (SAF_CH_STAT_STATE c) ≠ scSS1)) →
        t.flag (PWM_CH_STAT_STO_PERMIT c) = false ∧ t.get (SAF_CH_STAT_PERMIT c) = 0 ∧
        bit (t.get SAF_OUT_STOA) c = false ∧ bit (t.get SAF_OUT_STOB) c = false ∧
        t.get (SAF_CH_STAT_STATE c) ≠ scRUN ∧ t.get (SAF_CH_STAT_STATE c) ≠ scSS1)) ∧
  (∀ (s : State) (f : Fin 3), ∃ t, exec (.safetyHwFault f) s = .next t ∧ t.get SAF_OUT_STOA = 0 ∧ t.get SAF_OUT_STOB = 0 ∧ t.get SAF_OUT_SDO = 0 ∧
      t.mem = s.mem ∧ (∀ c < 4, t.flag (PWM_CH_STAT_STO_PERMIT c) = false ∧ (s.flag (PWM_CH_STAT_STO_PERMIT c) = true → outputsOff t c = true)) ∧
      t.get SAF_STAT_DSTATE = dsSAFE ∧ t.get SAF_STAT_DFAULT = (if f.val = 0 then 1 else f.val + 2)) ∧
  (∀ (s : State) (k : Snap) (l : List Snap), s.saf.snaps = k :: l → s.saf.started = true → k.t + 500000 ≤ s.T →
    ∃ t, exec .safetyCycleMiss s = .next t ∧ t.get SAF_STAT_DFAULT = 2 ∧ t.get SAF_STAT_DSTATE = dsSAFE ∧ t.get SAF_OUT_STOA = 0 ∧
      t.get SAF_OUT_STOB = 0 ∧ t.get SAF_OUT_SDO = 0 ∧ t.mem = s.mem ∧
      ∀ c < 4, t.flag (PWM_CH_STAT_STO_PERMIT c) = false ∧ (s.flag (PWM_CH_STAT_STO_PERMIT c) = true → outputsOff t c = true)) ∧
  (∀ (s : State) (k : Snap) (l : List Snap) (ps : List Nat), s.saf.snaps = k :: l → s.saf.started = true → k.t + 500000 ≤ s.T →
    s.saf.activate = some ps →
    exec .psetActivate s = .next { s with saf := { s.saf with pset := ps, activate := none, res := 0, changed := true } }) ∧
  (∀ (s : State) (ra rb : BitVec 8) (k : Snap) (l : List Snap) (ps : List Nat), s.saf.snaps = k :: l → s.saf.started = true → k.t + 500000 ≤ s.T →
    s.saf.activate = some ps ∨ (s.saf.activate = none ∧ s.saf.changed = true ∧ s.saf.pset = ps) →
    ∃ t, exec (.safetyCommit ra rb) s = .next t ∧ t.saf.pset = ps ∧
      t.get SAF_PSET_ID_ID = wrap 32 (psWord ps 0) ∧ t.get SAF_PSET_CRC_CRC = wrap 32 (psWord ps 63) ∧
      ∀ c < 4, t.get (SAF_CH_STAT_STATE c) = scSTO ∧ t.get (SAF_CH_STAT_CAUSE c) = scPSET ∧ t.flag (PWM_CH_STAT_STO_PERMIT c) = false) ∧
  (∀ (s : State) (ra rb : BitVec 8), s.saf.started = false ∨ (∀ k l, s.saf.snaps = k :: l → s.T < k.t + 500000) →
    exec (.safetyCommit ra rb) s = .next s ∧ exec .safetyCycleMiss s = .next s ∧ exec .psetActivate s = .next s) ∧
  (∀ s : State, s.saf.activate = none → exec .psetActivate s = .next s)

/-- Sections 8.1 to 8.8. Choices of the model: how levels, pulses and straps reach the block (log entries 213, 214, 218), which way
counts forward (215). -/
def Obligations.SafetyInputsAndMirrors : Prop :=
  (∀ (s : State) (valid : Bool) (up down : BitVec 8),
    (s.saf.delivered = false ∨ s.saf.started = true ∨ s.saf.failed = true → exec (.safetyDomainStart valid up down) s = .next s) ∧
    (s.saf.delivered = true → s.saf.started = false → s.saf.failed = false →
      (∃ t, exec (.safetyDomainStart false up down) s = .next t ∧ t.get SAF_STAT_DSTATE = dsIMAGE_FAIL ∧ t.get SAF_STAT_DFAULT = 5 ∧
        t.saf.failed = true ∧ t.saf.started = false ∧ t.mem = s.mem ∧
        ∀ c < 4, t.get (SAF_CH_STAT_STATE c) = scSTO ∧ t.get (SAF_CH_STAT_CAUSE c) = scDOMAIN) ∧
      (∃ t, exec (.safetyDomainStart true up down) s = .next t ∧ t.saf = { s.saf with started := true, pset := s.saf.sent, boot := down.toNat, live := down.toNat, opened := strapOpen up.toNat down.toNat, strapT := s.T, lastT := s.T } ∧
        t.mem = s.mem ∧ t.T = s.T ∧ t.get SAF_STAT_DSTATE = s.get SAF_STAT_DSTATE ∧
        t.get (TSP_CMP_STAT_ARMED 124) = 1 ∧ t.get (TSP_CMP_CFG_CONS 124) = 0xF0 ∧ t.get (TSP_CMP_STEP_STEP 124) = 250000 ∧
        t.get (TSP_CMP_TGT_LO_TGT_LO 124) = wrap 32 (s.T + 250000)))) ∧
  (∀ (s : State) (n : Fin 8) (b lv : Bool) (held : BitVec 32),
    (s.saf.started = false ∨ (inTP s.saf.pset n.val = true ∧ blanked s b = true) ∨ held.toNat < filtTime (inFILT s.saf.pset n.val) →
      exec (.sinLevelAccept n b ⟨lv, held⟩) s = .next s) ∧
    (s.saf.started = true → (inTP s.saf.pset n.val = false ∨ blanked s b = false) → filtTime (inFILT s.saf.pset n.val) ≤ held.toNat →
      ∃ t, exec (.sinLevelAccept n b ⟨lv, held⟩) s = .next t ∧ (if b then (t.sin n.val).b else (t.sin n.val).a) = lv ∧
        (if b then (t.sin n.val).a else (t.sin n.val).b) = (if b then (s.sin n.val).a else (s.sin n.val).b) ∧
        (∀ j < 8, j ≠ n.val → t.sin j = s.sin j) ∧ t.regs = s.regs ∧ t.mem = s.mem ∧
        ((inFUNC s.saf.pset n.val = 1 ∨ inFUNC s.saf.pset n.val = 2) → lv = false → sinDemands t n.val = true) ∧
        (∀ t1 : Nat, inFUNC s.saf.pset n.val = 3 → (s.sin n.val).oneT = some t1 → t1 + 50000000 ≤ s.T → s.T ≤ t1 + 3000000000 →
          (s.sin n.val).code = 0 → lv = false →
          ∀ c < 4, bit t.saf.acks c = (bit s.saf.acks c || (bit (inMASK s.saf.pset n.val) c && !bit s.demanded c))))) ∧
  (∀ s : State, s.saf.started = true →
    ((∃ k ∈ s.saf.snaps, k.t = s.T) → (∀ a, s.saf.pulseA = some a → a + s.tpPer ≤ s.T) →
      exec (.testPulseStart false) s = .next { s with saf := { s.saf with pulseA := some s.T } }) ∧
    ((∀ k ∈ s.saf.snaps, k.t ≠ s.T) ∨ (∃ a, s.saf.pulseA = some a ∧ s.T < a + s.tpPer) → exec (.testPulseStart false) s = .next s) ∧
    (∀ a, s.saf.pulseA = some a → s.T = a + s.tpPer / 2 →
      exec (.testPulseStart true) s = .next { s with saf := { s.saf with pulseB := some s.T } }) ∧
    ((∀ a, s.saf.pulseA = some a → s.T ≠ a + s.tpPer / 2) → exec (.testPulseStart true) s = .next s)) ∧
  (∀ (s : State) (b : Bool), s.saf.started = false → exec (.testPulseStart b) s = .next s) ∧
  (∀ (s : State) (b : Bool) (p o oe : BitVec 8) (t0 : Nat), s.pulse b = some t0 →
    (s.T < t0 + s.tpW → t0 + s.tpW ≤ s.T + 1000 →
      ∃ t, exec (.testPulseCheck b p o oe) s = .next t ∧ t.regs = s.regs ∧ t.mem = s.mem ∧ ∀ n < 8, (t.sin n).a = (s.sin n).a ∧ (t.sin n).b = (s.sin n).b ∧
        (t.sin n).code = (if s.pulsedOn b n && bit p.toNat n && (s.sin n).code == 0 then 2 else (s.sin n).code) ∧
        bit (if b then t.saf.suspB else t.saf.suspA) n = (s.pulsedOn b n && !bit o.toNat n)) ∧
    (t0 + s.tpBlank ≤ s.T → s.T < t0 + s.tpBlank + 1000 →
      ∃ t, exec (.testPulseCheck b p o oe) s = .next t ∧ t.regs = s.regs ∧ t.mem = s.mem ∧ (if b then t.saf.suspB else t.saf.suspA) = 0 ∧
        ∀ n < 8, (t.sin n).a = (s.sin n).a ∧ (t.sin n).b = (s.sin n).b ∧
        (t.sin n).code = (if bit (if b then s.saf.suspB else s.saf.suspA) n && bit oe.toNat n && (s.sin n).code == 0 then 3 else (s.sin n).code)) ∧
    (s.T + 1000 < t0 + s.tpW ∨ (t0 + s.tpW ≤ s.T ∧ s.T < t0 + s.tpBlank) ∨ t0 + s.tpBlank + 1000 ≤ s.T →
      exec (.testPulseCheck b p o oe) s = .next s)) ∧
  (∀ (s : State) (b : Bool) (p o oe : BitVec 8), s.pulse b = none → exec (.testPulseCheck b p o oe) s = .next s) ∧
  (∀ (s : State) (n : Fin 8) (d : Nat), (s.sin n.val).differ = some d → s.saf.pset ≠ [] → d + inDISC s.saf.pset n.val * 1000000 < s.T →
    ∃ t, exec (.discrepancyTimeout n) s = .next t ∧ (t.sin n.val).code = (if (s.sin n.val).code = 0 then 1 else (s.sin n.val).code) ∧
      (∀ j, j ≠ n.val → t.sin j = s.sin j) ∧ t.regs = s.regs ∧ t.mem = s.mem) ∧
  (∀ (s : State) (n : Fin 8), s.saf.pset = [] ∨ (∀ d, (s.sin n.val).differ = some d → s.T ≤ d + inDISC s.saf.pset n.val * 1000000) →
    exec (.discrepancyTimeout n) s = .next s) ∧
  (∀ (s : State) (up down : BitVec 8), (s.saf.started = true → s.saf.strapT + 100000000 ≤ s.T → exec (.strapSample up down) s =
      .next { s with saf := { s.saf with live := down.toNat, opened := strapOpen up.toNat down.toNat, strapT := s.T } }) ∧
    (s.saf.started = false ∨ s.T < s.saf.strapT + 100000000 → exec (.strapSample up down) s = .next s)) ∧
  (∀ s : State, s.saf.started = true → s.saf.lastT + (if s.saf.first then 255000 else 250000) ≤ s.T →
    ∃ t k, exec .safetyOwnSnapshot s = .next t ∧ t.saf.snaps = s.saf.snaps ++ [k] ∧ k.t = s.T ∧ k.ext = false ∧ t.saf.lastT = s.T ∧
      k.demand = inBits (sinDemands s) ∧ t.saf.acks = 0 ∧ t.regs = s.regs ∧ t.mem = s.mem) ∧
  (∀ s : State, s.saf.started = false ∨ s.T < s.saf.lastT + (if s.saf.first then 255000 else 250000) → exec .safetyOwnSnapshot s = .next s) ∧
  (∀ (s : State) (c : Fin 4) (a b : Bool) (p : SpcIn), p = s.saf.spc.get {} c.val →
    ∃ t q d, exec (.spcntEdge c a b) s = .next t ∧ q = t.saf.spc.get {} c.val ∧ t.saf.cnt.get 0 c.val = s.saf.cnt.get 0 c.val + d ∧
      t.regs = s.regs ∧ t.mem = s.mem ∧ (∀ j, j ≠ c.val → t.saf.cnt.get 0 j = s.saf.cnt.get 0 j) ∧
      ((a = p.a ∨ ∃ x, p.ta = some x ∧ s.T < x + 200) → (b = p.b ∨ ∃ x, p.tb = some x ∧ s.T < x + 200) → d = 0 ∧ q = p) ∧
      ((∀ x, p.ta = some x → x + 200 ≤ s.T) → a ≠ p.a → q.a = a ∧ q.ta = some s.T ∧
        (bit (chWord s.saf.pset c.val 0) 14 = true → d = (if a then 1 else 0)) ∧
        (bit (chWord s.saf.pset c.val 0) 14 = false → b = p.b → d = (if (a != b) = Config.spcntForward then 1 else -1))) ∧
      ((∀ x, p.tb = some x → x + 200 ≤ s.T) → b ≠ p.b → q.b = b ∧ q.tb = some s.T ∧ (a = p.a →
        d = (if bit (chWord s.saf.pset c.val 0) 14 then 0 else if (a == b) = Config.spcntForward then 1 else -1)))) ∧
  (∀ (s : State) (w : Bool) (ps : List Nat), s.saf.pend = some ps → (w = true ∨ s.saf.confirmBy ≤ s.T) →
    exec (.psetConfirmTimeout w) s = .next { s with saf := { s.saf with pend := none, res := 7 } }) ∧
  (∀ (s : State) (w : Bool), s.saf.pend = none ∨ (w = false ∧ s.T < s.saf.confirmBy) → exec (.psetConfirmTimeout w) s = .next s) ∧
  (∀ (s : State) (c : Fin 4) (a : Nat), (s.sch c.val).outT = some a → a + 168 * 3600 * 1000000000 ≤ s.T → (s.sch c.val).dyn = false →
    ∃ t, exec (.dynDueTimeout c) s = .next t ∧ (t.sch c.val).dyn = true ∧ (∀ j, j ≠ c.val → t.sch j = s.sch j) ∧
      KeepsFields s t [LDG_DROPPED_COUNT] ∧ t.mem = s.mem) ∧
  (∀ (s : State) (c : Fin 4), (∀ a, (s.sch c.val).outT = some a → s.T < a + 168 * 3600 * 1000000000) ∨ (s.sch c.val).dyn = true →
    exec (.dynDueTimeout c) s = .next s) ∧
  (∀ (s : State) (m : BitVec 8), (isMaster m.toNat = false → exec (.safStatRead m) s = .next (s.refuseRead m.toNat 12 0)) ∧
    (isMaster m.toNat = true → ∃ t, exec (.safStatRead m) s = .next t ∧ t.resp = mapWord s (fun _ => none) 0 RegMap.mapSaf 0 ∧ t.regs = s.regs ∧
      t.mem = s.mem ∧ ∀ o ∈ safOffsets, t.shadow? m.toNat (blockBase 12 0 + o) = some (mapWord s (fun _ => none) 0 RegMap.mapSaf o)))

/-- Sections 9.3, 9.4 and 9.6 to 9.8, over `SatOnly`. A reply starts at a free instant of its 8 to 12 us (log entry 138). -/
def Obligations.SatelliteAnswersRequests : Prop :=
  (∀ (s : State) (p : Fin 32) (pl : List Byte) (crc : BitVec 32), (s.sat p.val).awake = true → frameValid 0x01 pl crc.toNat true = true →
    ∃ t, exec (.satSync p pl crc true) s = .next t ∧ SatOnly s t p.val [] ∧ closedSwitches t (t.sat p.val) = 0 ∧ openWireSinks t (t.sat p.val) = 0 ∧
      (t.sat p.val).win = some (ofLeBytes pl, s.satT, closedSwitches s (s.sat p.val), (s.sat p.val).owdT.isSome) ∧ (t.sat p.val).owdT = none ∧
      (t.sat p.val).owdDone = (s.sat p.val).owdDone ∧ (t.sat p.val).synced = true ∧ (t.sat p.val).balEn = (s.sat p.val).balEn ∧
      (t.sat p.val).cells = (s.sat p.val).cells ∧ (t.sat p.val).seq = (s.sat p.val).seq) ∧
  (∀ (s : State) (p : Fin 32) (a n : Byte) (crc : BitVec 32), (s.sat p.val).awake = true → frameValid 0x02 [a, n] crc.toNat true = true →
    ∃ t, exec (.satRd p [a, n] crc true) s = .next t ∧ t.sat p.val = { s.sat p.val with frameT := s.satT } ∧
      if 1 ≤ n.toNat ∧ n.toNat ≤ 32 ∧ ∀ i < n.toNat, (satReg s p.val (a.toNat + i)).isSome = true then
        SatOnly s t p.val [.valolo p.val true (frameOf 0x82 (leBytes 2 (satStatus s (s.sat p.val)) ++
          words16 ((List.range n.toNat).map (fun i => (satReg s p.val (a.toNat + i)).getD 0))))]
      else SatOnly s t p.val [.valolo p.val true (frameOf 0xFF (leBytes 2 (satStatus s (s.sat p.val)) ++ [2, 2]))]) ∧
  (∀ (s : State) (p : Fin 32) (pl : List Byte) (crc : BitVec 32) (a n : Nat), (s.sat p.val).awake = true →
    frameValid 0x03 pl crc.toNat true = true → a = ofLeBytes (pl.take 1) → n = ofLeBytes ((pl.drop 1).take 1) → pl.length = 2 + 2 * n → 1 ≤ n →
    4 ≤ a → a + n ≤ 8 →
    ∃ t, exec (.satWr p pl crc true) s = .next t ∧
      SatOnly s t p.val [.valolo p.val true (frameOf 0x83 (leBytes 2 (satStatus t (t.sat p.val))))] ∧
      (∀ i < n, satReg t p.val (a + i) = some (if a + i = 4 then ofLeBytes ((pl.drop (2 + 2 * i)).take 2) / 256 * 256
        else ofLeBytes ((pl.drop (2 + 2 * i)).take 2))) ∧
      (∀ k, k ≠ 3 → (k < a ∨ a + n ≤ k) → satReg t p.val k = satReg s p.val k) ∧
      (t.sat p.val).fresh = (if a = 4 then false else (s.sat p.val).fresh) ∧
      (t.sat p.val).balT = (if a + n = 8 then s.satT else (s.sat p.val).balT)) ∧
  (∀ (s : State) (p : Fin 32) (pl : List Byte) (crc : BitVec 32) (a n : Nat), (s.sat p.val).awake = true →
    frameValid 0x03 pl crc.toNat true = true → a = ofLeBytes (pl.take 1) → n = ofLeBytes ((pl.drop 1).take 1) → pl.length = 2 + 2 * n →
    1 ≤ n → n ≤ 8 → (∀ i < n, (satReg s p.val (a + i)).isSome = true) → (a < 4 ∨ 8 < a + n) →
    ∃ t, exec (.satWr p pl crc true) s = .next t ∧ t.sat p.val = { s.sat p.val with frameT := s.satT } ∧
      SatOnly s t p.val [.valolo p.val true (frameOf 0xFF (leBytes 2 (satStatus s (s.sat p.val)) ++ [3, 3]))]) ∧
  (∀ (s : State) (p : Fin 32) (pl : List Byte) (crc : BitVec 32) (a n : Nat), (s.sat p.val).awake = true →
    frameValid 0x03 pl crc.toNat true = true → a = ofLeBytes (pl.take 1) → n = ofLeBytes ((pl.drop 1).take 1) →
    (pl.length ≠ 2 + 2 * n ∨ ∃ i < n, satReg s p.val (a + i) = none) →
    ∃ t, exec (.satWr p pl crc true) s = .next t ∧ t.sat p.val = { s.sat p.val with frameT := s.satT } ∧
      SatOnly s t p.val [.valolo p.val true (frameOf 0xFF (leBytes 2 (satStatus s (s.sat p.val)) ++
        [if pl.length = 2 + 2 * n then 2 else 1, 3]))]) ∧
  (∀ (s : State) (p : Fin 32) (crc : BitVec 32), (s.sat p.val).awake = true → frameValid 0x04 [] crc.toNat true = true →
    ∃ t b, exec (.satGetSet p [] crc true) s = .next t ∧ SatOnly s t p.val [.valolo p.val true (frameOf 0x84 b)] ∧ b.length = 60 ∧
      t.sat p.val = { s.sat p.val with frameT := s.satT, synced := false } ∧ ofLeBytes (b.take 2) = satStatus s (s.sat p.val) ∧
      ofLeBytes ((b.drop 2).take 2) = wrap 16 (s.sat p.val).seq ∧
      (∀ k < 16, ofLeBytes ((b.drop (4 + 2 * k)).take 2) = wrap 16 ((s.sat p.val).cells.getD k 0)) ∧
      (∀ j < 8, ofLeBytes ((b.drop (36 + 2 * j)).take 2) = wrap 16 ((s.sat p.val).temps.getD j 0)) ∧
      ofLeBytes ((b.drop 52).take 2) = wrap 16 (s.sat p.val).die ∧ ofLeBytes ((b.drop 54).take 2) = wrap 16 (s.sat p.val).module ∧
      ofLeBytes ((b.drop 56).take 2) = wrap 16 (s.sat p.val).bal ∧ ofLeBytes (b.drop 58) =
        wrap 16 ((s.sat p.val).flags + 2 * b2n (!(s.sat p.val).synced) + 8 * b2n (s.sat p.val).lim + 16 * b2n (s.sat p.val).stop)) ∧
  (∀ (s : State) (p : Fin 32) (crc : BitVec 32), (s.sat p.val).awake = true → frameValid 0x05 [1, 0] crc.toNat true = true →
    (∀ t0, (s.sat p.val).owdT = some t0 → ∃ t, exec (.owdRun p [1, 0] crc true) s = .next t ∧ t.sat p.val = { s.sat p.val with frameT := s.satT } ∧
      SatOnly s t p.val [.valolo p.val true (frameOf 0xFF (leBytes 2 (satStatus s (s.sat p.val)) ++ [4, 5]))]) ∧
    ((s.sat p.val).owdT = none → ∃ t t0, exec (.owdRun p [1, 0] crc true) s = .next t ∧ (t.sat p.val).owdT = some t0 ∧
      s.satT + 8000 + frameNs 2 ≤ t0 ∧ t0 ≤ s.satT + 12000 + frameNs 2 ∧ (t.sat p.val).owdDone = false ∧ (t.sat p.val).owRes = (s.sat p.val).owRes ∧
      SatOnly s t p.val [.valolo p.val true (frameOf 0x85 (leBytes 2 (satStatus s { s.sat p.val with owdDone := false })))])) ∧
  (∀ (s : State) (p : Fin 32) (crc : BitVec 32), (s.sat p.val).awake = true → frameValid 0x05 [2, 0] crc.toNat true = true →
    ∃ t t0, exec (.sleep p [2, 0] crc true) s = .next t ∧ (t.sat p.val).sleepAt = some (t0 + 100000) ∧
      s.satT + 8000 + frameNs 2 ≤ t0 ∧ t0 ≤ s.satT + 12000 + frameNs 2 ∧
      SatOnly s t p.val [.valolo p.val true (frameOf 0x85 (leBytes 2 (satStatus s (s.sat p.val))))]) ∧
  (∀ (s : State) (p : Fin 32) (crc : BitVec 32), (s.sat p.val).awake = true → frameValid 0x05 [3, 0] crc.toNat true = true →
    ∃ t, exec (.clearFault p [3, 0] crc true) s = .next t ∧ SatOnly s t p.val [.valolo p.val true (frameOf 0x85 (leBytes 2 (satStatus t (t.sat p.val))))] ∧
      (∀ k < 4, bit (t.sat p.val).fault k = (bit (s.sat p.val).fault k && bit (s.sat p.val).cause k)) ∧ (t.sat p.val).fault < 16 ∧
      (t.sat p.val).cause = (s.sat p.val).cause ∧ (t.sat p.val).balEn = (s.sat p.val).balEn) ∧
  (∀ (s : State) (p : Fin 32) (typ : BitVec 8) (pl : List Byte) (crc : BitVec 32), (s.sat p.val).awake = true →
    frameValid typ.toNat pl crc.toNat true = true → (typ = 0 ∨ 5 < typ.toNat ∨ (typ = 5 ∧ (ofLeBytes (pl.take 1) = 0 ∨ 3 < ofLeBytes (pl.take 1) ∨ ofLeBytes (pl.drop 1) ≠ 0))) →
    ∃ t, exec (.satUnknownRequest p typ pl crc true) s = .next t ∧ t.sat p.val = { s.sat p.val with frameT := s.satT } ∧
      SatOnly s t p.val [.valolo p.val true (frameOf 0xFF (leBytes 2 (satStatus s (s.sat p.val)) ++ [5, typ]))]) ∧
  (∀ (s : State) (p : Fin 32) (pl : List Byte) (crc : BitVec 32), (s.sat p.val).awake = true → frameValid 0x05 pl crc.toNat true = true →
    ∃ t, t.sat p.val = { s.sat p.val with frameT := s.satT } ∧
      SatOnly s t p.val [.valolo p.val true (frameOf 0xFF (leBytes 2 (satStatus s (s.sat p.val)) ++ [5, 5]))] ∧
      (pl ≠ [1, 0] → exec (.owdRun p pl crc true) s = .next t) ∧ (pl ≠ [2, 0] → exec (.sleep p pl crc true) s = .next t) ∧
      (pl ≠ [3, 0] → exec (.clearFault p pl crc true) s = .next t)) ∧
  (∀ (s : State) (p : Fin 32) (typ : BitVec 8) (pl : List Byte) (crc : BitVec 32) (cl : Bool),
    ((s.sat p.val).awake = false → exec (.satSync p pl crc cl) s = .next s ∧ exec (.satRd p pl crc cl) s = .next s ∧
      exec (.satWr p pl crc cl) s = .next s ∧ exec (.satGetSet p pl crc cl) s = .next s ∧ exec (.owdRun p pl crc cl) s = .next s ∧
      exec (.sleep p pl crc cl) s = .next s ∧ exec (.clearFault p pl crc cl) s = .next s ∧ exec (.satUnknownRequest p typ pl crc cl) s = .next s) ∧
    (frameValid 0x01 pl crc.toNat cl = false → exec (.satSync p pl crc cl) s = .next s) ∧
    (frameValid 0x02 pl crc.toNat cl = false → exec (.satRd p pl crc cl) s = .next s) ∧
    (frameValid 0x03 pl crc.toNat cl = false → exec (.satWr p pl crc cl) s = .next s) ∧
    (frameValid 0x04 pl crc.toNat cl = false → exec (.satGetSet p pl crc cl) s = .next s) ∧
    (frameValid 0x05 pl crc.toNat cl = false → exec (.owdRun p pl crc cl) s = .next s ∧ exec (.sleep p pl crc cl) s = .next s ∧
      exec (.clearFault p pl crc cl) s = .next s) ∧
    (frameValid typ.toNat pl crc.toNat cl = false → exec (.satUnknownRequest p typ pl crc cl) s = .next s))

/-- Sections 9.4 to 9.8, over `SatOnly`. At which instant from 1.8 s on the silent satellite sleeps is the command's (the model's
choice, log entry 138); its time goes on with the main rails off (log entry 221). -/
def Obligations.SatelliteEvents : Prop :=
  (∀ (s : State) (p : Fin 32) (cells : List Int) (temps : List Nat) (vt : Nat) (die md : BitVec 16) (q t0 b : Nat) (d : Bool),
    (s.sat p.val).awake = true → (s.sat p.val).win = some (q, t0, b, d) → t0 + (s.sat p.val).delayT + (s.sat p.val).convT ≤ s.satT →
    ∃ t, exec (.satWindowEnd p cells temps vt die md) s = .next t ∧ SatOnly s t p.val [] ∧ (t.sat p.val).win = none ∧ (t.sat p.val).seq = q ∧
      (t.sat p.val).bal = b ∧ (t.sat p.val).die = die.toNat ∧ (t.sat p.val).module = md.toNat ∧ (t.sat p.val).balEn = (s.sat p.val).balEn ∧
      (∀ k < (s.sat p.val).ncell, (t.sat p.val).cells.getD k 0 = cellCode (cells.getD k 0)) ∧
      (∀ k, (s.sat p.val).ncell ≤ k → (t.sat p.val).cells.getD k 0 = 0) ∧
      (∀ j < 8, (t.sat p.val).temps.getD j 0 = (if vt = 0 then 0xFFFF else min 0xFFFF (65536 * temps.getD j 0 / vt))) ∧
      bit (t.sat p.val).flags 0 = (List.range (s.sat p.val).ncell).any (fun k => cellOvr (cells.getD k 0)) ∧
      bit (t.sat p.val).flags 2 = d ∧ bit (t.sat p.val).flags 1 = false ∧ (t.sat p.val).flags < 8) ∧
  (∀ (s : State) (p : Fin 32) (cells : List Int) (temps : List Nat) (vt : Nat) (die md : BitVec 16),
    (s.sat p.val).awake = false ∨ (∀ q t0 b d, (s.sat p.val).win = some (q, t0, b, d) → s.satT < t0 + (s.sat p.val).delayT + (s.sat p.val).convT) →
    exec (.satWindowEnd p cells temps vt die md) s = .next s) ∧
  (∀ (s : State) (p : Fin 32) (off on : List Int) (t0 : Nat), (s.sat p.val).awake = true → (s.sat p.val).owdT = some t0 →
    t0 + 2 * (s.sat p.val).convT + wrap 8 (s.sat p.val).owCfg * 500000 ≤ s.satT →
    ∃ t, exec (.satOwdComplete p off on) s = .next t ∧ SatOnly s t p.val [] ∧ (t.sat p.val).owdT = none ∧ (t.sat p.val).owdDone = true ∧
      (∀ thr : Int, thr = bits (s.sat p.val).owCfg 8 8 * 10000 → ∀ n, n = (s.sat p.val).ncell → ∀ dv : Nat → Int,
        (∀ k, 1 ≤ k → k ≤ 16 → dv k = on.getD (k - 1) 0 - off.getD (k - 1) 0) →
        bit (t.sat p.val).owRes 0 = decide (dv 1 < -thr) ∧ bit (t.sat p.val).owRes n = decide (dv n < -thr) ∧
        (∀ k, 1 ≤ k → k < n → bit (t.sat p.val).owRes k = (decide (dv k < -thr) && decide (thr < dv (k + 1)))) ∧
        (∀ k, n < k → bit (t.sat p.val).owRes k = false))) ∧
  (∀ (s : State) (p : Fin 32) (off on : List Int), (s.sat p.val).awake = false ∨ (∀ t0, (s.sat p.val).owdT = some t0 →
      s.satT < t0 + 2 * (s.sat p.val).convT + wrap 8 (s.sat p.val).owCfg * 500000) → exec (.satOwdComplete p off on) s = .next s) ∧
  (∀ (s : State) (p : Fin 32), (s.sat p.val).awake = true → (s.sat p.val).frameT + 1800000000 ≤ s.satT →
    ∃ t, exec (.satSilenceTimeout p) s = .next t ∧ SatOnly s t p.val [] ∧ (t.sat p.val).awake = false ∧ (t.sat p.val).balEn = 0 ∧
      closedSwitches t (t.sat p.val) = 0 ∧ (t.sat p.val).cfg = 0xF400 ∧ (t.sat p.val).owRes = 0 ∧ (t.sat p.val).cells = []) ∧
  (∀ (s : State) (p : Fin 32), (s.sat p.val).awake = false ∨ s.satT < (s.sat p.val).frameT + 1800000000 → exec (.satSilenceTimeout p) s = .next s) ∧
  (∀ (s : State) (p : Fin 32), (s.sat p.val).awake = true → (s.sat p.val).balT + bits (s.sat p.val).balCfg 8 8 * 1000000000 ≤ s.satT →
    ∃ t, exec (.balTmoExpiry p) s = .next t ∧ SatOnly s t p.val [] ∧ t.sat p.val = { s.sat p.val with balEn := 0 } ∧
      closedSwitches t (t.sat p.val) = 0) ∧
  (∀ (s : State) (p : Fin 32), (s.sat p.val).awake = false ∨ s.satT < (s.sat p.val).balT + bits (s.sat p.val).balCfg 8 8 * 1000000000 → exec (.balTmoExpiry p) s = .next s) ∧
  (∀ (s : State) (p : Fin 32) (die lim : Int), (s.sat p.val).awake = true → (s.sat p.val).dieAt + 100000000 ≤ s.satT →
    lim = 10 * (wrap 8 (s.sat p.val).balCfg : Nat) →
    ∃ t, exec (.satDieTempCheck p die) s = .next t ∧ SatOnly s t p.val [] ∧ (t.sat p.val).balEn = (s.sat p.val).balEn ∧ (t.sat p.val).dieAt = s.satT ∧
      (t.sat p.val).lim = (if die < lim - 100 then false else if lim < die then true else (s.sat p.val).lim) ∧
      (t.sat p.val).stop = (if die < lim - 100 then false else if lim + 150 < die then true else (s.sat p.val).stop) ∧
      (lim + 150 < die → closedSwitches t (t.sat p.val) = 0)) ∧
  (∀ (s : State) (p : Fin 32) (die : Int), (s.sat p.val).awake = false ∨ s.satT < (s.sat p.val).dieAt + 100000000 → exec (.satDieTempCheck p die) s = .next s) ∧
  (∀ (s : State) (p : Fin 32), (s.sat p.val).awake = true → (s.sat p.val).lim = true → (s.sat p.val).altT + 1000000000 ≤ s.satT →
    ∃ t, exec (.satBalAlternate p) s = .next t ∧ SatOnly s t p.val [] ∧
      t.sat p.val = { s.sat p.val with even := !(s.sat p.val).even, altT := s.satT } ∧
      ∀ k < 16, k % 2 = (if (s.sat p.val).even then 1 else 0) → bit (closedSwitches t (t.sat p.val)) k = false) ∧
  (∀ (s : State) (p : Fin 32), (s.sat p.val).awake = false ∨ (s.sat p.val).lim = false ∨ s.satT < (s.sat p.val).altT + 1000000000 → exec (.satBalAlternate p) s = .next s) ∧
  (∀ (s : State) (p : Fin 32) (ns : Nat), (s.sat p.val).awake = false → 100000 ≤ ns →
    ∃ t, exec (.wakeBurst p ns) s = .next t ∧ SatOnly s t p.val [] ∧ (t.sat p.val).awake = true ∧ bit (satStatus t (t.sat p.val)) 14 = true ∧
      (t.sat p.val).balEn = 0 ∧ (t.sat p.val).cfg = 0xF400 ∧ (t.sat p.val).synced = false) ∧
  (∀ (s : State) (p : Fin 32) (ns : Nat), (s.sat p.val).awake = true ∨ ns < 100000 → exec (.wakeBurst p ns) s = .next s) ∧
  (∀ (s : State) (p : Fin 32) (c : BitVec 4), (s.sat p.val).awake = true →
    ∃ t, exec (.satelliteFaultCause p c) s = .next t ∧ SatOnly s t p.val [] ∧ (t.sat p.val).cause = c.toNat ∧
      (∀ k < 4, bit (t.sat p.val).fault k = (bit (s.sat p.val).fault k || bit c.toNat k)) ∧
      (c ≠ 0 → bit (satStatus t (t.sat p.val)) 15 = true)) ∧
  (∀ (s : State) (p : Fin 32) (c : BitVec 4), (s.sat p.val).awake = false →
    ∃ t, exec (.satelliteFaultCause p c) s = .next t ∧ SatOnly s t p.val [] ∧ t.sat p.val = { s.sat p.val with cause := c.toNat })

/-- Sections 9.1, 9.3, 9.4 and 9.8. A NEXT outside the ring starts it at slot 0 (the model's choice, log entry 219). -/
def Obligations.SampleSetRuns : Prop :=
  (∀ (s : State) (m : BitVec 8) (sl : Nat), isMC m.toNat = true → valOn s = true → s.val.set = none →
    sl = (if s.get VAL_BUF_NSETS < s.get VAL_SET_IDX_NEXT then 0 else s.get VAL_SET_IDX_NEXT) →
    ∃ t, exec (.trig m) s = .next t ∧
      t.val.set = some { trigT := s.T, sw := true, seq := if wrap 32 (s.val.seq + 1) = 0 then 1 else wrap 32 (s.val.seq + 1), slot := sl } ∧
      t.get VAL_STAT_SET_BUSY = 1 ∧ t.val.port = s.val.port ∧ t.val.sat = s.val.sat ∧
      (∀ a, (a < slotAddr s sl + 0x3C ∨ slotAddr s sl + 0x40 ≤ a) → t.byte a = s.byte a) ∧
      (s.flag VAL_BUF_EN = false → KeepsFields s t [VAL_STAT_SET_BUSY] ∧ t.mem = s.mem)) ∧
  (∀ (s : State) (m : BitVec 8), isMC m.toNat = true → valOn s = true → s.val.set.isSome = true →
    exec (.trig m) s = .next (s.bump VAL_TRIG_CNT_DROPPED)) ∧
  (∀ (s : State) (m : BitVec 8), (isMC m.toNat = true → valOn s = false → exec (.trig m) s = .next s) ∧
    (isMC m.toNat = false → exec (.trig m) s = .next (s.refuseWrite m.toNat 13 0x10))) ∧
  (∀ (s : State) (st : ValSet), s.val.set = some st → st.syncT = none → st.trigT + 100 ≤ s.T → s.T % 250 = 0 →
    ports.any (inFlight s) = false → (∀ p < 32, vstate s p = vpACTIVE → (s.vport p).idleT ≤ s.T) →
    ∃ t st', exec .sync s = .next t ∧ t.val.set = some st' ∧ st'.seq = st.seq ∧ st'.got = st.got ∧ st'.slot = st.slot ∧
      st'.syncT = some (s.T + 18000) ∧
      (∀ p < 32, bit st'.mask p = (vstate s p == vpACTIVE) ∧
        (vstate s p = vpACTIVE → (t.vport p).inSet = true ∧ (t.vport p).code = 2 ∧ (t.vport p).x = none) ∧
        (vstate s p ≠ vpACTIVE → t.vport p = s.vport p)) ∧
      t.out = s.out ++ (ports.filter (fun p => vstate s p == vpACTIVE)).map (fun p => .valolo p false (frameOf 0x01 (leBytes 2 st.seq))) ∧
      t.regs = s.regs ∧ t.mem = s.mem ∧ t.val.sat = s.val.sat) ∧
  (∀ (s : State), (∀ st, s.val.set = some st → st.syncT.isSome = true ∨ s.T < st.trigT + 100 ∨ s.T % 250 ≠ 0 ∨ ports.any (inFlight s) = true ∨
      ∃ p < 32, vstate s p = vpACTIVE ∧ s.T < (s.vport p).idleT) →
    exec .sync s = .next s) ∧
  (∀ (s : State) (st : ValSet) (t0 : Nat), s.val.set = some st → st.syncT = some t0 → st.got = false →
    t0 + delayNs (s.get VAL_SCFG0_SDELAY) + convNs (s.get VAL_SCFG0_CONV) + 20000 ≤ s.T → ports.any (fun p => (s.vport p).inSet) = true →
    ∃ t, exec .valSendGetSet s = .next t ∧ t.val.set = some { st with got := true } ∧
      (∀ p < 32, (s.vport p).inSet = true → (t.vport p).x = some { kind := xkSET, req := [4], endT := max s.T (s.vport p).idleT + 14000 }) ∧
      (∀ p < 32, (s.vport p).inSet = false → t.vport p = s.vport p) ∧
      t.out = s.out ++ (ports.filter (fun p => (s.vport p).inSet)).map (fun p => .valolo p false (frameOf 0x04 [])) ∧
      t.regs = s.regs ∧ t.mem = s.mem ∧ t.val.sat = s.val.sat) ∧
  (∀ (s : State) (st : ValSet) (t0 : Nat), s.val.set = some st → st.syncT = some t0 → st.got = false →
    t0 + delayNs (s.get VAL_SCFG0_SDELAY) + convNs (s.get VAL_SCFG0_CONV) + 20000 ≤ s.T → ports.any (fun p => (s.vport p).inSet) = false →
    exec .valSendGetSet s = .next (setCommit (s.setVal { s.val with set := some { st with got := true } }))) ∧
  (∀ s : State, (∀ st, s.val.set = some st → st.syncT = none) → exec .valSendGetSet s = .next s) ∧
  (∀ (s : State) (st : ValSet) (t0 : Nat), s.val.set = some st → st.syncT = some t0 →
    (st.got = true ∨ s.T < t0 + delayNs (s.get VAL_SCFG0_SDELAY) + convNs (s.get VAL_SCFG0_CONV) + 20000) → exec .valSendGetSet s = .next s) ∧
  (∀ (s : State) (p : Fin 32) (pl : List Byte) (crc : BitVec 32) (x : Xchg) (st : ValSet), (s.vport p.val).x = some x → x.kind = xkSET →
    s.val.set = some st → frameValid 0x84 pl crc.toNat true = true → bit (ofLeBytes (pl.take 2)) 15 = false →
    (ofLeBytes ((pl.drop 2).take 2) = wrap 16 st.seq →
      ∃ s1, exec (.setData p pl crc true) s = .next (setCommit s1) ∧ (s1.vport p.val).code = 0 ∧ (s1.vport p.val).pl = pl ∧
        (s1.vport p.val).inSet = false ∧ (s1.vport p.val).x = none ∧ s1.get (VAL_PORT_STAT_CONSEC_MISS p.val) = 0 ∧
        s1.get (VAL_PORT_STAT_SSTAT p.val) = wrap 16 (ofLeBytes (pl.take 2)) ∧ s1.val.set = some st ∧
        PortOnly s s1 p.val [VAL_PORT_STAT_SSTAT p.val, VAL_PORT_STAT_CONSEC_MISS p.val]) ∧
    (ofLeBytes ((pl.drop 2).take 2) ≠ wrap 16 st.seq → x.tries < s.get VAL_LINK_RETRY →
      ∃ t y, exec (.setData p pl crc true) s = .next t ∧ (t.vport p.val).code = 1 ∧ (t.vport p.val).x = some y ∧ y.kind = xkSET ∧
        y.tries = x.tries + 1 ∧ t.val.set = some st ∧ PortOnly s t p.val [VAL_PORT_STAT_SSTAT p.val])) ∧
  (∀ (s : State) (p : Fin 32) (pl : List Byte) (crc : BitVec 32) (cl : Bool) (x : Xchg), (s.vport p.val).x = some x → x.kind = xkSET →
    frameValid 0x84 pl crc.toNat cl = false → x.tries < s.get VAL_LINK_RETRY →
    ∃ t y, exec (.setData p pl crc cl) s = .next t ∧ (t.vport p.val).x = some y ∧ y.tries = x.tries + 1 ∧
      t.get (VAL_PORT_CNT_CRC_ERR p.val) = wrap 16 (satAdd 16 (s.get (VAL_PORT_CNT_CRC_ERR p.val)) 1) ∧
      PortOnly s t p.val [VAL_PORT_CNT_CRC_ERR p.val]) ∧
  (∀ (s : State) (p : Fin 32) (x : Xchg), (s.vport p.val).x = some x → x.kind = xkSET → x.endT + s.get VAL_LINK_RESP_TMO * 1000 ≤ s.T →
    (x.tries < s.get VAL_LINK_RETRY →
      ∃ t y, exec (.valResponseTimeout p) s = .next t ∧ (t.vport p.val).x = some y ∧ y.kind = xkSET ∧ y.tries = x.tries + 1 ∧
        t.get (VAL_PORT_CNT_TIMEOUT p.val) = wrap 16 (satAdd 16 (s.get (VAL_PORT_CNT_TIMEOUT p.val)) 1) ∧
        PortOnly s t p.val [VAL_PORT_CNT_TIMEOUT p.val]) ∧
    (s.get VAL_LINK_RETRY ≤ x.tries → (s.vport p.val).code ≠ 0 → s.flag (VAL_PORT_CFG_EN p.val) = true →
      ∃ s1, exec (.valResponseTimeout p) s = .next (setCommit s1) ∧ (s1.vport p.val).inSet = false ∧ (s1.vport p.val).x = none ∧
        s1.get (VAL_PORT_CNT_TIMEOUT p.val) = wrap 16 (satAdd 16 (s.get (VAL_PORT_CNT_TIMEOUT p.val)) 1) ∧
        s1.get (VAL_PORT_STAT_CONSEC_MISS p.val) = wrap 8 (satAdd 8 (s.get (VAL_PORT_STAT_CONSEC_MISS p.val)) 1) ∧
        (if s.get VAL_LINK_MISS_LIMIT ≤ wrap 8 (satAdd 8 (s.get (VAL_PORT_STAT_CONSEC_MISS p.val)) 1)
          then vstate s1 p.val = vpFAULT ∧ s1.get (VAL_PORT_STAT_FCODE p.val) = fcNO_RESPONSE else vstate s1 p.val = vstate s p.val))) ∧
  (∀ (s : State) (p : Fin 32), (∀ x, (s.vport p.val).x = some x → x.kind = xkBURST ∨ s.T < x.endT + s.get VAL_LINK_RESP_TMO * 1000) →
    exec (.valResponseTimeout p) s = .next s) ∧
  (∀ (s : State) (st : ValSet), s.val.set = some st → st.got = true → ports.any (fun p => (s.vport p).inSet) = false →
    (setCommit s).val.set = none ∧ (setCommit s).get VAL_SET_IDX_SEQ = wrap 24 st.seq ∧ (setCommit s).get VAL_STAT_SET_BUSY = 0 ∧
    (setCommit s).get VAL_TRIG_CNT_DONE = wrap 16 (satAdd 16 (s.get VAL_TRIG_CNT_DONE) 1) ∧
    (setCommit s).get VAL_SET_IDX_NEXT = (if s.flag VAL_BUF_EN then (if st.slot < s.get VAL_BUF_NSETS then wrap 8 (st.slot + 1) else 0)
      else s.get VAL_SET_IDX_NEXT) ∧
    (∀ a, (s.flag VAL_BUF_EN = false ∨ a < slotAddr s st.slot ∨ slotAddr s st.slot + 0x840 ≤ a) → (setCommit s).byte a = s.byte a) ∧
    (s.flag VAL_BUF_EN = true → slotAddr s st.slot < 0x1400000 → tagAdmits (s.get (MEM_SP_TAG_TAG (slotAddr s st.slot / 4096))) reqVal = true →
      s.memSt.bad = [] → (setCommit s).load (slotAddr s st.slot + 0x3C) 4 = wrap 32 st.seq ∧
        (setCommit s).load (slotAddr s st.slot) 4 = wrap 32 st.seq)) ∧
  (∀ (s : State) (st : ValSet), s.val.set = some st → (st.got = false ∨ ports.any (fun p => (s.vport p).inSet) = true) → setCommit s = s)

/-- Sections 9.1, 9.7 and 9.8. Choices of the model: OFF at once where the engine is off (log entry 131), the fields of an access in
progress (134), what a reply with STATUS.FAULT completes (220). -/
def Obligations.ValoloPorts : Prop :=
  (∀ (s : State) (m : BitVec 8) (p : Fin 32) (v : BitVec 32), isMC m.toNat = true → valFree s = true → vstate s p.val = vpOFF → valOn s = true →
    s.val.set = none → bit v.toNat 31 = true → 7 ≤ bits v.toNat 20 4 →
    ∃ t x, exec (.portEnWrite m p v) s = .next t ∧ vstate t p.val = vpWAKING ∧ t.get (VAL_PORT_STAT_FCODE p.val) = 0 ∧
      t.get (VAL_PORT_CFG_EN p.val) = 1 ∧ t.get (VAL_PORT_CFG_STRING p.val) = bits v.toNat 29 2 ∧ t.get (VAL_PORT_CFG_POS p.val) = bits v.toNat 24 5 ∧
      t.get (VAL_PORT_CFG_NCELL p.val) = bits v.toNat 20 4 ∧ t.out = s.out ++ [.wake p.val] ∧ (t.vport p.val).x = some x ∧ x.kind = xkBURST ∧
      x.endT = max s.T (s.vport p.val).idleT + 250000 ∧
      PortOnly s t p.val [VAL_PORT_CFG_EN p.val, VAL_PORT_CFG_STRING p.val, VAL_PORT_CFG_POS p.val, VAL_PORT_CFG_NCELL p.val,
        VAL_PORT_STAT_STATE p.val, VAL_PORT_STAT_FCODE p.val, VAL_PORT_ACC_GO_BUSY p.val, VAL_PORT_ACC_ERR p.val]) ∧
  (∀ (s : State) (m : BitVec 8) (p : Fin 32) (v : BitVec 32), isMC m.toNat = true → valFree s = false → vstate s p.val ≠ vpACTIVE →
    bit v.toNat 31 = false → bits v.toNat 20 4 ≠ s.get (VAL_PORT_CFG_NCELL p.val) →
    ∃ t, exec (.portEnWrite m p v) s = .next t ∧ t.get VAL_STAT_CFG_IGN = 1 ∧ vstate t p.val = vpOFF ∧ t.get (VAL_PORT_CFG_EN p.val) = 0 ∧
      t.get (VAL_PORT_CFG_NCELL p.val) = s.get (VAL_PORT_CFG_NCELL p.val) ∧ t.out = s.out ∧
      PortOnly s t p.val [VAL_STAT_CFG_IGN, VAL_PORT_CFG_EN p.val, VAL_PORT_STAT_STATE p.val, VAL_PORT_ACC_GO_BUSY p.val, VAL_PORT_ACC_ERR p.val]) ∧
  (∀ (s : State) (m : BitVec 8) (p : Fin 32) (v : BitVec 32), isMC m.toNat = true → vstate s p.val = vpACTIVE → s.val.set = none →
    (s.vport p.val).x = none → bit v.toNat 31 = false →
    ∃ t, exec (.portEnWrite m p v) s = .next t ∧ t.get (VAL_PORT_CFG_EN p.val) = 0 ∧ t.mem = s.mem ∧
      (valOn s = false → vstate t p.val = vpOFF ∧ t.out = s.out) ∧
      (valOn s = true → vstate t p.val = vpACTIVE ∧ t.out = s.out ++ [.valolo p.val false (frameOf 0x05 [2, 0])] ∧
        ∃ x, (t.vport p.val).x = some x ∧ x.kind = xkSLEEP)) ∧
  (∀ (s : State) (m : BitVec 8), isMC m.toNat = true → valOn s = false →
    exec (.wakeAll m) s = .next s ∧ exec (.sleepAll m) s = .next s ∧ exec (.owdGo m) s = .next s) ∧
  (∀ (s : State) (m : BitVec 8), isMC m.toNat = true → valOn s = true →
    (∃ t, exec (.wakeAll m) s = .next t ∧ t.mem = s.mem ∧ (∀ p < 32, vstate t p = (if vstate s p = vpSLEEP then
        (if 7 ≤ s.get (VAL_PORT_CFG_NCELL p) then vpWAKING else if s.flag (VAL_PORT_CFG_EN p) then vpFAULT else vpOFF) else vstate s p)) ∧
      (∀ p < 32, vstate s p ≠ vpSLEEP → t.vport p = s.vport p)) ∧
    (∃ t, exec (.sleepAll m) s = .next t ∧ t.regs = s.regs ∧ t.mem = s.mem ∧ (∀ p < 32, vstate s p ≠ vpACTIVE → t.vport p = s.vport p) ∧
      (∀ p < 32, vstate s p = vpACTIVE → (s.val.set = none ∧ (s.vport p).x = none →
          ∃ x, (t.vport p).x = some x ∧ x.kind = xkSLEEP ∧ .valolo p false (frameOf 0x05 [2, 0]) ∈ t.out) ∧
        (s.val.set ≠ none ∨ (s.vport p).x ≠ none → (t.vport p).sleepGo = true ∧ (t.vport p).x = (s.vport p).x))) ∧
    (∃ t, exec (.owdGo m) s = .next t ∧ t.regs = s.regs ∧ t.mem = s.mem ∧
      (∀ p < 32, (vstate s p ≠ vpACTIVE ∨ bit (s.get VAL_OWD_MASK_PORTS) p = false) → t.vport p = s.vport p) ∧
      (∀ p < 32, vstate s p = vpACTIVE → bit (s.get VAL_OWD_MASK_PORTS) p = true → s.val.set = none → (s.vport p).x = none →
        (s.vport p).sleepGo = false → ∃ x, (t.vport p).x = some x ∧ x.kind = xkOWD ∧ .valolo p false (frameOf 0x05 [1, 0]) ∈ t.out))) ∧
  (∀ (s : State) (m : BitVec 8) (p : Fin 32) (v : BitVec 32), isMC m.toNat = false →
    exec (.wakeAll m) s = .next (s.refuseWrite m.toNat 13 0x10) ∧ exec (.sleepAll m) s = .next (s.refuseWrite m.toNat 13 0x10) ∧
    exec (.owdGo m) s = .next (s.refuseWrite m.toNat 13 0x10) ∧ exec (.portEnWrite m p v) s = .next (s.refuseWrite m.toNat 13 (portReg p.val 0)) ∧
    (valCmdPt s m.toNat = false → exec (.accGo m p v) s = .next (s.refuseWrite m.toNat 13 (portReg p.val 0x18)))) ∧
  (∀ (s : State) (p : Fin 32) (x : Xchg), vstate s p.val = vpWAKING → s.val.set = none → (s.vport p.val).x = some x → x.kind = xkBURST →
    x.endT + 2500000 ≤ s.T →
    ∃ t y, exec (.wakeSequenceStep p) s = .next t ∧ t.out = s.out ++ [.valolo p.val false (frameOf 0x02 [0, 4])] ∧ (t.vport p.val).step = 1 ∧
      (t.vport p.val).x = some y ∧ y.kind = xkWAKE ∧ PortOnly s t p.val []) ∧
  (∀ (s : State) (p : Fin 32) (f : List Byte), vstate s p.val = vpWAKING → s.val.set = none → (s.vport p.val).x = none → (s.vport p.val).stepT ≤ s.T →
    ((s.vport p.val).step = 2 ∧ f = frameOf 0x05 [3, 0]) ∨ ((s.vport p.val).step = 3 ∧ f = frameOf 0x03 ([4, 3] ++ words16 (cfgWords s p.val))) ∨
      ((s.vport p.val).step = 4 ∧ f = frameOf 0x02 [4, 3]) →
    ∃ t y, exec (.wakeSequenceStep p) s = .next t ∧ t.out = s.out ++ [.valolo p.val false f] ∧ (t.vport p.val).x = some y ∧ y.kind = xkWAKE ∧
      (t.vport p.val).step = (s.vport p.val).step ∧ PortOnly s t p.val []) ∧
  (∀ (s : State) (p : Fin 32), vstate s p.val ≠ vpWAKING ∨ s.val.set ≠ none ∨
      (∃ x, (s.vport p.val).x = some x ∧ (x.kind ≠ xkBURST ∨ s.T < x.endT + 2500000)) ∨
      ((s.vport p.val).x = none ∧ (s.vport p.val).step ≠ 0 ∧ s.T < (s.vport p.val).stepT) → exec (.wakeSequenceStep p) s = .next s) ∧
  (∀ (s : State) (p : Fin 32) (x : Xchg) (pl : List Byte) (crc : BitVec 32), (s.vport p.val).x = some x → x.kind = xkWAKE →
    frameValid 0x82 pl crc.toNat true = true → vstate s p.val = vpWAKING → s.flag (VAL_PORT_CFG_EN p.val) = true →
    ((s.vport p.val).step = 1 → pl.length = 10 → s.get (VAL_PORT_EXPID_ID p.val) ≠ 0 → s.get (VAL_PORT_EXPID_ID p.val) ≠ ofLeBytes ((pl.drop 2).take 4) →
      ∃ t, exec (.rdData p pl crc true) s = .next t ∧ vstate t p.val = vpFAULT ∧ t.get (VAL_PORT_STAT_FCODE p.val) = fcID_MISMATCH ∧
        t.get (VAL_PORT_ID_ID p.val) = ofLeBytes ((pl.drop 2).take 4) ∧ t.mem = s.mem) ∧
    ((s.vport p.val).step = 4 → pl.length = 8 → (List.range 3).map (fun i => ofLeBytes ((pl.drop (2 + 2 * i)).take 2)) = cfgWords s p.val →
      ∃ t, exec (.rdData p pl crc true) s = .next t ∧ vstate t p.val = vpACTIVE ∧ t.get (VAL_PORT_STAT_CONSEC_MISS p.val) = 0 ∧
        (t.vport p.val).x = none ∧ PortOnly s t p.val [VAL_PORT_STAT_STATE p.val, VAL_PORT_STAT_CONSEC_MISS p.val, VAL_PORT_STAT_SSTAT p.val])) ∧
  (∀ (s : State) (p : Fin 32) (x : Xchg) (pl : List Byte) (crc : BitVec 32), (s.vport p.val).x = some x → vstate s p.val = vpACTIVE →
    bit (ofLeBytes (pl.take 2)) 15 = false →
    (x.kind = xkSLEEP → (s.vport p.val).off = false → frameValid 0x85 pl crc.toNat true = true →
      ∃ t, exec (.cmdAck p pl crc true) s = .next t ∧ vstate t p.val = vpSLEEP ∧ (t.vport p.val).x = none ∧
        PortOnly s t p.val [VAL_PORT_STAT_STATE p.val, VAL_PORT_STAT_SSTAT p.val, VAL_PORT_ACC_GO_BUSY p.val, VAL_PORT_ACC_ERR p.val]) ∧
    (x.kind = xkACC → s.flag (VAL_PORT_ACC_WRITE p.val) = false → pl.length = 4 → frameValid 0x82 pl crc.toNat true = true →
      ∃ t, exec (.rdData p pl crc true) s = .next t ∧ t.get (VAL_PORT_ACC_GO_BUSY p.val) = 0 ∧ t.get (VAL_PORT_ACC_DONE p.val) = 1 ∧
        t.get (VAL_PORT_ACC_DATA p.val) = ofLeBytes (pl.drop 2) ∧ (t.vport p.val).acc = false ∧
        PortOnly s t p.val [VAL_PORT_STAT_SSTAT p.val, VAL_PORT_STAT_STATE p.val, VAL_PORT_ACC_GO_BUSY p.val, VAL_PORT_ACC_DONE p.val, VAL_PORT_ACC_DATA p.val]) ∧
    (x.kind = xkACC → s.flag (VAL_PORT_ACC_WRITE p.val) = true → frameValid 0x83 pl crc.toNat true = true →
      ∃ t, exec (.wrAck p pl crc true) s = .next t ∧ t.get (VAL_PORT_ACC_GO_BUSY p.val) = 0 ∧ t.get (VAL_PORT_ACC_DONE p.val) = 1 ∧
        (t.vport p.val).acc = false ∧ PortOnly s t p.val [VAL_PORT_STAT_SSTAT p.val, VAL_PORT_STAT_STATE p.val, VAL_PORT_ACC_GO_BUSY p.val, VAL_PORT_ACC_DONE p.val]) ∧
    (x.kind = xkACC → s.flag (VAL_PORT_ACC_GO_BUSY p.val) = true → frameValid 0xFF pl crc.toNat true = true →
      ∃ t, exec (.nak p pl crc true) s = .next t ∧ t.get (VAL_PORT_ACC_GO_BUSY p.val) = 0 ∧ t.get (VAL_PORT_ACC_ERR p.val) = 1 ∧
        (t.vport p.val).acc = false ∧ PortOnly s t p.val [VAL_PORT_STAT_SSTAT p.val, VAL_PORT_STAT_STATE p.val, VAL_PORT_ACC_GO_BUSY p.val, VAL_PORT_ACC_ERR p.val]) ∧
    (x.kind = xkOWRES → pl.length = 6 → bit (ofLeBytes (pl.take 2)) 12 = true → frameValid 0x82 pl crc.toNat true = true →
      ∃ t, exec (.rdData p pl crc true) s = .next t ∧ (t.vport p.val).owdAt = none ∧ t.mem = s.mem ∧
        KeepsFields s t [VAL_PORT_STAT_SSTAT p.val, VAL_PORT_OW_LINES p.val, VAL_PORT_STAT_STATE p.val, VAL_PORT_ACC_GO_BUSY p.val,
          VAL_PORT_ACC_ERR p.val] ∧
        ∀ k < 17, ∀ f : Bool, f = (if k < 16 then bit (ofLeBytes ((pl.drop 2).take 2)) k else bit (ofLeBytes (pl.drop 4)) 0) →
          (t.vport p.val).flagged.get 0 k = (if f then (s.vport p.val).flagged.get 0 k + 1 else 0) ∧
          (t.vport p.val).clear.get 0 k = (if f then 0 else (s.vport p.val).clear.get 0 k + 1) ∧
          bit (t.get (VAL_PORT_OW_LINES p.val)) k = (if f then
              bit (s.get (VAL_PORT_OW_LINES p.val)) k || decide (s.get VAL_LINK_OW_CONFIRM ≤ (s.vport p.val).flagged.get 0 k + 1)
            else bit (s.get (VAL_PORT_OW_LINES p.val)) k && !decide (s.get VAL_LINK_OW_CONFIRM ≤ (s.vport p.val).clear.get 0 k + 1)))) ∧
  (∀ (s : State) (p : Fin 32) (x : Xchg) (pl : List Byte) (crc : BitVec 32), (s.vport p.val).x = some x → x.kind ≠ xkBURST → x.kind ≠ xkWAKE →
    vstate s p.val = vpACTIVE → s.flag (VAL_PORT_CFG_EN p.val) = true → bit (ofLeBytes (pl.take 2)) 15 = true →
    frameValid 0x82 pl crc.toNat true = true →
    ∃ s1, exec (.rdData p pl crc true) s = .next (setCommit s1) ∧ vstate s1 p.val = vpFAULT ∧ s1.get (VAL_PORT_STAT_FCODE p.val) = fcSAT_FAULT ∧
      .irq .val ∈ s1.out) ∧
  (∀ (s : State) (p : Fin 32) (pl : List Byte) (crc : BitVec 32) (cl : Bool), (s.vport p.val).x = none →
    exec (.rdData p pl crc cl) s = .next s ∧ exec (.wrAck p pl crc cl) s = .next s ∧ exec (.cmdAck p pl crc cl) s = .next s ∧
    exec (.nak p pl crc cl) s = .next s ∧ exec (.setData p pl crc cl) s = .next s) ∧
  (∀ (s : State) (m : BitVec 8) (p : Fin 32) (v : BitVec 32), (isMC m.toNat = true ∨ valCmdPt s m.toNat = true) →
    (s.flag (VAL_PORT_ACC_GO_BUSY p.val) = true → bit v.toNat 31 = true → exec (.accGo m p v) s = .next (s.put VAL_STAT_CFG_IGN 1)) ∧
    (s.flag (VAL_PORT_ACC_GO_BUSY p.val) = true → bit v.toNat 31 = false → exec (.accGo m p v) s = .next (accClear s p.val v.toNat)) ∧
    (s.flag (VAL_PORT_ACC_GO_BUSY p.val) = false → 4 ≤ bits v.toNat 16 8 → bits v.toNat 16 8 ≤ 6 →
      exec (.accGo m p v) s = .next (s.put (VAL_PORT_ACC_ERR p.val) 1)) ∧
    (s.flag (VAL_PORT_ACC_GO_BUSY p.val) = false → bit v.toNat 31 = false → bits v.toNat 16 8 < 4 ∨ 6 < bits v.toNat 16 8 →
      ∃ t, exec (.accGo m p v) s = .next t ∧ t.get (VAL_PORT_ACC_ADDR p.val) = bits v.toNat 16 8 ∧ t.get (VAL_PORT_ACC_DATA p.val) = bits v.toNat 0 16 ∧
        t.get (VAL_PORT_ACC_WRITE p.val) = bits v.toNat 30 1 ∧ t.out = s.out ∧ t.val = s.val ∧ t.mem = s.mem) ∧
    (s.flag (VAL_PORT_ACC_GO_BUSY p.val) = false → bit v.toNat 31 = true →
      (vstate s p.val ≠ vpACTIVE → bits v.toNat 16 8 < 4 ∨ 6 < bits v.toNat 16 8 →
        ∃ t, exec (.accGo m p v) s = .next t ∧ t.get (VAL_PORT_ACC_ERR p.val) = 1 ∧ t.out = s.out ∧ t.val = s.val ∧ t.mem = s.mem ∧
          KeepsFields s t [VAL_PORT_ACC_ERR p.val, VAL_PORT_ACC_DONE p.val, VAL_PORT_ACC_WRITE p.val, VAL_PORT_ACC_ADDR p.val, VAL_PORT_ACC_DATA p.val]) ∧
      (bits v.toNat 16 8 < 4 ∨ 6 < bits v.toNat 16 8 → vstate s p.val = vpACTIVE → valOn s = true → s.val.set = none → (s.vport p.val).x = none →
        (s.vport p.val).sleepGo = false → (s.vport p.val).owdGo = false →
        ∃ t, exec (.accGo m p v) s = .next t ∧ t.get (VAL_PORT_ACC_GO_BUSY p.val) = 1 ∧ t.get (VAL_PORT_ACC_ADDR p.val) = bits v.toNat 16 8 ∧
          t.out = s.out ++ [.valolo p.val false (if bit v.toNat 30 then
            frameOf 0x03 ([BitVec.ofNat 8 (bits v.toNat 16 8), 1] ++ leBytes 2 (bits v.toNat 0 16))
            else frameOf 0x02 [BitVec.ofNat 8 (bits v.toNat 16 8), 1])] ∧
          PortOnly s t p.val [VAL_PORT_ACC_GO_BUSY p.val, VAL_PORT_ACC_ERR p.val, VAL_PORT_ACC_DONE p.val, VAL_PORT_ACC_WRITE p.val,
            VAL_PORT_ACC_ADDR p.val, VAL_PORT_ACC_DATA p.val]))) ∧
  (∀ (s : State) (p : Fin 32) (t0 : Nat), (s.vport p.val).owdAt = some t0 → t0 ≤ s.T → (s.vport p.val).x = none → s.val.set = none →
    vstate s p.val = vpACTIVE →
    ∃ t, exec (.owdResultPoll p) s = .next t ∧ t.out = s.out ++ [.valolo p.val false (frameOf 0x02 [8, 2])] ∧ PortOnly s t p.val []) ∧
  (∀ (s : State) (p : Fin 32), (∀ t0, (s.vport p.val).owdAt = some t0 → s.T < t0) ∨ (s.vport p.val).x ≠ none ∨ s.val.set ≠ none ∨
    vstate s p.val ≠ vpACTIVE → exec (.owdResultPoll p) s = .next s) ∧
  (∀ (s : State) (p : Fin 32), valOn s = true → vstate s p.val = vpACTIVE → (s.vport p.val).x = none → s.val.set = none →
    (s.vport p.val).lastT + 500000000 ≤ s.T →
    ∃ t, exec (.keepAlive p) s = .next t ∧ t.out = s.out ++ [.valolo p.val false (frameOf 0x02 [3, 1])] ∧ (t.vport p.val).lastT = s.T ∧
      PortOnly s t p.val []) ∧
  (∀ (s : State) (p : Fin 32), s.T < (s.vport p.val).lastT + 500000000 ∨ valOn s = false ∨ vstate s p.val ≠ vpACTIVE ∨ (s.vport p.val).x ≠ none ∨
    s.val.set ≠ none → exec (.keepAlive p) s = .next s) ∧
  (∀ (s : State) (p : Fin 32), valOn s = true → vstate s p.val = vpFAULT → s.flag VAL_LINK_AUTO_REC = true →
    (s.vport p.val).faultT + 1000000000 ≤ s.T → 7 ≤ s.get (VAL_PORT_CFG_NCELL p.val) →
    ∃ t, exec (.portAutoRecover p) s = .next t ∧ vstate t p.val = vpWAKING ∧ t.get (VAL_PORT_STAT_FCODE p.val) = 0 ∧
      PortOnly s t p.val [VAL_PORT_STAT_STATE p.val, VAL_PORT_STAT_FCODE p.val, VAL_PORT_ACC_GO_BUSY p.val, VAL_PORT_ACC_ERR p.val]) ∧
  (∀ (s : State) (p : Fin 32), s.flag VAL_LINK_AUTO_REC = false ∨ valOn s = false ∨ vstate s p.val ≠ vpFAULT ∨ s.T < (s.vport p.val).faultT + 1000000000 → exec (.portAutoRecover p) s = .next s) ∧
  (∀ (s : State) (p : Fin 32), vstate s p.val = vpACTIVE → s.flag (VAL_PORT_CFG_EN p.val) = false →
    ∃ s1, exec (.lineShort p) s = .next (setCommit s1) ∧ vstate s1 p.val = vpOFF ∧ (s1.vport p.val).x = none ∧ s1.mem = s.mem) ∧
  (∀ (s : State) (p : Fin 32), vstate s p.val = vpACTIVE → s.flag (VAL_PORT_CFG_EN p.val) = true →
    ∃ s1, exec (.lineShort p) s = .next (setCommit s1) ∧ vstate s1 p.val = vpFAULT ∧ s1.get (VAL_PORT_STAT_FCODE p.val) = fcLINE_SHORT ∧
      (s1.vport p.val).x = none ∧ .irq .val ∈ s1.out ∧
      s1.get (VAL_PORT_STAT_CONSEC_MISS p.val) = (if (s.vport p.val).inSet then wrap 8 (satAdd 8 (s.get (VAL_PORT_STAT_CONSEC_MISS p.val)) 1)
        else s.get (VAL_PORT_STAT_CONSEC_MISS p.val)) ∧
      PortOnly s s1 p.val [VAL_PORT_STAT_STATE p.val, VAL_PORT_STAT_FCODE p.val, VAL_PORT_STAT_CONSEC_MISS p.val, VAL_PORT_ACC_GO_BUSY p.val,
        VAL_PORT_ACC_ERR p.val]) ∧
  (∀ (s : State) (p : Fin 32), vstate s p.val ≠ vpACTIVE → exec (.lineShort p) s = .next s)

/-- Sections 10.2, 10.3 and 10.8. The reply and its completion are `reply`; the record's commit is in `SecurityRecordsCommit`. The
order of the checks is the model's reading (log entry 112). -/
def Obligations.SessionsOpenAndClose : Prop :=
  (∀ (s : State) (r : BitVec 15) (sess : BitVec 32) (len : BitVec 16) (pl : List Byte),
    (msgItem s r.toNat = none → exec (.secOpen r sess len pl) s = .next s ∧ exec (.secProve r sess len pl) s = .next s ∧
      exec (.secClose r sess len pl) s = .next s ∧ exec (.getCert r sess len pl) s = .next s) ∧
    (∀ d, msgItem s r.toNat = some d → (len.toNat ≠ pl.length ∨ d.len ≠ 8 + len.toNat →
        exec (.secProve r sess len pl) s = .next (finishItem s r.toNat [d] stFAILED_FORMAT (fun _ => 0))) ∧
      (len.toNat ≠ pl.length ∨ len.toNat ≠ 4 ∨ d.len ≠ 8 + len.toNat →
        exec (.secOpen r sess len pl) s = .next (finishItem s r.toNat [d] stFAILED_FORMAT (fun _ => 0))) ∧
      (len.toNat ≠ pl.length ∨ len.toNat ≠ 0 ∨ d.len ≠ 8 + len.toNat →
        exec (.secClose r sess len pl) s = .next (finishItem s r.toNat [d] stFAILED_FORMAT (fun _ => 0)) ∧
        exec (.getCert r sess len pl) s = .next (finishItem s r.toNat [d] stFAILED_FORMAT (fun _ => 0))))) ∧
  (∀ (s : State) (r : BitVec 15) (sess : BitVec 32) (len : BitVec 16) (kind method slot rsv : Byte) (d : Desc) (n : Nat) (dest : MsgTo)
    (full denied noKey : Bool), MsgAt s r.toNat d len.toNat 4 [kind, method, slot, rsv] → n = ringInst s r.toNat →
    dest = ⟨r.toNat, d.seq, 1, sess.toNat, len.toNat⟩ →
    full = (if kind.toNat = skLEDGER then decide (8 ≤ (s.sec.sessions.filter (fun x => x.kind == skLEDGER)).length) ||
      s.sec.sessions.any (fun x => x.kind == skLEDGER && x.inst == n) else s.sec.sessions.any (fun x => x.kind == kind.toNat)) →
    denied = (kind.toNat == skSAFETY && !s.sec.sessions.any (fun x => x.kind == skWORKSHOP && x.inst == n)) →
    noKey = (if kind.toNat = skSAFETY then s.sec.pw.isNone
      else (slotKey s slot.toNat kind.toNat).isNone && !(kind.toNat == skWORKSHOP && !isProduction s)) →
    ((3 < kind.toNat ∨ method.toNat ≠ b2n (kind.toNat == skSAFETY) ∨ rsv ≠ 0) →
      exec (.secOpen r sess len [kind, method, slot, rsv]) s = .next (reply (startItem s r.toNat [d]) dest rsBAD_FORMAT 0 [])) ∧
    (kind.toNat ≤ 3 → method.toNat = b2n (kind.toNat == skSAFETY) → rsv = 0 →
      (kind.toNat ≠ skLEDGER → n ≠ 0 →
        exec (.secOpen r sess len [kind, method, slot, rsv]) s = .next (reply (startItem s r.toNat [d]) dest rsWRONG_INSTANCE 0 [])) ∧
      ((kind.toNat = skLEDGER ∨ n = 0) → s.flag SEC_STAT_TAMPER_LOCK = true → kind.toNat ≠ skWORKSHOP →
        exec (.secOpen r sess len [kind, method, slot, rsv]) s = .next (reply (startItem s r.toNat [d]) dest rsDENIED 0 [])) ∧
      ((kind.toNat = skLEDGER ∨ n = 0) → (s.flag SEC_STAT_TAMPER_LOCK = false ∨ kind.toNat = skWORKSHOP) →
        (kindLocked s kind.toNat = true → exec (.secOpen r sess len [kind, method, slot, rsv]) s =
          .next (reply (startItem s r.toNat [d]) dest rsLOCKED_OUT (lockRemain s kind.toNat) [])) ∧
        (kindLocked s kind.toNat = false → (full || denied || noKey) = true →
          exec (.secOpen r sess len [kind, method, slot, rsv]) s =
            .next (reply (startItem s r.toNat [d]) dest (if full then rsBUSY else if denied then rsDENIED else rsNO_KEY) 0 [])) ∧
        (kindLocked s kind.toNat = false → (full || denied || noKey) = false →
          ∃ s1 v nonce salt iter, exec (.secOpen r sess len [kind, method, slot, rsv]) s =
              .next (reply s1 dest rsOK 0 (leBytes 4 v ++ leBytes 32 nonce ++ fixBytes 16 Config.deviceId ++ fixBytes 16 salt ++ leBytes 4 iter)) ∧
            v ≠ 0 ∧ v ∉ s.sec.issued ∧ s1.sec.issued = v :: s.sec.issued ∧ s1.sec.sessions = s.sec.sessions ∧
            (kind.toNat = skSAFETY → ∃ k, s.sec.pw = some (salt, iter, k)) ∧ (kind.toNat ≠ skSAFETY → salt = [] ∧ iter = 0) ∧
            s1.sec.chal.get none n = some ⟨kind.toNat, method.toNat, slot.toNat, v, leBytes 32 nonce, s.T + 30000000000⟩ ∧
            (∀ j, j ≠ n → s1.sec.chal.get none j = s.sec.chal.get none j) ∧ s1.regs = s.regs ∧ s1.mem = s.mem ∧ s1.ldg = s.ldg)))) ∧
  (∀ (s : State) (r : BitVec 15) (sess : BitVec 32) (len : BitVec 16) (pl : List Byte) (d : Desc), s.sec.chal.get none (ringInst s r.toNat) = none →
    MsgAt s r.toNat d len.toNat (if len.toNat = 32 then 32 else 64) pl →
    exec (.secProve r sess len pl) s = .next (reply (startItem s r.toNat [d]) ⟨r.toNat, d.seq, 2, sess.toNat, len.toNat⟩ rsEXPIRED 0 [])) ∧
  (∀ (s : State) (r : BitVec 15) (sess : BitVec 32) (len : BitVec 16) (pl : List Byte) (d : Desc) (n : Nat) (c : Chal), n = ringInst s r.toNat →
    s.sec.chal.get none n = some c → MsgAt s r.toNat d len.toNat (if c.method = 1 then 32 else 64) pl →
    (c.expires ≤ s.T ∨ c.value ≠ sess.toNat →
      exec (.secProve r sess len pl) s = .next (reply (startItem s r.toNat [d]) ⟨r.toNat, d.seq, 2, sess.toNat, len.toNat⟩ rsEXPIRED 0 [])) ∧
    (s.T < c.expires → c.value = sess.toNat → ldgOpen s = true →
      (proofOk s c n pl = true →
        ∃ t q, exec (.secProve r sess len pl) s = .next t ∧ t.ldg.queue = s.ldg.queue ++ [q] ∧ q.typ = rtSESSION_OPEN ∧ q.inst = n ∧
          q.after = some { code := afterMSG, args := [r.toNat, d.seq, 2, sess.toNat, len.toNat, n, rsOK, c.kind, c.value] } ∧
          t.get (SEC_LOCK_FAILS c.kind) = 0 ∧ t.sec.chal.get none n = none ∧ t.sec.sessions = s.sec.sessions ∧
          KeepsFields s t [SEC_LOCK_FAILS c.kind] ∧ t.mem = s.mem) ∧
      (proofOk s c n pl = false →
        ∃ t q, exec (.secProve r sess len pl) s = .next t ∧ t.ldg.queue = s.ldg.queue ++ [q] ∧ q.typ = rtSESSION_FAIL ∧ q.inst = n ∧
          q.after = some { code := afterMSG, args := [r.toNat, d.seq, 2, sess.toNat, len.toNat, n, rsDENIED] } ∧
          t.get (SEC_LOCK_FAILS c.kind) = wrap 8 (satAdd 8 (s.get (SEC_LOCK_FAILS c.kind)) 1) ∧
          t.sec.lockT.get 0 c.kind = s.T + lockSeconds (t.get (SEC_LOCK_FAILS c.kind)) * 1000000000 ∧ t.sec.chal.get none n = none ∧
          t.sec.sessions = s.sec.sessions ∧ KeepsFields s t [SEC_LOCK_FAILS c.kind] ∧ t.mem = s.mem))) ∧
  (∀ n : Nat, lockSeconds n = (if n ≤ 3 then 0 else if n = 4 then 60 else if n = 5 then 5 * 60 else if n = 6 then 30 * 60 else if n = 7 then 2 * 3600
    else 8 * 3600)) ∧
  (∀ (s : State) (r : BitVec 15) (sess : BitVec 32) (len : BitVec 16) (d : Desc) (x : Session), MsgAt s r.toNat d len.toNat 0 [] →
    s.sec.sessions.find? (fun y => y.value == sess.toNat && y.inst == ringInst s r.toNat && !expired s y) = some x → ldgOpen s = true →
    ∃ t q l, exec (.secClose r sess len []) s = .next t ∧ (∀ y ∈ t.sec.sessions, y ∈ s.sec.sessions ∧ y.value ≠ sess.toNat) ∧
      (x.kind ≠ skWORKSHOP → ∀ y ∈ s.sec.sessions, y.value ≠ sess.toNat → y ∈ t.sec.sessions) ∧
      (x.kind = skWORKSHOP → t.get SEC_STAT_DEBUG_OPEN = 0 ∧ ∀ y ∈ t.sec.sessions, y.kind = skSAFETY → y.inst ≠ x.inst) ∧
      t.ldg.queue = s.ldg.queue ++ q :: l ∧ q.typ = rtSESSION_CLOSE ∧ q.pl = leBytes 4 sess.toNat ++ [0] ∧ t.mem = s.mem ∧
      KeepsFields s t [SEC_SESS_OPEN, SEC_SESS_LR_COUNT, SEC_STAT_DEBUG_OPEN, LDG_DROPPED_COUNT]) ∧
  (∀ (s : State) (r : BitVec 15) (sess : BitVec 32) (len : BitVec 16) (d : Desc), MsgAt s r.toNat d len.toNat 0 [] →
    (s.sec.sessions.any (fun y => y.value == sess.toNat && y.inst == ringInst s r.toNat && !expired s y) = false →
      exec (.secClose r sess len []) s = .next (reply (startItem s r.toNat [d]) ⟨r.toNat, d.seq, 3, sess.toNat, len.toNat⟩ rsDENIED 0 []))) ∧
  (∀ (s : State) (r : BitVec 15) (sess : BitVec 32) (len : BitVec 16) (d : Desc), MsgAt s r.toNat d len.toNat 0 [] →
    exec (.getCert r sess len []) s = .next (reply (startItem s r.toNat [d]) ⟨r.toNat, d.seq, 4, sess.toNat, len.toNat⟩ rsOK 0
      (leBytes 2 (min 1000 Config.dkCert.length) ++ [0, 0] ++ Config.dkCert.take 1000))) ∧
  (∀ (s : State) (sess : BitVec 32) (x : Session), x ∈ s.sec.sessions → x.value = sess.toNat → expired s x = true → ldgOpen s = true →
    ∃ t q, exec (.sessionIdleTimeout sess) s = .next t ∧ (∀ y ∈ t.sec.sessions, y ∈ s.sec.sessions ∧ y.value ≠ sess.toNat) ∧ q ∈ t.ldg.queue ∧
      q.typ = rtSESSION_CLOSE ∧ q.pl = leBytes 4 sess.toNat ++ [1] ∧ t.mem = s.mem ∧
      KeepsFields s t [SEC_SESS_OPEN, SEC_SESS_LR_COUNT, SEC_STAT_DEBUG_OPEN, LDG_DROPPED_COUNT]) ∧
  (∀ (s : State) (sess : BitVec 32), (∀ x ∈ s.sec.sessions, x.value = sess.toNat → expired s x = false) → exec (.sessionIdleTimeout sess) s = .next s) ∧
  (∀ (s : State) (n : Fin 128) (c : Chal), s.sec.chal.get none n.val = some c →
    (c.expires ≤ s.T → ∃ t, exec (.challengeExpiry n) s = .next t ∧ t.sec.chal.get none n.val = none ∧
      (∀ j, j ≠ n.val → t.sec.chal.get none j = s.sec.chal.get none j) ∧ t.regs = s.regs ∧ t.mem = s.mem ∧ t.sec.sessions = s.sec.sessions) ∧
    (s.T < c.expires → exec (.challengeExpiry n) s = .next s)) ∧
  (∀ (s : State) (k : Fin 4), (kindLocked s k.val = true → exec (.lockoutExpiry k) s = .next s) ∧
    (kindLocked s k.val = false → ∃ t, exec (.lockoutExpiry k) s = .next t ∧ t.regs = s.regs ∧ t.mem = s.mem ∧ t.sec.sessions = s.sec.sessions ∧
      lockRemain t k.val = 0 ∧ ∀ j, j ≠ k.val → t.sec.lockT.get 0 j = s.sec.lockT.get 0 j)) ∧
  (∀ (s : State) (dest : MsgTo) (d : Desc) (res low : Nat) (pl : List Byte),
    (s.ring dest.r).descs.find? (fun e => e.seq == dest.seq && e.done.isNone) = some d →
    (reply s dest res low pl).out = s.out ++ [.dma (ringInst s dest.r) (d.kw 0 + d.kw 1 * 2 ^ 32)
      (leBytes 2 (dest.typ + 0x8000) ++ leBytes 2 (4 + pl.length) ++ leBytes 4 dest.sess ++ leBytes 2 res ++ leBytes 2 low ++ pl)] ∧
    (reply s dest res low pl).regs = s.regs ∧ (reply s dest res low pl).mem = s.mem ∧ (reply s dest res low pl).sec = s.sec ∧
    (reply s dest res low pl).ldg = s.ldg)

/-- Chapter 10 and section 8.7, over `recordMsgs`, which names the constructors keyEnrol, passwordSet, sessCfg, tamperCfg,
tamperRearm, odoCfg, lifecycleAdvance, grantSet, checkpointNow and compatAck. How the password is wrapped in its record is a free
value (log entry 120). -/
def Obligations.SecurityRecordsCommit : Prop :=
  (∀ (s : State) (r : BitVec 15) (sess : BitVec 32) (len : BitVec 16) (pl : List Byte) (d : Desc) (c : Instr) (m : SecAsk),
    (c, m) ∈ recordMsgs s r sess len pl →
    (msgItem s r.toNat = none → exec c s = .next s) ∧
    (msgItem s r.toNat = some d → (len.toNat ≠ pl.length ∨ len.toNat ≠ m.want ∨ d.len ≠ 8 + len.toNat) →
      exec c s = .next (finishItem s r.toNat [d] stFAILED_FORMAT (fun _ => 0))) ∧
    (MsgAt s r.toNat d len.toNat m.want pl → sessionOpen s r.toNat sess.toNat m.gate = false →
      exec c s = .next (finishItem s r.toNat [d] stDENIED_SESSION (fun _ => 0))) ∧
    (MsgAt s r.toNat d len.toNat m.want pl → sessionOpen s r.toNat sess.toNat m.gate = true →
      (m.ok = true → ldgOpen s = true →
        ∃ t, exec c s = .next t ∧ MsgKeeps s t ∧ t.out = s.out ∧ t.ldg.queue = s.ldg.queue ++ [
          ⟨m.rt, m.body, reqSecurity, ringInst s r.toNat, clsSESSION,
            some ⟨afterMSG, [r.toNat, d.seq, m.code, sess.toNat, len.toNat, ringInst s r.toNat, rsOK] ++ m.more⟩⟩]) ∧
      (m.ok = true → ldgOpen s = false →
        ∃ s1, exec c s = .next (reply s1 ⟨r.toNat, d.seq, m.code, sess.toNat, len.toNat⟩ rsLEDGER_FAIL 0 []) ∧ MsgKeeps s s1 ∧ s1.ldg = s.ldg) ∧
      (m.ok = false →
        ∃ s1, exec c s = .next (reply s1 ⟨r.toNat, d.seq, m.code, sess.toNat, len.toNat⟩ m.bad 0 []) ∧ MsgKeeps s s1 ∧ s1.ldg = s.ldg))) ∧
  (∀ (s : State) (r : BitVec 15) (sess : BitVec 32) (len : BitVec 16) (pl : List Byte) (d : Desc), MsgAt s r.toNat d len.toNat 256 pl →
    (sessionOpen s r.toNat sess.toNat skSAFETY = false →
      exec (.psetDeliver r sess len pl) s = .next (finishItem s r.toNat [d] stDENIED_SESSION (fun _ => 0))) ∧
    (sessionOpen s r.toNat sess.toNat skSAFETY = true → psetCheck s (wordsOf 64 pl) = 0 →
      ∃ s1, exec (.psetDeliver r sess len pl) s = .next (reply s1 ⟨r.toNat, d.seq, 0x10, sess.toNat, len.toNat⟩ rsPENDING 0
          (leBytes 4 (psWord (wordsOf 64 pl) 0) ++ leBytes 4 (psWord (wordsOf 64 pl) 63))) ∧ s1.saf.res = 9 ∧ MsgKeeps s s1 ∧
        s1.saf.pend = some (wordsOf 64 pl) ∧ s1.saf.confirmBy = s.T + 60000000000 ∧ s1.saf.pset = s.saf.pset) ∧
    (sessionOpen s r.toNat sess.toNat skSAFETY = true → psetCheck s (wordsOf 64 pl) ≠ 0 →
      ∃ s1, exec (.psetDeliver r sess len pl) s = .next (reply s1 ⟨r.toNat, d.seq, 0x10, sess.toNat, len.toNat⟩
          (if psetCheck s (wordsOf 64 pl) = 6 then rsBUSY else rsBAD_FORMAT) 0
          (leBytes 4 (psWord (wordsOf 64 pl) 0) ++ leBytes 4 (psWord (wordsOf 64 pl) 63))) ∧
        s1.saf = { s.saf with res := psetCheck s (wordsOf 64 pl) } ∧ MsgKeeps s s1)) ∧
  (∀ (s : State) (r : BitVec 15) (sess : BitVec 32) (len : BitVec 16) (pl : List Byte),
    (msgItem s r.toNat = none → exec (.psetDeliver r sess len pl) s = .next s ∧ exec (.psetConfirm r sess len pl) s = .next s ∧
      exec (.debugOpen r sess len pl) s = .next s) ∧
    (∀ d, msgItem s r.toNat = some d → (len.toNat ≠ pl.length ∨ len.toNat ≠ 256 ∨ d.len ≠ 8 + len.toNat →
        exec (.psetDeliver r sess len pl) s = .next (finishItem s r.toNat [d] stFAILED_FORMAT (fun _ => 0))) ∧
      (len.toNat ≠ pl.length ∨ len.toNat ≠ 4 ∨ d.len ≠ 8 + len.toNat →
        exec (.psetConfirm r sess len pl) s = .next (finishItem s r.toNat [d] stFAILED_FORMAT (fun _ => 0))) ∧
      (len.toNat ≠ pl.length ∨ len.toNat ≠ 0 ∨ d.len ≠ 8 + len.toNat →
        exec (.debugOpen r sess len pl) s = .next (finishItem s r.toNat [d] stFAILED_FORMAT (fun _ => 0))))) ∧
  (∀ (s : State) (r : BitVec 15) (sess : BitVec 32) (len : BitVec 16) (pl : List Byte) (d : Desc), MsgAt s r.toNat d len.toNat 4 pl →
    (sessionOpen s r.toNat sess.toNat skSAFETY = false →
      exec (.psetConfirm r sess len pl) s = .next (finishItem s r.toNat [d] stDENIED_SESSION (fun _ => 0))) ∧
    (sessionOpen s r.toNat sess.toNat skSAFETY = true → s.saf.pend = none →
      ∃ s1, exec (.psetConfirm r sess len pl) s = .next (reply s1 ⟨r.toNat, d.seq, 0x11, sess.toNat, len.toNat⟩ rsEXPIRED 0 []) ∧
        s1.saf = s.saf ∧ MsgKeeps s s1)) ∧
  (∀ (s : State) (r : BitVec 15) (sess : BitVec 32) (len : BitVec 16) (pl : List Byte) (d : Desc) (ps : List Nat), MsgAt s r.toNat d len.toNat 4 pl →
    sessionOpen s r.toNat sess.toNat skSAFETY = true → s.saf.pend = some ps →
    (s.T < s.saf.confirmBy → ofLeBytes pl = psWord ps 63 → ldgOpen s = true →
      ∃ t q, exec (.psetConfirm r sess len pl) s = .next t ∧ t.saf.pend = none ∧ t.saf.activate = s.saf.activate ∧ t.saf.pset = s.saf.pset ∧
        t.ldg.queue = s.ldg.queue ++ [q] ∧ q.typ = rtPSET_CHANGE ∧
        q.after = some { code := afterMSG, args := [r.toNat, d.seq, 0x11, sess.toNat, len.toNat, ringInst s r.toNat, rsOK] ++ ps } ∧
        MsgKeeps s t) ∧
    ((s.saf.confirmBy ≤ s.T ∨ ofLeBytes pl ≠ psWord ps 63) →
      ∃ s1, exec (.psetConfirm r sess len pl) s = .next (reply s1 ⟨r.toNat, d.seq, 0x11, sess.toNat, len.toNat⟩ rsEXPIRED 0 []) ∧
        s1.saf = { s.saf with pend := none, res := 7 } ∧ s1.ldg = s.ldg ∧ MsgKeeps s s1)) ∧
  (∀ (s : State) (r : BitVec 15) (sess : BitVec 32) (len : BitVec 16) (d : Desc), MsgAt s r.toNat d len.toNat 0 [] →
    (sessionOpen s r.toNat sess.toNat skWORKSHOP = false →
      exec (.debugOpen r sess len []) s = .next (finishItem s r.toNat [d] stDENIED_SESSION (fun _ => 0))) ∧
    (sessionOpen s r.toNat sess.toNat skWORKSHOP = true → ldgOpen s = true →
      ∃ t q, exec (.debugOpen r sess len []) s = .next t ∧ t.ldg.queue = s.ldg.queue ++ [q] ∧ t.get SEC_STAT_DEBUG_OPEN = s.get SEC_STAT_DEBUG_OPEN ∧
        q.typ = (if isProduction s then rtKEYS_ERASED else rtDEBUG_OPEN) ∧ t.mem = s.mem ∧
        (isProduction s = true → t.sec.kwk = [] ∧ t.get SEC_STAT_KWK_VALID = 0 ∧ ∀ e ∈ t.net.tab, e.2.key = [])) ∧
    (sessionOpen s r.toNat sess.toNat skWORKSHOP = true → ldgOpen s = false →
      ∃ s1, exec (.debugOpen r sess len []) s = .next (reply s1 ⟨r.toNat, d.seq, 0x26, sess.toNat, len.toNat⟩ rsLEDGER_FAIL 0 []) ∧
        s1.get SEC_STAT_DEBUG_OPEN = s.get SEC_STAT_DEBUG_OPEN)) ∧
  (∀ (s : State) (q : LdgReq) (rec : LdgRec) (r seq typ sess len n : Nat) (more : List Nat), s.ldg.busy = some (q, rec) →
    q.after = some { code := afterMSG, args := [r, seq, typ, sess, len, n, rsOK] ++ more } → typ ≠ 0x31 →
    (∃ s1, exec (.ledgerCommitDone false) s = .next (reply s1 ⟨r, seq, typ, sess, len⟩ rsLEDGER_FAIL 0 []) ∧ s1.sec = s.sec ∧
      s1.ldg.recs = s.ldg.recs ∧ s1.ldg.headSeq = s.ldg.headSeq ∧ s1.regs = s.regs ∧ s1.saf.res = (if typ = 0x11 then 8 else s.saf.res)) ∧
    (typ ≠ 2 → ∃ s1 pl, exec (.ledgerCommitDone true) s = .next (reply s1 ⟨r, seq, typ, sess, len⟩ rsOK 0 pl) ∧ s1.ldg.headSeq = rec.seq ∧
      s1.ldg.recs = s.ldg.recs ++ [rec] ∧ s1.mem = s.mem ∧
      (typ = 0x20 → ∀ k m : Nat, more.getD 0 0 = k → more.getD 1 0 = m →
        s1.sec.slots.get (0, []) k = (if m = 0 then (0, []) else (m, bytesOf (more.drop 4)))) ∧
      (typ = 0x22 → s1.get SEC_SESS_IDLE_MIN = wrap 8 (more.getD 0 0)) ∧
      (typ = 0x23 → s1.get SEC_TAMPER_CFG_EN = bits (more.getD 0 0) 24 8 ∧ s1.get SEC_TAMPER_CFG_POL = bits (more.getD 0 0) 16 4 ∧
        s1.get SEC_TAMPER_CFG_RESP = bits (more.getD 0 0) 0 16) ∧
      (typ = 0x24 → s1.get SEC_TAMPER_SEEN = wrap 8 (s.get SEC_TAMPER_LIVE) ∧ s1.get SEC_STAT_TAMPER_LOCK = 0) ∧
      (typ = 0x25 → s1.sec.odo.cfg = some (odoOf (bytesOf more)) ∧ s1.sec.odo.fresh = true ∧ s1.sec.odo.totA = s.sec.odo.totA) ∧
      (typ = 0x26 → s.sec.sessions.any (fun x => x.kind == skWORKSHOP && x.value == sess) = true → s1.get SEC_STAT_DEBUG_OPEN = 1) ∧
      (typ = 0x27 → s1.get SEC_STAT_LIFECYCLE = 1) ∧
      (typ = 0x28 → s1.get SEC_ODO_STAT_GRANT_VALID = b2n (more.getD 0 0 != 0) ∧ s1.get SEC_ODO_STAT_GRANT_INST = wrap 7 (more.getD 0 0) ∧
        s1.get INS_MOTION_VALID = b2n (more.getD 0 0 != 0) ∧ s1.get INS_MOTION_RING_VALID = 0) ∧
      (typ = 0x29 → pl = leBytes 8 rec.seq) ∧ (typ = 0x30 → s1.get BOOT_STAGE_ACKED = 1) ∧
      (typ = 0x11 → s1.saf.activate = some more ∧ s1.saf.pset = s.saf.pset)) ∧
    (∀ kind value, typ = 2 → more = [kind, value] → kind ≠ skLEDGER → s.sec.sessions.any (fun x => x.kind == kind) = false →
      ∃ s1, exec (.ledgerCommitDone true) s = .next (reply s1 ⟨r, seq, typ, sess, len⟩ rsOK 0 (leBytes 4 (s.get SEC_SESS_IDLE_MIN * 60))) ∧
        s1.sec.sessions = s.sec.sessions ++ [{ kind := kind, inst := n, value := value, t := s.T }] ∧ (kind ≤ 3 → bit (s1.get SEC_SESS_OPEN) kind = true)))

/-- Sections 10.4 to 10.6. -/
def Obligations.LedgerCommitsAndPrunes : Prop :=
  (∀ (s : State) (q : LdgReq) (l : List LdgReq), s.ldg.queue = q :: l → s.ldg.busy = none → s.flag LDG_STAT_FLASH_OK = true → slotFree s.ldg = true →
    (s.ldg.headSeq - s.ldg.ckpt < 255 ∨ q.typ = rtCHECKPOINT → ∃ t rec l', exec .ledgerCommitStart s = .next t ∧ t.ldg.busy = some (q, rec) ∧
      t.ldg.queue = l ++ l' ∧ rec.seq = s.ldg.headSeq + 1 ∧ rec.slot = s.ldg.slot ∧ rec.typ = q.typ ∧ rec.hdr.length = 64 ∧
      rec.hdr.drop 32 = fixBytes 32 s.ldg.headHash ∧ (q.typ ≠ rtCHECKPOINT → rec.pl = q.pl) ∧ t.ldg.recs = s.ldg.recs ∧
      t.ldg.headSeq = s.ldg.headSeq ∧ t.regs = s.regs ∧ t.mem = s.mem) ∧
    (255 ≤ s.ldg.headSeq - s.ldg.ckpt → q.typ ≠ rtCHECKPOINT → ∃ t p rec l', exec .ledgerCommitStart s = .next t ∧ t.ldg.busy = some (p, rec) ∧
      p.typ = rtCHECKPOINT ∧ rec.seq = s.ldg.headSeq + 1 ∧ rec.pl.length = 80 ∧ t.ldg.queue = s.ldg.queue ++ l' ∧ t.regs = s.regs ∧ t.mem = s.mem)) ∧
  (∀ s : State, s.ldg.queue = [] → s.ldg.headSeq - s.ldg.ckpt < 255 → exec .ledgerCommitStart s = .next s) ∧
  (∀ s : State, s.ldg.busy.isSome = true ∨ s.flag LDG_STAT_FLASH_OK = false ∨ slotFree s.ldg = false → exec .ledgerCommitStart s = .next s) ∧
  (∀ (s : State) (q : LdgReq) (rec : LdgRec), s.ldg.busy = some (q, rec) → q.after = none →
    (∃ t, exec (.ledgerCommitDone true) s = .next t ∧ t.ldg.busy = none ∧ t.ldg.recs = s.ldg.recs ++ [rec] ∧ t.ldg.headSeq = rec.seq ∧
      t.ldg.headHash = recHash rec.hdr rec.pl ∧ t.ldg.slot = nextSlot rec.slot ∧ t.ldg.queue = s.ldg.queue ∧
      t.ldg.ckpt = (if rec.typ = rtCHECKPOINT then rec.seq else s.ldg.ckpt) ∧ t.get LDG_HEAD_LO_SEQ = wrap 32 rec.seq ∧ t.sec = s.sec ∧ t.mem = s.mem) ∧
    (∃ t, exec (.ledgerCommitDone false) s = .next t ∧ t.ldg.busy = none ∧ t.ldg.recs = s.ldg.recs ∧ t.ldg.headSeq = s.ldg.headSeq ∧
      t.ldg.slot = nextSlot rec.slot ∧ t.ldg.queue = s.ldg.queue ∧ t.regs = s.regs ∧ t.mem = s.mem)) ∧
  (∀ (s : State) (ok : Bool), s.ldg.busy = none → exec (.ledgerCommitDone ok) s = .next s) ∧
  (∀ (s : State) (r : LdgRec) (l : List LdgRec) (last : Nat), s.ldg.recs = r :: l → freeBlocks s.ldg < 2 →
    s.ldg.queue.any (fun q => (q.after.map (·.code)) == some afterPRUNE) = false →
    last = (s.ldg.recs.filter (fun x => x.slot / 128 == r.slot / 128)).foldl (fun a x => max a x.seq) 0 →
    (s.ldg.ckpt ≤ last → exec .ledgerPrune s = .next (s.put LDG_STAT_PRUNE_BLOCKED 1)) ∧
    (last < s.ldg.ckpt → ∃ t c p, exec .ledgerPrune s = .next t ∧ t.ldg.queue = c ++ p :: s.ldg.queue ∧ p.typ = rtCHECKPOINT ∧
      p.after = some { code := afterPRUNE, args := [r.slot / 128] } ∧ (∀ q ∈ c, q.typ = rtSTATE_CARRY) ∧
      c.length = (carries s.ldg (r.slot / 128)).length ∧ t.ldg.recs = s.ldg.recs ∧ t.regs = s.regs ∧ t.mem = s.mem)) ∧
  (∀ s : State, 2 ≤ freeBlocks s.ldg ∨ s.ldg.recs = [] ∨
    s.ldg.queue.any (fun q => (q.after.map (·.code)) == some afterPRUNE) = true → exec .ledgerPrune s = .next s) ∧
  (∀ (s : State) (q : LdgReq) (rec : LdgRec) (b : Nat), s.ldg.busy = some (q, rec) → q.after = some { code := afterPRUNE, args := [b] } →
    (s.ldg.recs ++ [rec]).any (fun x => x.slot / 128 == b) = true →
    ∃ t p, exec (.ledgerCommitDone true) s = .next t ∧ t.ldg.recs = (s.ldg.recs ++ [rec]).filter (fun x => x.slot / 128 != b) ∧
      t.ldg.queue = p :: s.ldg.queue ∧ p.typ = rtPRUNED ∧ t.mem = s.mem) ∧
  (∀ (s : State) (r : BitVec 15) (d : Desc), nextItem s r.toNat rkLEDGER = some [d] →
    (slotImages s (d.kw 0 + d.kw 1 * 2 ^ 32) (d.kw 2) = none →
      exec (.ledgerRead r) s = .next (finishItem s r.toNat [d] stFAILED_FORMAT (fun _ => 0))) ∧
    (∀ b, slotImages s (d.kw 0 + d.kw 1 * 2 ^ 32) (d.kw 2) = some b → sessionOpen s r.toNat (d.kw 3) skLEDGER = false →
      exec (.ledgerRead r) s = .next (finishItem s r.toNat [d] stDENIED_SESSION (fun _ => 0))) ∧
    (∀ b, slotImages s (d.kw 0 + d.kw 1 * 2 ^ 32) (d.kw 2) = some b → sessionOpen s r.toNat (d.kw 3) skLEDGER = true →
      ∃ t, exec (.ledgerRead r) s = .next t ∧ t.out = s.out ++ [.dma (ringInst s r.toNat) d.addr b] ∧ t.ldg = s.ldg ∧ t.mem = s.mem ∧
        KeepsFields s t [SEC_SESS_OPEN, SEC_SESS_LR_COUNT])) ∧
  (∀ (s : State) (r : BitVec 15), nextItem s r.toNat rkLEDGER = none → exec (.ledgerRead r) s = .next s) ∧
  (∀ (s : State) (m : BitVec 8), (isMC m.toNat = true ∨ m = 0x80 →
      ∃ t, exec (.ldgHeadLoRead m) s = .next t ∧ t.resp = s.get LDG_HEAD_LO_SEQ ∧ t.regs = s.regs ∧ t.mem = s.mem ∧
        t.shadow? m.toNat (blockBase 15 0 + 0xC) = some (s.get LDG_HEAD_HI_SEQ) ∧
        ∀ i < 8, t.shadow? m.toNat (blockBase 15 0 + 0x20 + 4 * i) = some (s.get (LDG_HEAD_HASH_HASH i))) ∧
    (isMC m.toNat = false → m ≠ 0x80 → exec (.ldgHeadLoRead m) s = .next (s.refuseRead m.toNat 15 8)))

/-- Sections 10.7, 10.8 and 1.7. The tick counter at a sample is a free value of its row (the model's choice, log entry 200). -/
def Obligations.TamperAndMotionEvidence : Prop :=
  (∀ (s : State) (j : Fin 8), bit (s.get SEC_TAMPER_CFG_EN) j.val = true →
    ∃ t, exec (.tamperEvent j) s = .next t ∧ bit (t.get SEC_TAMPER_LIVE) j.val = true ∧ bit (t.get SEC_TAMPER_SEEN) j.val = true ∧ t.mem = s.mem ∧
      (respLOCK ≤ tamperResp s j.val → t.sec.sessions = [] ∧ t.get SEC_STAT_TAMPER_LOCK = 1) ∧
      (tamperResp s j.val = respERASE → t.sec.kwk = [] ∧ t.get SEC_STAT_KWK_VALID = 0 ∧ ∀ e ∈ t.net.tab, e.2.key = []) ∧
      (tamperResp s j.val = respLOG → t.sec = s.sec ∧ t.net = s.net ∧ KeepsFields s t [SEC_TAMPER_LIVE, SEC_TAMPER_SEEN, LDG_DROPPED_COUNT]) ∧
      ((j.val = 5 ∨ j.val = 6) → respLOCK ≤ tamperResp s j.val)) ∧
  (∀ (s : State) (j : Fin 8) (k : BitVec 48), bit (s.get SEC_TAMPER_CFG_EN) j.val = false →
    exec (.tamperEvent j) s = .next s ∧ exec (.tamperSampleParked j k) s = .next s) ∧
  (∀ (s : State) (j : Fin 8) (k : BitVec 48), s.aon.parked = false → exec (.tamperSampleParked j k) s = .next s) ∧
  (∀ (s : State) (j : Fin 8) (k : BitVec 48), bit (s.get SEC_TAMPER_CFG_EN) j.val = true → s.aon.parked = true →
    ∃ t, exec (.tamperSampleParked j k) s = .next t ∧ t.mem = s.mem ∧ KeepsFields s t [SEC_STAT_KWK_VALID] ∧
      t.sec.parked = (if s.sec.parked.length < 16 then s.sec.parked ++ [(j.val, satAdd 48 s.aon.ticks k.toNat, tamperResp s j.val)] else s.sec.parked) ∧
      t.aon.ticks = satAdd 48 s.aon.ticks k.toNat ∧ t.aon.storedT = s.aon.storedT ∧
      t.sec.overflow = (if s.sec.parked.length < 16 then s.sec.overflow else satAdd 16 s.sec.overflow 1) ∧
      (tamperResp s j.val = respERASE → t.sec.kwk = [] ∧ t.get SEC_STAT_KWK_VALID = 0) ∧
      (tamperResp s j.val ≠ respERASE → t.sec.kwk = s.sec.kwk ∧ t.get SEC_STAT_KWK_VALID = s.get SEC_STAT_KWK_VALID)) ∧
  (∀ (s : State) (j : Fin 8), ∃ t, exec (.tamperSourceReturn j) s = .next t ∧ bit (t.get SEC_TAMPER_LIVE) j.val = false ∧
    (∀ i < 8, i ≠ j.val → bit (t.get SEC_TAMPER_LIVE) i = bit (s.get SEC_TAMPER_LIVE) i) ∧ KeepsFields s t [SEC_TAMPER_LIVE] ∧ t.sec = s.sec ∧ t.mem = s.mem) ∧
  (∀ (s : State) (c : OdoCfg), s.sec.odo.cfg = some c → c.srcA < 8 → 1 ≤ c.win →
    0 ≤ (odoCapture s).sec.odo.remA ∧ (odoCapture s).sec.odo.remA < 2 ^ 32 ∧
    (odoCapture s).sec.odo.mseq = s.sec.odo.mseq + 1 ∧ (odoCapture s).sec.odo.recs.length = s.sec.odo.recs.length + 1 ∧
    (odoCapture s).get SEC_MSEQ_LO_VALUE = wrap 32 (s.sec.odo.mseq + 1) ∧ s.sec.odo.totA ≤ (odoCapture s).sec.odo.totA ∧
    s.sec.odo.totB ≤ (odoCapture s).sec.odo.totB ∧ (odoCapture s).mem = s.mem ∧
    (0 ≤ s.sec.odo.remA → s.sec.odo.remA < 2 ^ 32 → srcState s c.srcA ≠ srcTRACKING → srcState s c.srcA ≠ srcFOLLOWING →
      (odoCapture s).sec.odo.totA = s.sec.odo.totA ∧ (odoCapture s).get SEC_ODO_STAT_A_INVALID = 1 ∧ (odoCapture s).get SEC_ODO_STAT_DISAGREE = 1) ∧
    (odoCapture s).get SEC_ODO_CNT_DISAGREE_CNT =
      (if s.flag SEC_ODO_STAT_DISAGREE = false ∧ (odoCapture s).get SEC_ODO_STAT_DISAGREE = 1
        then wrap 16 (satAdd 16 (s.get SEC_ODO_CNT_DISAGREE_CNT) 1) else s.get SEC_ODO_CNT_DISAGREE_CNT)) ∧
  (∀ (s : State) (b : List Byte) (l : List (List Byte)), s.sec.odo.recs = b :: l →
    (s.flag INS_MOTION_VALID = false ∨ s.flag INS_MOTION_RING_VALID = false ∨ nextItem s (s.get INS_MOTION_RING_RING) rkTELEMETRY = none →
      ∃ t, exec .motionRecordDelivery s = .next t ∧ t.sec.odo.recs = l ∧ t.sec.odo.mseq = s.sec.odo.mseq ∧
        t.get SEC_ODO_CNT_REC_DROPPED = wrap 16 (satAdd 16 (s.get SEC_ODO_CNT_REC_DROPPED) 1) ∧ KeepsFields s t [SEC_ODO_CNT_REC_DROPPED] ∧
        t.out = s.out ∧ t.mem = s.mem) ∧
    (∀ d, s.flag INS_MOTION_VALID = true → s.flag INS_MOTION_RING_VALID = true → nextItem s (s.get INS_MOTION_RING_RING) rkTELEMETRY = some [d] →
      ∃ t, exec .motionRecordDelivery s = .next t ∧ t.sec.odo.recs = l ∧ t.regs = s.regs ∧ t.mem = s.mem ∧
        t.out = s.out ++ [.dma (ringInst s (s.get INS_MOTION_RING_RING)) d.addr b])) ∧
  (∀ s : State, s.sec.odo.recs = [] → exec .motionRecordDelivery s = .next s)

/-- Section 11.2 and the TAG registers. -/
def Obligations.TagWritesAndZeroFill : Prop :=
  (∀ (s : State) (m : BitVec 8) (v : BitVec 32) (sec : Bool) (i : Nat), isMC m.toNat = true → i = s.get MEM_SP_IDX_INDEX →
    (s.memSt.filled = true → i < 5120 → tagMayChange (s.get (MEM_SP_TAG_TAG i)) (wrap 8 v.toNat) m.toNat sec = true →
      ∃ t, exec (.spTagWrite m v sec) s = .next t ∧ t.get (MEM_SP_TAG_TAG i) = wrap 8 v.toNat ∧
        t.get MEM_SP_IDX_INDEX = (if s.flag MEM_SP_IDX_AUTOINC then (if i = 5119 then 0 else i + 1) else i) ∧
        KeepsFields s t [MEM_SP_TAG_TAG i, MEM_SP_IDX_INDEX] ∧
        (∀ a, t.byte a = if wrap 8 v.toNat = 0xFF ∧ 4096 * i ≤ a ∧ a < 4096 * i + 4096 then 0 else s.byte a)) ∧
    ((s.memSt.filled = false ∨ 5120 ≤ i ∨ tagMayChange (s.get (MEM_SP_TAG_TAG i)) (wrap 8 v.toNat) m.toNat sec = false) →
      exec (.spTagWrite m v sec) s = .next (s.put MEM_STAT_CFG_IGN 1))) ∧
  (∀ (s : State) (m : BitVec 8) (v : BitVec 32) (sec : Bool) (i : Nat), isMC m.toNat = true → i = s.get MEM_DR_IDX_INDEX →
    (i < regionsOf s → i < 7680 → tagMayChange (s.get (MEM_DR_TAG_TAG i)) (wrap 8 v.toNat) m.toNat sec = true →
      ∃ t, exec (.drTagWrite m v sec) s = .next t ∧ t.get (MEM_DR_TAG_TAG i) = wrap 8 v.toNat ∧
        t.get MEM_DR_IDX_INDEX = (if s.flag MEM_DR_IDX_AUTOINC then (if i + 1 = regionsOf s then 0 else i + 1) else i) ∧
        KeepsFields s t [MEM_DR_TAG_TAG i, MEM_DR_IDX_INDEX] ∧ t.mem = s.mem) ∧
    ((regionsOf s ≤ i ∨ tagMayChange (s.get (MEM_DR_TAG_TAG i)) (wrap 8 v.toNat) m.toNat sec = false) →
      exec (.drTagWrite m v sec) s = .next (s.put MEM_STAT_CFG_IGN 1))) ∧
  (∀ (old new : Nat) (m : BitVec 8) (sec : Bool), tagMayChange old new m.toNat sec =
    ((decide (old ≠ 0xA1) && decide (new ≠ 0xA1)) || (sec && m == 0x01))) ∧
  (∀ s : State, ∃ t, exec .stockpotZeroFillDone s = .next t ∧ t.memSt.filled = true ∧ t.regs = s.regs ∧
    (∀ a, t.byte a = if a < 0x1400000 then 0 else s.byte a)) ∧
  (∀ (s : State) (m : BitVec 8) (v : BitVec 32) (sec : Bool), isMC m.toNat = false →
    exec (.spTagWrite m v sec) s = .next (s.refuseWrite m.toNat 5 0x08) ∧ exec (.drTagWrite m v sec) s = .next (s.refuseWrite m.toNat 5 0x10))

/-- Sections 11.3, 11.8 and 11.9. -/
def Obligations.DramControllerStates : Prop :=
  (∀ (s : State) (m : BitVec 8) (v : BitVec 32), isMC m.toNat = true →
    (bit v.toNat 0 = true → exec (.memErrPop m v) s = .next { s with memSt := { s.memSt with err := s.memSt.err.tail } }) ∧
    (bit v.toNat 0 = true → exec (.memRstPop m v) s = .next { s with memSt := { s.memSt with rst := s.memSt.rst.tail } }) ∧
    (bit v.toNat 0 = false → exec (.memErrPop m v) s = .next s ∧ exec (.memRstPop m v) s = .next s)) ∧
  (∀ (s : State) (m : BitVec 8) (v : BitVec 32), isMC m.toNat = false → exec (.memErrPop m v) s = .next (s.refuseWrite m.toNat 5 0x28) ∧
    exec (.memRstPop m v) s = .next (s.refuseWrite m.toNat 5 0x38) ∧ exec (.drmInit m) s = .next (s.refuseWrite m.toNat 6 4) ∧
    exec (.srEnter m) s = .next (s.refuseWrite m.toNat 6 4) ∧ exec (.srExit m) s = .next (s.refuseWrite m.toNat 6 4)) ∧
  (∀ (s : State) (m : BitVec 8), isMC m.toNat = true → s.get DRM_STAT_STATE = stOFF →
    ∃ t, exec (.drmInit m) s = .next t ∧ t.get DRM_STAT_STATE = stINIT ∧ t.get DRM_SIZE_U0 = wrap 16 (usableMib s) ∧
      t.get DRM_SIZE_U1 = wrap 16 (usableMib s) ∧ KeepsFields s t [DRM_STAT_STATE, DRM_SIZE_U0, DRM_SIZE_U1] ∧ t.mem = s.mem) ∧
  (∀ (s : State) (m : BitVec 8), isMC m.toNat = true → (s.get DRM_STAT_STATE ≠ stOFF → exec (.drmInit m) s = .next s) ∧
    (s.get DRM_STAT_STATE ≠ stREADY → exec (.srEnter m) s = .next s) ∧ (s.get DRM_STAT_STATE ≠ stSELF_REFRESH → exec (.srExit m) s = .next s)) ∧
  (∀ (s : State) (m : BitVec 8), isMC m.toNat = true → s.get DRM_STAT_STATE = stREADY →
    ∃ t, exec (.srEnter m) s = .next t ∧ t.get DRM_STAT_STATE = stSELF_REFRESH ∧ KeepsFields s t [DRM_STAT_STATE] ∧ t.mem = s.mem) ∧
  (∀ (s : State) (m : BitVec 8), isMC m.toNat = true → s.get DRM_STAT_STATE = stSELF_REFRESH →
    ∃ t, exec (.srExit m) s = .next t ∧ t.get DRM_STAT_STATE = stREADY ∧ KeepsFields s t [DRM_STAT_STATE] ∧ t.mem = s.mem) ∧
  (∀ (s : State) (z : Bool) (f : BitVec 2), (s.get DRM_STAT_STATE = stINIT ∨ s.get DRM_STAT_STATE = stZEROFILL) → f ≠ 0 →
    ∃ t, exec (.drmInitDone z f) s = .next t ∧ t.get DRM_STAT_STATE = stFAILED ∧ t.get DRM_STAT_FAIL_CH = f.toNat ∧
      KeepsFields s t [DRM_STAT_STATE, DRM_STAT_FAIL_CH] ∧ t.mem = s.mem) ∧
  (∀ s : State, (s.get DRM_STAT_STATE = stINIT ∨ s.get DRM_STAT_STATE = stZEROFILL) →
    (∃ t, exec (.drmInitDone false 0) s = .next t ∧ t.get DRM_STAT_STATE = stZEROFILL ∧ KeepsFields s t [DRM_STAT_STATE] ∧ t.mem = s.mem) ∧
    ∃ t, exec (.drmInitDone true 0) s = .next t ∧ t.get DRM_STAT_STATE = stREADY ∧ t.memSt.poison = [] ∧
      KeepsFields s t [DRM_STAT_STATE] ∧
      (∀ a, t.byte a = if dramBase ≤ a ∧ a < dramBase + dramSize s then 0 else s.byte a)) ∧
  (∀ (s : State) (z : Bool) (f : BitVec 2), s.get DRM_STAT_STATE ≠ stINIT → s.get DRM_STAT_STATE ≠ stZEROFILL →
    exec (.drmInitDone z f) s = .next s)

/-- Sections 11.6 and 11.7. -/
def Obligations.TrainingWaitsForRefresh : Prop :=
  (∀ (s : State) (m : BitVec 8) (c : Fin 2) (v : BitVec 32) (ok : Bool), isMC m.toNat = true →
    ok = (!s.flag DRM_CFG_CHSEL || bits v.toNat 31 1 == nextMode s (1 - c.val)) →
    ∃ t, exec (.trainModeWrite m c v) s = .next t ∧ (t.drmCh c.val).mode = (if ok then some (bits v.toNat 31 1) else (s.drmCh c.val).mode) ∧
      t.get (DRM_CH_TRAIN_MODE c.val) = s.get (DRM_CH_TRAIN_MODE c.val) ∧
      t.get DRM_STAT_CFG_IGN = (if ok then s.get DRM_STAT_CFG_IGN else 1) ∧
      t.get (DRM_CH_TRAIN_INTV c.val) = (if 64 ≤ bits v.toNat 16 10 ∧ bits v.toNat 16 10 ≤ 1000 then bits v.toNat 16 10
        else s.get (DRM_CH_TRAIN_INTV c.val)) ∧
      t.get (DRM_CH_TRAIN_DRIFT_LIM c.val) = (if bits v.toNat 8 8 = 0 then s.get (DRM_CH_TRAIN_DRIFT_LIM c.val) else bits v.toNat 8 8) ∧
      (t.drmCh c.val).retrain = ((s.drmCh c.val).retrain || bit v.toNat 30) ∧
      KeepsFields s t [DRM_STAT_CFG_IGN, DRM_CH_TRAIN_INTV c.val, DRM_CH_TRAIN_DRIFT_LIM c.val] ∧ t.mem = s.mem) ∧
  (∀ (s : State) (m : BitVec 8) (c : Fin 2), isMC m.toNat = true →
    ∃ t, exec (.retrain m c) s = .next t ∧ (t.drmCh c.val).retrain = true ∧ t.regs = s.regs ∧ t.mem = s.mem) ∧
  (∀ (s : State) (m : BitVec 8) (c : Fin 2) (k : Fin 8) (v : BitVec 32), isMC m.toNat = true →
    (s.flag (DRM_CH_TRAIN_MODE c.val) = true →
      ∃ t, exec (.dlyWrite m c k v) s = .next t ∧ (t.drmCh c.val).dly.get 0 k.val = wrap 10 v.toNat ∧ t.regs = s.regs ∧ t.mem = s.mem) ∧
    (s.flag (DRM_CH_TRAIN_MODE c.val) = false → exec (.dlyWrite m c k v) s = .next s)) ∧
  (∀ (s : State) (m : BitVec 8) (c : Fin 2) (k : Fin 8) (v : BitVec 32), isMC m.toNat = false →
    exec (.trainModeWrite m c v) s = .next (s.refuseWrite m.toNat 6 (0x100 + 0x100 * c.val)) ∧
    exec (.retrain m c) s = .next (s.refuseWrite m.toNat 6 (0x100 + 0x100 * c.val)) ∧
    exec (.dlyWrite m c k v) s = .next (s.refuseWrite m.toNat 6 (0x100 + 0x100 * c.val + 0x20 + 4 * k.val))) ∧
  (∀ (s : State) (c : Fin 2) (busy : Bool), s.get DRM_STAT_STATE = stREADY → (busy = false ∨ 8 ≤ (s.drmCh c.val).owed) →
    ∃ t, exec (.refreshDue c busy) s = .next t ∧ (t.drmCh c.val).owed = 0 ∧ (t.drmCh c.val).mode = none ∧ (t.drmCh c.val).dly = [] ∧ t.mem = s.mem ∧
      (∀ x, (s.drmCh c.val).mode = some x → t.get (DRM_CH_TRAIN_MODE c.val) = wrap 1 x) ∧
      ((s.drmCh c.val).mode = none → t.get (DRM_CH_TRAIN_MODE c.val) = s.get (DRM_CH_TRAIN_MODE c.val)) ∧
      ((s.drmCh c.val).dly = [] → KeepsFields s t [DRM_CH_TRAIN_MODE c.val]) ∧
      (∀ k x, k < 8 → (s.drmCh c.val).dly = [(k, x)] → t.get (DRM_CH_DLY_DELAY c.val k) = wrap 10 x ∧
        KeepsFields s t [DRM_CH_TRAIN_MODE c.val, DRM_CH_DLY_DELAY c.val k])) ∧
  (∀ (s : State) (c : Fin 2), s.get DRM_STAT_STATE = stREADY → (s.drmCh c.val).owed < 8 →
    ∃ t, exec (.refreshDue c true) s = .next t ∧ (t.drmCh c.val).owed = (s.drmCh c.val).owed + 1 ∧
      t.get (DRM_CH_STAT_OWED_MAX c.val) = wrap 4 (max (s.get (DRM_CH_STAT_OWED_MAX c.val)) ((s.drmCh c.val).owed + 1)) ∧
      KeepsFields s t [DRM_CH_STAT_OWED_MAX c.val] ∧ t.mem = s.mem) ∧
  (∀ (s : State) (c : Fin 2) (len : Nat) (delays : List Nat) (rt rf : Bool) (due : Bool),
    due = ((s.drmCh c.val).retrain || (!s.flag (DRM_CH_TRAIN_MODE c.val) &&
      decide ((s.drmCh c.val).pauseT + s.get (DRM_CH_TRAIN_INTV c.val) * 1000000 ≤ s.T))) →
    (s.get DRM_STAT_STATE = stREADY → len ≤ 2000 → (s.drmCh c.val).owed = 0 → due = true →
      ∃ t, exec (.driftPause c len false false delays) s = .next t ∧ (t.drmCh c.val).retrain = false ∧ (t.drmCh c.val).pauseT = s.T ∧
        t.get (DRM_CH_PAUSE_COUNT c.val) = wrap 16 (satAdd 16 (s.get (DRM_CH_PAUSE_COUNT c.val)) 1) ∧
        t.get (DRM_CH_PAUSE_MAX_NS c.val) = wrap 16 (max (s.get (DRM_CH_PAUSE_MAX_NS c.val)) len) ∧
        (∀ k < 8, t.get (DRM_CH_DLY_DELAY c.val k) = (if k < delays.length then wrap 10 (delays.getD k 0) else s.get (DRM_CH_DLY_DELAY c.val k))) ∧
        KeepsFields s t ([DRM_CH_PAUSE_COUNT c.val, DRM_CH_PAUSE_MAX_NS c.val] ++ (List.range 8).map (DRM_CH_DLY_DELAY c.val)) ∧ t.mem = s.mem) ∧
    ((s.get DRM_STAT_STATE ≠ stREADY ∨ 2000 < len ∨ (s.drmCh c.val).owed ≠ 0 ∨ due = false ∨ rt = true ∨ rf = true) →
      exec (.driftPause c len rt rf delays) s = .next s)) ∧
  (∀ (s : State) (c : Fin 2) (ps : Nat), s.get DRM_STAT_STATE = stREADY → s.flag (DRM_CH_TRAIN_MODE c.val) = true →
    (s.drmCh c.val).senseT + 64000000 ≤ s.T →
    ∃ t, exec (.driftSense c ps) s = .next t ∧
      t.get (DRM_CH_STAT_DRIFT_WARN c.val) = (if s.get (DRM_CH_TRAIN_DRIFT_LIM c.val) < ps then 1 else s.get (DRM_CH_STAT_DRIFT_WARN c.val)) ∧
      t.out = (if s.get (DRM_CH_TRAIN_DRIFT_LIM c.val) < ps then s.out ++ [.irq .mem] else s.out) ∧
      KeepsFields s t [DRM_CH_STAT_DRIFT_WARN c.val] ∧ t.mem = s.mem) ∧
  (∀ (s : State) (c : Fin 2) (ps : Nat) (busy : Bool), (s.get DRM_STAT_STATE ≠ stREADY → exec (.refreshDue c busy) s = .next s) ∧
    (s.get DRM_STAT_STATE ≠ stREADY ∨ s.flag (DRM_CH_TRAIN_MODE c.val) = false ∨ s.T < (s.drmCh c.val).senseT + 64000000 →
      exec (.driftSense c ps) s = .next s))

/-- R445, and R444, R446, R447 and R449 beside it. What the check of the tag finds is the command's operand (the model's choice, log
entry 122). -/
def Obligations.DramLineIntegrity : Prop :=
  (∀ (s : State) (m : BitVec 8) (a : BitVec 40) (bs : List Byte) (err : BitVec 2), areaOf s (a.toNat / 64 * 64) = .dram →
    memAdmits s m.toNat true (a.toNat / 64 * 64) 64 = true → bs.length = 64 →
    ∃ t, exec (.dramFullWrite m a bs err) s = .next t ∧ t.resp = 0 ∧ poisoned t (a.toNat / 64) = false ∧
      (∀ i, i < 64 → t.byte (a.toNat / 64 * 64 + i) = bs.getD i 0) ∧
      (∀ b, (b < a.toNat / 64 * 64 ∨ a.toNat / 64 * 64 + 64 ≤ b) → t.byte b = s.byte b)) ∧
  (∀ (s : State) (m : BitVec 8) (a : BitVec 40) (bs : List (Byte × Bool)) (err : BitVec 2), areaOf s (a.toNat / 64 * 64) = .dram →
    memAdmits s m.toNat true (a.toNat / 64 * 64) 64 = true → a.toNat % 64 + bs.length ≤ 64 → (bs.length = 64 → bs.all (·.2) = false) →
    ((poisoned s (a.toNat / 64) = true ∨ err = 2) →
      ∃ t, exec (.dramPartialWrite m a bs err) s = .next t ∧ t.resp = 5 ∧ poisoned t (a.toNat / 64) = true ∧ t.mem = s.mem ∧
        t.memSt.err = (if s.memSt.err.length < 16 then s.memSt.err ++ [⟨ekPOISONED_TARGET, m.toNat, 0x0A, a.toNat⟩] else s.memSt.err)) ∧
    (poisoned s (a.toNat / 64) = false → err ≠ 2 →
      ∃ t, exec (.dramPartialWrite m a bs err) s = .next t ∧ t.resp = 0 ∧ poisoned t (a.toNat / 64) = false ∧
        (∀ i < bs.length, t.byte (a.toNat + i) = (if (bs.getD i (0, false)).2 then (bs.getD i (0, false)).1 else s.byte (a.toNat + i))) ∧
        (∀ x, (x < a.toNat ∨ a.toNat + bs.length ≤ x) → t.byte x = s.byte x))) ∧
  (∀ (s : State) (m : BitVec 8) (a : BitVec 40) (err : BitVec 2), areaOf s (a.toNat / 64 * 64) = .dram →
    memAdmits s m.toNat false (a.toNat / 64 * 64) 64 = true →
    ((poisoned s (a.toNat / 64) = true ∨ err = 2) →
      ∃ t, exec (.dramLineRead m a err) s = .next t ∧ t.resp = 5 ∧ t.reply = List.replicate 64 0 ∧ t.mem = s.mem ∧ poisoned t (a.toNat / 64) = true ∧
        (poisoned s (a.toNat / 64) = true → s.memSt.err.length < 16 →
          t.memSt.err = s.memSt.err ++ [⟨ekPOISON_READ, m.toNat, 0x0A, a.toNat / 64 * 64⟩])) ∧
    (poisoned s (a.toNat / 64) = false → err ≠ 2 →
      ∃ t, exec (.dramLineRead m a err) s = .next t ∧ t.resp = 0 ∧ t.reply = s.bytesAt (a.toNat / 64 * 64) 64 ∧ t.mem = s.mem)) ∧
  (∀ (s : State) (m : BitVec 8) (a : BitVec 40) (bs : List (Byte × Bool)) (l : List Byte) (err : BitVec 2),
    (areaOf s (a.toNat / 64 * 64) ≠ .dram ∨ memAdmits s m.toNat true (a.toNat / 64 * 64) 64 = false →
      exec (.dramPartialWrite m a bs err) s = .next ((s.violation m.toNat true (memRegion s a.toNat) a.toNat).answer 1) ∧
      exec (.dramFullWrite m a l err) s =
        .next ((s.violation m.toNat true (memRegion s (a.toNat - a.toNat % 64)) (a.toNat - a.toNat % 64)).answer 1)) ∧
    (areaOf s (a.toNat / 64 * 64) ≠ .dram ∨ memAdmits s m.toNat false (a.toNat / 64 * 64) 64 = false →
      ∃ t, exec (.dramLineRead m a err) s = .next t ∧ t.resp = 1 ∧ t.reply = List.replicate 64 0 ∧ t.mem = s.mem ∧
        t.viol = (s.violation m.toNat false (memRegion s (a.toNat / 64 * 64)) (a.toNat / 64 * 64)).viol)) ∧
  (∀ (s : State) (c : Fin 2) (err : BitVec 2) (line : Nat), s.get DRM_STAT_STATE = stREADY → s.get DRM_SCRUB_HOURS ≠ 0 → usable s c.val ≠ 0 →
    line = (dramBase + dramOffset s c.val (64 * (s.drmCh c.val).scrub)) / 64 →
    ∃ t, exec (.scrubRead c err) s = .next t ∧ t.mem = s.mem ∧
      poisoned t line = (poisoned s line || err == 2) ∧
      (t.drmCh c.val).scrub = (if ((s.drmCh c.val).scrub + 1) * 64 < usable s c.val then (s.drmCh c.val).scrub + 1 else 0)) ∧
  (∀ (s : State) (c : Fin 2) (err : BitVec 2), s.get DRM_STAT_STATE ≠ stREADY ∨ s.get DRM_SCRUB_HOURS = 0 ∨ usable s c.val = 0 →
    exec (.scrubRead c err) s = .next s)

/-- Section 12.2. -/
def Obligations.WordQueuesPushAndPop : Prop :=
  (∀ (s : State) (m : BitVec 8) (q : Fin 16) (w : BitVec 32), m.toNat = qProducer q.val →
    ((qWords s q.val).length < 16 → ∃ t, exec (.push m q w false) s = .next t ∧ qWords t q.val = qWords s q.val ++ [w.toNat] ∧
      (∀ j, j ≠ q.val → qWords t j = qWords s j) ∧ t.get (MBX_Q_STAT_LAST_PUSH_FULL q.val) = 0 ∧ t.mem = s.mem ∧
      (qWords s q.val ≠ [] → KeepsFields s t [MBX_Q_STAT_LAST_PUSH_FULL q.val] ∧ t.out = s.out) ∧
      (qWords s q.val = [] → q.val < 8 → t.out = s.out ∧ bit (t.get (CD_IRQ_PEND_PEND (q.val % 4))) (if q.val < 4 then 0 else 1) = true ∧
        KeepsFields s t [MBX_Q_STAT_LAST_PUSH_FULL q.val, CD_IRQ_PEND_PEND (q.val % 4)]) ∧
      (qWords s q.val = [] → 8 ≤ q.val → t.out = s.out ++ [.irq (.queue (if q.val < 12 then 0 else 1))] ∧
        KeepsFields s t [MBX_Q_STAT_LAST_PUSH_FULL q.val])) ∧
    (16 ≤ (qWords s q.val).length → ∃ t, exec (.push m q w false) s = .next t ∧ (∀ j, qWords t j = qWords s j) ∧
      t.get (MBX_Q_STAT_LAST_PUSH_FULL q.val) = 1 ∧ t.get (MBX_Q_CNT_FULL q.val) = wrap 8 (satAdd 8 (s.get (MBX_Q_CNT_FULL q.val)) 1) ∧
      t.out = s.out ∧ t.mem = s.mem ∧ KeepsFields s t [MBX_Q_STAT_LAST_PUSH_FULL q.val, MBX_Q_CNT_FULL q.val])) ∧
  (∀ (s : State) (m : BitVec 8) (q : Fin 16), m.toNat = qConsumer q.val →
    (∀ w l, qWords s q.val = w :: l → ∃ t, exec (.pop m q) s = .next t ∧ t.resp = w ∧ qWords t q.val = l ∧
      (∀ j, j ≠ q.val → qWords t j = qWords s j) ∧ t.get (MBX_Q_STAT_LAST_POP_EMPTY q.val) = 0 ∧ t.mem = s.mem ∧
      (l.length ≠ 15 → KeepsFields s t [MBX_Q_STAT_LAST_POP_EMPTY q.val] ∧ t.out = s.out) ∧
      (l.length = 15 → q.val < 8 → t.out = s.out ++ [.irq (.queue (if q.val < 4 then 0 else 1))] ∧
        KeepsFields s t [MBX_Q_STAT_LAST_POP_EMPTY q.val]) ∧
      (l.length = 15 → 8 ≤ q.val → t.out = s.out ∧ bit (t.get (CD_IRQ_PEND_PEND (q.val % 4))) 2 = true ∧
        KeepsFields s t [MBX_Q_STAT_LAST_POP_EMPTY q.val, CD_IRQ_PEND_PEND (q.val % 4)])) ∧
    (qWords s q.val = [] → ∃ t, exec (.pop m q) s = .next t ∧ t.resp = 0 ∧ t.get (MBX_Q_STAT_LAST_POP_EMPTY q.val) = 1 ∧
      t.get (MBX_Q_CNT_EMPTY q.val) = wrap 8 (satAdd 8 (s.get (MBX_Q_CNT_EMPTY q.val)) 1) ∧ (∀ j, qWords t j = qWords s j) ∧ t.out = s.out ∧
      t.mem = s.mem ∧ KeepsFields s t [MBX_Q_STAT_LAST_POP_EMPTY q.val, MBX_Q_CNT_EMPTY q.val])) ∧
  (∀ (s : State) (m : BitVec 8) (q : Fin 16) (w : BitVec 32), m.toNat = qProducer q.val →
    (∀ x l, qWords s q.val = x :: l → l.length ≤ 15 → ∃ t, exec (.push m q w true) s = .next t ∧ t.resp = x ∧ qWords t q.val = l ++ [w.toNat] ∧
      (∀ j, j ≠ q.val → qWords t j = qWords s j) ∧
      t.out = s.out ∧ t.mem = s.mem ∧ KeepsFields s t [MBX_Q_STAT_LAST_PUSH_FULL q.val, MBX_Q_STAT_LAST_POP_EMPTY q.val]) ∧
    (qWords s q.val = [] → ∃ t, exec (.push m q w true) s = .next t ∧ t.resp = 0 ∧ qWords t q.val = [w.toNat] ∧ t.mem = s.mem ∧
      (∀ j, j ≠ q.val → qWords t j = qWords s j) ∧ t.get (MBX_Q_CNT_EMPTY q.val) = wrap 8 (satAdd 8 (s.get (MBX_Q_CNT_EMPTY q.val)) 1) ∧
      (8 ≤ q.val → t.out = s.out ++ [.irq (.queue (if q.val < 12 then 0 else 1))]) ∧
      (q.val < 8 → bit (t.get (CD_IRQ_PEND_PEND (q.val % 4))) (if q.val < 4 then 0 else 1) = true))) ∧
  (∀ (s : State) (m : BitVec 8) (q : Fin 16) (w : BitVec 32) (p : Bool),
    (m.toNat ≠ qProducer q.val → exec (.push m q w p) s = .next (s.refuseWrite m.toNat 7 (0x400 + 0x10 * q.val))) ∧
    (m.toNat ≠ qConsumer q.val → exec (.pop m q) s = .next (s.refuseRead m.toNat 7 (0x404 + 0x10 * q.val))))

/-- R474, with R476's refusal. -/
def Obligations.LockReadTakesAFreeLock : Prop :=
  (∀ (s : State) (m : BitVec 8) (k : Fin 64), lockMaster m.toNat = true → s.get (MBX_LOCK_OWNER k.val) = 0 →
    ∃ t, exec (.lockRead m k) s = .next t ∧ t.resp = 0 ∧ t.get (MBX_LOCK_OWNER k.val) = m.toNat ∧ KeepsFields s t [MBX_LOCK_OWNER k.val] ∧
      t.mem = s.mem ∧ t.out = s.out) ∧
  (∀ (s : State) (m : BitVec 8) (k : Fin 64), lockMaster m.toNat = true → s.get (MBX_LOCK_OWNER k.val) ≠ 0 →
    exec (.lockRead m k) s = .next { s with resp := s.get (MBX_LOCK_OWNER k.val) }) ∧
  (∀ (s : State) (m : BitVec 8) (k : Fin 64), lockMaster m.toNat = false →
    ∃ t, exec (.lockRead m k) s = .next t ∧ t.resp = 0 ∧ t.refused = true ∧ t.get (MBX_LOCK_OWNER k.val) = s.get (MBX_LOCK_OWNER k.val) ∧ t.mem = s.mem)

/-- Sections 12.3 to 12.5. Two commands of one value of T are in one cycle (the model's reading, log entries 61 and
141); outside READY a Folio is not served (the model's reading, log entry 140). -/
def Obligations.LocksDoorbellsAndFolios : Prop :=
  (∀ (s : State) (m v : BitVec 8) (k : Fin 64), lockMaster m.toNat = true →
    (s.get (MBX_LOCK_OWNER k.val) = m.toNat → v = m →
      ∃ t, exec (.lockWrite m k v) s = .next t ∧ t.get (MBX_LOCK_OWNER k.val) = 0 ∧ KeepsFields s t [MBX_LOCK_OWNER k.val] ∧ t.mem = s.mem ∧ t.out = s.out) ∧
    (s.get (MBX_LOCK_OWNER k.val) ≠ m.toNat ∨ v ≠ m →
      ∃ t, exec (.lockWrite m k v) s = .next t ∧ t.get MBX_LOCK_EVT_LAST_REQID = m.toNat ∧ t.get MBX_LOCK_EVT_LAST_KIND = 1 ∧
        t.get MBX_LOCK_EVT_LAST_LOCK = k.val ∧ t.get MBX_LOCK_EVT_IGN_CNT = wrap 8 (satAdd 8 (s.get MBX_LOCK_EVT_IGN_CNT) 1) ∧ t.mem = s.mem ∧
        KeepsFields s t [MBX_LOCK_EVT_LAST_REQID, MBX_LOCK_EVT_LAST_KIND, MBX_LOCK_EVT_LAST_LOCK, MBX_LOCK_EVT_IGN_CNT])) ∧
  (∀ (s : State) (m v : BitVec 8) (k : Fin 64), lockMaster m.toNat = false → exec (.lockWrite m k v) s = .next (s.refuseWrite m.toNat 7 (0x100 + 4 * k.val))) ∧
  (∀ (s : State) (m : BitVec 8) (v : BitVec 32), (isMC m.toNat = true → bit v.toNat 31 = true →
      ∃ t, exec (.lockForce m v) s = .next t ∧ t.get (MBX_LOCK_OWNER (wrap 6 v.toNat)) = 0 ∧
        t.get MBX_LOCK_EVT_LAST_REQID = wrap 8 (s.get (MBX_LOCK_OWNER (wrap 6 v.toNat))) ∧ t.get MBX_LOCK_EVT_LAST_KIND = 3 ∧
        t.get MBX_LOCK_EVT_LAST_LOCK = wrap 6 v.toNat ∧ t.mem = s.mem ∧
        KeepsFields s t [MBX_LOCK_OWNER (wrap 6 v.toNat), MBX_LOCK_EVT_LAST_REQID, MBX_LOCK_EVT_LAST_KIND, MBX_LOCK_EVT_LAST_LOCK]) ∧
    (isMC m.toNat = true → bit v.toNat 31 = false → exec (.lockForce m v) s = .next s) ∧
    (isMC m.toNat = false → exec (.lockForce m v) s = .next (s.refuseWrite m.toNat 7 4))) ∧
  (∀ (s : State) (m : BitVec 8) (k : Fin 64) (v : BitVec 32), dbAllowed s m.toNat k.val = true → s.get (MBX_DB_PEND_PEND k.val) < 2 ^ 32 →
    ∃ s1, (exec (.dbSet m k v) s = .next (if (List.range 32).any (fun i => bit v.toNat i && !bit (s.get (MBX_DB_PEND_PEND k.val)) i &&
        !bit (s.get (MBX_DB_MASK_MASK k.val)) i) then dbEvent s1 k.val else s1)) ∧
      (∀ i < 32, bit (s1.get (MBX_DB_PEND_PEND k.val)) i = (bit (s.get (MBX_DB_PEND_PEND k.val)) i || bit v.toNat i)) ∧
      KeepsFields s s1 [MBX_DB_PEND_PEND k.val] ∧ s1.mem = s.mem ∧ s1.out = s.out) ∧
  (∀ (s : State) (m : BitVec 8) (k : Fin 64) (v : BitVec 32), dbReader s m.toNat k.val = true →
    (∃ s1, (exec (.dbMaskWrite m k v) s = .next (if (List.range 32).any (fun i => bit (s.get (MBX_DB_PEND_PEND k.val)) i &&
        bit (s.get (MBX_DB_MASK_MASK k.val)) i && !bit v.toNat i) then dbEvent s1 k.val else s1)) ∧
      s1.get (MBX_DB_MASK_MASK k.val) = v.toNat ∧ KeepsFields s s1 [MBX_DB_MASK_MASK k.val] ∧ s1.mem = s.mem ∧ s1.out = s.out) ∧
    ((s.mbx.set.get (0, 0, 0) k.val).1 ≠ s.T → ∃ t, exec (.dbPendClear m k v) s = .next t ∧ t.out = s.out ∧ t.mem = s.mem ∧
      (∀ i < 32, bit (t.get (MBX_DB_PEND_PEND k.val)) i = (bit (s.get (MBX_DB_PEND_PEND k.val)) i && !bit v.toNat i)) ∧
      KeepsFields s t [MBX_DB_PEND_PEND k.val])) ∧
  (∀ (s : State) (m r : BitVec 8) (k : Fin 64) (i : Fin 32), dbAllowed s r.toNat k.val = true → dbReader s m.toNat k.val = true →
    s.get (MBX_DB_PEND_PEND k.val) < 2 ^ 32 → bit (s.get (MBX_DB_PEND_PEND k.val)) i.val = false →
    ∃ s1 t, exec (.dbSet r k (BitVec.ofNat 32 (2 ^ i.val))) s = .next s1 ∧ exec (.dbPendClear m k (BitVec.ofNat 32 (2 ^ i.val))) s1 = .next t ∧
      (s1.get (MBX_DB_CFG_TKIND k.val) = s.get (MBX_DB_CFG_TKIND k.val)) ∧ bit (t.get (MBX_DB_PEND_PEND k.val)) i.val = true) ∧
  (∀ (s : State) (m : BitVec 8) (k : Fin 64) (v : BitVec 32),
    (dbAllowed s m.toNat k.val = false → exec (.dbSet m k v) s = .next (s.refuseWrite m.toNat 7 (0x804 + 0x10 * k.val))) ∧
    (dbReader s m.toNat k.val = false → exec (.dbPendClear m k v) s = .next (s.refuseWrite m.toNat 7 (0x808 + 0x10 * k.val)) ∧
      exec (.dbMaskWrite m k v) s = .next (s.refuseWrite m.toNat 7 (0x80C + 0x10 * k.val))) ∧
    (isMC m.toNat = false → exec (.dbCfgWrite m k v) s = .next (s.refuseWrite m.toNat 7 (0x800 + 0x10 * k.val))) ∧
    (isMC m.toNat = true → s.get (MBX_DB_PEND_PEND k.val) ≠ 0 → exec (.dbCfgWrite m k v) s = .next (s.put MBX_STAT_CFG_IGN 1)) ∧
    (isMC m.toNat = true → s.get (MBX_DB_PEND_PEND k.val) = 0 → ∃ t, exec (.dbCfgWrite m k v) s = .next t ∧
      t.get (MBX_DB_CFG_EN k.val) = bits v.toNat 31 1 ∧ t.get (MBX_DB_CFG_TKIND k.val) = bits v.toNat 28 3 ∧
      t.get (MBX_DB_CFG_TIDX k.val) = bits v.toNat 22 6 ∧ t.get (MBX_DB_CFG_RINGER_ANY k.val) = bits v.toNat 16 1 ∧
      t.get (MBX_DB_CFG_RINGER k.val) = bits v.toNat 0 8 ∧ t.mem = s.mem ∧ t.out = s.out ∧
      KeepsFields s t [MBX_DB_CFG_EN k.val, MBX_DB_CFG_TKIND k.val, MBX_DB_CFG_TIDX k.val, MBX_DB_CFG_RINGER_ANY k.val, MBX_DB_CFG_RINGER k.val])) ∧
  (∀ (s : State) (k : Nat), (s.get (MBX_DB_CFG_TKIND k) = 1 → bit ((dbEvent s k).get (CD_IRQ_PEND_PEND (s.get (MBX_DB_CFG_TIDX k) % 4))) 3 = true) ∧
    (s.get (MBX_DB_CFG_TKIND k) = 2 → dbEvent s k = s.irq (.doorbell (s.get (MBX_DB_CFG_TIDX k) % 2))) ∧
    (s.get (MBX_DB_CFG_TKIND k) = 3 → dbEvent s k = threadWake s (s.get (MBX_DB_CFG_TIDX k)) causeDOORBELL)) ∧
  (∀ (s : State) (m : BitVec 8) (n : Fin 128) (d : Bool) (k : Fin 16) (v : BitVec 32), (folioHost m.toNat n.val = true ∨ isMC m.toNat = true) →
    instate s n.val = isREADY →
    (folioHost m.toNat n.val ≠ d → s.flag (folioGO d n.val) = false → ∃ t, exec (.folioDataWrite m n d k v) s = .next t ∧
      t.get (folioData d n.val k.val) = v.toNat ∧ KeepsFields s t [folioData d n.val k.val] ∧ t.mem = s.mem ∧ t.out = s.out) ∧
    ((folioHost m.toNat n.val = d ∨ s.flag (folioGO d n.val) = true) → exec (.folioDataWrite m n d k v) s = .next (s.bump (folioIGN d n.val))) ∧
    (folioHost m.toNat n.val ≠ d → goAtStart s d n.val = false →
      ∃ s1, exec (.folioPost m n d) s = .next (deliverAnswer (folioEvent s1 n.val d) n.val) ∧ s1.get (folioGO d n.val) = 1 ∧
        KeepsFields s s1 [folioGO d n.val] ∧ s1.mem = s.mem ∧ s1.out = s.out) ∧
    (folioHost m.toNat n.val = d → goAtStart s d n.val = true →
      ∃ s1, exec (.folioDone m n d) s = .next (deliverAnswer (folioEvent s1 n.val (!d)) n.val) ∧ s1.get (folioGO d n.val) = 0 ∧
        KeepsFields s s1 [folioGO d n.val] ∧ s1.mem = s.mem ∧ s1.out = s.out) ∧
    ((folioHost m.toNat n.val = d ∨ goAtStart s d n.val = true) →
      exec (.folioPost m n d) s = .next (deliverAnswer (s.bump (folioIGN d n.val)) n.val)) ∧
    ((folioHost m.toNat n.val ≠ d ∨ goAtStart s d n.val = false) →
      exec (.folioDone m n d) s = .next (deliverAnswer (s.bump (folioIGN d n.val)) n.val))) ∧
  (∀ (s : State) (m : BitVec 8) (n : Fin 128) (d : Bool) (k : Fin 16) (v : BitVec 32), folioHost m.toNat n.val = false → isMC m.toNat = false →
    exec (.folioDataWrite m n d k v) s = .next (s.refuseWrite m.toNat 7 (folioOff d n.val + 4 * k.val)) ∧
    exec (.folioPost m n d) s = .next (deliverAnswer (s.refuseWrite m.toNat 7 (folioOff d n.val + 0x80)) n.val) ∧
    exec (.folioDone m n d) s = .next (deliverAnswer (s.refuseWrite m.toNat 7 (folioOff d n.val + 0x80)) n.val)) ∧
  (∀ (s : State) (m : BitVec 8) (n : Fin 128) (d : Bool) (k : Fin 16) (v : BitVec 32), (folioHost m.toNat n.val = true ∨ isMC m.toNat = true) →
    instate s n.val ≠ isREADY →
    exec (.folioDataWrite m n d k v) s = .next s ∧ exec (.folioPost m n d) s = .next s ∧ exec (.folioDone m n d) s = .next s)

/-- Chapter 13, rings. Each command of the ring engine ends with the model's `hostServe`: what waited for a buffer goes on. -/
def Obligations.RingsFetchCompleteAndDrain : Prop :=
  (∀ (s : State) (n : Fin 128) (l : BitVec 14) (wide high : Bool) (v : BitVec 64) (r : Nat), slotRing s n.val l.toNat = some r →
    let x := wrap 32 v.toNat
    let q := s.ring r
    let bad : Prop := ringRunning s r = false ∨ (wide = true ∧ bits v.toNat 32 32 ≠ 0) ∨ (wide = false ∧ high = true)
    (¬bad → ringKind s r ≠ rkCQ → wrap 32 (x + 2 ^ 32 - q.tail) < 2 ^ 31 → wrap 32 (x + 2 ^ 32 - ringC s r) ≤ ringN s r →
      ∃ s1, exec (.doorbellTail n l wide high v) s = .next (if x = q.tail then s1 else ringWake s1 r) ∧ s1.ring r = { q with tail := x } ∧
        RingOnly s s1 r [] ∧ s1.out = s.out) ∧
    (¬bad → ringKind s r = rkCQ → wrap 32 (x + 2 ^ 32 - q.chead) ≤ wrap 32 (q.w + 2 ^ 32 - q.chead) →
      ∃ t, exec (.doorbellChead n l wide high v) s = .next t ∧ (t.ring r).chead = x ∧ t.mem = s.mem ∧ t.T = s.T ∧
        (q.wait = [] → t.out = s.out ∧ t.regs = s.regs) ∧
        (∀ r' seq tag c irq, q.wait = [(r', seq, tag, c, irq)] → busMaster s (ringInst s r) = true → wrap 32 (q.w + 2 ^ 32 - x) < ringN s r →
          ∃ m, t.out = s.out ++ .dma (ringInst s r) (cplBase s r + 16 * (q.w % ringN s r)) (cplBytes s r' seq tag c q.w (ringN s r)) :: m)) ∧
    (bad ∨ (ringKind s r ≠ rkCQ ∧ (2 ^ 31 ≤ wrap 32 (x + 2 ^ 32 - q.tail) ∨ ringN s r < wrap 32 (x + 2 ^ 32 - ringC s r))) ∨
        (ringKind s r = rkCQ ∧ wrap 32 (q.w + 2 ^ 32 - q.chead) < wrap 32 (x + 2 ^ 32 - q.chead)) →
      ∃ t, exec (.doorbellTail n l wide high v) s = .next t ∧ exec (.doorbellChead n l wide high v) s = .next t ∧ t.ring r = q ∧ dberrCounts s t n.val ∧
        t.get (HIF_RING_CTX7_DBERR r) = wrap 8 (satAdd 8 (s.get (HIF_RING_CTX7_DBERR r)) 1) ∧ t.out = s.out ∧
        RingOnly s t r [HIF_RING_CTX7_DBERR r, HIF_DB_ERR_CNT_COUNT])) ∧
  (∀ (s : State) (n : Fin 128) (l : BitVec 14) (wide high : Bool) (v : BitVec 64), slotRing s n.val l.toNat = none →
    ∃ t, exec (.doorbellTail n l wide high v) s = .next t ∧ dberrCounts s t n.val ∧ t.hif.ring = s.hif.ring ∧ t.mem = s.mem ∧ t.out = s.out ∧
      KeepsFields s t [HIF_DB_ERR_CNT_COUNT]) ∧
  (∀ (s : State) (r : BitVec 15) (ok : Bool) (w : BitVec 256), ringKind s r.toNat ≠ rkCQ → ringRunning s r.toNat = true →
    busMaster s (ringInst s r.toNat) = true → (s.ring r.toNat).next ≠ (s.ring r.toNat).tail → (s.ring r.toNat).chainFail = false →
    let q := s.ring r.toNat
    let kind := ringKind s r.toNat
    let d := descOf q.next w
    let bad : Bool := descBad kind d || (kind == rkTX && txBad [d] 9216)
    (ok = true → bad = false → d.chain = false → (kind = rkSETPOINT → s.flag BOOT_STAGE_RESTRICTED = false) →
      (∀ e ∈ q.descs, (e.formed = true ∨ e.done.isSome = true) ∧ e.seq ≠ q.next) →
      ∃ s1, exec (.descFetchDone r ok w) s = .next (hostServe s1) ∧ RingOnly s s1 r.toNat [] ∧ s1.out = s.out ∧
        s1.ring r.toNat = { q with next := wrap 32 (q.next + 1), descs := q.descs ++ [{ d with formed := true }] }) ∧
    (ok = true → bad = true → d.chain = false → kind ≠ rkSQ → q.descs = [] →
      ∃ s1, exec (.descFetchDone r ok w) s = .next (hostServe s1) ∧ RingOnly s s1 r.toNat [] ∧ (s1.ring r.toNat).descs = [] ∧
        (s1.ring r.toNat).next = wrap 32 (q.next + 1) ∧ recordSent s s1 r.toNat q.next d.tag { status := stFAILED_FORMAT }) ∧
    (ok = false → kind ≠ rkSQ → q.descs = [] →
      ∃ s1, exec (.descFetchDone r ok w) s = .next (hostServe s1) ∧ RingOnly s s1 r.toNat [HIF_DMA_ERR_CNT_COUNT] ∧ (s1.ring r.toNat).descs = [] ∧
        (s1.ring r.toNat).next = wrap 32 (q.next + 1) ∧ recordSent s s1 r.toNat q.next 0 { status := stFAILED_DMA } ∧
        s1.get HIF_DMA_ERR_CNT_COUNT = wrap 32 (satAdd 32 (s.get HIF_DMA_ERR_CNT_COUNT) 1))) ∧
  (∀ (s : State) (r : BitVec 15) (ok : Bool) (w : BitVec 256), (ringRunning s r.toNat = false ∨ (s.ring r.toNat).next = (s.ring r.toNat).tail ∨
    busMaster s (ringInst s r.toNat) = false) → exec (.descFetchDone r ok w) s = .next (hostServe s)) ∧
  (∀ (s : State) (r : BitVec 15) (d : Desc) (l : List Desc) (ok : Bool) (moved : BitVec 32), (s.ring r.toNat).descs = d :: l → d.done = none →
    (∀ e ∈ l, e.seq ≠ d.seq ∧ e.done = none) → ringKind s r.toNat ≠ rkSQ → ringKind s r.toNat ≠ rkCQ → ringRunning s r.toNat = true →
    busMaster s (ringInst s r.toNat) = true → d.seq < 2 ^ 32 →
    (∀ c, d.dma = some c → c.status ≠ stFAILED_DMA →
      ∃ s1, exec (.hostDmaDone r (BitVec.ofNat 64 d.seq) ok moved) s = .next (hostServe s1) ∧ (s1.ring r.toNat).descs = l ∧
        RingOnly s s1 r.toNat [HIF_DMA_ERR_CNT_COUNT] ∧
        recordSent s s1 r.toNat d.seq d.tag (if ok then c else { status := stFAILED_DMA, length := moved.toNat })) ∧
    (d.dma = none → ok = true → exec (.hostDmaDone r (BitVec.ofNat 64 d.seq) ok moved) s = .next (hostServe s)) ∧
    (d.dma = none → ok = false → l = [] → d.formed = true → d.started = false →
      ∃ s1, exec (.hostDmaDone r (BitVec.ofNat 64 d.seq) ok moved) s = .next (hostServe s1) ∧ (s1.ring r.toNat).descs = [] ∧
        RingOnly s s1 r.toNat [HIF_DMA_ERR_CNT_COUNT] ∧ recordSent s s1 r.toNat d.seq d.tag { status := stFAILED_DMA, length := moved.toNat } ∧
        s1.get HIF_DMA_ERR_CNT_COUNT = wrap 32 (satAdd 32 (s.get HIF_DMA_ERR_CNT_COUNT) 1))) ∧
  (∀ (s : State) (m : BitVec 8) (k : Fin 8) (v : BitVec 32),
    let r := s.get HIF_RING_IDX_RING
    let ctx : List (Fld × Nat) := if k.val = 0 then [(HIF_RING_CTX0_KIND r, bits v.toNat 27 4), (HIF_RING_CTX0_LOG2N r, bits v.toNat 22 5),
        (HIF_RING_CTX0_INST r, bits v.toNat 15 7), (HIF_RING_CTX0_LOCAL r, bits v.toNat 0 13)]
      else if k.val = 1 then [(HIF_RING_CTX1_DESC_BASE r, v.toNat)] else if k.val = 2 then [(HIF_RING_CTX2_DESC_BASE r, v.toNat)]
      else if k.val = 3 then [(HIF_RING_CTX3_CPL_BASE r, v.toNat)] else if k.val = 4 then [(HIF_RING_CTX4_CPL_BASE r, v.toNat)]
      else if k.val = 5 then [(HIF_RING_CTX5_IRQ_EN r, bits v.toNat 31 1), (HIF_RING_CTX5_VEC r, bits v.toNat 24 7),
        (HIF_RING_CTX5_COAL_CNT r, bits v.toNat 16 8), (HIF_RING_CTX5_COAL_US r, bits v.toNat 0 10)]
      else if k.val = 6 then [(HIF_RING_CTX6_STREAM r, bits v.toNat 16 16), (HIF_RING_CTX6_CQ r, bits v.toNat 0 13)] else []
    (isMC m.toNat = false → exec (.ringCtxWrite m k v) s = .next (hostServe (s.refuseWrite m.toNat 18 (0x24 + 4 * k.val)))) ∧
    (isMC m.toNat = true → ringState s r = rsDISABLED → (k.val = 0 → bit v.toNat 31 = false) →
      ∃ s1, exec (.ringCtxWrite m k v) s = .next (hostServe s1) ∧ RingOnly s s1 r (ctx.map (·.1)) ∧ s1.hif = s.hif ∧ s1.out = s.out ∧
        (∀ e ∈ ctx, s1.get e.1 = wrap e.1.w e.2)) ∧
    (isMC m.toNat = true → ringState s r = rsDISABLED → k.val = 0 → bit v.toNat 31 = true →
      (enableCheck (s.puts ctx) r ≠ rrOK → exec (.ringCtxWrite m k v) s = .next (hostServe (s.put HIF_STAT_CFG_IGN 1))) ∧
      (enableCheck (s.puts ctx) r = rrOK → ∃ s1, exec (.ringCtxWrite m k v) s = .next (hostServe s1) ∧ ringState s1 r = rsRUNNING ∧
        s1.get (HIF_RING_CTX0_EN r) = 1 ∧ s1.get (HIF_RING_CTX7_DBERR r) = 0 ∧ s1.ring r = {} ∧ s1.out = s.out ∧
        (∀ e ∈ ctx, s1.get e.1 = wrap e.1.w e.2) ∧
        RingOnly s s1 r (ctx.map (·.1) ++ [HIF_RING_CTX7_STATE r, HIF_RING_CTX0_EN r, HIF_RING_CTX7_DBERR r, INS_MOTION_RING_VALID,
          INS_MOTION_RING_RING, INS_STREAM_VALID (s.get (HIF_RING_CTX6_STREAM r) - 0x100), INS_STREAM_RING (s.get (HIF_RING_CTX6_STREAM r) - 0x100)]))) ∧
    (isMC m.toNat = true → ringState s r ≠ rsDISABLED → (k.val = 0 → bit v.toNat 31 = true) →
      exec (.ringCtxWrite m k v) s = .next (hostServe (s.put HIF_STAT_CFG_IGN 1))) ∧
    (isMC m.toNat = true → ringRunning s r = true → cqInUse s r = false → k.val = 0 → bit v.toNat 31 = false →
      ∃ s1, exec (.ringCtxWrite m k v) s = .next (hostServe s1) ∧ s1.hif = s.hif ∧ s1.mem = s.mem ∧ s1.out = s.out ∧ ringState s1 r =
        (if (s.ring r).next = (s.ring r).tail ∧ (s.ring r).descs = [] ∧ (s.ring r).wait = [] then rsDISABLED else rsDRAINING))) ∧
  (∀ (s : State) (r : BitVec 15) (cut : List (Nat × Nat)), ringState s r.toNat ≠ rsDRAINING →
    exec (.ringDrainDone r cut) s = .next (hostServe (answerDisables s))) ∧
  (∀ (s : State) (r : BitVec 15) (cut : List (Nat × Nat)), ringState s r.toNat = rsDRAINING → ringKind s r.toNat ≠ rkSQ → ringKind s r.toNat ≠ rkCQ →
    (s.ring r.toNat).wait = [] → (s.ring r.toNat).next = (s.ring r.toNat).tail → busMaster s (ringInst s r.toNat) = true →
    ((s.ring r.toNat).descs = [] → ∃ s1, exec (.ringDrainDone r cut) s = .next (hostServe (answerDisables s1)) ∧ ringState s1 r.toNat = rsDISABLED ∧
      s1.get (HIF_RING_CTX0_EN r.toNat) = 0 ∧ s1.out = s.out ∧ RingOnly s s1 r.toNat [HIF_RING_CTX7_STATE r.toNat, HIF_RING_CTX0_EN r.toNat]) ∧
    (∀ d, (s.ring r.toNat).descs = [d] → d.done = none →
      ∃ s1, exec (.ringDrainDone r cut) s = .next (hostServe (answerDisables s1)) ∧ ringState s1 r.toNat = rsDISABLED ∧
        s1.get (HIF_RING_CTX0_EN r.toNat) = 0 ∧ recordSent s s1 r.toNat d.seq d.tag (squashCpl (ringKind s r.toNat) d cut) ∧
        RingOnly s s1 r.toNat [HIF_RING_CTX7_STATE r.toNat, HIF_RING_CTX0_EN r.toNat]))

/-- Chapter 13, vectors and functions; `resetStart` is steps 1 to 3 of Table 14.7. -/
def Obligations.VectorsFunctionsAndBars : Prop :=
  (∀ (s : State) (fn v : Nat), let x := s.msix fn v
    (x.mask = false → busMaster s fn = true → msixRequest s fn v = (s.setMsix fn v { x with pba := false }).emit (.msix fn v (x.addrLo + x.addrHi * 2 ^ 32) x.data)) ∧
    (x.mask = true ∨ busMaster s fn = false → msixRequest s fn v = s.setMsix fn v { x with pba := true })) ∧
  (∀ (s : State) (r : BitVec 15), s.flag (HIF_RING_CTX5_IRQ_EN r.toNat) = true → ∀ t0, (s.ring r.toNat).timer = some t0 →
    (s.get (HIF_RING_CTX5_COAL_US r.toNat) ≠ 0 → t0 + s.get (HIF_RING_CTX5_COAL_US r.toNat) * 1000 ≤ s.T →
      ∃ s1, exec (.msixCoalTimeout r) s = .next (msixRequest s1 (ringInst s r.toNat) (s.get (HIF_RING_CTX5_VEC r.toNat))) ∧
        s1.ring r.toNat = { s.ring r.toNat with p := 0, timer := none } ∧ RingOnly s s1 r.toNat [] ∧ s1.out = s.out ∧ s1.hif.msix = s.hif.msix) ∧
    (s.T < t0 + s.get (HIF_RING_CTX5_COAL_US r.toNat) * 1000 → exec (.msixCoalTimeout r) s = .next s)) ∧
  (∀ (s : State) (r : BitVec 15), s.flag (HIF_RING_CTX5_IRQ_EN r.toNat) = false ∨ (s.ring r.toNat).timer = none ∨
    s.get (HIF_RING_CTX5_COAL_US r.toNat) = 0 → exec (.msixCoalTimeout r) s = .next s) ∧
  (∀ (s : State) (fn vec : Fin 128) (v : BitVec 32), let x := s.msix fn.val vec.val
    (x.pba = true → bit v.toNat 0 = false → busMaster s fn.val = true →
      ∃ t, exec (.msixUnmask fn vec 3 v) s = .next t ∧ t.out = s.out ++ [.msix fn.val vec.val (x.addrLo + x.addrHi * 2 ^ 32) x.data] ∧
        t.msix fn.val vec.val = { x with mask := false, pba := false } ∧ t.regs = s.regs ∧ t.mem = s.mem ∧ t.hif.ring = s.hif.ring) ∧
    ((x.pba = false ∨ bit v.toNat 0 = true ∨ busMaster s fn.val = false) →
      ∃ t, exec (.msixUnmask fn vec 3 v) s = .next t ∧ t.out = s.out ∧ t.msix fn.val vec.val = { x with mask := bit v.toNat 0 } ∧ t.regs = s.regs ∧
        t.mem = s.mem ∧ t.hif.ring = s.hif.ring) ∧
    (x.mask = true → ∃ t, exec (.msixUnmask fn vec 0 v) s = .next t ∧ t.msix fn.val vec.val = { x with addrLo := v.toNat } ∧ t.out = s.out) ∧
    (x.mask = true → ∃ t, exec (.msixUnmask fn vec 1 v) s = .next t ∧ t.msix fn.val vec.val = { x with addrHi := v.toNat } ∧ t.out = s.out) ∧
    (x.mask = true → ∃ t, exec (.msixUnmask fn vec 2 v) s = .next t ∧ t.msix fn.val vec.val = { x with data := v.toNat } ∧ t.out = s.out)) ∧
  (∀ (s : State) (fn : Fin 128),
    (∃ s1, exec (.busMasterEnableChange fn false) s = .next (hostServe s1) ∧ busMaster s1 fn.val = false ∧ s1.regs = s.regs ∧ s1.mem = s.mem ∧
      s1.out = s.out ∧ s1.hif.ring = s.hif.ring ∧ s1.hif.msix = s.hif.msix ∧ (∀ k, k ≠ fn.val → busMaster s1 k = busMaster s k)) ∧
    (∃ s1, exec (.busMasterEnableChange fn true) s = .next (hostServe s1) ∧ busMaster s1 fn.val = true ∧ s1.mem = s.mem) ∧
    ((∀ r ∈ knownRings s, ringInst s r ≠ fn.val) → ∃ s1, exec (.busMasterEnableChange fn true) s = .next (hostServe s1) ∧ busMaster s1 fn.val = true ∧
      s1.regs = s.regs ∧ s1.mem = s.mem ∧ s1.hif.ring = s.hif.ring ∧
      (∀ v < 128, (s1.msix fn.val v).pba = ((s.msix fn.val v).pba && (s.msix fn.val v).mask)) ∧
      (∀ v < 128, (s.msix fn.val v).pba = true → (s.msix fn.val v).mask = false →
        Out.msix fn.val v ((s.msix fn.val v).addrLo + (s.msix fn.val v).addrHi * 2 ^ 32) (s.msix fn.val v).data ∈ s1.out))) ∧
  (∀ (s : State) (fn : Fin 128) (jfail : Bool), fn.val ≠ 0 →
    (instate s fn.val = isREADY → ∃ t, exec (.flr fn jfail) s = .next t ∧ instate t fn.val = isRESETTING ∧
      t.get INS_RESET_ID_ID = wrap 32 (s.get INS_RESET_ID_ID + 1) ∧ t.mem = s.mem ∧
      (∃ l, (t.inst fn.val).rst = some { t0 := s.T, id := wrap 32 (s.get INS_RESET_ID_ID + 1), removal := false, waiting := [], rings := l }) ∧
      (∀ k, k ≠ fn.val → instate t k = instate s k)) ∧
    (instate s fn.val = isNONE ∨ instate s fn.val = isREMOVING → exec (.flr fn jfail) s = .next s)) ∧
  (∀ (s : State) (jfail : Bool), (∀ k < 127, instate s (k + 1) = isNONE) → instate s 0 = isREADY →
    ∃ t, exec (.flr 0 jfail) s = .next t ∧ t.hif.vfEnable = false ∧ t.hif.numVfs = 0 ∧ instate t 0 = isRESETTING) ∧
  (∀ (s : State) (fn : Fin 128) (write : Bool), ∃ t, exec (.barMalformedAccess fn write) s = .next t ∧
    t.hif.viol.get 0 fn.val = satAdd 32 (s.hif.viol.get 0 fn.val) 1 ∧ (write = false → t.resp = 0) ∧ t.regs = s.regs ∧ t.mem = s.mem ∧ t.out = s.out) ∧
  (∀ (s : State) (fn : Fin 128), ∃ t, exec (.statusPageWrite fn) s = .next t ∧ t.hif.viol.get 0 fn.val = satAdd 32 (s.hif.viol.get 0 fn.val) 1 ∧
    t.regs = s.regs ∧ t.mem = s.mem ∧ t.out = s.out ∧ t.hif.ring = s.hif.ring) ∧
  (∀ (s : State) (fn : Fin 128) (n : Fin 128) (v : BitVec 64), s.hif.viol.get 0 n.val < 2 ^ 32 →
    (∃ t, exec (.bar0Access 0 false (BitVec.ofNat 24 (0xE00000 + 0x1000 * n.val + 0x10)) 4 v) s = .next t ∧ t.resp = s.hif.viol.get 0 n.val ∧
      t.regs = s.regs ∧ t.mem = s.mem ∧ t.out = s.out) ∧
    (n.val ≠ 0 → ∃ t, exec (.bar0Access n false 0x10 4 v) s = .next t ∧ t.resp = s.hif.viol.get 0 n.val ∧ t.regs = s.regs ∧ t.mem = s.mem) ∧
    (∃ t, exec (.bar0Access fn false 2 4 v) s = .next t ∧ t.resp = 0 ∧ t.hif.viol.get 0 fn.val = satAdd 32 (s.hif.viol.get 0 fn.val) 1 ∧ t.regs = s.regs) ∧
    (s.get BOOT_CHIP_REV_MAJOR = BOOT_CHIP_REV_MAJOR.rst → s.get BOOT_CHIP_REV_MINOR = BOOT_CHIP_REV_MINOR.rst → s.shadow? 0x80 0xF0000004 = none →
      ∃ t, exec (.bar0Access 0 false 4 4 v) s = .next t ∧ t.resp = 0x21 ∧ t.mem = s.mem) ∧
    (∃ t, exec (.bar0Access 0 true 0x180004 4 v) s = .next t ∧ (∀ k, t.get (MBX_LOCK_OWNER k) = s.get (MBX_LOCK_OWNER k)) ∧ t.mem = s.mem ∧
      t.hif.viol.get 0 0 = satAdd 32 (s.hif.viol.get 0 0) 1 ∧ t.get MEM_FAB_VIOL_CNT_COUNT = wrap 32 (satAdd 32 (s.get MEM_FAB_VIOL_CNT_COUNT) 1)))

/-- Sections 14.4 to 14.6, every operation of Table 14.5. The order in which a request is checked is the model's where the chapter
gives none (log entries of chapter 14). -/
def Obligations.FolioRequestsAreServed : Prop :=
  (∀ (s : State) (n op tok res : Nat) (ws : List Nat),
    (instate s n = isREADY → s.flag (folioGO true n) = false →
      let t := answerFolio s n op tok res ws
      t.get (folioData true n 0) = wrap 32 (op * 2 ^ 24 + tok * 2 ^ 16 + res) ∧ (∀ i < 15, t.get (folioData true n (i + 1)) = wrap 32 (ws.getD i 0)) ∧
      t.flag (folioGO true n) = true ∧ t.flag (folioGO false n) = false ∧ t.inst n = { s.inst n with exec := false, dis := none, answer := none } ∧
      t.mem = s.mem ∧ KeepsFields s t ((List.range 16).map (folioData true n) ++ [folioGO true n, folioGO false n])) ∧
    (s.flag (folioGO true n) = true → answerFolio s n op tok res ws =
      s.setInst n { s.inst n with exec := true, dis := none, answer := some ((op * 2 ^ 24 + tok * 2 ^ 16 + res) :: ws) })) ∧
  (∀ (s : State) (n : Fin 128), let tok := reqToken s n.val
    (FolioAsk s n.val 0x01 → exec (.info n) s = .next (answerFolio s n.val 0x01 tok frOK (infoWords s n.val))) ∧
    (FolioAsk s n.val 0x04 → n.val ≠ 0 → exec (.errlogRead n) s = .next (answerFolio (s.setInst n.val { s.inst n.val with log := (s.inst n.val).log.drop 3 })
      n.val 0x04 tok frOK (((s.inst n.val).log.length - min 3 (s.inst n.val).log.length) :: ((s.inst n.val).log.take 3).flatten))) ∧
    (FolioAsk s 0 0x04 → let k := bits (reqWord s 0 1) 0 7; let l := (s.inst k).log
      exec (.errlogRead 0) s = .next (answerFolio (s.setInst k { s.inst k with log := l.drop 3 }) 0 0x04 (reqToken s 0) frOK
        ((l.length - min 3 l.length) :: (l.take 3).flatten))) ∧
    (FolioAsk s 0 0x05 → let k := bits (reqWord s 0 1) 0 7
      (instate s k = isNONE → exec (.attn 0) s = .next (managerTold s 0x05 frNO_INSTANCE [])) ∧
      (instate s k ≠ isNONE → instate s k ≠ isREADY → exec (.attn 0) s = .next (managerTold s 0x05 frBUSY [])) ∧
      (instate s k = isREADY → exec (.attn 0) s = .next (answerFolio (msixRequest s k (attnVec s k)) 0 0x05 (reqToken s 0) frOK []))) ∧
    (FolioAsk s n.val 0x05 → n.val ≠ 0 → bit (s.get (INS_ATTN_PEND (n.val / 32))) (n.val % 32) = true →
      exec (.attn n) s = .next (answerFolio s n.val 0x05 tok frOK [])) ∧
    (FolioAsk s n.val 0x05 → n.val ≠ 0 → bit (s.get (INS_ATTN_PEND (n.val / 32))) (n.val % 32) = false →
      ∃ s1, exec (.attn n) s = .next (answerFolio (msixRequest s1 0 (attnVec s 0)) n.val 0x05 tok frOK []) ∧
        bit (s1.get (INS_ATTN_PEND (n.val / 32))) (n.val % 32) = true ∧ KeepsFields s s1 [INS_ATTN_PEND (n.val / 32)] ∧ s1.out = s.out) ∧
    (FolioAsk s n.val 0x06 → let i := bits (reqWord s n.val 1) 0 11; let b := pantry s n.val 8 16 12 + i
      (pantry s n.val 8 0 12 ≤ i → exec (.dbRing n) s = .next (answerFolio s n.val 0x06 tok frDENIED [])) ∧
      (i < pantry s n.val 8 0 12 → dbAllowed s reqMC0 (b / 32) = true → exec (.dbRing n) s =
        .next (answerFolio (dbRing s (b / 32) (2 ^ (b % 32))) n.val 0x06 tok frOK [])) ∧
      (i < pantry s n.val 8 0 12 → dbAllowed s reqMC0 (b / 32) = false → exec (.dbRing n) s =
        .next (answerFolio (s.refuseWrite reqMC0 7 (0x804 + 0x10 * (b / 32))) n.val 0x06 tok frDENIED [])))) ∧
  (∀ (s : State) (n : Fin 128), let tok := reqToken s n.val; let f := reqWord s n.val; let l := bits (f 1) 0 13
    (FolioAsk s n.val 0x02 → ptRings s n.val ≤ l ∨ runRing (s.inst n.val).runs l = none → exec (.ringEnable n) s = .next (answerFolio s n.val 0x02 tok frDENIED [])) ∧
    (∀ r, FolioAsk s n.val 0x02 → l < ptRings s n.val → runRing (s.inst n.val).runs l = some r →
      (ringState s r ≠ rsDISABLED → exec (.ringEnable n) s = .next (answerFolio s n.val 0x02 tok frEXISTS [])) ∧
      (ringState s r = rsDISABLED → ∃ s1, s1.get (HIF_RING_CTX0_KIND r) = bits (f 1) 16 4 ∧ s1.get (HIF_RING_CTX0_LOG2N r) = bits (f 1) 20 5 ∧
        s1.get (HIF_RING_CTX0_INST r) = n.val ∧ s1.get (HIF_RING_CTX0_LOCAL r) = l ∧ cplBase s1 r = wrap 32 (f 4) + wrap 32 (f 5) * 2 ^ 32 ∧
        s1.get (HIF_RING_CTX5_VEC r) = bits (f 6) 24 7 ∧ s1.hif = s.hif ∧ s1.out = s.out ∧ s1.mem = s.mem ∧
        (enableCheck s1 r = rrOK → ∃ s2, exec (.ringEnable n) s = .next (answerFolio s2 n.val 0x02 tok frOK []) ∧ ringState s2 r = rsRUNNING ∧
          s2.get (HIF_RING_CTX0_EN r) = 1 ∧ s2.ring r = {} ∧ RingOnly s1 s2 r [HIF_RING_CTX7_STATE r, HIF_RING_CTX0_EN r, HIF_RING_CTX7_DBERR r,
            INS_MOTION_RING_VALID, INS_MOTION_RING_RING, INS_STREAM_VALID (s1.get (HIF_RING_CTX6_STREAM r) - 0x100),
            INS_STREAM_RING (s1.get (HIF_RING_CTX6_STREAM r) - 0x100)]) ∧
        (enableCheck s1 r ≠ rrOK → exec (.ringEnable n) s = .next (answerFolio s1 n.val 0x02 tok (enableCheck s1 r) [])))) ∧
    (FolioAsk s n.val 0x03 → ptRings s n.val ≤ l ∨ runRing (s.inst n.val).runs l = none →
      exec (.ringDisable n) s = .next (hostServe (answerDisables (answerFolio s n.val 0x03 tok frDENIED [])))) ∧
    (∀ r, FolioAsk s n.val 0x03 → l < ptRings s n.val → runRing (s.inst n.val).runs l = some r →
      (ringState s r = rsDISABLED → exec (.ringDisable n) s = .next (hostServe (answerDisables (answerFolio s n.val 0x03 tok frOK [])))) ∧
      (ringState s r ≠ rsDISABLED → cqInUse s r = true →
        exec (.ringDisable n) s = .next (hostServe (answerDisables (answerFolio s n.val 0x03 tok frBUSY [])))) ∧
      (ringState s r = rsDRAINING → cqInUse s r = false → exec (.ringDisable n) s =
        .next (hostServe (answerDisables (s.setInst n.val { s.inst n.val with exec := true, dis := some r })))) ∧
      (ringRunning s r = true → cqInUse s r = false → ∃ s1, exec (.ringDisable n) s = .next (hostServe (answerDisables s1)) ∧
        s1.inst n.val = { s.inst n.val with exec := true, dis := some r } ∧ s1.hif = s.hif ∧ s1.out = s.out ∧ s1.mem = s.mem ∧
        ringState s1 r = (if (s.ring r).next = (s.ring r).tail ∧ (s.ring r).descs = [] ∧ (s.ring r).wait = [] then rsDISABLED else rsDRAINING)))) ∧
  (∀ s : State, FolioAsk s 0 0x13 → let k := bits (reqWord s 0 1) 0 7
    (instate s k = isREADY → exec (.instQuery 0) s = .next (managerTold s 0x13 frOK (infoWords s k))) ∧
    (instate s k = isNONE → exec (.instQuery 0) s = .next (managerTold s 0x13 frNO_INSTANCE [])) ∧
    (instate s k ≠ isREADY → instate s k ≠ isNONE → exec (.instQuery 0) s = .next (managerTold s 0x13 frBUSY []))) ∧
  (∀ s : State, FolioAsk s 0 0x10 → let f := reqWord s 0; let k := bits (f 1) 16 7; let restricted := s.flag BOOT_STAGE_RESTRICTED && !s.flag BOOT_STAGE_ACKED
    (restricted = true → exec (.instCreate 0) s = .next (managerTold s 0x10 frDENIED [])) ∧
    (restricted = false → createBad f = true → exec (.instCreate 0) s = .next (managerTold s 0x10 frBAD_ARG [])) ∧
    (restricted = false → createBad f = false → instate s k = isREADY → exec (.instCreate 0) s = .next (managerTold s 0x10 frEXISTS [])) ∧
    (restricted = false → createBad f = false → instate s k ≠ isREADY → instate s k ≠ isNONE ∨ s.flag BOOT_STAGE_DRAM_READY = false →
      exec (.instCreate 0) s = .next (managerTold s 0x10 frBUSY [])) ∧
    (restricted = false → createBad f = false → instate s k = isNONE → s.flag BOOT_STAGE_DRAM_READY = true → s.hif.vfEnable = false ∨ s.hif.numVfs < k →
      exec (.instCreate 0) s = .next (managerTold s 0x10 frDENIED [])) ∧
    (restricted = false → createBad f = false → instate s k = isNONE → s.flag BOOT_STAGE_DRAM_READY = true → s.hif.vfEnable = true → k ≤ s.hif.numVfs →
      (s.flag INS_STAT_JOURNAL_VALID = false → exec (.instCreate 0) s = .next (managerTold s 0x10 frNO_JOURNAL [])) ∧
      (s.flag INS_STAT_JOURNAL_VALID = true → poolsHold s f = false → exec (.instCreate 0) s = .next (managerTold s 0x10 frNO_RESOURCE [])) ∧
      (s.flag INS_STAT_JOURNAL_VALID = true → poolsHold s f = true →
        ∃ s1, exec (.instCreate 0) s = .next (answerFolio s1 0 0x10 (reqToken s 0) frOK []) ∧ instate s1 k = isREADY ∧
          (∀ j < 12, s1.get (INS_PANTRY_WORD k (j + 1)) = wrap 32 (f (j + 1))) ∧
          s1.inst k = { runs := takeRuns (usedRuns s) 32768 0 (bits (f 1) 0 14) } ∧
          (∀ i < 5120, s1.get (MEM_SP_TAG_TAG i) = if i ∈ (freeUnits s).take (bits (f 2) 16 13) then k else s.get (MEM_SP_TAG_TAG i)) ∧
          (∀ j, j ≠ k → instate s1 j = instate s j ∧ s1.inst j = s.inst j ∧ ∀ i, s1.get (INS_PANTRY_WORD j i) = s.get (INS_PANTRY_WORD j i)) ∧
          s1.mem = s.mem ∧ s1.hif = s.hif ∧ s1.out = s.out))) ∧
  (∀ s : State, FolioAsk s 0 0x14 → let f := reqWord s 0; let kind := bits (f 1) 24 8; let k := bits (f 1) 0 7; let ok := k = 0 ∨ instate s k = isREADY
    let formed := (kind = 1 ∧ f 2 ≤ 3) ∨ (kind = 2 ∧ 0x100 ≤ f 2 ∧ f 2 ≤ 0x1FF) ∨ kind = 3
    (kind = 0 ∨ 3 < kind ∨ (kind = 1 ∧ 3 < f 2) ∨ (kind = 2 ∧ (f 2 < 0x100 ∨ 0x1FF < f 2)) → exec (.grant 0) s = .next (managerTold s 0x14 frBAD_ARG [])) ∧
    (formed → k ≠ 0 → instate s k = isNONE → exec (.grant 0) s = .next (managerTold s 0x14 frNO_INSTANCE [])) ∧
    (formed → k ≠ 0 → instate s k ≠ isNONE → instate s k ≠ isREADY → exec (.grant 0) s = .next (managerTold s 0x14 frBUSY [])) ∧
    (∀ i < 256, kind = 2 → f 2 = 0x100 + i → ok → k ≠ 0 → s.flag (INS_STREAM_GRANTED i) = true → s.get (INS_STREAM_INSTANCE i) ≠ k →
      exec (.grant 0) s = .next (managerTold s 0x14 frBUSY [])) ∧
    (∀ i < 256, kind = 2 → f 2 = 0x100 + i → ok → k ≠ 0 → s.flag (INS_STREAM_GRANTED i) = true → s.get (INS_STREAM_INSTANCE i) = k →
      exec (.grant 0) s = .next (managerTold s 0x14 frOK [])) ∧
    (kind = 3 → ok → k ≠ 0 → s.flag INS_VALGRANT_VALID = true → s.get INS_VALGRANT_INSTANCE ≠ k →
      exec (.grant 0) s = .next (managerTold s 0x14 frBUSY [])) ∧
    (kind = 1 → f 2 ≤ 3 → ok → k ≠ 0 → s.flag (INS_SPGRANT_VALID (f 2)) = true → s.get (INS_SPGRANT_INSTANCE (f 2)) ≠ k →
      exec (.grant 0) s = .next (managerTold s 0x14 frBUSY [])) ∧
    (kind = 1 → f 2 ≤ 3 → ok → (k = 0 ∨ s.flag (INS_SPGRANT_VALID (f 2)) = false ∨ s.get (INS_SPGRANT_INSTANCE (f 2)) = k) →
      ∃ s1, exec (.grant 0) s = .next (answerFolio s1 0 0x14 (reqToken s 0) frOK []) ∧ s1.get (INS_SPGRANT_VALID (f 2)) = (if k = 0 then 0 else 1) ∧
        s1.get (INS_SPGRANT_INSTANCE (f 2)) = k ∧ KeepsFields s s1 [INS_SPGRANT_VALID (f 2), INS_SPGRANT_INSTANCE (f 2)] ∧ s1.out = s.out ∧ s1.mem = s.mem) ∧
    (∀ i < 256, kind = 2 → f 2 = 0x100 + i → ok → k = 0 ∨ s.flag (INS_STREAM_GRANTED i) = false →
      (k ≠ 0 → pantry s k 2 0 7 ≤ streamsOf s k → exec (.grant 0) s = .next (managerTold s 0x14 frNO_RESOURCE [])) ∧
      (k = 0 ∨ streamsOf s k < pantry s k 2 0 7 → ∃ s1, exec (.grant 0) s = .next (answerFolio s1 0 0x14 (reqToken s 0) frOK []) ∧
        s1.get (INS_STREAM_GRANTED i) = (if k = 0 then 0 else 1) ∧ s1.get (INS_STREAM_INSTANCE i) = k ∧ s1.get (INS_STREAM_VALID i) = 0 ∧ s1.mem = s.mem ∧
        KeepsFields s s1 [INS_STREAM_GRANTED i, INS_STREAM_INSTANCE i, INS_STREAM_VALID i, INS_STREAM_RING i])) ∧
    (kind = 3 → ok → (k = 0 ∨ s.flag INS_VALGRANT_VALID = false ∨ s.get INS_VALGRANT_INSTANCE = k) →
      ∃ s1, exec (.grant 0) s = .next (answerFolio s1 0 0x14 (reqToken s 0) frOK []) ∧ s1.get INS_VALGRANT_VALID = (if k = 0 then 0 else 1) ∧
        s1.get INS_VALGRANT_INSTANCE = k ∧ KeepsFields s s1 [INS_VALGRANT_VALID, INS_VALGRANT_INSTANCE] ∧ s1.mem = s.mem)) ∧
  (∀ s : State, FolioAsk s 0 0x15 → let f := reqWord s 0; let w := bits (f 1) 8 2; let c := bits (f 1) 0 2
    (w = 0 → exec (.setpointLimit 0) s = .next (managerTold s 0x15 frBAD_ARG [])) ∧
    (w ≠ 0 → ∃ s1, exec (.setpointLimit 0) s = .next (answerFolio s1 0 0x15 (reqToken s 0) frOK []) ∧ s1.get (INS_SPLIM_MIN_LIMIT c (w - 1)) = wrap 32 (f 2) ∧
      s1.get (INS_SPLIM_MAX_LIMIT c (w - 1)) = wrap 32 (f 3) ∧ s1.get (INS_SPLIM_INTV_US c) = bits (f 4) 0 16 ∧ s1.mem = s.mem ∧ s1.out = s.out ∧
      KeepsFields s s1 [INS_SPLIM_MIN_LIMIT c (w - 1), INS_SPLIM_MAX_LIMIT c (w - 1), INS_SPLIM_INTV_US c])) ∧
  (∀ s : State, FolioAsk s 0 0x16 → let f := reqWord s 0
    (wrap 12 (f 1) ≠ 0 → exec (.journalSet 0) s = .next (managerTold s 0x16 frBAD_ARG [])) ∧
    (wrap 12 (f 1) = 0 → ∃ s1, exec (.journalSet 0) s = .next (answerFolio s1 0 0x16 (reqToken s 0) frOK []) ∧ s1.get INS_JOURNAL_LO_BASE = wrap 32 (f 1) ∧
      s1.get INS_JOURNAL_HI_BASE = wrap 32 (f 2) ∧ s1.get INS_STAT_JOURNAL_VALID = 1 ∧ s1.mem = s.mem ∧ s1.out = s.out ∧
      KeepsFields s s1 [INS_JOURNAL_LO_BASE, INS_JOURNAL_HI_BASE, INS_STAT_JOURNAL_VALID])) ∧
  (∀ s : State,
    (areaOf s (reqWord s 0 1) ≠ .regs →
      (FolioAsk s 0 0x20 → exec (.regWrite 0) s = .next (managerTold s 0x20 frDENIED [])) ∧
      (FolioAsk s 0 0x21 → exec (.regRead 0) s = .next (managerTold s 0x21 frDENIED []))) ∧
    (areaOf s (reqWord s 0 1) = .regs → let a := reqWord s 0 1 - reqWord s 0 1 % 4; let told (s1 : State) := answerFolio s1 0
      (FolioAsk s 0 0x20 → ∀ v s1, regAccess (soleGrant s reqMC0 a) reqMC0 true a (reqWord s 0 2) = (.ok, v, s1) →
        ∀ r2 v2 s2, regAccess (soleGrant s1 reqMC0 a) reqMC0 false a 0 = (r2, v2, s2) →
          exec (.regWrite 0) s = .next (told s2 0x20 (reqToken s2 0) frOK [v2])) ∧
      (FolioAsk s 0 0x20 → ∀ r v s1, regAccess (soleGrant s reqMC0 a) reqMC0 true a (reqWord s 0 2) = (r, v, s1) → r ≠ .ok →
        exec (.regWrite 0) s = .next (told s1 0x20 (reqToken s1 0) frDENIED [])) ∧
      (FolioAsk s 0 0x21 → ∀ r v s1, regAccess (soleGrant s reqMC0 a) reqMC0 false a 0 = (r, v, s1) →
        exec (.regRead 0) s = .next (if r = .ok then told s1 0x21 (reqToken s1 0) frOK [v] else told s1 0x21 (reqToken s1 0) frDENIED []))) ∧
    (FolioAsk s 0 0x20 → reqWord s 0 1 = 0xF0400040 → s.shadow? 1 0xF0400040 = none →
      ∃ s1, exec (.regWrite 0) s = .next (answerFolio s1 0 0x20 (reqToken s 0) frOK [wrap 32 (reqWord s 0 2)]) ∧
        s1.get MEM_CE_THR_THR = wrap 32 (reqWord s 0 2) ∧ KeepsFields s s1 [MEM_CE_THR_THR] ∧ s1.mem = s.mem ∧ s1.out = s.out) ∧
    (FolioAsk s 0 0x21 → reqWord s 0 1 = 0xF0400040 → s.shadow? 1 0xF0400040 = none →
      ∃ s1, exec (.regRead 0) s = .next (answerFolio s1 0 0x21 (reqToken s 0) frOK [wrap 32 (s.get MEM_CE_THR_THR)]) ∧ s1.regs = s.regs ∧
        s1.mem = s.mem ∧ s1.out = s.out)) ∧
  (∀ (s : State) (n : Fin 128) (jfail : Bool),
    let rest : List (Nat × Instr) := [(0x01, .info n), (0x02, .ringEnable n), (0x04, .errlogRead n), (0x05, .attn n), (0x06, .dbRing n),
      (0x10, .instCreate n), (0x11, .instReset n jfail), (0x12, .instRemove n jfail), (0x13, .instQuery n), (0x14, .grant n), (0x15, .setpointLimit n),
      (0x16, .journalSet n), (0x20, .regWrite n), (0x21, .regRead n)]
    let live := instate s n.val = isREADY ∧ s.flag (folioGO false n.val) = true ∧ (s.inst n.val).exec = false
    let out (r : Nat) := answerFolio s n.val (reqOp s n.val) (reqToken s n.val) r []
    (¬live → (∀ c ∈ rest, exec c.2 s = .next s) ∧ exec (.ringDisable n) s = .next (hostServe (answerDisables s))) ∧
    (live → knownOps.contains (reqOp s n.val) = false →
      (∀ c ∈ rest, exec c.2 s = .next (out frBAD_OP)) ∧ exec (.ringDisable n) s = .next (hostServe (answerDisables (out frBAD_OP)))) ∧
    (live → knownOps.contains (reqOp s n.val) = true →
      (∀ c ∈ rest, reqOp s n.val ≠ c.1 → exec c.2 s = .next s) ∧
      (∀ c ∈ rest, reqOp s n.val = c.1 → 0x10 ≤ c.1 → n.val ≠ 0 → exec c.2 s = .next (out frDENIED)) ∧
      (reqOp s n.val ≠ 0x03 → exec (.ringDisable n) s = .next (hostServe (answerDisables s)))))

/-- Sections 14.5 and 14.6 and the INS registers; `recordSent` names the completion record that goes to the host. -/
def Obligations.ResetsSetpointsAndInfo : Prop :=
  (∀ (s : State) (jfail : Bool), let k := bits (reqWord s 0 1) 0 7; let id := wrap 32 (s.get INS_RESET_ID_ID + 1)
    (FolioAsk s 0 0x11 → instate s k = isREADY → ∃ t, exec (.instReset 0 jfail) s = .next t ∧ instate t k = isRESETTING ∧ t.get INS_RESET_ID_ID = id ∧
      t.mem = s.mem ∧ (∀ j, j ≠ k → instate t j = instate s j) ∧
      (∃ l, (t.inst k).rst = some { t0 := s.T, id := id, removal := false, waiting := [(0x11, reqToken s 0)], rings := l })) ∧
    (FolioAsk s 0 0x12 → k ≠ 0 → instate s k = isREADY → ∃ t, exec (.instRemove 0 jfail) s = .next t ∧ instate t k = isREMOVING ∧
      t.get INS_RESET_ID_ID = id ∧ t.mem = s.mem ∧ (∀ j, j ≠ k → instate t j = instate s j) ∧
      (∃ l, (t.inst k).rst = some { t0 := s.T, id := id, removal := true, waiting := [(0x12, reqToken s 0)], rings := l })) ∧
    (FolioAsk s 0 0x12 → k = 0 → exec (.instRemove 0 jfail) s = .next (managerTold s 0x12 frBAD_ARG [])) ∧
    (FolioAsk s 0 0x11 → instate s k = isNONE → exec (.instReset 0 jfail) s = .next (managerTold s 0x11 frNO_INSTANCE [])) ∧
    (FolioAsk s 0 0x12 → k ≠ 0 → instate s k = isNONE → exec (.instRemove 0 jfail) s = .next (managerTold s 0x12 frNO_INSTANCE [])) ∧
    (FolioAsk s 0 0x11 → instate s k = isRESETTING ∨ instate s k = isREMOVING → exec (.instReset 0 jfail) s = .next (managerTold s 0x11 frBUSY [])) ∧
    (∀ x, FolioAsk s 0 0x12 → k ≠ 0 → instate s k = isRESETTING → (s.inst k).rst = some x → ∃ t, exec (.instRemove 0 jfail) s = .next t ∧
      (t.inst k).rst = some { x with removal := true, waiting := x.waiting ++ [(0x12, reqToken s 0)] } ∧ (t.inst 0).exec = true ∧ t.regs = s.regs ∧
      t.mem = s.mem) ∧
    (FolioAsk s 0 0x12 → k ≠ 0 → instate s k = isREMOVING → exec (.instRemove 0 jfail) s = .next (managerTold s 0x12 frBUSY []))) ∧
  (∀ (s : State) (on : Bool) (num : BitVec 7) (jfail : Bool),
    ∃ t, exec (.vfEnableChange on num jfail) s = .next t ∧ t.hif.vfEnable = on ∧ t.hif.numVfs = num.toNat ∧ t.mem = s.mem ∧
      (∀ k < 127, instate t (k + 1) = if (on = false ∨ num.toNat < k + 1) ∧ instate s (k + 1) = isREADY then isREMOVING else instate s (k + 1)) ∧
      (∀ k < 127, ∀ x, (on = false ∨ num.toNat < k + 1) → instate s (k + 1) = isRESETTING → (s.inst (k + 1)).rst = some x →
        (t.inst (k + 1)).rst = some { x with removal := true }) ∧
      instate t 0 = instate s 0) ∧
  (∀ (s : State) (n : Fin 128) (cut : List (Nat × Nat × Nat)) (jfail : Bool),
    ((s.inst n.val).rst = none → exec (.resetDrainDone n cut jfail) s = .next (hostServe s)) ∧
    (∀ x, (s.inst n.val).rst = some x → x.squashed = true → exec (.resetDrainDone n cut jfail) s = .next (hostServe s)) ∧
    (∀ x, (s.inst n.val).rst = some x → x.squashed = false → x.rings = [] → x.waiting = [] → s.hif.hostRst = false → (s.inst n.val).log.length < 64 →
      ∃ t, exec (.resetDrainDone n cut jfail) s = .next (hostServe t) ∧ instate t n.val = (if x.removal then isNONE else isREADY) ∧
        (t.inst n.val).rst = none ∧ t.flag (folioGO false n.val) = false ∧ t.flag (folioGO true n.val) = false ∧
        (∀ i < 16, t.get (folioData false n.val i) = 0 ∧ t.get (folioData true n.val i) = 0) ∧ (∀ k, k ≠ n.val → instate t k = instate s k) ∧
        (t.inst n.val).log = (s.inst n.val).log ++ [[3 * 2 ^ 24 + b2n x.removal, wrap 32 x.t0, (s.T - x.t0) / 1000, x.id]] ∧
        (x.removal = true → ∀ i < 5120, s.get (MEM_SP_TAG_TAG i) = n.val → t.get (MEM_SP_TAG_TAG i) = 0xFF ∧
          ∀ a, 4096 * i ≤ a → a < 4096 * i + 4096 → t.byte a = 0)) ∧
    (∀ x op tok, (s.inst n.val).rst = some x → x.squashed = false → x.rings = [] → x.waiting = [(op, tok)] → s.hif.hostRst = false → n.val ≠ 0 →
      (s.inst 0).exec = true → instate s 0 = isREADY → s.flag (folioGO true 0) = false →
      ∃ t, exec (.resetDrainDone n cut jfail) s = .next (hostServe t) ∧ (t.inst 0).exec = false ∧ t.flag (folioGO true 0) = true ∧
        t.get (folioData true 0 0) = wrap 32 (op * 2 ^ 24 + tok * 2 ^ 16 + frOK)) ∧
    (∀ x, (s.inst n.val).rst = some x → x.squashed = false → x.rings = [] → x.waiting = [] → s.hif.hostRst = true →
      (∀ k, k ≠ n.val → (s.inst k).rst = none) →
      ∃ t, exec (.resetDrainDone n cut jfail) s = .next (hostServe t) ∧ t.hif.hostRst = false ∧ (t.inst n.val).rst = none ∧
        ∀ f : Fld, (f.key.block = 18 ∨ f.key.block = 19) → hostStays f.key = false → t.get f = f.rst) ∧
    (∀ x r c tl w, (s.inst n.val).rst = some x → x.squashed = false → x.rings = [(r, c, tl, w)] → ringState s r = rsDRAINING → ringKind s r ≠ rkSQ →
      ringKind s r ≠ rkCQ → (s.ring r).descs = [] → (s.ring r).wait = [] → (s.ring r).next = (s.ring r).tail → (s.ring r).w ≠ 0 →
      ∃ s1, exec (.resetDrainDone n cut jfail) s = .next (hostServe s1) ∧ ringState s1 r = rsDISABLED ∧ s1.out = s.out ∧ s1.mem = s.mem ∧
        (s1.inst n.val).rst = some { x with squashed := true, flush := [r] } ∧ instate s1 n.val = instate s n.val)) ∧
  (∀ (s : State) (n : Fin 128) (r : BitVec 15) (more : Nat) (ok jfail : Bool), (s.inst n.val).rst = none → exec (.flushReadDone n r ok more jfail) s = .next s) ∧
  (∀ (s : State) (n : Fin 128) (r : BitVec 15) (r2 c tl l q st : Nat) (more : Nat) (ok jfail : Bool) (x : InstReset), (s.inst n.val).rst = some x →
    x.squashed = true → x.rings.find? (fun e => e.1 == r.toNat) = some (r.toNat, c, tl, 0) → (s.ring r.toNat).descs = [] → (s.ring r.toNat).wait = [] →
    (x.flush = [r.toNat, r2] → r2 ≠ r.toNat → ok = true →
      exec (.flushReadDone n r ok more jfail) s = .next (s.setInst n.val { s.inst n.val with rst := some { x with flush := [r2] } })) ∧
    (x.flush = [r.toNat, r2] → r2 ≠ r.toNat → ok = false → (s.ring r.toNat).recs = [(l, q, st)] → (s.inst n.val).log.length < 64 →
      ∃ t, exec (.flushReadDone n r ok more jfail) s = .next t ∧ (t.inst n.val).log = (s.inst n.val).log ++ [[2 ^ 24 + l, q, 1, st]] ∧
        (t.inst n.val).rst = some { x with flush := [r2] } ∧ bit (t.get (INS_ATTN_PEND (n.val / 32))) (n.val % 32) = true ∧ t.mem = s.mem ∧
        t.out = s.out ∧ KeepsFields s t [INS_ATTN_PEND (n.val / 32)]) ∧
    (x.flush.contains r.toNat = false → exec (.flushReadDone n r ok more jfail) s = .next s) ∧
    (x.flush = [r.toNat] → ok = true → s.hif.hostRst = false → ∃ t, exec (.flushReadDone n r ok more jfail) s = .next t ∧ instate t n.val = (if x.removal then isNONE else isREADY))) ∧
  (∀ (s : State) (r : BitVec 15) (d : Desc), nextItem s r.toNat rkSETPOINT = some [d] → (s.ring r.toNat).descs = [d] →
    let n := ringInst s r.toNat; let c := d.fld 4 0 2; let nw := d.fld 4 8 2
    (s.flag BOOT_STAGE_RESTRICTED = true → ∃ t, exec (.setpoint r) s = .next t ∧ RingOnly s t r.toNat [] ∧ t.mbx = s.mbx ∧
      recordSent s t r.toNat d.seq d.tag { status := stABORTED_COMPAT }) ∧
    (s.flag BOOT_STAGE_RESTRICTED = false → spHeldFor s r.toNat d.seq = none → spOk s d n = false →
      ∃ t, exec (.setpoint r) s = .next t ∧ RingOnly s t r.toNat [INS_CNT_POLICY_COUNT n] ∧ t.mbx = s.mbx ∧
        t.get (INS_CNT_POLICY_COUNT n) = wrap 32 (satAdd 32 (s.get (INS_CNT_POLICY_COUNT n)) 1) ∧
        recordSent s t r.toNat d.seq d.tag { status := stDROPPED_POLICY }) ∧
    (s.flag BOOT_STAGE_RESTRICTED = false → spExpired s r.toNat d.seq = true → ∃ t, exec (.setpoint r) s = .next t ∧
      RingOnly s t r.toNat [INS_CNT_POLICY_COUNT n] ∧ t.mbx = s.mbx ∧ recordSent s t r.toNat d.seq d.tag { status := stDROPPED_POLICY } ∧
      spHeldFor t r.toNat d.seq = none) ∧
    (s.flag BOOT_STAGE_RESTRICTED = false → s.flag (PWM_BIND_BOUND c) = false →
      (spHeldFor s r.toNat d.seq = none → spOk s d n = true →
        exec (.setpoint r) s = .next { s with ins := { s.ins with held := s.ins.held ++ [(r.toNat, d.seq, s.T)] } }) ∧
      (spHeldFor s r.toNat d.seq ≠ none → spExpired s r.toNat d.seq = false → exec (.setpoint r) s = .next s)) ∧
    (spHeldFor s r.toNat d.seq = none → exec (.setpointRetryExpiry r) s = .next s) ∧
    (s.flag BOOT_STAGE_RESTRICTED = false → spExpired s r.toNat d.seq = false → spOk s d n = true ∨ spHeldFor s r.toNat d.seq ≠ none →
      s.flag (PWM_BIND_BOUND c) = true →
      let q := s.get (PWM_BIND_DSP c)
      ((qWords s q).length + nw + 1 ≤ 16 → q < 4 → ∃ t, exec (.setpoint r) s = .next t ∧
        qWords t q = qWords s q ++ (wrap 32 (n * 2 ^ 24 + wrap 8 d.seq * 2 ^ 16 + nw * 256 + c) :: (spWords d).map (wrap 32)) ∧
        (∀ j, j ≠ q → qWords t j = qWords s j) ∧ recordSent s t r.toNat d.seq d.tag { status := stOK, length := 4 * nw } ∧
        t.ins.spT.get none c = some s.T ∧ RingOnly s t r.toNat [MBX_Q_STAT_LAST_PUSH_FULL q, CD_IRQ_PEND_PEND (q % 4)] ∧ spHeldFor t r.toNat d.seq = none) ∧
      (16 < (qWords s q).length + nw + 1 → spHeldFor s r.toNat d.seq = none →
        exec (.setpoint r) s = .next { s with ins := { s.ins with held := s.ins.held ++ [(r.toNat, d.seq, s.T)] } }) ∧
      (16 < (qWords s q).length + nw + 1 → spHeldFor s r.toNat d.seq ≠ none → exec (.setpoint r) s = .next s)) ∧
    (∀ t0, spHeldFor s r.toNat d.seq = some (r.toNat, d.seq, t0) →
      (s.T < t0 + 1000000 → exec (.setpointRetryExpiry r) s = .next s) ∧
      (t0 + 1000000 ≤ s.T → ∃ t, exec (.setpointRetryExpiry r) s = .next t ∧ RingOnly s t r.toNat [INS_CNT_POLICY_COUNT n] ∧
        recordSent s t r.toNat d.seq d.tag { status := stDROPPED_POLICY } ∧ spHeldFor t r.toNat d.seq = none))) ∧
  (∀ (s : State) (r : BitVec 15), nextItem s r.toNat rkSETPOINT = none → exec (.setpoint r) s = .next s ∧ exec (.setpointRetryExpiry r) s = .next s) ∧
  (∀ (s : State) (m : BitVec 8), let n := s.get INS_SEL_INSTANCE
    (insReader m.toNat = true → ∃ t, exec (.insInfoRead m) s = .next t ∧ t.regs = s.regs ∧ t.mem = s.mem ∧ t.out = s.out ∧
      (∀ j < 12, t.shadow? m.toNat (0xF1500084 + 4 * j) = some (s.get (INS_PANTRY_WORD n (j + 1)))) ∧
      t.shadow? m.toNat 0xF150000C = some (s.get (INS_CNT_QUOTA_COUNT n)) ∧ t.shadow? m.toNat 0xF1500010 = some (s.get (INS_CNT_POLICY_COUNT n)) ∧
      t.shadow? m.toNat 0xF1500014 = some (s.get (INS_CNT_VIOL_COUNT n)) ∧ (∀ (m' : BitVec 8) (x : Nat), m' ≠ m → t.shadow? m'.toNat x = s.shadow? m'.toNat x)) ∧
    (insReader m.toNat = false → exec (.insInfoRead m) s = .next (s.refuseRead m.toNat 19 8)))

/-- Section 15.7 and Tables 15.6 to 15.8; `pxA`, `pxB`, `pxD` and `pxImm` are the fields of the word. -/
def Obligations.PacketArithmeticBranchesAndCsrs : Prop :=
  (∀ (s : State) (n : Fin 64) (w : Nat), w < 2 ^ 32 →
    let a := pxGet s n.val (pxA w); let b := pxGet s n.val (pxB w); let d := pxGet s n.val (pxD w); let imm := bits w 0 16
    let x := (BitVec.ofNat 16 imm).signExtend 32; let z := BitVec.ofNat 32 imm; let k := b.toNat % 32; let j := imm % 32
    let m := BitVec.ofNat 32 (2 ^ (imm / 32 % 32 + 1) - 1); let pc := ptPc s n.val; let dest : Nat := (((pc : Int) + signed 16 imm) % 2 ^ 14).toNat
    let rows : List (Instr × PxOp × Word) :=
      [(.pxAdd n, .add, a + b), (.pxSub n, .sub, a - b), (.pxAnd n, .and_, a &&& b), (.pxOr n, .or_, a ||| b), (.pxXor n, .xor_, a ^^^ b),
       (.pxSll n, .sll, a <<< k), (.pxSrl n, .srl, a >>> k), (.pxSra n, .sra, a.sshiftRight k), (.pxSlt n, .slt, if a.slt b then 1 else 0),
       (.pxSltu n, .sltu, if a.ult b then 1 else 0), (.pxMul n, .mul, a * b), (.pxMulhu n, .mulhu, BitVec.ofNat 32 (a.toNat * b.toNat / 2 ^ 32)),
       (.pxPopc n, .popc, BitVec.ofNat 32 ((List.range 32).filter (fun i => bit a.toNat i)).length),
       (.pxBswap n, .bswap, BitVec.ofNat 32 (a.toNat % 2 ^ 8 * 2 ^ 24 + a.toNat / 2 ^ 8 % 2 ^ 8 * 2 ^ 16 + a.toNat / 2 ^ 16 % 2 ^ 8 * 2 ^ 8 + a.toNat / 2 ^ 24)),
       (.pxCrc32c n, .crc32c, crcBytes polyC d (leBytes 4 a.toNat)),
       (.pxCsum n, .csum, BitVec.ofNat 32 (fold16 (d.toNat % 65536 + a.toNat / 65536 + a.toNat % 65536))),
       (.pxAddi n, .addi, a + x), (.pxAndi n, .andi, a &&& z), (.pxOri n, .ori, a ||| z), (.pxXori n, .xori, a ^^^ z), (.pxSlli n, .slli, a <<< j),
       (.pxSrli n, .srli, a >>> j), (.pxSrai n, .srai, a.sshiftRight j), (.pxSlti n, .slti, if a.slt x then 1 else 0),
       (.pxSltiu n, .sltiu, if a.ult x then 1 else 0), (.pxLui n, .lui, BitVec.ofNat 32 (imm * 65536)), (.pxBext n, .bext, (a >>> j) &&& m),
       (.pxBins n, .bins, (d &&& ~~~(m <<< j)) ||| ((a &&& m) <<< j))]
    let branches : List (Instr × PxOp × Bool) :=
      [(.pxBeq n, .beq, d == a), (.pxBne n, .bne, d != a), (.pxBlt n, .blt, d.slt a), (.pxBge n, .bge, !d.slt a), (.pxBltu n, .bltu, d.ult a),
       (.pxBgeu n, .bgeu, !d.ult a)]
    (∀ e ∈ rows, PxAt s n.val e.2.1 w → ∃ t, exec e.1 s = .next t ∧ PxStep s t n.val (pxD w) e.2.2 (pc + 1) []) ∧
    (PxAt s n.val .clz w → ∃ t v, exec (.pxClz n) s = .next t ∧ PxStep s t n.val (pxD w) v (pc + 1) [] ∧ (a = 0 → v = 32) ∧
      (a ≠ 0 → v.toNat < 32 ∧ 2 ^ (31 - v.toNat) ≤ a.toNat ∧ a.toNat < 2 ^ (32 - v.toNat))) ∧
    (∀ e ∈ branches, PxAt s n.val e.2.1 w → ∃ t, exec e.1 s = .next t ∧ PxStep s t n.val 0 0 (if e.2.2 then dest else pc + 1) []) ∧
    (PxAt s n.val .jal w → ∃ t, exec (.pxJal n) s = .next t ∧ PxStep s t n.val (pxD w) (BitVec.ofNat 32 ((pc + 1) % 16384)) dest []) ∧
    (PxAt s n.val .jalr w → ∃ t, exec (.pxJalr n) s = .next t ∧ PxStep s t n.val (pxD w) (BitVec.ofNat 32 ((pc + 1) % 16384))
      (((a.toNat : Int) + signed 16 imm) % 2 ^ 14).toNat []) ∧
    (PxAt s n.val .nop w → ∃ t, exec (.pxNop n) s = .next t ∧ PxStep s t n.val 0 0 (pc + 1) []) ∧
    (PxAt s n.val .csrr w → ∃ t v, exec (.pxCsrr n) s = .next t ∧ PxStep s t n.val (pxD w) v (pc + 1) [] ∧
      (imm = 0 → v = BitVec.ofNat 32 (n.val / 16 * 64 + n.val)) ∧ (imm = 1 → v = BitVec.ofNat 32 (s.get (PXE_PT_STAT_PEND n.val))) ∧
      (imm = 4 → v = BitVec.ofNat 32 (s.pt n.val).fireT) ∧
      (imm = 0x10 → v = BitVec.ofNat 32 s.T ∧ t.shadow? (reqPT n.val) (csrShadow 0x10) = some (s.T / 2 ^ 32)) ∧
      (imm = 0x11 → v = BitVec.ofNat 32 ((s.shadow? (reqPT n.val) (csrShadow 0x10)).getD (s.T / 2 ^ 32))) ∧
      (imm = 0x30 → v = BitVec.ofNat 32 (t.pt n.val).icnt ∧ t.shadow? (reqPT n.val) (csrShadow 0x30) = some ((t.pt n.val).icnt / 2 ^ 32)) ∧
      (imm = 0x31 → v = BitVec.ofNat 32 ((s.shadow? (reqPT n.val) (csrShadow 0x30)).getD ((t.pt n.val).icnt / 2 ^ 32))) ∧
      (imm = 2 → v = BitVec.ofNat 32 ((s.pt n.val).tsrc * 2 ^ 28 + (s.pt n.val).tdir * 2 ^ 26 + (s.pt n.val).tlead)) ∧
      (∀ i < 4, imm = 0x20 + i → v = BitVec.ofNat 32 ((s.pt n.val).win.get 0 i))) ∧
    (PxAt s n.val .csrw w → ∃ t, exec (.pxCsrw n) s = .next t ∧ PxStep s t n.val 0 0 (pc + 1) [] ∧
      (∀ i < 4, imm = 0x20 + i → (t.pt n.val).win.get 0 i = bits d.toNat 31 1 * 2 ^ 31 + wrap 6 d.toNat) ∧
      (imm = 2 → bits d.toNat 28 4 ≤ 8 → bits d.toNat 26 2 ≠ 3 → (t.pt n.val).tsrc = bits d.toNat 28 4 ∧ (t.pt n.val).tdir = bits d.toNat 26 2 ∧
        (t.pt n.val).tlead = wrap 16 d.toNat) ∧
      (imm = 2 → 8 < bits d.toNat 28 4 ∨ bits d.toNat 26 2 = 3 → (t.pt n.val).tsrc = (s.pt n.val).tsrc ∧
        (t.pt n.val).tdir = (s.pt n.val).tdir ∧ (t.pt n.val).tlead = (s.pt n.val).tlead))) ∧
  (∀ (s : State) (n : Fin 64),
    let all : List (Instr × PxOp) :=
      [(.pxAdd n, .add), (.pxSub n, .sub), (.pxAnd n, .and_), (.pxOr n, .or_), (.pxXor n, .xor_), (.pxSll n, .sll), (.pxSrl n, .srl),
       (.pxSra n, .sra), (.pxSlt n, .slt), (.pxSltu n, .sltu), (.pxMul n, .mul), (.pxMulhu n, .mulhu), (.pxClz n, .clz), (.pxPopc n, .popc),
       (.pxBswap n, .bswap), (.pxCrc32c n, .crc32c), (.pxCsum n, .csum), (.pxAddi n, .addi), (.pxAndi n, .andi), (.pxOri n, .ori),
       (.pxXori n, .xori), (.pxSlli n, .slli), (.pxSrli n, .srli), (.pxSrai n, .srai), (.pxSlti n, .slti), (.pxSltiu n, .sltiu), (.pxLui n, .lui),
       (.pxBext n, .bext), (.pxBins n, .bins), (.pxLw n, .lw), (.pxLh n, .lh), (.pxLhu n, .lhu), (.pxLb n, .lb), (.pxLbu n, .lbu), (.pxSw n, .sw),
       (.pxSh n, .sh), (.pxSb n, .sb), (.pxAmoadd n, .amoadd), (.pxAmoswap n, .amoswap), (.pxCas n, .cas), (.pxBeq n, .beq), (.pxBne n, .bne),
       (.pxBlt n, .blt), (.pxBge n, .bge), (.pxBltu n, .bltu), (.pxBgeu n, .bgeu), (.pxJal n, .jal), (.pxJalr n, .jalr), (.pxCsrr n, .csrr),
       (.pxCsrw n, .csrw), (.pxNop n, .nop), (.pxWait n, .wait), (.pxWaitr n, .waitr), (.pxPoke n, .poke), (.pxHalt n, .halt), (.pxBrk n, .brk),
       (.pxTput n, .tput), (.pxPrx n, .prx), (.pxPtx n, .ptx), (.pxPfree n, .pfree), (.pxPalloc n, .palloc), (.pxFlook n, .flook),
       (.pxFcmd n, .fcmd), (.pxIllegalEncoding n, .illegal)]
    ∀ e ∈ all, ptChosen s n.val = false ∨ pxDecode (pxWord s n.val) ≠ e.2 → exec e.1 s = .next s)

/-- Sections 15.2 to 15.5. The thread's own slice lies in memory; the words with errors are ruled out by `s.memSt.bad = []`. -/
def Obligations.PacketMemoryWaitsAndRunControl : Prop :=
  (∀ (s : State) (n : Fin 64) (w a : Nat), w < 2 ^ 32 →
    let base := pxGet s n.val (pxA w); let d := pxGet s n.val (pxD w); let b := pxGet s n.val (pxB w); let pc := ptPc s n.val
    let ea := (base + (BitVec.ofNat 16 (pxImm w)).signExtend 32).toNat
    let loads : List (Instr × PxOp × Nat × (Nat → Word)) :=
      [(.pxLw n, .lw, 4, fun v => BitVec.ofNat 32 v), (.pxLh n, .lh, 2, fun v => (BitVec.ofNat 16 v).signExtend 32), (.pxLhu n, .lhu, 2, fun v => BitVec.ofNat 32 v),
       (.pxLb n, .lb, 1, fun v => (BitVec.ofNat 8 v).signExtend 32), (.pxLbu n, .lbu, 1, fun v => BitVec.ofNat 32 v)]
    let stores : List (Instr × PxOp × Nat) := [(.pxSw n, .sw, 4), (.pxSh n, .sh, 2), (.pxSb n, .sb, 1)]
    let atomics : List (Instr × PxOp × (Word → Word)) :=
      [(.pxAmoadd n, .amoadd, fun old => old + b), (.pxAmoswap n, .amoswap, fun _ => b), (.pxCas n, .cas, fun old => if old = d then b else old)]
    (∀ e ∈ loads, PxAt s n.val e.2.1 w →
      (ea % e.2.2.1 ≠ 0 → ∃ t, exec e.1 s = .next t ∧ PxFault s t n.val pfMISALIGN ea) ∧
      (ea % e.2.2.1 = 0 → pxAddr s n.val ea = none → ∃ t, exec e.1 s = .next t ∧ PxFault s t n.val pfWINDOW ea) ∧
      (ea % e.2.2.1 = 0 → pxAddr s n.val ea = some a → areaOf s a = .slice n.val → s.memSt.bad = [] →
        ∃ t, exec e.1 s = .next t ∧ PxStep s t n.val (pxD w) (e.2.2.2 (s.load a e.2.2.1)) (pc + 1) []) ∧
      (ea % e.2.2.1 = 0 → pxAddr s n.val ea = some a → areaOf s a ≠ .slice n.val → ∃ t, exec e.1 s = .next t ∧ ptState t n.val = ptBLOCKED ∧
        (t.pt n.val).block = .access ea ∧ t.mem = s.mem ∧ t.out = s.out ∧ KeepsFields s t [PXE_PT_STAT_STATE n.val]) ∧
      ((s.pt n.val).block = .access ea → ptState s n.val = ptBLOCKED → pxWord s n.val = w → pxDecode w = e.2.1 → pxAddr s n.val ea = some a →
        areaOf s a = .stockpot → areaOf s (a + e.2.2.1 - 1) = .stockpot → s.memSt.bad = [] → (s.pt n.val).haltPend = false →
        (memAdmits s (reqPT n.val) false a e.2.2.1 = true → ∃ t, exec (.threadAccessDone n) s = .next t ∧ ptState t n.val = ptREADY ∧
          PxStep s t n.val (pxD w) (e.2.2.2 (s.load a e.2.2.1)) (pc + 1) [PXE_PT_STAT_STATE n.val]) ∧
        (memAdmits s (reqPT n.val) false a e.2.2.1 = false → ∃ t, exec (.threadAccessDone n) s = .next t ∧ PxFault s t n.val pfREFUSED ea)) ∧
      ((s.pt n.val).block = .access ea → ptState s n.val = ptBLOCKED → pxWord s n.val = w → pxDecode w = e.2.1 → pxAddr s n.val ea = some a →
        let x := soleAccess (ptUnblock s n.val) (reqPT n.val) false a e.2.2.1 d.toNat
        exec (.threadAccessDone n) s = .next (pxFinish x.2.2 n.val e.2.1 w ea x.1 x.2.1 (memRegion s a)))) ∧
    (∀ e ∈ stores, PxAt s n.val e.2.1 w →
      (ea % e.2.2 ≠ 0 → ∃ t, exec e.1 s = .next t ∧ PxFault s t n.val pfMISALIGN ea) ∧
      (ea % e.2.2 = 0 → pxAddr s n.val ea = none → ∃ t, exec e.1 s = .next t ∧ PxFault s t n.val pfWINDOW ea) ∧
      (ea % e.2.2 = 0 → pxAddr s n.val ea = some a → areaOf s a ≠ .slice n.val → ∃ t, exec e.1 s = .next t ∧ ptState t n.val = ptBLOCKED ∧
        (t.pt n.val).block = .access ea ∧ t.mem = s.mem ∧ t.out = s.out ∧ KeepsFields s t [PXE_PT_STAT_STATE n.val]) ∧
      (ea % e.2.2 = 0 → pxAddr s n.val ea = some a → areaOf s a = .slice n.val → s.memSt.bad = [] → ∃ t, exec e.1 s = .next t ∧
        t.bytesAt a e.2.2 = leBytes e.2.2 d.toNat ∧ (∀ x, x < a ∨ a + e.2.2 ≤ x → t.byte x = s.byte x) ∧ ptPc t n.val = (pc + 1) % 16384 ∧
        (∀ k, pxGet t n.val k = pxGet s n.val k) ∧ KeepsFields s t [PXE_PT_STAT_PC n.val] ∧ t.out = s.out)) ∧
    (∀ e ∈ stores, (s.pt n.val).block = .access ea → ptState s n.val = ptBLOCKED → pxWord s n.val = w → pxDecode w = e.2.1 → pxAddr s n.val ea = some a →
      (let x := soleAccess (ptUnblock s n.val) (reqPT n.val) true a e.2.2 d.toNat;
        exec (.threadAccessDone n) s = .next (pxFinish x.2.2 n.val e.2.1 w ea x.1 x.2.1 (memRegion s a))) ∧
      (areaOf s a = .stockpot → areaOf s (a + e.2.2 - 1) = .stockpot → s.memSt.bad = [] → (s.pt n.val).haltPend = false →
        (memAdmits s (reqPT n.val) true a e.2.2 = true → ∃ t, exec (.threadAccessDone n) s = .next t ∧ ptState t n.val = ptREADY ∧
          t.bytesAt a e.2.2 = leBytes e.2.2 d.toNat ∧ (∀ x, x < a ∨ a + e.2.2 ≤ x → t.byte x = s.byte x) ∧ ptPc t n.val = (pc + 1) % 16384 ∧
          ∀ k, pxGet t n.val k = pxGet s n.val k) ∧
        (memAdmits s (reqPT n.val) true a e.2.2 = false → ∃ t, exec (.threadAccessDone n) s = .next t ∧ PxFault s t n.val pfREFUSED ea))) ∧
    ((∀ x, (s.pt n.val).block ≠ .access x) ∨ ptState s n.val ≠ ptBLOCKED → exec (.threadAccessDone n) s = .next s) ∧
    (∀ e ∈ atomics, PxAt s n.val e.2.1 w →
      (base.toNat % 4 ≠ 0 → ∃ t, exec e.1 s = .next t ∧ PxFault s t n.val pfMISALIGN base.toNat) ∧
      (base.toNat % 4 = 0 → pxAddr s n.val base.toNat = none → ∃ t, exec e.1 s = .next t ∧ PxFault s t n.val pfWINDOW base.toNat) ∧
      (base.toNat % 4 = 0 → pxAddr s n.val base.toNat = some a → areaOf s a ≠ .stockpot → ∃ t, exec e.1 s = .next t ∧ PxFault s t n.val pfREFUSED base.toNat) ∧
      (base.toNat % 4 = 0 → pxAddr s n.val base.toNat = some a → areaOf s a = .stockpot → ∃ t, exec e.1 s = .next t ∧ ptState t n.val = ptBLOCKED ∧
        (t.pt n.val).block = .access base.toNat ∧ t.mem = s.mem ∧ t.out = s.out ∧ KeepsFields s t [PXE_PT_STAT_STATE n.val])) ∧
    (∀ e ∈ atomics, (s.pt n.val).block = .access a → ptState s n.val = ptBLOCKED → pxWord s n.val = w → pxDecode w = e.2.1 → a < 0x1400000 → a % 4 = 0 →
      s.memSt.bad = [] → (s.pt n.val).haltPend = false → memAdmits s (reqPT n.val) true a 4 = true →
      ∃ t, exec (.threadAccessDone n) s = .next t ∧ ptState t n.val = ptREADY ∧ t.load a 4 = (e.2.2 (BitVec.ofNat 32 (s.load a 4))).toNat ∧
        (∀ x, x < a ∨ a + 4 ≤ x → t.byte x = s.byte x) ∧ pxGet t n.val (pxD w) = (if pxD w = 0 then 0 else BitVec.ofNat 32 (s.load a 4)) ∧
        ptPc t n.val = (pc + 1) % 16384) ∧
    (∀ e ∈ atomics, (s.pt n.val).block = .access a → ptState s n.val = ptBLOCKED → pxWord s n.val = w → pxDecode w = e.2.1 → a < 0x1400000 → a % 4 = 0 →
      s.memSt.bad = [] → (s.pt n.val).haltPend = false → memAdmits s (reqPT n.val) false a 4 = false →
      ∃ t, exec (.threadAccessDone n) s = .next t ∧ PxFault s t n.val pfREFUSED a)) ∧
  (∀ (s : State) (n : Fin 64) (w : Nat), w < 2 ^ 32 →
    let a := (pxGet s n.val (pxA w)).toNat; let b := (pxGet s n.val (pxB w)).toNat; let pend := s.get (PXE_PT_STAT_PEND n.val); let pc := ptPc s n.val
    (∀ e ∈ ([(.pxWait n, .wait), (.pxWaitr n, .waitr)] : List (Instr × PxOp)), PxAt s n.val e.2 w →
      (∀ f, (s.pt n.val).wokenFlags = some f → ∃ t, exec e.1 s = .next t ∧ t.get (PXE_PT_STAT_PEND n.val) = 0 ∧ (t.pt n.val).wokenFlags = none ∧
        PxStep s t n.val (pxD w) (BitVec.ofNat 32 (f * 256 + pend)) (pc + 1) [PXE_PT_STAT_PEND n.val]) ∧
      ((s.pt n.val).wokenFlags = none → pend ≠ 0 → ∃ t, exec e.1 s = .next t ∧ t.get (PXE_PT_STAT_PEND n.val) = 0 ∧
        PxStep s t n.val (pxD w) (BitVec.ofNat 32 pend) (pc + 1) [PXE_PT_STAT_PEND n.val]) ∧
      ((s.pt n.val).wokenFlags = none → pend = 0 → ∃ t arm, exec e.1 s = .next t ∧ ptState t n.val = ptWAITING ∧ (t.pt n.val).wake = some arm ∧
        (e.2 = .waitr → arm.src = 8 ∧ arm.lead = 0 ∧ arm.tgt = wrap 64 (s.T + a) ∧ arm.deadline = none) ∧
        (e.2 = .wait → (s.pt n.val).tsrc = 8 → arm.src = 8 ∧ arm.lead = (s.pt n.val).tlead ∧ arm.tgt = b * 2 ^ 32 + a ∧ arm.deadline = none ∧
          t.get (PXE_PT_STAT_NEVER n.val) = (if b * 2 ^ 32 + a = 2 ^ 64 - 1 then 1 else 0)) ∧
        (e.2 = .wait → (s.pt n.val).tsrc ≠ 8 → arm.src = (s.pt n.val).tsrc ∧ arm.tgt = a ∧ arm.deadline = if b = 0 then none else some (s.T + b)) ∧
        t.mem = s.mem ∧ t.out = s.out ∧ KeepsFields s t [PXE_PT_STAT_STATE n.val, PXE_PT_STAT_NEVER n.val])) ∧
    (PxAt s n.val .poke w → ∃ s1, exec (.pxPoke n) s = .next (nextPc (threadWake s1 (a % 64) causePOKE) n.val) ∧ s1.regs = s.regs ∧ s1.mem = s.mem ∧ s1.out = s.out) ∧
    (PxAt s n.val .halt w → ptState s n.val = ptREADY → ∃ t, exec (.pxHalt n) s = .next t ∧ ptState t n.val = ptHALTED ∧ ptPc t n.val = (pc + 1) % 16384 ∧
      t.out = s.out ++ [.irq .pxe] ∧ t.mem = s.mem) ∧
    (PxAt s n.val .brk w → ∃ t, exec (.pxBrk n) s = .next t ∧ PxFault s t n.val pfBREAK 0) ∧
    (PxAt s n.val .illegal w → ∃ t, exec (.pxIllegalEncoding n) s = .next t ∧ PxFault s t n.val pfILLEGAL 0)) ∧
  (∀ (s : State) (k c : Nat), c < 8 →
    (ptStopped s k = true → threadWake s k c = s.bump (PXE_PT_CNT_POKE_DROPPED k)) ∧
    (ptStopped s k = false → ptState s k ≠ ptWAITING → threadWake s k c = s.put (PXE_PT_STAT_PEND k) (setBit (s.get (PXE_PT_STAT_PEND k)) c)) ∧
    (ptState s k = ptWAITING → ptState (threadWake s k c) k = ptREADY ∧ bit ((threadWake s k c).get (PXE_PT_STAT_PEND k)) c = true ∧
      ((threadWake s k c).pt k).wake = none ∧ ((threadWake s k c).pt k).fireT = s.T)) ∧
  (∀ (s : State) (n : Fin 64) (a : WakeArm), (s.pt n.val).wake = some a → a.src = 8 → ptState s n.val = ptWAITING →
    ((a.tgt ≠ 2 ^ 64 - 1 → a.tgt - a.lead ≤ s.T → a.deadline = none → (s.pt n.val).jumpT = none → ∃ t, exec (.wakeCompareFire n) s = .next t ∧ ptState t n.val = ptREADY ∧
      (t.pt n.val).wake = none ∧ (t.pt n.val).fireT = s.T ∧ bit (t.get (PXE_PT_STAT_PEND n.val)) 0 = true ∧
      (t.pt n.val).wokenFlags = some (b2n a.late + b2n (s.pt n.val).heldFlag * 4) ∧ t.mem = s.mem ∧ t.out = s.out ∧ (∀ k, k ≠ n.val → t.pt k = s.pt k) ∧
      KeepsFields s t [PXE_PT_STAT_PEND n.val, PXE_PT_STAT_STATE n.val, PXE_PT_STAT_NEVER n.val]) ∧
    (a.tgt = 2 ^ 64 - 1 ∨ s.T < a.tgt - a.lead → a.deadline = none → exec (.wakeCompareFire n) s = .next s))) ∧
  (∀ (s : State) (n : Fin 64), (s.pt n.val).wake = none → exec (.wakeCompareFire n) s = .next s) ∧
  (∀ (s : State) (n : Fin 64) (a : WakeArm), (s.pt n.val).wake = some a → a.src < 8 →
    let x := wakeCrossing s n.val a; let d := wakeDeadline s a
    (ptState s n.val = ptWAITING → x || d → ∃ t, exec (.wakeCompareFire n) s = .next t ∧ ptState t n.val = ptREADY ∧ (t.pt n.val).wake = none ∧
      (t.pt n.val).fireT = s.T ∧ (x → bit (t.get (PXE_PT_STAT_PEND n.val)) 0 = true) ∧ (d → bit (t.get (PXE_PT_STAT_PEND n.val)) 1 = true) ∧
      t.mem = s.mem ∧ t.out = s.out ∧ (∀ k, k ≠ n.val → t.pt k = s.pt k) ∧
      KeepsFields s t [PXE_PT_STAT_PEND n.val, PXE_PT_STAT_STATE n.val, PXE_PT_STAT_NEVER n.val]) ∧
    (x = false → d = false → wakeHolds s a = true → exec (.wakeCompareFire n) s =
      .next (if wouldBeDue s a.src a.dir a.lead a.tgt a.armT then s.setPt n.val { s.pt n.val with heldFlag := true } else s)) ∧
    (x = false → d = false → wakeHolds s a = false → exec (.wakeCompareFire n) s = .next s)) ∧
  (∀ (s : State) (m : BitVec 8) (n : Fin 64), isMC m.toNat = true → let st := ptState s n.val
    (st = ptHALTED ∨ st = ptFAULTED → ∃ t, exec (.ptStart m n) s = .next t ∧ ptState t n.val = ptREADY ∧ ptPc t n.val = wrap 14 (s.get (PXE_PT_ENTRY_ENTRY n.val)) ∧
      t.get (PXE_PT_STAT_PEND n.val) = 0 ∧ t.get (PXE_PT_FAULT_INFO_VALID n.val) = 0 ∧ (∀ r, pxGet t n.val r = 0) ∧ (t.pt n.val).tsrc = 8 ∧ (t.pt n.val).icnt = 0 ∧
      t.mem = s.mem ∧ t.out = s.out) ∧
    (st ≠ ptHALTED → st ≠ ptFAULTED → exec (.ptStart m n) s = .next (s.put (PXE_PT_STAT_CFG_IGN n.val) 1)) ∧
    (st = ptREADY ∨ st = ptWAITING → ∃ t, exec (.ptHalt m n) s = .next t ∧ ptState t n.val = ptHALTED ∧ (t.pt n.val).wake = none ∧ t.mem = s.mem ∧ t.out = s.out) ∧
    (st = ptBLOCKED → exec (.ptHalt m n) s = .next (s.setPt n.val { s.pt n.val with haltPend := true })) ∧
    (st = ptHALTED ∨ st = ptFAULTED → exec (.ptHalt m n) s = .next s) ∧
    (st = ptHALTED → ∃ t, exec (.ptResume m n) s = .next t ∧ ptState t n.val = ptREADY ∧ t.pt n.val = s.pt n.val ∧ t.mem = s.mem ∧ t.out = s.out ∧
      KeepsFields s t [PXE_PT_STAT_STATE n.val]) ∧
    (st ≠ ptHALTED → exec (.ptResume m n) s = .next (s.put (PXE_PT_STAT_CFG_IGN n.val) 1)) ∧
    exec (.ptPoke m n) s = .next (threadWake s n.val causePOKE)) ∧
  (∀ (s : State) (m : BitVec 8) (n : Fin 64) (c : Fin 4), isMC m.toNat = false →
    exec (.ptStart m n) s = .next (s.refuseWrite m.toNat 20 (0x1000 + 0x20 * n.val)) ∧ exec (.ptHalt m n) s = .next (s.refuseWrite m.toNat 20 (0x1000 + 0x20 * n.val)) ∧
    exec (.ptResume m n) s = .next (s.refuseWrite m.toNat 20 (0x1000 + 0x20 * n.val)) ∧ exec (.ptPoke m n) s = .next (s.refuseWrite m.toNat 20 (0x1000 + 0x20 * n.val)) ∧
    exec (.haltAll m c) s = .next (s.refuseWrite m.toNat 20 (0x100 + 0x20 * c.val)) ∧ exec (.startAll m c) s = .next (s.refuseWrite m.toNat 20 (0x100 + 0x20 * c.val))) ∧
  (∀ (s : State) (m : BitVec 8) (c : Fin 4), isMC m.toNat = true →
    (∃ t, exec (.haltAll m c) s = .next t ∧ t.mem = s.mem ∧ t.out = s.out ∧ (∀ j < 16, let k := 16 * c.val + j
      (ptState s k = ptREADY ∨ ptState s k = ptWAITING → ptState t k = ptHALTED) ∧ (ptState s k = ptBLOCKED → ptState t k = ptBLOCKED ∧ (t.pt k).haltPend = true) ∧
      (ptStopped s k = true → ptState t k = ptState s k)) ∧ (∀ k, k / 16 ≠ c.val → t.pt k = s.pt k ∧ ptState t k = ptState s k)) ∧
    (∃ t, exec (.startAll m c) s = .next t ∧ t.mem = s.mem ∧ t.out = s.out ∧ (∀ j < 16, let k := 16 * c.val + j
      (ptStopped s k = true → ptState t k = ptREADY ∧ ptPc t k = wrap 14 (s.get (PXE_PT_ENTRY_ENTRY k))) ∧ (ptStopped s k = false → ptState t k = ptState s k ∧ t.pt k = s.pt k)) ∧
      (∀ k, k / 16 ≠ c.val → t.pt k = s.pt k ∧ ptState t k = ptState s k))) ∧
  (∀ (s : State) (c : Fin 4) (t0 : Nat), s.pxe.stallFrom.get none c.val = some t0 → clusterStalled s c.val = true →
    (t0 + s.get (PXE_CL_STALL_LIM_US c.val) * 1000 ≤ s.T → ∃ t, exec (.stallLimit c) s = .next t ∧ t.get (PXE_CL_STAT_STALL c.val) = 1 ∧
      t.get (PXE_CL_STALL_CNT_COUNT c.val) = wrap 16 (satAdd 16 (s.get (PXE_CL_STALL_CNT_COUNT c.val)) 1) ∧ t.out = s.out ++ [.irq (.stall c.val)] ∧ t.mem = s.mem ∧
      (∀ j < 16, let k := 16 * c.val + j
        (ptStopped s k = true → ptState t k = ptState s k) ∧ (ptStopped s k = false → ptState t k = ptREADY ∧ bit (t.get (PXE_PT_STAT_PEND k)) causeSTALL = true))) ∧
    (s.T < t0 + s.get (PXE_CL_STALL_LIM_US c.val) * 1000 → exec (.stallLimit c) s = .next s)) ∧
  (∀ (s : State) (c : Fin 4), s.pxe.stallFrom.get none c.val = none ∨ clusterStalled s c.val = false → exec (.stallLimit c) s = .next s)

/-- Section 15.6 and Table 16.10. -/
def Obligations.PacketTputAndDatapathCommands : Prop :=
  (∀ (s : State) (n : Fin 64) (w a : Nat), w < 2 ^ 32 → PxAt s n.val .tput w →
    let r := (pxGet s n.val (pxA w)).toNat; let ea := (pxGet s n.val (pxB w)).toNat; let src := s.load a 4 + s.load (a + 4) 1 * 2 ^ 32; let len := s.load (a + 8) 4
    (ea % 8 ≠ 0 → ∃ t, exec (.pxTput n) s = .next t ∧ PxFault s t n.val pfMISALIGN ea) ∧
    (ea % 8 = 0 → sliceAddr s n.val ea 12 = none → ∃ t, exec (.pxTput n) s = .next t ∧ PxFault s t n.val pfREFUSED ea) ∧
    (ea % 8 = 0 → sliceAddr s n.val ea 12 = some a →
      (tputRing s r = false → ∃ t, exec (.pxTput n) s = .next t ∧ ptState t n.val = ptBLOCKED ∧ (t.pt n.val).block = .tput (pxD w) r 0 tcDENIED ∧
        t.get PXE_TPUT_CNT_DENIED = wrap 16 (satAdd 16 (s.get PXE_TPUT_CNT_DENIED) 1) ∧ t.hif = s.hif ∧ t.mem = s.mem ∧ t.out = s.out) ∧
      (tputRing s r = true → nextItem s r rkTELEMETRY = none → tputPosted s r = false → ∃ t, exec (.pxTput n) s = .next t ∧ ptState t n.val = ptBLOCKED ∧
        (t.pt n.val).block = .tput (pxD w) r 0 tcNOBUF ∧ t.get PXE_TPUT_CNT_NOBUF = wrap 16 (satAdd 16 (s.get PXE_TPUT_CNT_NOBUF) 1) ∧ t.hif = s.hif ∧
        t.mem = s.mem ∧ t.out = s.out) ∧
      (tputRing s r = true → nextItem s r rkTELEMETRY = none → tputPosted s r = true → ∃ t, exec (.pxTput n) s = .next t ∧ ptState t n.val = ptBLOCKED ∧
        (t.pt n.val).block = .tputWait (pxD w) r src len ∧ t.hif = s.hif ∧ t.mem = s.mem ∧ t.out = s.out) ∧
      (∀ b, tputRing s r = true → nextItem s r rkTELEMETRY = some [b] →
        (len = 0 ∨ b.len < len → ∃ t, exec (.pxTput n) s = .next t ∧ ptState t n.val = ptBLOCKED ∧ (t.pt n.val).block = .tput (pxD w) r 0 tcTOOLONG ∧ t.hif = s.hif ∧
          t.mem = s.mem ∧ t.out = s.out) ∧
        (len ≠ 0 → len ≤ b.len → areaOf s src = .slice n.val → areaOf s (src + len - 1) = .slice n.val → s.memSt.bad = [] →
          ∃ t, exec (.pxTput n) s = .next t ∧ ptState t n.val = ptBLOCKED ∧ (t.pt n.val).block = .tput (pxD w) r b.seq tcOK ∧
            t.out = s.out ++ [.dma (ringInst s r) b.addr (s.bytesAt src len)] ∧ t.mem = s.mem) ∧
        (len ≠ 0 → len ≤ b.len → memAdmits s (reqPT n.val) false src len = false →
          ∃ t, exec (.pxTput n) s = .next t ∧ ptState t n.val = ptBLOCKED ∧ (t.pt n.val).block = .tput (pxD w) r b.seq tcSOURCE ∧ t.mem = s.mem)))) ∧
  (∀ (s : State) (n : Fin 64) (d r src len : Nat), (s.pt n.val).block = .tputWait d r src len → ptState s n.val = ptBLOCKED →
    let gone (code : Nat) (f : Fld) : Prop := ∃ t, exec (.tputDone n) s = .next t ∧ ptState t n.val = (if (s.pt n.val).haltPend then ptHALTED else ptREADY) ∧
      (t.pt n.val).block = .none ∧ pxGet t n.val d = (if d = 0 then 0 else BitVec.ofNat 32 code) ∧ ptPc t n.val = (ptPc s n.val + 1) % 16384 ∧
      t.get f = wrap 16 (satAdd 16 (s.get f) 1) ∧ t.hif = s.hif ∧ t.mem = s.mem ∧ t.out = s.out
    (tputRing s r = false → gone tcDENIED PXE_TPUT_CNT_DENIED) ∧ (tputRing s r = true → tputPosted s r = false → gone tcNOBUF PXE_TPUT_CNT_NOBUF) ∧
    (tputRing s r = true → tputPosted s r = true → exec (.tputDone n) s = .next s)) ∧
  (∀ (s : State) (n : Fin 64), ((∀ d r q c, (s.pt n.val).block ≠ .tput d r q c) ∧ ∀ d r a l, (s.pt n.val).block ≠ .tputWait d r a l) ∨ ptState s n.val ≠ ptBLOCKED →
    exec (.tputDone n) s = .next s) ∧
  (∀ (s : State) (n : Fin 64) (d r seq code : Nat), (s.pt n.val).block = .tput d r seq code → ptState s n.val = ptBLOCKED →
    (∀ c, (code ≠ tcOK ∧ c = code) ∨ (code = tcOK ∧ (∀ e ∈ (s.ring r).descs, e.seq ≠ seq) ∧
        ((recStatus s r seq = some stOK ∧ c = tcOK) ∨ (recStatus s r seq = some stFAILED_DMA ∧ c = tcSOURCE) ∨ (recStatus s r seq = none ∧ c = tcDENIED))) →
      ∃ t, exec (.tputDone n) s = .next t ∧ ptState t n.val = (if (s.pt n.val).haltPend then ptHALTED else ptREADY) ∧ (t.pt n.val).block = .none ∧
        pxGet t n.val d = (if d = 0 then 0 else BitVec.ofNat 32 c) ∧ ptPc t n.val = (ptPc s n.val + 1) % 16384 ∧ t.hif = s.hif ∧ t.mem = s.mem ∧ t.out = s.out) ∧
    (code = tcOK → (∃ e ∈ (s.ring r).descs, e.seq = seq) → exec (.tputDone n) s = .next s)) ∧
  (∀ (s : State) (n : Fin 64) (w : Nat), w < 2 ^ 32 →
    let a := (pxGet s n.val (pxA w)).toNat; let b := (pxGet s n.val (pxB w)).toNat; let d := pxD w; let pc := ptPc s n.val
    (PxAt s n.val .prx w →
      (s.get (NET_CPUQ_PT (a % 16)) ≠ n.val → ∃ t, exec (.pxPrx n) s = .next t ∧ t.net = s.net ∧ PxStep s t n.val d 0xFFFFFFFE (pc + 1) []) ∧
      (s.get (NET_CPUQ_PT (a % 16)) = n.val → cpuq s (a % 16) = [] → ∃ t, exec (.pxPrx n) s = .next t ∧ t.net = s.net ∧ PxStep s t n.val d 0xFFFFFFFF (pc + 1) []) ∧
      (∀ h l, s.get (NET_CPUQ_PT (a % 16)) = n.val → cpuq s (a % 16) = h :: l → ∃ t, exec (.pxPrx n) s = .next t ∧ cpuq t (a % 16) = l ∧
        (∀ q, q ≠ a % 16 → cpuq t q = cpuq s q) ∧ PxStep s t n.val d (BitVec.ofNat 32 h) (pc + 1) [NET_CPUQ_DEPTH (a % 16)])) ∧
    (PxAt s n.val .ptx w →
      (cpuHandle s a = false → ∃ t, exec (.pxPtx n) s = .next t ∧ t.net = s.net ∧ PxStep s t n.val d 1 (pc + 1) []) ∧
      (∀ f, cpuHandle s a = true → s.frame? a = some f → bits b 30 2 = 0 → (parse (frameBytes s a)).tci = none →
        vlanAdmits s (s.load (cellAddr a + 22) 2) (fun e => bit (e.f 4 1) 7) = true →
        ∃ s1, s1.frame? a = some { f with cpu := false } ∧ s1.regs = s.regs ∧ s1.mem = s.mem ∧ s1.tsn = s.tsn ∧ exec (.pxPtx n) s = .next (pxDone (enterColander s1
          { h := a, src := 0x87, t := s.T, vid := s.load (cellAddr a + 22) 2, flags := s.load (cellAddr a + 4) 2, mark := s.load (cellAddr a + 20) 2 }
          (frameBytes s a)) n.val d 0)) ∧
      (cpuHandle s a = true → bits b 30 2 = 3 → ∃ t, exec (.pxPtx n) s = .next t ∧ PxStep s t n.val d 1 (pc + 1) [] ∧ t.frame? a = s.frame? a) ∧
      (∀ f, cpuHandle s a = true → s.frame? a = some f → bits b 30 2 = 1 ∨ bits b 30 2 = 2 → ∃ s1 vid, s1.frame? a = some { f with cpu := false } ∧
        s1.regs = s.regs ∧ s1.mem = s.mem ∧ s1.tsn = s.tsn ∧
        let m : Meta := { h := a, src := 0x87, t := s.T, vid := vid, flags := s.load (cellAddr a + 4) 2, mark := s.load (cellAddr a + 20) 2 }
        let v : Verdict := if bits b 30 2 = 1 then { port := b % 8, tc := some (bits b 4 3) } else { port := 6, dest := bits b 8 7 }
        let x := sendCopy s1 m v (frameBytes s a) f.charge
        exec (.pxPtx n) s = .next (if x.2 = 0 then pxDone x.1 n.val d 0
          else pxDone (dropFrame x.1 m x.2) n.val d (BitVec.ofNat 32 (if x.2 = stDROPPED_QUOTA then 2 else 3))))) ∧
    (PxAt s n.val .pfree w →
      (cpuHandle s a = false → ∃ t, exec (.pxPfree n) s = .next t ∧ t.net = s.net ∧ PxStep s t n.val 0 0 (pc + 1) []) ∧
      (∀ f, cpuHandle s a = true → s.frame? a = some f → ∃ t, exec (.pxPfree n) s = .next t ∧ PxStep s t n.val 0 0 (pc + 1) [] ∧
        (f.refs ≤ 1 → t.frame? a = none) ∧ (1 < f.refs → t.frame? a = some { f with refs := f.refs - 1 }) ∧ (∀ h, h ≠ a → t.frame? h = s.frame? h))) ∧
    (PxAt s n.val .palloc w → let k := cellsFor (wrap 14 a); let i := wrap 7 b
      ((freeCells s i).length < k ∨ k = 0 ∨ quotaOk s i k = false → ∃ t, exec (.pxPalloc n) s = .next t ∧ t.net = s.net ∧ PxStep s t n.val d 0xFFFFFFFF (pc + 1) [INS_CNT_QUOTA_COUNT i] ∧
        t.get (INS_CNT_QUOTA_COUNT i) = wrap 32 (satAdd 32 (s.get (INS_CNT_QUOTA_COUNT i)) 1)) ∧
      (∀ h l, (freeCells s i).take k = h :: l → (h :: l).length = k → quotaOk s i k = true → ∃ t, exec (.pxPalloc n) s = .next t ∧
        pxGet t n.val d = (if d = 0 then 0 else BitVec.ofNat 32 h) ∧ t.frame? h = some { cells := h :: l, charge := i, cpu := true } ∧ t.load (cellAddr h) 2 = wrap 14 a ∧
        ptPc t n.val = (pc + 1) % 16384 ∧ KeepsFields s t [PXE_PT_STAT_PC n.val])) ∧
    (∀ x, PxAt s n.val .flook w → sliceAddr s n.val a 48 = some x →
      ∃ t, exec (.pxFlook n) s = .next t ∧ t.net = s.net ∧ PxStep s t n.val d (BitVec.ofNat 32 ((flowLook s (s.bytesAt x 48)).getD 0xFFFFFFFF)) (pc + 1) []) ∧
    (PxAt s n.val .flook w → sliceAddr s n.val a 48 = none → ∃ t, exec (.pxFlook n) s = .next t ∧ PxFault s t n.val pfREFUSED a) ∧
    (∀ x, PxAt s n.val .fcmd w → sliceAddr s n.val a 96 = some x → ∃ s1, s1.regs = s.regs ∧ s1.mem = s.mem ∧ s1.net = s.net ∧
      let r := execRecord s1 none (s.bytesAt x 96)
      exec (.pxFcmd n) s = .next (pxDone (r.1.setBytes x r.2) n.val d (BitVec.ofNat 32 (le r.2 2 1)))) ∧
    (PxAt s n.val .fcmd w → sliceAddr s n.val a 96 = none → ∃ t, exec (.pxFcmd n) s = .next t ∧ PxFault s t n.val pfREFUSED a))

/-- Sections 16.3, 16.4, 16.6, 16.10 and 16.11; `execRecord` is one record, `recordOf` its bytes, `recKey` the entry it names. -/
def Obligations.TableRecordsAct : Prop :=
  (∀ (s : State) (idx : Nat) (img : List Byte), s.get (INS_INFO_INSTATE 0) ≠ 0 → idx < 2 ^ 32 → img.length = 80 →
    (1 ≤ idx → idx < 4095 → le img 2 2 < 4096 → ∃ t, exec (.tableWrite 0 (recordOf 1 1 idx 0 img)) s = .next t ∧ RecordDone s t trOK ∧
      t.ent? tkVLAN idx = some { img := img.take 28 } ∧ entriesKept s t tkVLAN idx ∧ t.mem = s.mem ∧
      ((s.net.tabOld.get none (tabKey tkVLAN idx)).map (·.1) ≠ some s.T → t.look tkVLAN idx = s.ent? tkVLAN idx) ∧
      (∀ u, s.T < u → State.look { t with T := u } tkVLAN idx = some { img := img.take 28 })) ∧
    (idx = 0 ∨ 4095 ≤ idx ∨ 4096 ≤ le img 2 2 → ∃ t, exec (.tableWrite 0 (recordOf 1 1 idx 0 img)) s = .next t ∧ RecordDone s t trBAD_ARG ∧ tablesKept s t ∧ t.mem = s.mem) ∧
    (∀ n : Fin 128, n.val ≠ 0 → s.get (INS_INFO_INSTATE n.val) ≠ 0 → ∃ t, exec (.tableWrite n (recordOf 1 1 idx 0 img)) s = .next t ∧ RecordDone s t trDENIED ∧
      tablesKept s t ∧ t.mem = s.mem) ∧
    (∀ n : Fin 128, n.val ≠ 0 → ∃ t, exec (.tableWrite n (recordOf 1 1 idx 5 img)) s = .next t ∧ RecordDone s t trBAD_ARG ∧ tablesKept s t ∧ t.mem = s.mem)) ∧
  (∀ (s : State) (n : Fin 128) (tb idx inst : Nat) (img : List Byte), let who := if n.val = 0 then inst else n.val; let rq := requesterOf n.val
    let k := (recKey tb who idx).1; let i := (recKey tb who idx).2
    (n.val ≠ 0 → inst = 0) → who < 128 → s.get (INS_INFO_INSTATE who) ≠ 0 → 1 ≤ tb → tb ≤ 8 → idx < 2 ^ 32 → img.length = 80 →
    let del : Instr := .tableDelete n (recordOf 2 tb idx inst img); let rd : Instr := .tableRead n (recordOf 3 tb idx inst img)
    (s.ent? k i = none → (∃ t, exec del s = .next t ∧ RecordDone s t trNOT_FOUND ∧ t.net = s.net ∧ t.mem = s.mem) ∧
      ∃ t, exec rd s = .next t ∧ RecordDone s t trNOT_FOUND ∧ t.net = s.net ∧ t.mem = s.mem) ∧
    (∀ e, s.ent? k i = some e → (k = tkFLOW → e.tmpl = (tb == tkTEMPLATE)) →
      (entRight s rq tb i e true = true → ∃ t, exec del s = .next t ∧ t.resp = trOK ∧ t.ent? k i = none ∧
        (k ≠ tkFLOW → RecordDone s t trOK ∧ entriesKept s t k i ∧ t.mem = s.mem)) ∧
      (entRight s rq tb i e true = false → ∃ t, exec del s = .next t ∧ RecordDone s t trDENIED ∧ t.net = s.net ∧ t.mem = s.mem) ∧
      (entRight s rq tb i e false = true → ∃ t, exec rd s = .next t ∧ RecordDone s t trOK ∧ t.net = s.net ∧ t.mem = s.mem ∧
        t.reply.drop 16 = fix 80 (readImage k e)) ∧
      (entRight s rq tb i e false = false → ∃ t, exec rd s = .next t ∧ RecordDone s t trDENIED ∧ t.net = s.net ∧ t.mem = s.mem))) ∧
  (∀ (s : State) (who idx : Nat) (img : List Byte), who < 128 → s.get (INS_INFO_INSTATE who) ≠ 0 → img.length = 80 →
    let put (tb k i : Nat) (e : TabEnt) : Prop := ∃ t, exec (.tableWrite 0 (recordOf 1 tb idx who img)) s = .next t ∧ RecordDone s t trOK ∧ t.ent? k i = some e ∧
      entriesKept s t k i ∧ t.mem = s.mem
    (idx < 2 ^ 32 → le img 6 1 ≤ 4 → le img 7 1 ≤ 2 → le img 8 1 ≤ 15 → le img 0 2 ≤ 4095 → put 2 tkVPORT who { img := img.take 9, owner := who }) ∧
    (idx < 4096 → idx < pantry s who 5 16 13 → 256 ≤ le img 4 4 → bits (le img 0 2) 6 2 ≤ 2 → bits (le img 0 2) 8 3 ≤ 5 → bit (le img 0 2) 1 = true →
      le img 2 1 = 0 ∨ (50 ≤ le img 2 1 ∧ le img 2 1 ≤ 99) →
      put 6 tkSA (who * 4096 + idx) (keepKeys (s.ent? tkSA (who * 4096 + idx)) (patch (img.take 64) 28 [0]) who)) ∧
    (idx < 64 → idx < pantry s who 5 0 7 → le img 2 1 ≤ 5 → bits (le img 0 2) 4 2 ≤ 2 → le img 3 1 ≤ 3 → bit (le img 0 2) 1 = true →
      put 7 tkSC (who * 64 + idx) (keepKeys (s.ent? tkSC (who * 64 + idx)) (patch (img.take 32) 24 [0]) who)) ∧
    (idx < pantry s who 7 0 8 → le img 2 1 = 9 ∨ le img 2 1 = 12 → (∀ e ∈ s.ents tkNS, e.1 = who * 128 + idx ∨ e.2.f 4 4 ≠ le img 4 4) →
      put 8 tkNS (who * 128 + idx) (keepKeys (s.ent? tkNS (who * 128 + idx)) (img.take 24) who))) ∧
  (∀ (s : State) (idx who : Nat) (img : List Byte), who < 128 → s.get (INS_INFO_INSTATE who) ≠ 0 → idx < 2 ^ 32 → img.length = 80 → le img 6 2 < 4096 → le img 8 1 < 2 →
    le img 9 1 = 1 → le img 10 1 < 128 → let fid := le img 6 2; let mac := be img 0 6
    (∀ i, fdbFind s fid mac = none → tabCount s tkFDB who < pantry s who 3 0 15 → fdbFree s fid mac = some i →
      ∃ t e, exec (.tableWrite 0 (recordOf 1 3 idx who img)) s = .next t ∧ RecordDone s t trOK ∧ t.ent? tkFDB i = some e ∧ fdbIs fid mac (some e) = true ∧
        e.owner = who ∧ e.f 10 1 = le img 10 1 ∧ entriesKept s t tkFDB i ∧ t.mem = s.mem) ∧
    (fdbFind s fid mac = none → pantry s who 3 0 15 ≤ tabCount s tkFDB who → ∃ t, exec (.tableWrite 0 (recordOf 1 3 idx who img)) s = .next t ∧
      RecordDone s t trNO_RESOURCE ∧ tablesKept s t ∧ t.mem = s.mem) ∧
    (fdbFind s fid mac = none → tabCount s tkFDB who < pantry s who 3 0 15 → fdbFree s fid mac = none → ∃ t, exec (.tableWrite 0 (recordOf 1 3 idx who img)) s = .next t ∧
      RecordDone s t trFULL ∧ tablesKept s t ∧ t.mem = s.mem) ∧
    (∀ i, fdbFind s fid mac = some i → i ≠ idx → ∃ t, exec (.tableWrite 0 (recordOf 1 3 idx who img)) s = .next t ∧ RecordDone s t trEXISTS ∧ tablesKept s t ∧ t.mem = s.mem)) ∧
  (∀ (s : State) (who i : Nat) (img : List Byte), who < 128 → s.get (INS_INFO_INSTATE who) ≠ 0 → img.length = 80 → bits (le img 48 4) 28 4 ≤ 4 → bits (le img 48 4) 24 4 ≤ 5 →
    flowFind s (img.take 48) = none → tabCount s tkFLOW who < pantry s who 4 0 19 → flowFree s (img.take 48) = some i →
    ∃ t e, exec (.tableWrite 0 (recordOf 1 4 0xFFFFFFFF who img)) s = .next t ∧ RecordDone s t trOK ∧ t.ent? tkFLOW i = some e ∧ flowIs (img.take 48) (some e) = true ∧
      e.owner = who ∧ entriesKept s t tkFLOW i ∧ le t.reply 16 4 = i) ∧
  (∀ (s : State) (n : Fin 128) (tb idx inst : Nat) (img : List Byte), let who := if n.val = 0 then inst else n.val; let rq := requesterOf n.val
    (n.val ≠ 0 → inst = 0) → who < 128 → s.get (INS_INFO_INSTATE who) ≠ 0 → tb < 256 → idx < 2 ^ 32 → img.length = 80 →
    let load : Instr := .keyLoad n (recordOf 4 tb idx inst img); let restore : Instr := .keyRestore n (recordOf 5 tb idx inst img)
    let ok : Bool := s.flag SEC_STAT_KWK_VALID && Config.cipherOk ciWRAP s.sec.kwk [] (img.take 72)
    let key := fix 64 (Config.cipher ciUNWRAP s.sec.kwk [] (img.take 72))
    (∀ c, keyEntry s rq tb who idx = .inl c → (∃ t, exec load s = .next t ∧ RecordDone s t c ∧ t.net = s.net ∧ t.mem = s.mem) ∧
      ∃ t, exec restore s = .next t ∧ RecordDone s t c ∧ t.net = s.net ∧ t.mem = s.mem) ∧
    (∀ k i an e, keyEntry s rq tb who idx = .inr (k, i, an, e) →
      (k ≠ tkNS ∨ img.take 32 ≠ (img.drop 32).take 32 → ∃ t, exec load s = .next t ∧ RecordDone s t trOK ∧ entriesKept s t k i ∧ t.mem = s.mem ∧
        t.ent? k i = some { e with key := e.key.set an (img.take 64), lost := false } ∧
        t.reply.drop 16 = fix 72 (Config.cipher ciWRAP s.sec.kwk [] (img.take 64)) ++ List.replicate 8 0) ∧
      (k = tkNS → img.take 32 = (img.drop 32).take 32 → ∃ t, exec load s = .next t ∧ RecordDone s t trKEY_INVALID ∧ t.net = s.net ∧ t.mem = s.mem) ∧
      (ok = true → ∃ t, exec restore s = .next t ∧ RecordDone s t trOK ∧ t.ent? k i = some { e with key := e.key.set an key, lost := false } ∧
        entriesKept s t k i ∧ t.mem = s.mem) ∧
      (ok = false → ∃ t, exec restore s = .next t ∧ RecordDone s t trKEY_INVALID ∧ t.net = s.net ∧ t.mem = s.mem)) ∧
    (∀ e, n.val = 0 → tb = 6 → s.ent? tkSA (who * 4096 + idx % 4096) = some e → keyEntry s rq tb who idx = .inr (tkSA, who * 4096 + idx % 4096, 0, e))) ∧
  (∀ (s : State) (r : BitVec 15) (d : Desc) (b : List Byte), nextItem s r.toNat rkTX = some [d] → (s.ring r.toNat).descs = [d] → d.opc = 0x10 → d.len = 96 →
    ∃ s1 t l, s1.net = s.net ∧ s1.regs = s.regs ∧ s1.mem = s.mem ∧ s1.out = s.out ∧ exec (.txTable r b) s = .next t ∧
      (let x := execRecord s1 (requesterOf (ringInst s r.toNat)) (slice b 0 96)
       t.net.tab = x.1.net.tab ∧ t.mem = x.1.mem ∧ t.out = s.out ++ .dma (ringInst s r.toNat) d.addr x.2 ::
        .dma (ringInst s r.toNat) (cplBase s r.toNat + 16 * (d.seq % ringN s r.toNat)) (cplBytes s r.toNat d.seq d.tag { status := stOK, length := 96 } d.seq (ringN s r.toNat)) :: l)) ∧
  (∀ (s : State) (r : BitVec 15) (d : Desc) (b : List Byte), nextItem s r.toNat rkTX = some [d] → d.opc = 0x10 →
    let n := ringInst s r.toNat
    ∃ s1, s1.net = s.net ∧ s1.regs = s.regs ∧ s1.mem = s.mem ∧ s1.out = s.out ∧ exec (.txTable r b) s =
      .next (finish ((List.range (d.len / 96)).foldl (fun s2 k => let x := execRecord s2 (requesterOf n) (slice b (96 * k) 96); x.1.emit (.dma n (d.addr + 96 * k) x.2)) s1)
        r.toNat d.seq { status := stOK, length := d.len })) ∧
  (∀ (s : State) (r : BitVec 15) (d : Desc) (l : List Desc) (b : List Byte), nextItem s r.toNat rkTX = some (d :: l) →
    (d.opc ≠ 0x10 → exec (.txTable r b) s = .next s) ∧ (d.opc ≠ 1 → exec (.txFrame r b) s = .next s)) ∧
  (∀ (s : State) (r : BitVec 15) (b : List Byte), nextItem s r.toNat rkTX = none → exec (.txTable r b) s = .next s ∧ exec (.txFrame r b) s = .next s)

/-- Chapter 16 on frames, entries and storage, and what chapter 17 says of the start and the end of a transmission. -/
def Obligations.FramesAndStorageMove : Prop :=
  (∀ (s : State) (p : Fin 6) (fcs : Bool) (f : List Byte), let up := s.flag (NET_PORT_CFG_EN p.val) && s.flag (NET_PORT_LINK_UP p.val)
    let cnt := [NET_PORT_RXF_LO_COUNT p.val, NET_PORT_RXF_HI_COUNT p.val]; let rx := s.get (NET_PORT_RXF_LO_COUNT p.val) + s.get (NET_PORT_RXF_HI_COUNT p.val) * 2 ^ 32 + 1
    (up = false → exec (.frameReceive p fcs f) s = .next s) ∧
    (up = true → fcs = false → ∃ t, exec (.frameReceive p fcs f) s = .next t ∧ t.get (NET_PORT_RXF_LO_COUNT p.val) = wrap 32 rx ∧
      t.get (NET_PORT_DROP_FCS p.val) = wrap (NET_PORT_DROP_FCS p.val).w (satAdd (NET_PORT_DROP_FCS p.val).w (s.get (NET_PORT_DROP_FCS p.val)) 1) ∧
      KeepsFields s t (NET_PORT_DROP_FCS p.val :: cnt) ∧ t.net = s.net ∧ t.mem = s.mem ∧ t.out = s.out) ∧
    (up = true → fcs = true → f.length < 60 → ∃ t, exec (.frameReceive p fcs f) s = .next t ∧ t.get (NET_PORT_RXF_LO_COUNT p.val) = wrap 32 rx ∧
      t.get (NET_PORT_DROP_SIZE p.val) = wrap (NET_PORT_DROP_SIZE p.val).w (satAdd (NET_PORT_DROP_SIZE p.val).w (s.get (NET_PORT_DROP_SIZE p.val)) 1) ∧
      KeepsFields s t (NET_PORT_DROP_SIZE p.val :: cnt) ∧ t.net = s.net ∧ t.mem = s.mem ∧ t.out = s.out) ∧
    (up = true → fcs = true → 60 ≤ f.length → f.length ≤ s.get (NET_PORT_CFG_MAXLEN p.val) → s.ents tkSC = [] → be f (tagEnd f) 2 ≠ 0x8808 → aggDiverts s p.val f = false →
      let vid := match (parse f).tci with | some x => if x % 4096 = 0 then s.get (NET_PORT_CFG_PVID p.val) else x % 4096 | none => s.get (NET_PORT_CFG_PVID p.val)
      (vlanAdmits s vid (fun e => bit (e.f 4 1) p.val) = false → ∃ t, exec (.frameReceive p fcs f) s = .next t ∧ KeepsFields s t (NET_PORT_DROP_ADMIT p.val :: cnt) ∧
        t.get (NET_PORT_DROP_ADMIT p.val) = wrap (NET_PORT_DROP_ADMIT p.val).w (satAdd (NET_PORT_DROP_ADMIT p.val).w (s.get (NET_PORT_DROP_ADMIT p.val)) 1) ∧
        t.net = s.net ∧ t.mem = s.mem ∧ t.out = s.out) ∧
      (vlanAdmits s vid (fun e => bit (e.f 4 1) p.val) = true → (freeCells s 0).length < cellsFor f.length ∨ quotaOk s 0 (cellsFor f.length) = false →
        ∃ t, exec (.frameReceive p fcs f) s = .next t ∧ t.get (INS_CNT_QUOTA_COUNT 0) = wrap 32 (satAdd 32 (s.get (INS_CNT_QUOTA_COUNT 0)) 1) ∧
          t.net.frames = s.net.frames ∧ t.mem = s.mem ∧ t.out = s.out) ∧
      (vlanAdmits s vid (fun e => bit (e.f 4 1) p.val) = true → ∀ h l, freeCells s 0 = h :: l → cellsFor f.length ≤ (h :: l).length → quotaOk s 0 (cellsFor f.length) = true →
        ∃ s1, exec (.frameReceive p fcs f) s = .next (enterColander s1 { h := h, src := 0x80 + p.val, t := s.T, vid := vid } f) ∧
          s1.frame? h = some { cells := (h :: l).take (cellsFor f.length), charge := 0 } ∧ s1.load (cellAddr h) 2 = wrap 16 f.length ∧ s1.out = s.out ∧ s1.T = s.T ∧
          s1.get (NET_PORT_RXF_LO_COUNT p.val) = wrap 32 rx ∧ s1.net.held = s.net.held)) ∧
    (up = true → fcs = true → 60 ≤ f.length → s.ents tkSC = [] → s.get (NET_PORT_CFG_MAXLEN p.val) < f.length → ∃ t, exec (.frameReceive p fcs f) s = .next t ∧
      countedOne s t (NET_PORT_DROP_SIZE p.val) ∧ KeepsFields s t (NET_PORT_DROP_SIZE p.val :: cnt) ∧ t.net = s.net ∧ t.mem = s.mem ∧ t.out = s.out) ∧
    (up = true → fcs = true → 60 ≤ f.length → s.ents tkSC = [] → f.length ≤ s.get (NET_PORT_CFG_MAXLEN p.val) → be f (tagEnd f) 2 = 0x8808 →
      ∃ t, exec (.frameReceive p fcs f) s = .next t ∧ countedOne s t (NET_PORT_DROP_CTRL p.val) ∧ KeepsFields s t (NET_PORT_DROP_CTRL p.val :: cnt) ∧
        t.net = s.net ∧ t.mem = s.mem ∧ t.out = s.out) ∧
    (up = true → fcs = true → 60 ≤ f.length → s.ents tkSC = [] → f.length ≤ s.get (NET_PORT_CFG_MAXLEN p.val) → be f (tagEnd f) 2 ≠ 0x8808 → aggDiverts s p.val f = true →
      ∃ s1, exec (.frameReceive p fcs f) s = .next (aggReceive s1 f) ∧ s1.get (NET_PORT_RXF_LO_COUNT p.val) = wrap 32 rx ∧ KeepsFields s s1 cnt ∧ s1.net = s.net ∧
        s1.agg = s.agg ∧ s1.mem = s.mem ∧ s1.out = s.out) ∧
    (up = true → fcs = true → 60 ≤ f.length → ∃ s1, KeepsFields s s1 cnt ∧ s1.net = s.net ∧ s1.mem = s.mem ∧ s1.out = s.out ∧
      s1.get (NET_PORT_RXF_LO_COUNT p.val) = wrap 32 rx ∧ ∀ s2, macsecIn s1 p.val f = (s2, none) → exec (.frameReceive p fcs f) s = .next s2)) ∧
  (∀ (s : State) (r : BitVec 15) (d : Desc) (b : List Byte), nextItem s r.toNat rkTX = some [d] → (s.ring r.toNat).descs = [d] → d.opc = 1 →
    let n := ringInst s r.toNat; let f := txEdit (fix d.len b) (d.kw 0); let vp := (s.look tkVPORT n).getD { img := List.replicate 9 0 }
    let pk := parse f; let vid := match pk.tci with | some x => if x % 4096 = 0 then vp.f 0 2 else x % 4096 | none => vp.f 0 2
    let fid := match s.look tkVLAN vid with | some e => e.f 2 2 | none => 0
    let spoof : Bool := vp.flag 2 0 && (match fdbLook s fid pk.src with | some e => !(e.f 9 1 == 1 && e.f 10 1 == n) | none => true)
    let bad : Bool := (pk.tci.isSome && !vp.flag 2 1) || !vlanAdmits s vid (fun v => bit (v.f 8 16) n) || spoof
    (bad = true → ∃ t, exec (.txFrame r b) s = .next t ∧ RingOnly s t r.toNat [INS_CNT_POLICY_COUNT n] ∧
      recordSent s t r.toNat d.seq d.tag { status := stDROPPED_POLICY } ∧ t.net = s.net ∧
      t.get (INS_CNT_POLICY_COUNT n) = wrap 32 (satAdd 32 (s.get (INS_CNT_POLICY_COUNT n)) 1)) ∧
    (bad = false → (freeCells s n).length < cellsFor f.length ∨ cellsFor f.length = 0 ∨ quotaOk s n (cellsFor f.length) = false →
      ∃ t, exec (.txFrame r b) s = .next t ∧ RingOnly s t r.toNat [INS_CNT_QUOTA_COUNT n] ∧ t.net = s.net ∧
      recordSent s t r.toNat d.seq d.tag { status := stDROPPED_QUOTA } ∧ t.get (INS_CNT_QUOTA_COUNT n) = wrap 32 (satAdd 32 (s.get (INS_CNT_QUOTA_COUNT n)) 1)) ∧
    (bad = false → ∀ h l, freeCells s n = h :: l → 0 < cellsFor f.length → cellsFor f.length ≤ (h :: l).length → quotaOk s n (cellsFor f.length) = true →
      ∃ s1, exec (.txFrame r b) s = .next (enterColander s1 { h := h, src := n, tx := some (r.toNat, [d.seq]), kw0 := d.kw 0, kw1 := d.kw 1, t := s.T, vid := vid } f) ∧
        s1.frame? h = some { cells := (h :: l).take (cellsFor f.length), charge := n } ∧ s1.regs = s.regs ∧ s1.out = s.out ∧ s1.load (cellAddr h) 2 = wrap 16 f.length)) ∧
  (∀ (s : State) (i : BitVec 32) (e : TabEnt), s.ent? tkFDB i.toNat = some e →
    (e.f 8 1 = 1 → e.lastT + s.get NET_CFG_FDB_AGE * 1000000000 ≤ s.T → ∃ t, exec (.fdbAgeExpiry i) s = .next t ∧ t.ent? tkFDB i.toNat = none ∧
      entriesKept s t tkFDB i.toNat ∧ t.regs = s.regs ∧ t.mem = s.mem ∧ t.out = s.out) ∧
    (e.f 8 1 ≠ 1 ∨ s.T < e.lastT + s.get NET_CFG_FDB_AGE * 1000000000 → exec (.fdbAgeExpiry i) s = .next s)) ∧
  (∀ (s : State) (i : BitVec 32), s.ent? tkFDB i.toNat = none → exec (.fdbAgeExpiry i) s = .next s) ∧
  (∀ (s : State) (i : BitVec 32), ((∀ x ∈ s.net.held, x.1 ≠ i.toNat) → exec (.flowCacheFill i) s = .next s) ∧
    ((∃ x ∈ s.net.held, x.1 = i.toNat) → exec (.flowCacheFill i) s =
      .next (resumeHeld { s with net := { s.net with cache := cacheUse s.net.cache i.toNat } }))) ∧
  (∀ (s : State) (i : BitVec 32) (m : Meta) (f : List Byte) (e : TabEnt) (fr : Frame), s.net.held = [(i.toNat, m, f)] → m.again = 0 → m.tx = none →
    s.flag NET_FLOW_CFG_EN = true → flowLook s (flowKey (parse f) m.src m.vid (bit (pktFlags f (parse f) m.flags) 2) (bit (pktFlags f (parse f) m.flags) 3) m.vni) = some i.toNat →
    s.look tkFLOW i.toNat = some e → bits (e.f 48 4) 28 4 = 0 → s.frame? m.h = some fr → fr.refs ≤ 1 →
    ∃ t, exec (.flowCacheFill i) s = .next t ∧ t.net.held = [] ∧ t.frame? m.h = none ∧ i.toNat ∈ t.net.cache ∧ t.out = s.out ∧ t.regs = s.regs) ∧
  (∀ (s : State) (p : Fin 8) (c n : Nat) (e : QEnt), c < 8 → portRate s p.val ≠ 0 → s.ptx p.val = {} → (∀ k < 8, k ≠ c → (s.tcq p.val k).round = []) →
    (s.tcq p.val c).round = [n] → (s.tcq p.val c).added = false → (s.tcq p.val c).flagged = false → (s.node n).q = [e] → s.flag (TSN_TC_CFG_CBS_EN p.val c) = false →
    gclOn s p.val = false → gateOpen s p.val c = true → s.flag (TSN_PORT_GCL_STAT_HOLD p.val) = false → charge s p.val c e.bytes ≤ (s.node n).deficit + nodeQuantum s n →
    ∃ t, exec (.frameTransmitStart p) s = .next t ∧ (t.ptx p.val).cur = some { e := e, tc := c, start := s.T, c := charge s p.val c e.bytes, close := none } ∧
      (t.node n).q = [] ∧ (t.tcq p.val c).round = [] ∧ t.regs = s.regs ∧ t.mem = s.mem ∧ t.out = s.out ∧ t.net = s.net) ∧
  (∀ (s : State) (p : Fin 8), portRate s p.val ≠ 0 → let x := s.ptx p.val; let express := pickTc s p.val (fun c => !preemptable s p.val c)
    (x.cur = none → x.pre = none → exec (.frameTransmitStart p) s = .next (match pickTc s p.val (fun _ => true) with | some c => startFrame s p.val c | none => s)) ∧
    (∀ f, x.cur = none → x.pre = some f → (∀ c, express = some c → exec (.frameTransmitStart p) s = .next (startFrame s p.val c)) ∧
      (express = none → gateOpen s p.val f.tc = true → s.flag (TSN_PORT_GCL_STAT_HOLD p.val) = false → ∃ t u, exec (.frameTransmitStart p) s = .next t ∧
        (t.ptx p.val).cur = some { f with start := s.T, close := u } ∧ (t.ptx p.val).pre = none ∧ t.regs = s.regs ∧ t.mem = s.mem ∧ t.out = s.out ∧ t.net = s.net) ∧
      (express = none → gateOpen s p.val f.tc = false ∨ s.flag (TSN_PORT_GCL_STAT_HOLD p.val) = true → exec (.frameTransmitStart p) s = .next s)) ∧
    (∀ f, x.cur = some f → let cut : Bool := preemptable s p.val f.tc && x.pre.isNone && cutPoint s p.val f &&
        (express.isSome || !gateOpen s p.val f.tc || s.flag (TSN_PORT_GCL_STAT_HOLD p.val))
      (cut = false → exec (.frameTransmitStart p) s = .next s) ∧
      (cut = true → let s1 := s.setPtx p.val { cur := none, pre := some { f with sent := sentNow s p.val f } }
        exec (.frameTransmitStart p) s = .next (match pickTc s1 p.val (fun c => !preemptable s1 p.val c) with | some c => startFrame s1 p.val c | none => s1)))) ∧
  (∀ (s : State) (p : Fin 8), (s.ptx p.val).cur = none → exec (.frameTransmitEnd p) s = .next s) ∧
  (∀ (s : State) (p : Fin 8), portRate s p.val = 0 → exec (.frameTransmitStart p) s = .next s ∧ exec (.frameTransmitEnd p) s = .next s) ∧
  (∀ (s : State) (p : Fin 8) (x : TxCur), (s.ptx p.val).cur = some x → portRate s p.val ≠ 0 →
    (s.T < txEnd s p.val x → exec (.frameTransmitEnd p) s = .next s) ∧
    (p.val < 6 → txEnd s p.val x ≤ s.T → txSc s p.val = none →
      ∃ t, exec (.frameTransmitEnd p) s = .next t ∧ t.out = s.out ++ [.frame p.val x.start x.e.bytes] ∧ (t.ptx p.val).cur = none ∧ t.mem = s.mem ∧
        t.get (NET_PORT_TXF_LO_COUNT p.val) = wrap 32 (s.get (NET_PORT_TXF_LO_COUNT p.val) + s.get (NET_PORT_TXF_HI_COUNT p.val) * 2 ^ 32 + 1) ∧
        (∀ f, s.frame? x.e.h = some f → f.refs ≤ 1 → t.frame? x.e.h = none) ∧
        ((∃ u, x.close = some u ∧ u < txEnd s p.val x) → t.get (TSN_TC_CNT_GATE_OVERRUN p.val x.tc) =
          wrap (TSN_TC_CNT_GATE_OVERRUN p.val x.tc).w (satAdd (TSN_TC_CNT_GATE_OVERRUN p.val x.tc).w (s.get (TSN_TC_CNT_GATE_OVERRUN p.val x.tc)) 1)) ∧
        KeepsFields s t [NET_PORT_TXF_LO_COUNT p.val, NET_PORT_TXF_HI_COUNT p.val, TSN_TC_CNT_GATE_OVERRUN p.val x.tc]) ∧
    (p.val = 7 → txEnd s p.val x ≤ s.T → s.flag (NET_CPUQ_EN (x.e.dest % 16)) = true → (cpuq s (x.e.dest % 16)).length < 1024 →
      ∃ t, exec (.frameTransmitEnd p) s = .next t ∧ cpuq t (x.e.dest % 16) = cpuq s (x.e.dest % 16) ++ [x.e.h] ∧ (t.ptx p.val).cur = none ∧ t.out = s.out) ∧
    (txEnd s p.val x ≤ s.T → ∃ s1, (s1.ptx p.val).cur = none ∧ s1.net = s.net ∧ s1.mem = s.mem ∧ s1.out = s.out ∧ s1.T = s.T ∧
      KeepsFields s s1 [TSN_TC_CNT_GATE_OVERRUN p.val x.tc] ∧
      (p.val = 6 → exec (.frameTransmitEnd p) s = .next (rxServe (deliverVport s1 x.e))) ∧ (p.val = 7 → exec (.frameTransmitEnd p) s = .next (deliverCpu s1 x.e)) ∧
      (p.val < 6 → (∀ s2, macsecOut s1 p.val x.e.inst x.e.bytes = (s2, none) → exec (.frameTransmitEnd p) s = .next (releaseFrame s2 x.e.h)) ∧
        ∀ s2 b, macsecOut s1 p.val x.e.inst x.e.bytes = (s2, some b) → exec (.frameTransmitEnd p) s =
          .next (releaseFrame (count64 (s2.emit (.frame p.val x.start b)) (NET_PORT_TXF_LO_COUNT p.val) (NET_PORT_TXF_HI_COUNT p.val)) x.e.h)))) ∧
  (∀ (s : State) (r : BitVec 15) (d : Desc) (b : List Byte), nextItem s r.toNat rkSQ = some [d] →
    let rows : List (Instr × Nat) := [(.storageRead r, 1), (.storageWrite r b, 2), (.storageFlush r, 3), (.storageWriteZeroes r, 4), (.storageDeallocate r, 5)]
    (∀ c ∈ rows, d.opc ≠ c.2 → exec c.1 s = .next s) ∧
    (∀ c ∈ rows, ∀ st, d.opc = c.2 → nsCheck s r.toNat d = (none, st) → exec c.1 s = .next (finishItem s r.toNat [d] st (fun _ => 0))) ∧
    (∀ c ∈ rows, ∀ i e x, d.opc = c.2 → nsCheck s r.toNat d = (some (i, e), x) → s.get NET_NVME_STAT_STATE = 2 →
      atSsd s r.toNat < s.get NET_NVME_CFG_QD → staged s + d.len ≤ s.get NET_NVME_CFG_STAGE * 4096 →
      ∃ t, exec c.1 s = .next t ∧ RingOnly s t r.toNat [] ∧
        (let lba := e.f 8 8 + d.kw 1 + d.kw 2 * 2 ^ 32; let blocks := if c.2 = 3 then 0 else bits (d.kw 3) 0 16 + 1
          let out := if c.2 ≠ 2 then [] else if nsXts e then xtsBlocks ciXTS (e.key.get [] 0) (2 ^ nsShift e) blocks lba b else fix d.len b
          let xts := if nsXts e then some (ringInst s r.toNat * 128 + bits (d.kw 0) 0 8) else none
          t.out = s.out ++ [.ssd c.2 (e.f 4 4) lba blocks out] ∧
          t.net.ssd = s.net.ssd ++ [{ ring := r.toNat, seq := d.seq, opc := c.2, len := d.len, xts := xts, lba := lba, t := s.T }])) ∧
    (∀ c ∈ rows, ∀ i e x, d.opc = c.2 → nsCheck s r.toNat d = (some (i, e), x) → (s.get NET_NVME_STAT_STATE ≠ 2 ∨ s.get NET_NVME_CFG_QD ≤ atSsd s r.toNat ∨
      s.get NET_NVME_CFG_STAGE * 4096 < staged s + d.len) → exec c.1 s = .next s)) ∧
  (∀ (s : State) (r : BitVec 15) (b : List Byte), nextItem s r.toNat rkSQ = none → exec (.storageRead r) s = .next s ∧ exec (.storageWrite r b) s = .next s ∧
    exec (.storageFlush r) s = .next s ∧ exec (.storageWriteZeroes r) s = .next s ∧ exec (.storageDeallocate r) s = .next s) ∧
  (∀ (s : State) (r : BitVec 15) (seq : BitVec 64) (st : BitVec 12) (b : List Byte),
    (s.net.ssd.find? (fun c => c.ring == r.toNat && c.seq == seq.toNat) = none → exec (.ssdCompletion r seq st b) s = .next s ∧ exec (.nvmeTimeout r seq) s = .next s) ∧
    (∀ c, s.net.ssd.find? (fun c => c.ring == r.toNat && c.seq == seq.toNat) = some c → c.dead = true →
      (exec (.ssdCompletion r seq st b) s = .next { s with net := { s.net with ssd := s.net.ssd.erase c } }) ∧
      (c.t + s.get NET_NVME_TMO_MS * 1000000 ≤ s.T → ∃ t, exec (.nvmeTimeout r seq) s = .next t ∧ t.net.ssd = s.net.ssd.erase c ∧ t.hif = s.hif ∧ t.out = s.out ∧
        countedOne s t NET_NVME_STAT_TIMEOUTS ∧ KeepsFields s t [NET_NVME_STAT_TIMEOUTS]))) ∧
  (∀ (s : State) (r : BitVec 15) (seq : BitVec 64) (c : SsdCmd) (b : List Byte), s.net.ssd.find? (fun c => c.ring == r.toNat && c.seq == seq.toNat) = some c →
    c.dead = false →
    (∀ st : BitVec 12, st.toNat ≠ 0 → ∃ s1, exec (.ssdCompletion r seq st b) s = .next (finish s1 r.toNat seq.toNat { status := stFAILED_DMA, aux := st.toNat * 4 }) ∧
      s1.net.ssd = s.net.ssd.erase c ∧ s1.regs = s.regs ∧ s1.hif = s.hif ∧ s1.out = s.out) ∧
    (c.opc ≠ 1 → ∃ s1, exec (.ssdCompletion r seq 0 b) s = .next (finish s1 r.toNat seq.toNat { status := stOK, length := c.len }) ∧
      s1.net.ssd = s.net.ssd.erase c ∧ s1.regs = s.regs ∧ s1.hif = s.hif ∧ s1.out = s.out) ∧
    (∀ d, c.opc = 1 → c.xts = none → (s.ring r.toNat).descs.find? (fun d => d.seq == seq.toNat && d.done.isNone) = some d →
      ∃ t, exec (.ssdCompletion r seq 0 b) s = .next t ∧ t.out = s.out ++ [.dma (ringInst s r.toNat) d.addr (fix c.len b)] ∧ t.net.ssd = s.net.ssd.erase c ∧
        RingOnly s t r.toNat [] ∧ ∀ d' ∈ (t.ring r.toNat).descs, d'.seq = seq.toNat → d'.dma = some { status := stOK, length := c.len }) ∧
    (∀ d i, c.opc = 1 → c.xts = some i → (s.ring r.toNat).descs.find? (fun d => d.seq == seq.toNat && d.done.isNone) = some d →
      let e := (s.ent? tkNS i).getD { img := [] }
      ∃ s1, s1.net.ssd = s.net.ssd.erase c ∧ s1.regs = s.regs ∧ s1.hif = s.hif ∧ s1.out = s.out ∧ exec (.ssdCompletion r seq 0 b) s =
        .next (if e.key.isEmpty then finishItem s1 r.toNat [d] stDROPPED_POLICY (fun _ => 0)
          else awaitDma (s1.emit (.dma (ringInst s r.toNat) d.addr (xtsBlocks ciXTS_OPEN (e.key.get [] 0) (2 ^ nsShift e) (c.len / 2 ^ nsShift e) c.lba b))) r.toNat seq.toNat
            { status := stOK, length := c.len })) ∧
    (c.opc = 1 → (s.ring r.toNat).descs.find? (fun d => d.seq == seq.toNat && d.done.isNone) = none →
      exec (.ssdCompletion r seq 0 b) s = .next { s with net := { s.net with ssd := s.net.ssd.erase c } }) ∧
    (s.T < c.t + s.get NET_NVME_TMO_MS * 1000000 → exec (.nvmeTimeout r seq) s = .next s) ∧
    (c.t + s.get NET_NVME_TMO_MS * 1000000 ≤ s.T → ∃ s1, exec (.nvmeTimeout r seq) s = .next (finish s1 r.toNat seq.toNat { status := stFAILED_DMA, aux := 28 }) ∧
      s1.net.ssd = s.net.ssd.erase c ∧ KeepsFields s s1 [NET_NVME_STAT_TIMEOUTS] ∧ s1.hif = s.hif ∧ s1.out = s.out ∧
      s1.get NET_NVME_STAT_TIMEOUTS = wrap NET_NVME_STAT_TIMEOUTS.w (satAdd NET_NVME_STAT_TIMEOUTS.w (s.get NET_NVME_STAT_TIMEOUTS) 1))) ∧
  (∀ (s : State) (p : Fin 6) (sp : BitVec 3),
    (s.flag (NET_PORT_CFG_EN p.val) = true → modeOk p.val (s.get (NET_PORT_CFG_MODE p.val)) sp.toNat = true → ∃ t, exec (.portLinkChange p true sp) s = .next t ∧
      t.get (NET_PORT_LINK_UP p.val) = 1 ∧ t.get (NET_PORT_LINK_SPEED p.val) = sp.toNat ∧ t.get (TSN_PORT_RATE_MBPS p.val) = speedMbps sp.toNat ∧ t.net = s.net ∧
      t.mem = s.mem ∧ t.out = s.out ∧ KeepsFields s t [NET_PORT_LINK_UP p.val, NET_PORT_LINK_SPEED p.val, TSN_PORT_RATE_MBPS p.val]) ∧
    (modeOk p.val (s.get (NET_PORT_CFG_MODE p.val)) sp.toNat = false → exec (.portLinkChange p true sp) s = .next s) ∧
    (s.flag (NET_PORT_CFG_EN p.val) = true → ∃ t, exec (.portLinkChange p false sp) s = .next t ∧ t.get (NET_PORT_LINK_UP p.val) = 0 ∧
      t.get (TSN_PORT_RATE_MBPS p.val) = 0 ∧ t.get (TSN_PORT_STAT_VERIFIED p.val) = 0 ∧ t.mem = s.mem ∧ t.out = s.out) ∧
    (s.flag (NET_PORT_CFG_EN p.val) = false → exec (.portLinkChange p true sp) s = .next s ∧ exec (.portLinkChange p false sp) s = .next s)) ∧
  (∀ (s : State) (q : Nat),
    (s.get NET_NVME_STAT_STATE = 1 → (∃ t, exec (.nvmeBringupDone true q) s = .next t ∧ t.get NET_NVME_STAT_STATE = 2 ∧ (q < 64 → t.get NET_NVME_STAT_IOQ = q) ∧
      t.mem = s.mem ∧ KeepsFields s t [NET_NVME_STAT_STATE, NET_NVME_STAT_IOQ]) ∧
      (∃ t, exec (.nvmeBringupDone false q) s = .next t ∧ t.get NET_NVME_STAT_STATE = 3 ∧ t.mem = s.mem ∧ KeepsFields s t [NET_NVME_STAT_STATE])) ∧
    (s.get NET_NVME_STAT_STATE ≠ 1 → exec (.nvmeBringupDone true q) s = .next s ∧ exec (.nvmeBringupDone false q) s = .next s))

/-- Sections 17.1 to 17.10: the gate lists, the nodes, the starvation guard and preemption. How long a queue that stopped for want of
credit has waited is the model's reckoning (log entries of chapter 17). -/
def Obligations.GatesNodesAndTimeMove : Prop :=
  (∀ (s : State) (m : BitVec 8) (sync : Bool),
    (isMC m.toNat = false → exec (.gptpCommit m sync) s = .next (captureGrid (s.refuseWrite m.toNat 22 4))) ∧
    (isMC m.toNat = true →
      let g : Gptp := { ofs := signed 64 (s.get TSN_GPTP_OFS_LO_OFS + s.get TSN_GPTP_OFS_HI_OFS * 2 ^ 32), rate := signed 32 (s.get TSN_GPTP_RATE_RATE), tc := s.T }
      let now := gNow { s with gptp := g }
      ∃ s1, exec (.gptpCommit m sync) s = .next (captureGrid s1) ∧ s1.gptp = g ∧ s1.get TSN_GPTP_CTRL_SYNC = b2n sync ∧ s1.T = s.T ∧ s1.mem = s.mem ∧
        (now ≤ gNow s ∨ (∀ p < 8, gclRuns s p = false ∨ now < entryEnd s p) → KeepsFields s s1 [TSN_GPTP_CTRL_SYNC] ∧ s1.tsn = s.tsn ∧ s1.out = s.out) ∧
        (now ≤ gNow s → s1.agg = s.agg) ∧
        (gNow s < now → gNow s / 20000000 < now / 20000000 → s1.agg = { s.agg with stepped := true }) ∧
        (gNow s < now → (∃ p < 8, gclRuns s p = true ∧ entryEnd s p ≤ now) → countedOne s s1 TSN_STAT_STEP_CNT))) ∧
  (∀ (s : State) (p : Fin 8), let e := entryEnd s p.val; let g := s.gcl p.val; let i := s.get (TSN_PORT_GCL_STAT_ENTRY p.val)
    (gclRuns s p.val = false ∨ gNow s < e → exec (.gateEntryAdvance p) s = .next s) ∧
    (gclRuns s p.val = true → e ≤ gNow s → gclPend s p.val = true → g.ct ≤ e → exec (.gateEntryAdvance p) s = exec (.gclSwap p) s) ∧
    (gclRuns s p.val = true → e ≤ gNow s → (gclPend s p.val = false ∨ e < g.ct) → let j := if i + 1 < g.len ∧ e < g.cyc0 + g.cycle then i + 1 else 0
      ∃ t, exec (.gateEntryAdvance p) s = .next t ∧ t.get (TSN_PORT_GCL_STAT_ENTRY p.val) = wrap 10 j ∧ t.get (TSN_PORT_GCL_STAT_GATES p.val) = gclGates s p.val j ∧
        (t.gcl p.val).start = e ∧ (t.gcl p.val).cyc0 = (if j = 0 then e else g.cyc0) ∧
        (preemptOn s p.val = true → gclOp s p.val j = 1 → t.get (TSN_PORT_GCL_STAT_HOLD p.val) = 1) ∧
        (preemptOn s p.val = true → gclOp s p.val j = 2 → t.get (TSN_PORT_GCL_STAT_HOLD p.val) = 0) ∧
        GateStep s t p.val [TSN_PORT_GCL_STAT_ENTRY p.val, TSN_PORT_GCL_STAT_GATES p.val, TSN_PORT_GCL_STAT_HOLD p.val])) ∧
  (∀ (s : State) (m : BitVec 8) (p : Fin 8) (len : BitVec 11) (fb : BitVec 8),
    let asked := s.puts [(TSN_PORT_GCL_CTRL_LEN p.val, len.toNat), (TSN_PORT_GCL_CTRL_FB_GATES p.val, fb.toNat)]
    let keep := [TSN_PORT_GCL_CTRL_LEN p.val, TSN_PORT_GCL_CTRL_FB_GATES p.val]
    (isMC m.toNat = false → exec (.gclChange m p len fb) s = .next (s.refuseWrite m.toNat 22 (0x1010 + 0x200 * p.val))) ∧
    (isMC m.toNat = true → gclPend s p.val = true → ∃ t, exec (.gclChange m p len fb) s = .next t ∧ t.get TSN_STAT_CFG_IGN = 1 ∧
      t.get (TSN_PORT_GCL_STAT_CFG_ERR p.val) = 1 ∧ KeepsFields s t [TSN_STAT_CFG_IGN, TSN_PORT_GCL_STAT_CFG_ERR p.val] ∧ t.tsn = s.tsn ∧ t.mem = s.mem ∧ t.out = s.out) ∧
    (isMC m.toNat = true → gclPend s p.val = false → gclBad asked p.val = true → ∃ t, exec (.gclChange m p len fb) s = .next t ∧
      t.get (TSN_PORT_GCL_STAT_CFG_ERR p.val) = 1 ∧ KeepsFields s t (TSN_PORT_GCL_STAT_CFG_ERR p.val :: keep) ∧ t.tsn = s.tsn ∧ t.mem = s.mem ∧ t.out = s.out) ∧
    (len = 0 → gclBad asked p.val = true) ∧
    (isMC m.toNat = true → gclPend s p.val = false → gclBad asked p.val = false →
      let base := s.get (TSN_PORT_GCL_BASE_LO_BASE p.val) + s.get (TSN_PORT_GCL_BASE_HI_BASE p.val) * 2 ^ 32; let cycle := s.get (TSN_PORT_GCL_CYCLE_CYCLE p.val)
      ∃ t ct, exec (.gclChange m p len fb) s = .next t ∧ t.get (TSN_PORT_GCL_STAT_PEND p.val) = 1 ∧ KeepsFields s t (TSN_PORT_GCL_STAT_PEND p.val :: keep) ∧
        t.gcl p.val = { s.gcl p.val with ct := ct, ext := s.get (TSN_PORT_GCL_EXT_EXT p.val), newLen := len.toNat, newBase := base, newCycle := cycle } ∧
        (gNow s + 1000 ≤ base → ct = base) ∧ (base < gNow s + 1000 → 0 < cycle → (∃ n, ct = base + n * cycle) ∧ gNow s + 1000 ≤ ct ∧ ct < gNow s + 1000 + cycle) ∧
        t.mem = s.mem ∧ t.out = s.out ∧ ∀ q, q ≠ p.val → t.gcl q = s.gcl q)) ∧
  (∀ (s : State) (p : Fin 8), let g := s.gcl p.val
    (gclPend s p.val = false ∨ gclAngle s p.val = true ∨ gNow s < g.ct → exec (.gclSwap p) s = .next s) ∧
    (gclPend s p.val = true → gclAngle s p.val = false → g.ct ≤ gNow s → let b := 1 - s.get (TSN_PORT_GCL_STAT_BANK p.val)
      ∃ t, exec (.gclSwap p) s = .next t ∧ t.get (TSN_PORT_GCL_STAT_BANK p.val) = b ∧ t.get (TSN_PORT_GCL_STAT_PEND p.val) = 0 ∧ countedOne s t (TSN_PORT_STAT_SWAP_CNT p.val) ∧
        t.gcl p.val = { g with len := g.newLen, base := g.newBase, cycle := g.newCycle, start := g.ct, cyc0 := g.ct } ∧
        (gclOn s p.val = true → t.get (TSN_PORT_GCL_STAT_ENTRY p.val) = 0 ∧ t.get (TSN_PORT_GCL_STAT_GATES p.val) = bits (s.get (TSN_GCL_ENTRY_LO (2 * p.val + b) 0)) 0 8) ∧
        (gclOn s p.val = false → KeepsFields s t [TSN_PORT_GCL_STAT_BANK p.val, TSN_PORT_GCL_STAT_PEND p.val, TSN_PORT_STAT_SWAP_CNT p.val]) ∧
        GateStep s t p.val [TSN_PORT_GCL_STAT_BANK p.val, TSN_PORT_GCL_STAT_PEND p.val, TSN_PORT_STAT_SWAP_CNT p.val, TSN_PORT_GCL_STAT_ENTRY p.val,
          TSN_PORT_GCL_STAT_GATES p.val, TSN_PORT_GCL_STAT_HOLD p.val])) ∧
  (∀ (s : State) (p : Fin 8), let g := s.gcl p.val; let due := g.fireT + s.get (TSN_PORT_GCL_ANG_ANG_TMO p.val) * 1000
    (gclOn s p.val = false ∨ gclAngle s p.val = false ∨ g.lost = true ∨ s.T < due → exec (.angTimeout p) s = .next s) ∧
    (gclOn s p.val = true → gclAngle s p.val = true → g.lost = false → due ≤ s.T → ∃ t, exec (.angTimeout p) s = .next t ∧
      t.get (TSN_PORT_GCL_STAT_GATES p.val) = wrap 8 (s.get (TSN_PORT_GCL_CTRL_FB_GATES p.val)) ∧ t.get (TSN_PORT_GCL_STAT_HOLD p.val) = 0 ∧
      countedOne s t (TSN_PORT_GCL_STAT_ANG_LOST p.val) ∧ t.gcl p.val = { g with lost := true } ∧
      GateStep s t p.val [TSN_PORT_GCL_STAT_GATES p.val, TSN_PORT_GCL_STAT_HOLD p.val, TSN_PORT_GCL_STAT_ANG_LOST p.val])) ∧
  (∀ (s : State) (p c : Fin 8), let q := s.tcq p.val c.val; let is := s.get (TSN_TC_IDLE_IS p.val c.val)
    let since := q.wait.getD (if is = 0 then s.T else s.T - (creditAt s p.val c.val).toNat / is); let due := since + s.get (TSN_PORT_CFG_STARVE_US p.val) * 1000
    ∃ t, exec (.starvationFlag p c) s = .next t ∧ GateStep s t p.val [] ∧ t.tsn.gcl = s.tsn.gcl ∧ (∀ k < 8, k ≠ c.val → (t.tcq p.val k).flagged = (s.tcq p.val k).flagged) ∧
      (q.round ≠ [] → gateOpen s p.val c.val = true → creditOk s p.val c.val = true → due ≤ s.T → (t.tcq p.val c.val).flagged = true) ∧
      (q.round = [] ∨ gateOpen s p.val c.val = false ∨ creditOk s p.val c.val = false ∨ s.T < due →
        (t.tcq p.val c.val).flagged = q.flagged)) ∧
  (∀ (s : State) (m : BitVec 8) (v : BitVec 32), let n := s.get TSN_NODE_IDX_NODE; let inst := bits v.toNat 18 7
    let mine := (s.tsn.node.map (·.1)).filter (fun k => k < 4096 && k != n && s.flag (TSN_NODE_CFG_EN k) && s.get (TSN_NODE_CFG_INST k) == inst)
    let second := ∃ k ∈ mine, s.get (TSN_NODE_CFG_PORT k) = bits v.toNat 28 3 ∧ s.get (TSN_NODE_CFG_TC k) = bits v.toNat 25 3
    (isMC m.toNat = false → exec (.nodeCfgWrite m v) s = .next (s.refuseWrite m.toNat 22 0x24)) ∧
    (isMC m.toNat = true → bit v.toNat 31 = true → (pantry s inst 6 16 13 ≤ mine.length ∨ second) → exec (.nodeCfgWrite m v) s = .next (s.put TSN_STAT_CFG_IGN 1)) ∧
    (isMC m.toNat = true → (bit v.toNat 31 = false ∨ (mine.length < pantry s inst 6 16 13 ∧ ¬ second)) → ∃ t, exec (.nodeCfgWrite m v) s = .next t ∧
      t.get (TSN_NODE_CFG_EN n) = bits v.toNat 31 1 ∧ t.get (TSN_NODE_CFG_PORT n) = bits v.toNat 28 3 ∧ t.get (TSN_NODE_CFG_TC n) = bits v.toNat 25 3 ∧
      t.get (TSN_NODE_CFG_INST n) = inst ∧ t.get (TSN_NODE_CFG_YLIM n) = bits v.toNat 12 6 ∧ t.get (TSN_NODE_CFG_LIMIT n) = bits v.toNat 6 6 ∧
      t.get (TSN_NODE_CFG_QUANTUM n) = bits v.toNat 0 6 ∧ (∀ k, t.node k = s.node k) ∧ t.mem = s.mem ∧ t.out = s.out ∧ t.T = s.T ∧
      KeepsFields s t [TSN_NODE_CFG_EN n, TSN_NODE_CFG_PORT n, TSN_NODE_CFG_TC n, TSN_NODE_CFG_INST n, TSN_NODE_CFG_YLIM n, TSN_NODE_CFG_LIMIT n, TSN_NODE_CFG_QUANTUM n])) ∧
  (∀ (s : State) (p : Fin 6),
    (s.flag (NET_PORT_LINK_UP p.val) = true → s.flag (TSN_PORT_CFG_PREEMPT_EN p.val) = true → ∃ t, exec (.verifyExchangeDone p) s = .next t ∧
      t.get (TSN_PORT_STAT_VERIFIED p.val) = 1 ∧ preemptOn t p.val = true ∧ t.tsn.gcl = s.tsn.gcl ∧ GateStep s t p.val [TSN_PORT_STAT_VERIFIED p.val]) ∧
    (s.flag (NET_PORT_LINK_UP p.val) = false ∨ s.flag (TSN_PORT_CFG_PREEMPT_EN p.val) = false → exec (.verifyExchangeDone p) s = .next s))

/-- Chapter 18 as a coordinator meets it, and the capture instants of section 18.3. -/
def Obligations.CapturesAndCoordinatorAct : Prop :=
  (∀ s : State, let k := gNow s / 20000000; let k0 := s.agg.capG / 20000000; let n := s.agg.next % 4
    (s.flag AGG_CFG_EN = false ∨ k ≤ k0 → exec .captureGrid s = .next s) ∧
    (s.flag AGG_CFG_EN = true → k0 < k → ∃ t, exec .captureGrid s = .next t ∧ t.agg.capG = k * 20000000 ∧ t.agg.refDue = true ∧ t.mem = s.mem ∧ t.out = s.out ∧ t.T = s.T) ∧
    (s.flag AGG_CFG_EN = true → k = k0 + 1 → ∃ t, exec .captureGrid s = .next t ∧
      t.agg = { s.agg with stepped := false, next := (n + 1) % 4, capG := k * 20000000, refDue := true } ∧
      t.get (AGG_CAP_G_LO_G n) = wrap 32 (k * 20000000) ∧ t.get (AGG_CAP_G_HI_G n) = wrap 32 (k * 20000000 / 2 ^ 32) ∧ t.get (AGG_CAP_THETA_THETA n) = wrap 32 s.grd.pos ∧
      t.get (AGG_CAP_TRIM_TRIM n) = wrap 32 (s.get GRD_TRK_TRIM_ACT_ACT) ∧ t.get (AGG_CAP_TURN_TURN n) = wrap 32 (s.grd.pos / 2 ^ 32) ∧
      t.get (AGG_CAP_FLAGS_STEP n) = b2n s.agg.stepped ∧ t.get (AGG_CAP_FLAGS_VALID n) = 1 ∧
      KeepsFields s t [AGG_CAP_G_LO_G n, AGG_CAP_G_HI_G n, AGG_CAP_THETA_THETA n, AGG_CAP_TRIM_TRIM n, AGG_CAP_TURN_TURN n, AGG_CAP_FLAGS_STEP n, AGG_CAP_FLAGS_VALID n])) ∧
  (∀ s : State, let k := (s.agg.next + 3) % 4
    (aggRole s ≠ roleCOORD ∨ s.agg.refDue = false → exec .qorRefSend s = .next s) ∧
    (aggRole s = roleCOORD → s.agg.refDue = true → ∃ t, exec .qorRefSend s = .next t ∧ t.agg.refDue = false ∧ t.get GRD_TRK_TRIM_TRIM = 0 ∧
      (s.grd.inj = none → t.get GRD_INJ_PHASE_PHASE = unsigned 32 ((s.get AGG_GINJ_PHASE_PHASE : Int) - s.get AGG_PH_OFS_OFS) ∧
        t.get GRD_INJ_SLOT_SLOT = wrap 8 (s.get AGG_GINJ_SLOT_SLOT % injPeriod s)) ∧
      (gridLocked s = true → s.flag (AGG_CAP_FLAGS_STEP k) = false → t.out = s.out ++ [qorFrame s qorREF (s.get AGG_CFG_EPOCH) 0xFFFF (refPayload s k)]) ∧
      (gridLocked s = true → s.flag (AGG_CAP_FLAGS_STEP k) = true → t.out = s.out) ∧
      (gridLocked s = false → s.flag AGG_STAT_ISLAND = true → t.out = s.out ++ [qorFrame s qorISLAND (s.get AGG_CFG_EPOCH) 0xFFFF (leBytes 8 (gNow s))]) ∧
      (gridLocked s = false → s.flag AGG_STAT_ISLAND = false → t.out = s.out) ∧
      KeepsFields s t [GRD_TRK_TRIM_TRIM, GRD_INJ_PHASE_PHASE, GRD_INJ_SLOT_SLOT] ∧ t.mem = s.mem ∧ t.T = s.T)) ∧
  (∀ (s : State) (c : Instr × Nat), c ∈ qorRows →
    (∀ e, s.agg.rx = [e] → qorParse s e = none → ∃ t, exec c.1 s = .next t ∧ t.agg = { s.agg with rx := [] } ∧ countedOne s t AGG_CNT_MISMATCH ∧
      KeepsFields s t [AGG_CNT_MISMATCH] ∧ t.out = s.out ∧ t.mem = s.mem) ∧
    (∀ e m q, s.agg.rx = [e] → qorParse s e = some m → m.typ = c.2 → qorLast s m.src m.epoch = some q → m.seq ≤ q → ∃ t, exec c.1 s = .next t ∧
      t.agg = { s.agg with rx := [] } ∧ countedOne s t AGG_CNT_MISMATCH ∧ KeepsFields s t [AGG_CNT_MISMATCH] ∧ t.out = s.out ∧ t.mem = s.mem)) ∧
  (∀ (s : State) (c : Instr × Nat), c ∈ qorRows → (∀ e ∈ s.agg.rx, (qorParse s e).isSome = true ∧ fieldAt e.2 1 1 ≠ c.2) → ∃ t, exec c.1 s = .next t ∧
    KeepsFields s t [] ∧ t.agg = s.agg ∧ t.grd = s.grd ∧ t.out = s.out ∧ t.mem = s.mem ∧ t.T = s.T) ∧
  (∀ (s : State) (e : Nat × List Byte) (l : List (Nat × List Byte)) (m : QorMsg), QorAt s e l m qorJOIN →
    (aggRole s = roleCOORD → m.src < 1024 → joinRefusals s m = [] → ∃ t, exec .qorJoin s = .next t ∧ QorTaken s t m l 0 [AGG_NODES_COUNT] ∧
      t.agg.members.get none m.src = some ⟨m.mac, s.T⟩ ∧ (∀ j, j ≠ m.src → t.agg.members.get none j = s.agg.members.get none j) ∧
      t.get AGG_NODES_COUNT = wrap 11 (aggMembers t).length ∧ t.out = s.out ++ [qorFrame s qorACCEPT (s.get AGG_CFG_EPOCH) m.src []]) ∧
    (aggRole s = roleCOORD → m.src < 1024 → joinRefusals s m ≠ [] → ∃ t x, exec .qorJoin s = .next t ∧ x ∈ joinRefusals s m ∧ QorTaken s t m l 0 [AGG_CNT_REJECT] ∧
      countedOne s t AGG_CNT_REJECT ∧ t.agg.members = s.agg.members ∧
      t.out = s.out ++ [qorFrame s qorREJECT (s.get AGG_CFG_EPOCH) m.src (leBytes 1 x ++ leBytes 3 0)]) ∧
    (s.flag AGG_CTRL_CLOSE = true → 3 ∈ joinRefusals s m) ∧ (fieldAt m.pl 0 4 ≠ profId s → 2 ∈ joinRefusals s m) ∧
    (∀ x, s.agg.members.get none m.src = some x → x.mac ≠ m.mac → 1 ∈ joinRefusals s m) ∧
    (aggRole s ≠ roleCOORD ∨ 1024 ≤ m.src → ∃ t, exec .qorJoin s = .next t ∧ QorTaken s t m l 0 [] ∧ t.agg.members = s.agg.members ∧ t.out = s.out)) ∧
  (∀ (s : State) (e : Nat × List Byte) (l : List (Nat × List Byte)) (m : QorMsg) (c : Instr × Option Member),
    (c = (.qorStatus, some ⟨m.mac, s.T⟩) ∧ QorAt s e l m qorSTATUS) ∨ (c = (.qorLeave, none) ∧ QorAt s e l m qorLEAVE) →
    (∀ x, aggRole s = roleCOORD → s.agg.members.get none m.src = some x → x.mac = m.mac → ∃ t, exec c.1 s = .next t ∧ QorTaken s t m l 0 [AGG_NODES_COUNT] ∧
      t.agg.members.get none m.src = c.2 ∧ (∀ j, j ≠ m.src → t.agg.members.get none j = s.agg.members.get none j) ∧
      t.get AGG_NODES_COUNT = wrap 11 (aggMembers t).length ∧ t.out = s.out) ∧
    (aggRole s ≠ roleCOORD ∨ (∀ x, s.agg.members.get none m.src = some x → x.mac ≠ m.mac) → ∃ t, exec c.1 s = .next t ∧ QorTaken s t m l 0 [] ∧
      t.agg.members = s.agg.members ∧ t.out = s.out)) ∧
  (∀ s : State,
    (∃ t, exec .qorMemberTimeout s = .next t ∧ t.out = s.out ∧ t.mem = s.mem ∧ KeepsFields s t [AGG_NODES_COUNT] ∧
      ∀ n x, s.agg.members.get none n = some x → t.agg.members.get none n = if x.status + 1000000000 ≤ s.T then none else some x) ∧
    ((∀ n x, s.agg.members.get none n = some x → s.T < x.status + 1000000000) → exec .qorMemberTimeout s = .next s)) ∧
  (∀ (s : State) (m : BitVec 8) (b : Bool),
    (isMC m.toNat = false → ∀ c ∈ ([.aggIsland m b, .aggResume m b, .aggLeave m b, .aggClose m b] : List Instr), exec c s = .next (s.refuseWrite m.toNat 16 0x18)) ∧
    (isMC m.toNat = true → exec (.aggClose m b) s = .next (s.put AGG_CTRL_CLOSE (b2n b)) ∧
      (aggRole s ≠ roleCOORD ∨ s.flag AGG_STAT_ISLAND = true → exec (.aggIsland m b) s = .next (s.put AGG_CTRL_CLOSE (b2n b))) ∧
      (aggRole s = roleCOORD → s.flag AGG_STAT_ISLAND = false → ∃ t o, exec (.aggIsland m b) s = .next t ∧ t.get AGG_CTRL_CLOSE = b2n b ∧ t.get AGG_STAT_ISLAND = 1 ∧
        t.agg.islHold = true ∧ gridLive t causeCMD = true ∧ (gridLive s causeCMD = false → t.flag GRD_STAT_CEASE = true) ∧
        t.out = s.out ++ o ++ [qorFrame s qorISLAND (s.get AGG_CFG_EPOCH) 0xFFFF (leBytes 8 (gNow s))] ∧ t.mem = s.mem ∧ t.T = s.T ∧ t.agg.members = s.agg.members) ∧
      (let own := gridLive s causeACTIVE || gridLive s causeROCOF || gridLive s causeVS || gridLive s causeUNLOCK
       (aggRole s ≠ roleCOORD ∨ s.flag AGG_STAT_ISLAND = false ∨ own = true → exec (.aggResume m b) s = .next (s.put AGG_CTRL_CLOSE (b2n b))) ∧
       (aggRole s = roleCOORD → s.flag AGG_STAT_ISLAND = true → own = false → ∃ t o, exec (.aggResume m b) s = .next t ∧ t.get AGG_STAT_ISLAND = 0 ∧ t.agg.islHold = false ∧
        t.out = s.out ++ o ++ [qorFrame s qorRESUME (s.get AGG_CFG_EPOCH) 0xFFFF []] ∧ t.mem = s.mem ∧ t.T = s.T ∧
        (s.agg.mgrHold = false → s.agg.gateHold = false → gridLive t causeCMD = false ∧ o = []) ∧ (s.agg.mgrHold = true ∨ s.agg.gateHold = true → gridLive t causeCMD = true))))) ∧
  (∀ (s : State) (m : BitVec 8) (k : Fin 4), let b := blockBase 16 0 + 0x40 + 0x20 * k.val
    (isTenant m.toNat = false → ∃ t, exec (.aggCapRead m k) s = .next t ∧ t.resp = s.get (AGG_CAP_G_LO_G k.val) ∧ t.shadow? m.toNat (b + 4) = some (s.get (AGG_CAP_G_HI_G k.val)) ∧
      t.shadow? m.toNat (b + 8) = some (s.get (AGG_CAP_THETA_THETA k.val)) ∧ t.shadow? m.toNat (b + 12) = some (s.get (AGG_CAP_TRIM_TRIM k.val)) ∧
      t.shadow? m.toNat (b + 16) = some (s.get (AGG_CAP_TURN_TURN k.val)) ∧
      t.shadow? m.toNat (b + 20) = some (s.get (AGG_CAP_FLAGS_STEP k.val) * 2 + s.get (AGG_CAP_FLAGS_VALID k.val)) ∧
      t.regs = s.regs ∧ t.mem = s.mem ∧ t.out = s.out ∧ t.agg = s.agg) ∧
    (isTenant m.toNat = true → exec (.aggCapRead m k) s = .next (s.refuseRead m.toNat 16 (0x40 + 0x20 * k.val))))

/-- Chapter 18 as a node meets it; which neighbour an inexact mean and an exact half cycle take is free. -/
def Obligations.NodeFollowsItsCoordinator : Prop :=
  (∀ (s : State) (e : Nat × List Byte) (l : List (Nat × List Byte)) (m : QorMsg) (k : Nat), let st := s.get AGG_STAT_STATE
    QorAt s e l m qorREF → aggRole s = roleNODE → bit (fieldAt m.pl 29 1) 0 = false → s.agg.islHold = false → s.flag AGG_CFG_EXPORT_GATE = false → s.agg.gateHold = false →
    (st = aggSEEKING ∨ (m.epoch = s.agg.epoch ∧ (st = aggALIGNING ∨ st = aggJOINED))) → usableRef s m.pl = some k →
    let phase := fieldAt m.pl 8 4; let ang := withOfs s (s.get (AGG_CAP_THETA_THETA k)); let r := angDiff ang phase
    let errs := ((r - signed 32 (s.get (AGG_CAP_TRIM_TRIM k))) :: s.agg.errs).take 5
    let n : Int := errs.length; let sum : Int := errs.foldl (· + ·) 0; let good := if r.natAbs ≤ 2982616 then s.agg.good + 1 else 0
    st ≠ aggJOINED ∨ 0 < good →
    ∃ (t : State) (avg d : Int), exec .qorRef s = .next t ∧
      QorTaken s t m l 0 [AGG_STAT_PROF_OK, AGG_STAT_COORD, AGG_STAT_STATE, AGG_STAT_ALIGNED, AGG_RESID_R, GRD_TRK_TRIM_TRIM, GRD_INJ_PHASE_PHASE, GRD_INJ_SLOT_SLOT] ∧
      avg * n ≤ sum + n ∧ sum - n ≤ avg * n ∧ (n ∣ sum → avg * n = sum) ∧
      t.get AGG_RESID_R = unsigned 32 r ∧ t.get GRD_TRK_TRIM_TRIM = unsigned 32 (clampI (-23860929) 23860929 (-avg)) ∧ t.agg.errs = errs ∧ t.agg.good = good ∧
      t.get AGG_STAT_ALIGNED = (if good = 0 then 0 else if 5 ≤ good then 1 else s.get AGG_STAT_ALIGNED) ∧
      t.get AGG_STAT_PROF_OK = b2n (fieldAt m.pl 20 4 == profId s) ∧ t.agg.epoch = m.epoch ∧ (st = aggSEEKING → t.get AGG_STAT_COORD = wrap 10 m.src) ∧
      t.agg.limited = (if avg.natAbs ≤ 23860929 then 0 else s.agg.limited + 1) ∧ t.agg.refT = s.T ∧ t.agg.refs = s.agg.refs + 1 ∧
      (let x := signed 64 (unsigned 64 (((fieldAt m.pl 16 4 * 2 ^ 32 + phase : Nat) : Int) - ((s.get (AGG_CAP_TURN_TURN k) * 2 ^ 32 + ang : Nat) : Int)))
       (x - d * 2 ^ 32).natAbs ≤ 2 ^ 31) ∧
      t.agg.inj = some (unsigned 32 ((fieldAt m.pl 24 4 : Int) - s.get AGG_PH_OFS_OFS), (fieldAt m.pl 28 1 : Int) - d) ∧
      (25 ≤ t.agg.limited → t.get AGG_STAT_STATE = aggFAIL) ∧
      (t.agg.limited < 25 → st ≠ aggJOINED → let ready := t.flag AGG_STAT_ALIGNED && gridLocked s && fieldAt m.pl 20 4 == profId s
        t.get AGG_STAT_STATE = (if ready then aggJOINING else aggALIGNING) ∧
        t.out = s.out ++ (if ready then [qorFrame s qorJOIN m.epoch (t.get AGG_STAT_COORD) (leBytes 4 (profId s) ++ leBytes 4 0)] else [])) ∧
      (t.agg.limited < 25 → st = aggJOINED → t.get AGG_STAT_STATE = aggJOINED ∧
        (s.grd.inj = none → injPeriod s ≠ 0 → t.get GRD_INJ_PHASE_PHASE = unsigned 32 ((fieldAt m.pl 24 4 : Int) - s.get AGG_PH_OFS_OFS) ∧
          t.get GRD_INJ_SLOT_SLOT = (((fieldAt m.pl 28 1 : Int) - d) % (injPeriod s : Int)).toNat) ∧
        t.out = s.out ++ (if (s.agg.refs + 1) % 5 = 0 then [qorFrame s qorSTATUS m.epoch (s.get AGG_STAT_COORD) (leBytes 1 aggJOINED ++
          leBytes 1 (t.get AGG_STAT_ALIGNED) ++ leBytes 2 (s.get GRD_CAUSE_LIVE) ++ leBytes 4 (t.get AGG_RESID_R))] else []))) ∧
  (∀ (s : State) (e : Nat × List Byte) (l : List (Nat × List Byte)) (m : QorMsg), QorAt s e l m qorREF → aggRole s = roleNODE →
    let island := bit (fieldAt m.pl 29 1) 0; let st := s.get AGG_STAT_STATE
    (island = true → (aggFollows s = false ∨ 0 ≤ epochLead m.epoch s.agg.epoch) → ∃ t, exec .qorRef s = .next t ∧ t.get AGG_STAT_ISLAND = 1 ∧ t.agg.islHold = true ∧
      t.agg.islBy = (m.src, m.epoch) ∧ gridLive t causeCMD = true ∧ t.mem = s.mem ∧ t.T = s.T) ∧
    (island = false → s.agg.islHold = false → m.epoch = s.agg.epoch → st = aggJOINED ∨ st = aggALIGNING → usableRef s m.pl = none → ∃ t, exec .qorRef s = .next t ∧
      QorTaken s t m l 1 [AGG_STAT_PROF_OK] ∧ t.agg.errs = s.agg.errs ∧ t.agg.good = s.agg.good ∧ t.agg.refT = s.agg.refT ∧ t.agg.refs = s.agg.refs ∧ t.out = s.out) ∧
    (island = false → s.agg.islHold = false → m.epoch = s.agg.epoch → st = aggJOINED → ∀ k, usableRef s m.pl = some k → s.agg.limited = 0 →
      2982616 < (angDiff (withOfs s (s.get (AGG_CAP_THETA_THETA k))) (fieldAt m.pl 8 4)).natAbs →
      ∃ t x o, exec .qorRef s = .next t ∧ t.get AGG_STAT_STATE = aggSEEKING ∧ t.get GRD_TRK_TRIM_TRIM = 0 ∧ t.get AGG_STAT_ALIGNED = 0 ∧ t.agg.errs = [] ∧
        t.out = s.out ++ qorFrame s qorLEAVE m.epoch (s.get AGG_STAT_COORD) (leBytes 1 x ++ leBytes 3 0) :: o ∧ t.mem = s.mem) ∧
    (island = false → s.agg.islHold = false → m.epoch = s.agg.epoch → st = aggHOLDOVER → usableRef s m.pl = none → ∃ t, exec .qorRef s = .next t ∧
      t.get AGG_STAT_STATE = aggJOINED ∧ t.get GRD_TRK_TRIM_TRIM = s.get GRD_TRK_TRIM_TRIM ∧ t.agg.refT = s.T ∧ t.mem = s.mem) ∧
    (island = false → s.agg.islHold = false → 0 < epochLead m.epoch s.agg.epoch → st = aggLONE → ∃ t, exec .qorRef s = .next t ∧
      t.get AGG_STAT_STATE = aggSEEKING ∧ t.agg.errs = [] ∧ t.mem = s.mem)) ∧
  (∀ (s : State) (e : Nat × List Byte) (l : List (Nat × List Byte)) (m : QorMsg) (c : Instr × Nat), c ∈ qorRows → QorAt s e l m c.2 → c.2 < 0x10 ∨ c.2 = qorACCEPT ∨ c.2 = qorREJECT →
    aggRole s ≠ roleNODE → ∃ t, exec c.1 s = .next t ∧ QorTaken s t m l 0 [] ∧ t.out = s.out ∧ t.grd = s.grd) ∧
  (∀ (s : State) (e : Nat × List Byte) (l : List (Nat × List Byte)) (m : QorMsg), QorAt s e l m qorISLAND → aggRole s = roleNODE →
    (aggFollows s = false ∨ 0 ≤ epochLead m.epoch s.agg.epoch → ∃ t, exec .qorIsland s = .next t ∧ t.get AGG_STAT_ISLAND = 1 ∧ t.agg.islHold = true ∧
      t.agg.islBy = (m.src, m.epoch) ∧ gridLive t causeCMD = true ∧ (gridLive s causeCMD = false → t.flag GRD_STAT_CEASE = true) ∧
      t.get AGG_STAT_STATE = s.get AGG_STAT_STATE ∧ t.get GRD_TRK_TRIM_TRIM = s.get GRD_TRK_TRIM_TRIM ∧ t.mem = s.mem ∧ t.T = s.T) ∧
    (aggFollows s = true → epochLead m.epoch s.agg.epoch < 0 → ∃ t, exec .qorIsland s = .next t ∧ QorTaken s t m l 0 [] ∧ t.agg.islHold = s.agg.islHold ∧ t.out = s.out)) ∧
  (∀ (s : State) (e : Nat × List Byte) (l : List (Nat × List Byte)) (m : QorMsg), QorAt s e l m qorRESUME → aggRole s = roleNODE →
    (s.agg.islHold = true → s.agg.islBy = (m.src, m.epoch) → ∃ t, exec .qorResume s = .next t ∧ t.get AGG_STAT_ISLAND = 0 ∧ t.agg.islHold = false ∧
      (s.agg.mgrHold = false → s.agg.gateHold = false → gridLive t causeCMD = false) ∧ (s.agg.mgrHold = true ∨ s.agg.gateHold = true → gridLive t causeCMD = true) ∧
      t.get AGG_STAT_STATE = s.get AGG_STAT_STATE ∧ t.mem = s.mem ∧ t.T = s.T) ∧
    (s.agg.islHold = false ∨ s.agg.islBy ≠ (m.src, m.epoch) → ∃ t, exec .qorResume s = .next t ∧ QorTaken s t m l 0 [] ∧ t.agg.islHold = s.agg.islHold ∧ t.out = s.out)) ∧
  (∀ (s : State) (e : Nat × List Byte) (l : List (Nat × List Byte)) (m : QorMsg), let mine := s.get AGG_STAT_STATE = aggJOINING ∧ fromCoord s m = true
    (QorAt s e l m qorACCEPT → aggRole s = roleNODE → mine → ∃ t, exec .qorAccept s = .next t ∧ t.get AGG_STAT_STATE = aggJOINED ∧ t.agg.refT = s.T ∧ t.agg.refs = 0 ∧
      t.mem = s.mem ∧ (∀ p k, s.agg.inj = some (p, k) → s.grd.inj = none → injPeriod s ≠ 0 →
        t.get GRD_INJ_PHASE_PHASE = wrap 32 p ∧ t.get GRD_INJ_SLOT_SLOT = (k % (injPeriod s : Int)).toNat)) ∧
    (QorAt s e l m qorREJECT → aggRole s = roleNODE → mine → ∃ t, exec .qorReject s = .next t ∧ t.mem = s.mem ∧
      t.get AGG_STAT_STATE = (if fieldAt m.pl 0 1 = 2 then aggFAIL else aggSEEKING)) ∧
    (¬ mine → ∀ c ∈ ([(.qorAccept, qorACCEPT), (.qorReject, qorREJECT)] : List (Instr × Nat)), QorAt s e l m c.2 → ∃ t, exec c.1 s = .next t ∧
      QorTaken s t m l 0 [] ∧ t.out = s.out ∧ t.grd = s.grd)) ∧
  (∀ s : State, let st := s.get AGG_STAT_STATE
    (aggRole s ≠ roleNODE → exec .qorJoinRepeat s = .next s ∧ exec .qorHoldoverEntry s = .next s ∧ exec .qorLoneEntry s = .next s) ∧
    (st ≠ aggJOINING ∨ s.T < s.agg.joinT + 100000000 → exec .qorJoinRepeat s = .next s) ∧
    (aggRole s = roleNODE → st = aggJOINING → s.agg.joinT + 100000000 ≤ s.T → ∃ t, exec .qorJoinRepeat s = .next t ∧ t.regs = s.regs ∧ t.agg.joinT = s.T ∧ t.mem = s.mem ∧
      t.out = s.out ++ [qorFrame s qorJOIN (aggEpoch s) (s.get AGG_STAT_COORD) (leBytes 4 (profId s) ++ leBytes 4 0)]) ∧
    (st ≠ aggJOINED ∨ s.T < s.agg.refT + 100000000 → exec .qorHoldoverEntry s = .next s) ∧
    (aggRole s = roleNODE → st = aggJOINED → s.agg.refT + 100000000 ≤ s.T → ∃ t, exec .qorHoldoverEntry s = .next t ∧ t.get AGG_STAT_STATE = aggHOLDOVER ∧ t.agg.holdT = s.T ∧
      t.get GRD_TRK_TRIM_TRIM = s.get GRD_TRK_TRIM_TRIM ∧ t.get GRD_INJ_PHASE_PHASE = s.get GRD_INJ_PHASE_PHASE ∧ t.get GRD_INJ_SLOT_SLOT = s.get GRD_INJ_SLOT_SLOT ∧
      t.mem = s.mem ∧ (s.agg.gateHold = false → t.out = s.out ∧ KeepsFields s t [AGG_STAT_STATE])) ∧
    (st ≠ aggHOLDOVER ∨ s.T < s.agg.holdT + s.get AGG_HOLD_S * 1000000000 → exec .qorLoneEntry s = .next s) ∧
    (aggRole s = roleNODE → st = aggHOLDOVER → s.agg.holdT + s.get AGG_HOLD_S * 1000000000 ≤ s.T → ∃ t, exec .qorLoneEntry s = .next t ∧ t.get AGG_STAT_STATE = aggLONE ∧
      t.get GRD_TRK_TRIM_TRIM = 0 ∧ (s.grd.inj = none → t.get GRD_INJ_SLOT_SLOT = wrap 8 (s.get AGG_NODE_SLOT_SLOT)) ∧ countedOne s t AGG_CNT_REF_LOST ∧ t.mem = s.mem ∧
      (s.agg.gateHold = false → t.out = s.out))) ∧
  (∀ (s : State) (m : BitVec 8) (b : Bool), isMC m.toNat = true →
    (aggRole s = roleNODE → s.get AGG_STAT_STATE = aggJOINED → ∃ t o, exec (.aggLeave m b) s = .next t ∧ t.get AGG_STAT_STATE = aggSEEKING ∧ t.get GRD_TRK_TRIM_TRIM = 0 ∧
      t.get AGG_STAT_ALIGNED = 0 ∧ t.agg.errs = [] ∧ t.mem = s.mem ∧ t.out = s.out ++ qorFrame s qorLEAVE (aggEpoch s) (s.get AGG_STAT_COORD) (leBytes 4 0) :: o) ∧
    (aggRole s ≠ roleNODE ∨ s.get AGG_STAT_STATE ≠ aggJOINED → exec (.aggLeave m b) s = .next (s.put AGG_CTRL_CLOSE (b2n b))))

/-- Sections 19.1 to 19.4. What the always-on domain holds below 2.0 V, and that the resend repeats what stage S1 sent, are read as the
log entries of chapter 19 say. -/
def Obligations.ResetsAndPowerFollowTheirScopes : Prop :=
  (∀ s : State,
    (s.flag CLK_STAT_REF_OK = false → exec .osc25Loss s = .next s) ∧
    (s.flag CLK_STAT_REF_OK = true → ∃ t, exec .osc25Loss s = .next t ∧ t.get CLK_STAT_REF_LOST = 1 ∧ t.get CLK_STAT_REF_OK = 0 ∧ t.T = s.T ∧ t.mem = s.mem ∧
      t.get SAF_STAT_DSTATE = dsSAFE ∧ t.get SAF_STAT_DFAULT = 3 ∧ (∀ c < 4, t.flag (PWM_CH_STAT_STO_PERMIT c) = false) ∧
      (bit (s.get SEC_TAMPER_CFG_EN) 6 = true → bit (t.get SEC_TAMPER_SEEN) 6 = true)) ∧
    (∃ t, exec .osc25Return s = .next t ∧ t.get CLK_STAT_REF_OK = 1 ∧ bit (t.get SEC_TAMPER_LIVE) 6 = false ∧ t.T = s.T ∧ t.mem = s.mem ∧ t.out = s.out ∧
      KeepsFields s t [CLK_STAT_REF_OK, SEC_TAMPER_LIVE]) ∧
    (∀ k : Fin 9, ∃ t, exec (.pllLossOfLock k) s = .next t ∧ t.get CLK_LOSS_LAST_PLL = k.val ∧ countedOne s t CLK_LOSS_COUNT ∧ t.T = s.T ∧ t.mem = s.mem ∧
      KeepsFields s t [CLK_LOSS_LAST_PLL, CLK_LOSS_COUNT])) ∧
  (∀ (s : State) (m : BitVec 8), let out := (List.range 4).any (fun n => chState s n != chUNBOUND && chState s n != chSTO)
    (isMC m.toNat = false → exec (.park m) s = .next (s.refuseWrite m.toNat 3 4)) ∧
    (isMC m.toNat = true → s.aon.parking.isSome = true → exec (.park m) s = .next s) ∧
    (isMC m.toNat = true → s.aon.parking = none → out = true → exec (.park m) s = .next (s.put PWR_STAT_PARK_REFUSED 1)) ∧
    (isMC m.toNat = true → s.aon.parking = none → out = false → ∃ t, exec (.park m) s = .next t ∧ t.aon = { s.aon with parking := some s.T } ∧ t.get PWR_STAT_STATE = 1 ∧
      t.get HIF_LINK_WIDTH = 0 ∧ t.hif.crs = true ∧ t.hif.bme = [] ∧ t.T = s.T ∧ t.mem = s.mem ∧
      ∀ r ∈ knownRings s, t.get (HIF_RING_CTX7_STATE r) = rsDISABLED ∧ (t.ring r).descs = [])) ∧
  (∀ s : State, let wait := s.aon.parking.isNone || !s.ldg.queue.isEmpty || s.ldg.busy.isSome || (List.range 32).any (fun p => vstate s p == vpACTIVE)
    (wait = true → exec .parkDone s = .next s) ∧
    (wait = false → ∃ t, exec .parkDone s = .next t ∧ t.aon = { s.aon with parking := none, parked := true, off := true, porDone := false, storedT := s.T, ticks := 0, unplanned := false } ∧
      countedOne s t PWR_PARK_CNT_COUNT ∧ KeepsFields s t [PWR_PARK_CNT_COUNT] ∧ t.mem = s.mem ∧ t.T = s.T ∧ t.out = s.out)) ∧
  (∀ (s : State) (w0 w1 : Option Bool) (ticks : BitVec 48), let n := if s.aon.parked then satAdd 48 s.aon.ticks ticks.toNat else s.aon.ticks
    let s1 : State := { s with aon := { s.aon with ticks := n } }; let m := wakeMask s1 w0 w1; let on := andMask m (wakeEnabled s)
    let due := (s.aon.wake = 0 ∧ on ≠ 0) ∨ (s.aon.wake ≠ 0 ∧ 3277 ≤ n)
    (s.aon.parking.isSome = true → exec (.wakeSource w0 w1 ticks) s = .next { s1 with aon := { s1.aon with wake := orMask 4 s.aon.wake on } }) ∧
    (s.aon.parking = none → s.aon.parked = false ∨ ¬ due → exec (.wakeSource w0 w1 ticks) s = .next s1) ∧
    (s.aon.parking = none → s.aon.parked = true → due → ∃ t, exec (.wakeSource w0 w1 ticks) s = .next t ∧
      t.aon = { s1.aon with parked := false, wake := 0 } ∧ t.get PWR_WAKE_CAUSE_CAUSE = orMask 4 m s.aon.wake ∧ KeepsFields s t [PWR_WAKE_CAUSE_CAUSE] ∧
      t.mem = s.mem ∧ t.T = s.T ∧ t.out = s.out)) ∧
  (∀ (s : State) (saf : Bool),
    (∃ t, exec (.pornLow saf) s = .next t ∧ t.aon.off = true ∧ t.aon.porDone = true ∧ t.T = s.T ∧ t.mem = [] ∧ bit (t.get RST_CAUSE_CAUSE) rcPOWER = true ∧
      (s.aon.parked = false → s.aon.off = false → t.flag PWR_STAT_UNPLANNED = true ∧ t.aon.unplanned = true ∧
        t.aon.ticks = (s.T - s.aon.storedT) * 32768 / 1000000000 ∧ bit (t.get RST_CAUSE_CAUSE) rcUNPLANNED = true) ∧
      (s.aon.parked = true ∨ s.aon.off = true → t.aon.unplanned = s.aon.unplanned) ∧ t.aon.storedT = s.aon.storedT ∧ t.aon.cold = s.aon.cold ∧ t.aon.tValid = s.aon.tValid ∧
      (∀ x : Fld, x.key.block ∈ [2, 5, 6, 7, 8, 9, 13, 16, 18, 19, 20, 21, 22] → t.get x = x.rst) ∧ t.dsp = [] ∧ t.net = {} ∧ t.hif = {} ∧ t.boot.next = 0 ∧
      (∀ c < 4, saf = true → t.flag (PWM_CH_STAT_STO_PERMIT c) = false)) ∧
    (s.aon.parked = true ∨ s.aon.off = true → exec (.unplannedPowerLoss saf) s = .next s) ∧
    (s.aon.parked = false → s.aon.off = false → exec (.unplannedPowerLoss saf) s = exec (.pornLow saf) s)) ∧
  (∀ (s : State) (ticks : BitVec 48),
    let n := satAdd 48 s.aon.ticks ticks.toNat + if s.aon.unplanned then 1 else 0
    let T1 := if s.aon.tValid then wrap 64 (s.aon.storedT + n * 30517578125 / 1000000) else 0
    (s.aon.off = false ∨ s.aon.parked = true → exec (.pornRelease ticks) s = .next s) ∧
    (s.aon.off = true → s.aon.parked = false → ∃ t, exec (.pornRelease ticks) s = .next t ∧ t.T = T1 ∧ t.aon.off = false ∧ t.aon.storedT = T1 ∧ t.aon.ticks = 0 ∧ t.aon.tValid = true ∧
      t.aon.unplanned = false ∧
      (s.aon.porDone = true → t.regs = s.regs ∧ t.mem = s.mem) ∧
      (s.aon.porDone = false → t.mem = [] ∧ bit (t.get RST_CAUSE_CAUSE) rcPOWER = true ∧ t.boot.next = 0 ∧ ∀ c < 4, t.flag (PWM_CH_STAT_STO_PERMIT c) = false))) ∧
  (∀ s : State, ∃ t, exec .vbatApply s = .next t ∧ t.T = 0 ∧ t.mem = [] ∧ t.aon = { off := true, porDone := true, tValid := false } ∧ t.get RST_CAUSE_CAUSE = 1 ∧ t.sec.kwk = [] ∧
    t.get SEC_STAT_KWK_VALID = 0 ∧ (∀ k < 4, t.get (SEC_LOCK_FAILS k) = 3) ∧ t.boot.ospi = s.boot.ospi ∧ (∀ x : Fld, x.key.block = 3 → t.get x = x.rst)) ∧
  (∀ (s : State) (mv : Nat),
    (2000 ≤ mv → exec (.vbatBrownout mv) s = .next s) ∧
    (mv < 2000 → ∃ t, exec (.vbatBrownout mv) s = .next t ∧ t.aon = { s.aon with storedT := 0, ticks := 0, wake := 0, unplanned := false, cold := true, tValid := false } ∧ t.sec.kwk = [] ∧
      t.get SEC_STAT_KWK_VALID = 0 ∧ t.T = s.T ∧ t.mem = s.mem ∧ t.out = s.out ∧
      KeepsFields s t ([SEC_STAT_KWK_VALID, PWR_STAT_UNPLANNED, PWR_WAKE_CFG_WAKE0_EN, PWR_WAKE_CFG_WAKE0_POL, PWR_WAKE_CFG_WAKE1_EN, PWR_WAKE_CFG_WAKE1_POL,
        PWR_WAKE_CFG_ALARM_EN, PWR_WAKE_CFG_TAMPER_EN, PWR_WAKE_CAUSE_CAUSE, PWR_ALARM_S, PWR_PARK_CNT_COUNT] ++ (List.range 4).map (fun k => SEC_LOCK_FAILS k)))) ∧
  (∀ s : State,
    (∃ t, exec .safRstn s = .next t ∧ (∀ c < 4, t.flag (PWM_CH_STAT_STO_PERMIT c) = false ∧ (s.flag (PWM_CH_STAT_STO_PERMIT c) = true → outputsOff t c = true)) ∧
      (∀ x : Fld, x.key.block = 12 → t.get x = x.rst) ∧ t.saf = { line := s.saf.line, spc := s.saf.spc } ∧ t.boot = { s.boot with resend := decide (2 ≤ s.boot.next) } ∧
      (s.aon.off = false → countedOne s t RST_CNT_SAFETY) ∧ t.T = s.T ∧ t.mem = s.mem) ∧
    (s.boot.resend = false → exec .safetyResend s = .next s) ∧
    (s.boot.resend = true → ∃ t, exec .safetyResend s = .next t ∧ t.boot = { s.boot with resend := false } ∧ t.regs = s.regs ∧ t.mem = s.mem ∧ t.out = s.out ∧
      (let sent : Saf := if (present s 3).isSome then { s.saf with delivered := true, sent := s.sec.pset } else s.saf;
        t.saf = if s.saf.started ∧ s.sec.pset ≠ [] ∧ s.sec.pset ≠ s.saf.pset then { sent with activate := some s.sec.pset } else sent))) ∧
  (∀ (s : State) (m : BitVec 8) (jfail : Bool) (cut : List CutBurst), let out := (List.range 4).any (fun n => chState s n != chUNBOUND && chState s n != chSTO)
    (isMC m.toNat = false → exec (.warm m jfail cut) s = .next (s.refuseWrite m.toNat 4 4) ∧ exec (.mgmt m jfail cut) s = .next (s.refuseWrite m.toNat 4 4)) ∧
    (isMC m.toNat = true → out = true → exec (.warm m jfail cut) s = .next (s.put RST_STAT_REFUSED 1)) ∧
    (isMC m.toNat = true → out = false → ∃ t, exec (.warm m jfail cut) s = .next t ∧ bit (t.get RST_CAUSE_CAUSE) rcWARM = true ∧ countedOne s t RST_CNT_WARM ∧ t.T = s.T ∧
      (∀ x : Fld, x.key.block ∈ [1, 5, 7, 8, 9, 11, 13, 16, 17, 18, 19, 20, 21, 22] → t.get x = x.rst) ∧ t.dsp = [] ∧ t.net = {} ∧ t.hif = {} ∧ t.boot.next = 0 ∧ t.viol = [] ∧
      (cut = [] → (∀ c < 4, t.get (PWM_CH_STAT_STO_PERMIT c) = wrap 1 (s.get (PWM_CH_STAT_STO_PERMIT c))) ∧
        (s.get DRM_STAT_STATE = stREADY → t.get DRM_STAT_STATE = stSELF_REFRESH))) ∧
    (isMC m.toNat = true → ∃ t, exec (.mgmt m jfail cut) s = .next t ∧ bit (t.get RST_CAUSE_CAUSE) rcMGMT = true ∧ countedOne s t RST_CNT_MGMT ∧ t.T = s.T ∧
      (∀ x : Fld, x.key.block = 18 ∨ x.key.block = 19 → t.get x = x.rst) ∧ t.hif = {} ∧ t.ins = {} ∧ t.boot.mgmt = true ∧ t.aon.kick0 = s.T ∧ t.aon.kick1 = s.T ∧
      t.boot.next = (if s.boot.next ≤ 1 then s.boot.next else 2) ∧ (cut = [] → t.pwm = s.pwm ∧ t.dsp = s.dsp ∧ t.grd = s.grd)) ∧
    (let due := min s.aon.kick0 s.aon.kick1 + s.get RST_WDOG_MS * 1000000
     (s.flag RST_WDOG_EN = false ∨ s.T < due → exec (.mgmtWdogExpiry jfail cut) s = .next s) ∧
     (s.flag RST_WDOG_EN = true → due ≤ s.T → ∃ t, exec (.mgmtWdogExpiry jfail cut) s = .next t ∧ bit (t.get RST_CAUSE_CAUSE) rcMGMT = true ∧ bit (t.get RST_CAUSE_CAUSE) rcWDOG = true ∧
      countedOne s t RST_CNT_MGMT ∧ t.hif = {} ∧ t.boot.mgmt = true ∧ t.aon.kick0 = s.T ∧ t.T = s.T))) ∧
  (∀ (s : State) (m : BitVec 8) (v : BitVec 32),
    (isMC m.toNat = false → exec (.wdogKick m v) s = .next (s.refuseWrite m.toNat 4 0x10)) ∧
    (isMC m.toNat = true → exec (.wdogKick m v) s = .next { s with aon := { s.aon with
      kick0 := if m = 1 ∧ bit v.toNat 0 = true then s.T else s.aon.kick0, kick1 := if m = 2 ∧ bit v.toNat 1 = true then s.T else s.aon.kick1 } })) ∧
  (∀ (s : State) (jfail : Bool),
    (s.hif.crs = true → exec (.hostReset jfail) s = .next (s.puts [(HIF_LINK_SPEED, 0), (HIF_LINK_WIDTH, 0)])) ∧
    (s.hif.crs = false → ∃ t, exec (.hostReset jfail) s = .next t ∧ t.hif.crs = true ∧ t.hif.bme = [] ∧ t.get HIF_LINK_WIDTH = 0 ∧ t.get BOOT_STAGE_HOST_READY = 0 ∧
      bit (t.get RST_CAUSE_CAUSE) rcHOST = true ∧ countedOne s t RST_CNT_HOST ∧ t.T = s.T ∧
      ∀ x : Fld, (x.key.block = 18 ∨ x.key.block = 19) → hostKeep x.key = false → t.get x = x.rst)) ∧
  (∀ (s : State) (speed : BitVec 4) (width : BitVec 6),
    let ok := !s.aon.off && (s.hif.crs || s.get HIF_LINK_WIDTH == 0) && speed != 0 && decide (speed.toNat ≤ 4) && ([1, 2, 4] : List Nat).contains width.toNat
    (ok = false → exec (.perstRelease speed width) s = .next s) ∧
    (ok = true → ∃ t, exec (.perstRelease speed width) s = .next t ∧ t.get HIF_LINK_SPEED = speed.toNat ∧ t.get HIF_LINK_WIDTH = width.toNat ∧ t.mem = s.mem ∧ t.T = s.T ∧
      (s.boot.next < 3 ∨ s.get BOOT_STAGE_STAGE = 15 → t.hif = s.hif ∧ KeepsFields s t [HIF_LINK_SPEED, HIF_LINK_WIDTH]) ∧
      (3 ≤ s.boot.next → s.get BOOT_STAGE_STAGE ≠ 15 → t.hif = { s.hif with crs := false } ∧ t.get BOOT_STAGE_HOST_READY = 1 ∧
        KeepsFields s t [HIF_LINK_SPEED, HIF_LINK_WIDTH, BOOT_STAGE_HOST_READY])))

/-- Sections 19.5 and 19.6. The words that MC0 writes to load an image are an operand, held to the image's body (log entry 201). -/
def Obligations.BootStagesAndImageLoads : Prop :=
  (∀ (s : State) (prog : Option (List (Nat × List Byte))), let s1 : State := match prog with | some l => { s with boot := { s.boot with ospi := l } } | none => s
    (s.boot.next ≠ 0 ∨ s.aon.off = true ∨ s.aon.parked = true → exec (.bootS0Rom prog) s = .next s) ∧
    (s.boot.next = 0 → s.aon.off = false → s.aon.parked = false → ∃ t, exec (.bootS0Rom prog) s = .next t ∧ t.get CLK_STAT_LOCK = 0x2F ∧ t.get CLK_STAT_REF_OK = 1 ∧
      t.get (BOOT_STAGE_T_T 0) = wrap 32 s.T ∧ t.boot.ospi = s1.boot.ospi ∧ t.mem = s.mem ∧ t.T = s.T ∧
      (present s1 1 = none → t.get BOOT_STAGE_STAGE = 15 ∧ t.get BOOT_STAGE_FAIL_COMP = 1 ∧ t.boot.next = 4) ∧
      (∀ i, present s1 1 = some i → t.get BOOT_STAGE_STAGE = 1 ∧ t.boot.next = 1) ∧
      KeepsFields s t [CLK_STAT_LOCK, CLK_STAT_REF_OK, BOOT_STAGE_T_T 0, BOOT_STAGE_STAGE, BOOT_STAGE_FAIL_COMP])) ∧
  (∀ (s : State) (cut : BitVec 2) (missing : Nat) (altered : Bool),
    (s.boot.next ≠ 1 → exec (.bootS1Sc cut missing altered) s = .next s) ∧
    (s.boot.next = 1 → ∃ t, exec (.bootS1Sc cut missing altered) s = .next t ∧ t.boot.ospi = s.boot.ospi ∧ t.get (BOOT_STAGE_T_T 1) = wrap 32 s.T ∧ t.T = s.T ∧
      t.get BOOT_VERDICT_VERDICT = (verdictOf t (presentAll t)).1 ∧ t.get BOOT_STAGE_ACKED = 0 ∧
      t.get BOOT_STAGE_RESTRICTED = b2n (t.get BOOT_VERDICT_VERDICT != vdTESTED) ∧ t.saf.line = (if t.get BOOT_VERDICT_VERDICT = vdTESTED then 2 else 1) ∧
      (t.ldg.recs.getLast?).map (·.typ) = some rtBOOT ∧ t.get SEC_STAT_KWK_VALID = 1 ∧ t.boot.cut = [] ∧ t.sec.parked = [] ∧ t.aon = { s.aon with cold := false, rstOut := true } ∧
      (present t 2 = none → t.get BOOT_STAGE_STAGE = 15 ∧ t.get BOOT_STAGE_FAIL_COMP = 2 ∧ t.boot.next = 4) ∧
      (∀ i, present t 2 = some i → t.get BOOT_STAGE_STAGE = 2 ∧ t.boot.next = 2))) ∧
  (∀ (s : State) (pantry : Option (List (BitVec 32))) (writes : List (BitVec 40 × BitVec 32)),
    (s.boot.next ≠ 2 ∨ s.get BOOT_STAGE_STAGE = 15 → exec (.bootS2Mc pantry writes) s = .next s) ∧
    (s.boot.next = 2 → s.get BOOT_STAGE_STAGE ≠ 15 → (∃ s1, exec (.bootS2Mc pantry writes) s = .next (stageDone (stageEnd (mcWrites s1 [] writes) 2)) ∧
        s1.get BOOT_STAGE_HOST_READY = 1 ∧ s1.get BOOT_STAGE_STAGE = 3 ∧ s1.boot = { s.boot with mgmt := false, next := 3 } ∧ s1.hif.crs = false ∧ s1.T = s.T) ∧
      (writes = [] → ∃ t, exec (.bootS2Mc pantry writes) s = .next t ∧ t.get BOOT_STAGE_HOST_READY = 1 ∧ t.get (BOOT_STAGE_T_T 2) = wrap 32 s.T ∧
        (s.flag BOOT_STAGE_DRAM_READY = false ∨ s.flag BOOT_STAGE_RT_READY = false → t.get BOOT_STAGE_STAGE = 3 ∧ t.boot.next = 3) ∧
        (s.flag BOOT_STAGE_DRAM_READY = true → s.flag BOOT_STAGE_RT_READY = true → t.get BOOT_STAGE_STAGE = 4 ∧ t.boot.next = 4)))) ∧
  (∀ s : State,
    (s.boot.next ≠ 3 ∨ s.flag BOOT_STAGE_DRAM_READY = true ∨ s.get DRM_STAT_STATE ≠ stREADY → exec .bootS3Dram s = .next s) ∧
    (s.boot.next = 3 → s.flag BOOT_STAGE_DRAM_READY = false → s.get DRM_STAT_STATE = stREADY → ∃ t, exec .bootS3Dram s = .next t ∧ t.get BOOT_STAGE_DRAM_READY = 1 ∧
      t.get (BOOT_STAGE_T_T 3) = wrap 32 s.T ∧ t.mem = s.mem ∧ t.T = s.T ∧ t.out = s.out ∧
      (s.flag BOOT_STAGE_RT_READY = true → t.get BOOT_STAGE_STAGE = 4 ∧ t.boot = { s.boot with next := 4 }) ∧
      (s.flag BOOT_STAGE_RT_READY = false → t.get BOOT_STAGE_STAGE = s.get BOOT_STAGE_STAGE ∧ t.boot = s.boot) ∧
      KeepsFields s t [BOOT_STAGE_DRAM_READY, BOOT_STAGE_T_T 3, BOOT_STAGE_STAGE])) ∧
  (∀ (s : State) (writes : List (BitVec 40 × BitVec 32)) (loaded : List Nat),
    (s.boot.next ≠ 3 ∨ s.flag BOOT_STAGE_RT_READY = true → exec (.bootS4Realtime writes loaded) s = .next s) ∧
    (s.boot.next = 3 → s.flag BOOT_STAGE_RT_READY = false → ∃ t, exec (.bootS4Realtime writes loaded) s = .next t ∧ t.get BOOT_STAGE_RT_READY = 1 ∧
      t.get (BOOT_STAGE_T_T 4) = wrap 32 t.T ∧ (t.flag BOOT_STAGE_DRAM_READY = true → t.get BOOT_STAGE_STAGE = 4 ∧ t.boot.next = 4) ∧
      (writes = [] → t.T = s.T ∧ (s.flag BOOT_STAGE_DRAM_READY = false → t.get BOOT_STAGE_STAGE = s.get BOOT_STAGE_STAGE ∧ t.boot = s.boot)))) ∧
  (∀ (s : State) (r : BitVec 15) (sess : BitVec 32) (len : BitVec 16) (pl : List Byte) (img : Option (List Byte)) (writes : List (BitVec 40 × BitVec 32)) (d : Desc),
    let c := Instr.imageLoad r sess len pl img writes; let comp := le pl 0 2; let flags := le pl 2 2; let dest : MsgTo := ⟨r.toNat, d.seq, 0x31, sess.toNat, len.toNat⟩
    let run := bit flags 1; let lost (s1 : State) (res : Nat) : Prop := exec c s = .next (reply s1 dest res 0 []) ∧ MsgKeeps s s1 ∧ s1.ldg = s.ldg ∧ s1.boot = s.boot
    (msgItem s r.toNat = none → exec c s = .next s) ∧
    (msgItem s r.toNat = some d → (len.toNat ≠ pl.length ∨ len.toNat ≠ 16 ∨ d.len ≠ 8 + len.toNat) → exec c s = .next (finishItem s r.toNat [d] stFAILED_FORMAT (fun _ => 0))) ∧
    (MsgAt s r.toNat d len.toNat 16 pl → sessionOpen s r.toNat sess.toNat skMANAGER = false → exec c s = .next (finishItem s r.toNat [d] stDENIED_SESSION (fun _ => 0))) ∧
    (MsgAt s r.toNat d len.toNat 16 pl → sessionOpen s r.toNat sess.toNat skMANAGER = true →
      (run = true → dspBusy s comp = true → ∃ s1, exec c s = .next (finishItem s1 r.toNat [d] stDENIED_SESSION (fun _ => 0)) ∧ MsgKeeps s s1 ∧ s1.ldg = s.ldg ∧ s1.boot = s.boot) ∧
      (run = false ∨ dspBusy s comp = false →
        (img = none → ∃ s1, exec c s = .next (finishItem s1 r.toNat [d] stFAILED_DMA (fun _ => 0)) ∧ MsgKeeps s s1 ∧ s1.ldg = s.ldg ∧ s1.boot = s.boot) ∧
        (∀ b, img = some b →
          (run = true → 0x20 ≤ comp → comp < 0x24 → clusterHalted s (comp - 0x20) = false → ∃ s1, lost s1 rsBUSY) ∧
          (run = false ∨ comp < 0x20 ∨ 0x24 ≤ comp ∨ clusterHalted s (comp - 0x20) = true →
            (imageOf s b = none → ∃ s1, lost s1 rsBAD_FORMAT) ∧
            (∀ i, imageOf s b = some i → let wrong := i.comp ≠ comp ∨ b.length ≠ le pl 4 4 ∨ (run = true ∧ reloadable comp = false)
              let ends := s.get BOOT_VERDICT_VERDICT = vdTESTED ∧ (verdictOf s (withImage (presentAll s) i b)).1 ≠ vdTESTED
              (wrong → ∃ s1, lost s1 rsBAD_FORMAT) ∧ (¬ wrong → ends → ∃ s1, lost s1 rsDENIED) ∧
              (¬ wrong → ¬ ends → ldgOpen s = false → ∃ s1, lost s1 rsLEDGER_FAIL) ∧
              (¬ wrong → ¬ ends → ldgOpen s = true → ∃ t q x, exec c s = .next t ∧ t.ldg.queue = s.ldg.queue ++ [q] ∧ q.typ = rtIMAGE_LOAD ∧
                q.pl = leBytes 2 comp ++ leBytes 4 i.ver ++ leBytes 1 x ∧ MsgKeeps s t ∧ t.boot = s.boot ∧ t.out = s.out ∧
                q.after = some { code := afterMSG, args := [r.toNat, d.seq, 0x31, sess.toNat, len.toNat, ringInst s r.toNat, rsOK] ++
                  ([comp, flags, i.ver, writes.length] ++ writes.flatMap (fun e => [e.1.toNat, e.2.toNat]) ++ nums b) }))))))) ∧
  (∀ (s : State) (q : LdgReq) (rec : LdgRec) (r seq sess len n comp ver : Nat) (b : List Byte), s.ldg.busy = some (q, rec) →
    q.after = some { code := afterMSG, args := [r, seq, 0x31, sess, len, n, rsOK] ++ ([comp, 1, ver, 0] ++ nums b) } →
    ∃ s1, exec (.ledgerCommitDone true) s = .next (reply s1 ⟨r, seq, 0x31, sess, len⟩ rsOK 0 []) ∧ s1.ldg.recs = s.ldg.recs ++ [rec] ∧ s1.ldg.headSeq = rec.seq ∧
      (comp, b) ∈ s1.boot.ospi ∧ (∀ e ∈ s.boot.ospi, e.1 ≠ comp → e ∈ s1.boot.ospi) ∧ s1.mem = s.mem ∧ s1.T = s.T) ∧
  (∀ (s : State) (q : LdgReq) (rec : LdgRec) (r seq sess len n comp ver : Nat) (flags : Nat) (ws : List (Nat × Nat)) (b : List Byte), s.ldg.busy = some (q, rec) →
    bit flags 1 = true → let rest := ws.flatMap (fun e => [e.1, e.2]) ++ nums b; let args := [r, seq, 0x31, sess, len, n, rsOK] ++ ([comp, flags, ver, ws.length] ++ rest)
    q.after = some { code := afterMSG, args := args } → let dest : MsgTo := ⟨r, seq, 0x31, sess, len⟩
    ∃ s1, s1.ldg.recs = s.ldg.recs ++ [rec] ∧ s1.mem = s.mem ∧ s1.T = s.T ∧ s1.pwm = s.pwm ∧ s1.hif = s.hif ∧ (bit flags 0 = false → s1.boot = s.boot) ∧
      (bit flags 0 = true → (comp, bytesOf (nums b)) ∈ s1.boot.ospi) ∧ exec (.ledgerCommitDone true) s = .next (
        if dspBusy s1 comp then finish s1 r seq { status := stDENIED_SESSION, length := 0 }
        else if loadRefused s1 comp then reply s1 dest rsBUSY 0 []
        else msgCommitted (imageRun s1 comp ver ws.length rest (bytesOf (nums b))) args true))
end

