-- ==== Sys2Proof/Laws/Memory.lean ====
section
/-! SUPPORT. The bytes of the memories: a read after a write, and that every operation on them keeps the canonical form. -/
namespace Sys2Proof.Machine

/-- Every address listed is above `a`. -/
def memAbove (a : Nat) (m : List Host.Cell) : Prop := ∀ e ∈ m, a < e.1

theorem Memory.wf_cons {a : Nat} {v : Byte} {t : List Host.Cell} :
    Memory.wf ((a, v) :: t) = true ↔ v ≠ unwritten ∧ memAbove a t ∧ Memory.wf t = true := by
  induction t generalizing a v with
  | nil => simp [Memory.wf, memAbove]
  | cons e t ih =>
    obtain ⟨b, w⟩ := e
    simp only [Memory.wf, Bool.and_eq_true, bne_iff_ne, decide_eq_true_eq]
    constructor
    · rintro ⟨⟨h1, h2⟩, h3⟩
      refine ⟨h1, ?_, h3⟩
      intro e he
      rcases List.mem_cons.mp he with rfl | he
      · exact h2
      · exact Nat.lt_trans h2 ((ih.mp h3).2.1 e he)
    · rintro ⟨h1, h2, h3⟩
      exact ⟨⟨h1, h2 _ (List.mem_cons_self ..)⟩, h3⟩

/-- Leaving out entries keeps the form. -/
theorem Memory.wf_filter {m : List Host.Cell} (h : Memory.wf m = true) (p : Host.Cell → Bool) : Memory.wf (m.filter p) = true := by
  induction m with
  | nil => rfl
  | cons e t ih =>
    obtain ⟨a, v⟩ := e
    have hc := Memory.wf_cons.mp h
    simp only [List.filter_cons]
    split
    · exact Memory.wf_cons.mpr ⟨hc.1, fun e he => hc.2.1 e (List.mem_filter.mp he).1, ih hc.2.2⟩
    · exact ih hc.2.2

theorem memAbove_insert {b a : Nat} {v : Byte} {m : List Host.Cell} (hm : memAbove b m) (h : b < a) : memAbove b (memInsert m a v) := by
  induction m with
  | nil => intro e he; simp only [memInsert, List.mem_singleton] at he; subst he; exact h
  | cons e t ih =>
    obtain ⟨k, w⟩ := e
    have hk := hm _ (List.mem_cons_self ..)
    have ht : memAbove b t := fun e he => hm e (List.mem_cons_of_mem _ he)
    simp only [memInsert]
    intro e he
    split at he
    · rcases List.mem_cons.mp he with rfl | he
      · exact h
      · exact ht e he
    · split at he
      · rcases List.mem_cons.mp he with rfl | he
        · exact h
        · exact hm e he
      · rcases List.mem_cons.mp he with rfl | he
        · exact hk
        · exact ih ht e he

theorem Memory.wf_insert {m : List Host.Cell} (h : Memory.wf m = true) (a : Nat) {v : Byte} (hv : v ≠ unwritten) :
    Memory.wf (memInsert m a v) = true := by
  induction m with
  | nil => simp [memInsert, Memory.wf, hv]
  | cons e t ih =>
    obtain ⟨k, w⟩ := e
    have hc := Memory.wf_cons.mp h
    simp only [memInsert]
    split
    · next he => subst he; exact Memory.wf_cons.mpr ⟨hv, hc.2⟩
    · next hne =>
      split
      · next hlt =>
        refine Memory.wf_cons.mpr ⟨hv, ?_, h⟩
        intro e he
        rcases List.mem_cons.mp he with rfl | he
        · exact hlt
        · exact Nat.lt_trans hlt (hc.2.1 e he)
      · next hnl => exact Memory.wf_cons.mpr ⟨hc.1, memAbove_insert hc.2.1 (by omega), ih hc.2.2⟩

/-- A write of one byte keeps the canonical form. -/
theorem Memory.wf_put {m : List Host.Cell} (h : Memory.wf m = true) (a : Nat) (v : Byte) : Memory.wf (memPut m a v) = true := by
  unfold memPut
  split
  · exact Memory.wf_filter h _
  · next hv => exact Memory.wf_insert h a hv

theorem memGet_insert_self (m : List Host.Cell) (a : Nat) (v : Byte) : memGet (memInsert m a v) a = v := by
  induction m with
  | nil => simp [memInsert, memGet]
  | cons e t ih =>
    obtain ⟨k, w⟩ := e
    simp only [memInsert]
    split
    · simp [memGet]
    · split
      · simp [memGet]
      · simp_all [memGet]

theorem memGet_insert_ne (m : List Host.Cell) {a b : Nat} (h : a ≠ b) (v : Byte) : memGet (memInsert m a v) b = memGet m b := by
  induction m with
  | nil => simp [memInsert, memGet, h]
  | cons e t ih =>
    obtain ⟨k, w⟩ := e
    simp only [memInsert]
    split
    · next he => subst he; simp [memGet, h]
    · split
      · simp [memGet, h]
      · simp only [memGet, ih]

theorem memGet_filter_ne (m : List Host.Cell) (a b : Nat) :
    memGet (m.filter (fun e => e.1 ≠ a)) b = if a = b then unwritten else memGet m b := by
  induction m with
  | nil => simp [memGet]
  | cons e t ih =>
    obtain ⟨k, w⟩ := e
    simp only [List.filter_cons]
    split
    · next hk =>
      simp only [decide_eq_true_eq] at hk
      simp only [memGet, ih]
      by_cases hkb : k = b
      · subst hkb; simp [Ne.symm hk]
      · simp [hkb]
    · next hk =>
      simp only [decide_eq_true_eq, ne_eq, Decidable.not_not] at hk
      rw [ih]
      subst hk
      by_cases hkb : k = b <;> simp [memGet, hkb]

/-- A read of one byte after a write of one byte: the byte written, else what was there. -/
theorem memGet_put (m : List Host.Cell) (a b : Nat) (v : Byte) : memGet (memPut m a v) b = if a = b then v else memGet m b := by
  unfold memPut
  split
  · next hv => rw [memGet_filter_ne, hv]
  · by_cases h : a = b
    · subst h; simp [memGet_insert_self]
    · simp [h, memGet_insert_ne]

end Sys2Proof.Machine
end

