-- ==== Sys2Proof/Laws/RegFile.lean ====
section
/-! SUPPORT. The register file and the tables: what a store does to reads, and that the canonical order is kept. -/
namespace Sys2Proof.Machine

theorem RegFile.find?_insert_self (r : RegFile) (k : FKey) (v : Nat) : (r.insert k v).find? k = some v := by
  induction r with
  | nil => simp [RegFile.insert, RegFile.find?]
  | cons e t ih =>
    obtain ⟨k', v'⟩ := e
    simp only [RegFile.insert]
    split
    · simp [RegFile.find?]
    · split
      · simp [RegFile.find?]
      · simp_all [RegFile.find?]

theorem RegFile.find?_insert_ne (r : RegFile) {k k' : FKey} (h : k ≠ k') (v : Nat) : (r.insert k v).find? k' = r.find? k' := by
  induction r with
  | nil => simp [RegFile.insert, RegFile.find?, h]
  | cons e t ih =>
    obtain ⟨k0, v0⟩ := e
    simp only [RegFile.insert]
    split
    · next h0 => subst h0; simp [RegFile.find?, h]
    · split
      · simp [RegFile.find?, h]
      · simp only [RegFile.find?, ih]

theorem RegFile.find?_erase_self (r : RegFile) (k : FKey) : (r.erase k).find? k = none := by
  induction r with
  | nil => rfl
  | cons e t ih =>
    obtain ⟨k0, v0⟩ := e
    unfold RegFile.erase at ih ⊢
    by_cases h : k0 = k
    · rw [List.filter_cons_of_neg (by simp [h])]; exact ih
    · rw [List.filter_cons_of_pos (by simp [h])]; simp only [RegFile.find?, h, if_false]; exact ih

theorem RegFile.find?_erase_ne (r : RegFile) {k k' : FKey} (h : k ≠ k') : (r.erase k).find? k' = r.find? k' := by
  induction r with
  | nil => rfl
  | cons e t ih =>
    obtain ⟨k0, v0⟩ := e
    unfold RegFile.erase at ih ⊢
    by_cases h0 : k0 = k
    · rw [List.filter_cons_of_neg (by simp [h0]), ih]; subst h0; simp [RegFile.find?, h]
    · rw [List.filter_cons_of_pos (by simp [h0])]; simp only [RegFile.find?, ih]

/-- A field reads as what has been stored into it, at its width. -/
theorem RegFile.get_put_self (r : RegFile) (x : Fld) (v : Nat) : (r.put x v).get x = wrap x.w v := by
  unfold RegFile.put RegFile.get
  split
  · next h => rw [find?_erase_self]; exact h.symm
  · rw [find?_insert_self]; rfl

/-- A store into one field leaves every field with another key alone. -/
theorem RegFile.get_put_ne (r : RegFile) {x y : Fld} (h : x.key ≠ y.key) (v : Nat) : (r.put x v).get y = r.get y := by
  unfold RegFile.put RegFile.get
  split
  · rw [find?_erase_ne _ h]
  · rw [find?_insert_ne _ h]

/-! ### The canonical order -/

theorem FKey.before_irrefl (a : FKey) : a.before a = false := by simp [FKey.before]

theorem FKey.before_trans {a b c : FKey} (h : a.before b = true) (h' : b.before c = true) : a.before c = true := by
  simp only [FKey.before, Bool.or_eq_true, Bool.and_eq_true, decide_eq_true_eq, beq_iff_eq] at *
  omega

theorem FKey.before_total {a b : FKey} (h : a ≠ b) (h' : b.before a = false) : a.before b = true := by
  obtain ⟨a1, a2, a3⟩ := a
  obtain ⟨b1, b2, b3⟩ := b
  simp only [FKey.before, Bool.or_eq_true, Bool.and_eq_true, decide_eq_true_eq, beq_iff_eq, ne_eq, FKey.mk.injEq,
    Bool.or_eq_false_iff, Bool.and_eq_false_iff, decide_eq_false_iff_not, beq_eq_false_iff_ne] at *
  omega

/-- Every key of the file comes after `k`. -/
def RegFile.above (k : FKey) (r : RegFile) : Prop := ∀ e ∈ r, k.before e.1 = true

theorem RegFile.wf_cons {k : FKey} {v : Nat} {t : RegFile} : RegFile.wf ((k, v) :: t) = true ↔ RegFile.above k t ∧ t.wf = true := by
  induction t generalizing k v with
  | nil => simp [RegFile.wf, RegFile.above]
  | cons e t ih =>
    obtain ⟨k', v'⟩ := e
    simp only [RegFile.wf, Bool.and_eq_true]
    constructor
    · rintro ⟨h1, h2⟩
      refine ⟨?_, h2⟩
      intro e he
      rcases List.mem_cons.mp he with rfl | he
      · exact h1
      · exact FKey.before_trans h1 ((ih.mp h2).1 e he)
    · rintro ⟨h1, h2⟩
      exact ⟨h1 _ (List.mem_cons_self ..), h2⟩

theorem RegFile.above_insert {a k : FKey} {v : Nat} {r : RegFile} (hr : RegFile.above a r) (h : a.before k = true) :
    RegFile.above a (r.insert k v) := by
  induction r with
  | nil => intro e he; simp only [RegFile.insert, List.mem_singleton] at he; subst he; exact h
  | cons e t ih =>
    obtain ⟨k', v'⟩ := e
    have hk' := hr _ (List.mem_cons_self ..)
    have ht : RegFile.above a t := fun e he => hr e (List.mem_cons_of_mem _ he)
    simp only [RegFile.insert]
    intro e he
    split at he
    · rcases List.mem_cons.mp he with rfl | he
      · exact h
      · exact ht e he
    · split at he
      · rcases List.mem_cons.mp he with rfl | he
        · exact h
        · exact hr e he
      · rcases List.mem_cons.mp he with rfl | he
        · exact hk'
        · exact ih ht e he

theorem RegFile.wf_insert {r : RegFile} (h : r.wf = true) (k : FKey) (v : Nat) : (r.insert k v).wf = true := by
  induction r with
  | nil => rfl
  | cons e t ih =>
    obtain ⟨k', v'⟩ := e
    have hc := RegFile.wf_cons.mp h
    simp only [RegFile.insert]
    split
    · next he => subst he; exact RegFile.wf_cons.mpr hc
    · next hne =>
      split
      · next hb =>
        refine RegFile.wf_cons.mpr ⟨?_, h⟩
        intro e he
        rcases List.mem_cons.mp he with rfl | he
        · exact hb
        · exact FKey.before_trans hb (hc.1 e he)
      · next hb =>
        exact RegFile.wf_cons.mpr ⟨RegFile.above_insert hc.1 (FKey.before_total hne (by simpa using hb)), ih hc.2⟩

/-- Leaving out entries keeps the order. -/
theorem RegFile.wf_filter {r : RegFile} (h : r.wf = true) (p : FKey × Nat → Bool) : RegFile.wf (r.filter p) = true := by
  induction r with
  | nil => rfl
  | cons e t ih =>
    obtain ⟨k, v⟩ := e
    have hc := RegFile.wf_cons.mp h
    simp only [List.filter_cons]
    split
    · refine RegFile.wf_cons.mpr ⟨?_, ih hc.2⟩
      intro e he
      exact hc.1 e (List.mem_filter.mp he).1
    · exact ih hc.2

/-- A store keeps the canonical order. -/
theorem RegFile.wf_put {r : RegFile} (h : r.wf = true) (x : Fld) (v : Nat) : (r.put x v).wf = true := by
  unfold RegFile.put
  split
  · exact RegFile.wf_filter h _
  · exact RegFile.wf_insert h _ _

/-! ### Tables -/

theorem Tbl.get_set_self {α : Type} (d : α) (t : Tbl α) (k : Nat) (v : α) : (t.set k v).get d k = v := by
  induction t with
  | nil => simp [Tbl.set, Tbl.get]
  | cons e t ih =>
    obtain ⟨k', v'⟩ := e
    simp only [Tbl.set]
    split
    · simp [Tbl.get]
    · split
      · simp [Tbl.get]
      · simp_all [Tbl.get]

theorem Tbl.get_set_ne {α : Type} (d : α) (t : Tbl α) {k k' : Nat} (h : k ≠ k') (v : α) : (t.set k v).get d k' = t.get d k' := by
  induction t with
  | nil => simp [Tbl.set, Tbl.get, h]
  | cons e t ih =>
    obtain ⟨k0, v0⟩ := e
    simp only [Tbl.set]
    split
    · next h0 => subst h0; simp [Tbl.get, h]
    · split
      · simp [Tbl.get, h]
      · simp only [Tbl.get, ih]

end Sys2Proof.Machine
end

