-- ==== Sys2Proof/Laws/State.lean ====
section
/-! SUPPORT. What each plain update of the state leaves in each field: one lemma per field per update, and what a register field or a byte reads as after an update. -/
namespace Sys2Proof.Machine

@[simp] theorem State.put_mem (s : State) (x : Fld) (v : Nat) : (s.put x v).mem = s.mem := rfl
@[simp] theorem State.put_T (s : State) (x : Fld) (v : Nat) : (s.put x v).T = s.T := rfl
@[simp] theorem State.put_shadows (s : State) (x : Fld) (v : Nat) : (s.put x v).shadows = s.shadows := rfl
@[simp] theorem State.put_resp (s : State) (x : Fld) (v : Nat) : (s.put x v).resp = s.resp := rfl
@[simp] theorem State.put_out (s : State) (x : Fld) (v : Nat) : (s.put x v).out = s.out := rfl
@[simp] theorem State.put_free (s : State) (x : Fld) (v : Nat) : (s.put x v).free = s.free := rfl
@[simp] theorem State.put_viol (s : State) (x : Fld) (v : Nat) : (s.put x v).viol = s.viol := rfl
@[simp] theorem State.put_refused (s : State) (x : Fld) (v : Nat) : (s.put x v).refused = s.refused := rfl
@[simp] theorem State.put_tsp (s : State) (x : Fld) (v : Nat) : (s.put x v).tsp = s.tsp := rfl
@[simp] theorem State.put_adc (s : State) (x : Fld) (v : Nat) : (s.put x v).adc = s.adc := rfl
@[simp] theorem State.put_pwm (s : State) (x : Fld) (v : Nat) : (s.put x v).pwm = s.pwm := rfl
@[simp] theorem State.put_ivs (s : State) (x : Fld) (v : Nat) : (s.put x v).ivs = s.ivs := rfl
@[simp] theorem State.put_grd (s : State) (x : Fld) (v : Nat) : (s.put x v).grd = s.grd := rfl
@[simp] theorem State.put_ldg (s : State) (x : Fld) (v : Nat) : (s.put x v).ldg = s.ldg := rfl
@[simp] theorem State.put_gptp (s : State) (x : Fld) (v : Nat) : (s.put x v).gptp = s.gptp := rfl
@[simp] theorem State.put_agg (s : State) (x : Fld) (v : Nat) : (s.put x v).agg = s.agg := rfl
@[simp] theorem State.put_dsp (s : State) (x : Fld) (v : Nat) : (s.put x v).dsp = s.dsp := rfl
@[simp] theorem State.put_dspMem (s : State) (x : Fld) (v : Nat) : (s.put x v).dspMem = s.dspMem := rfl
@[simp] theorem State.put_mbx (s : State) (x : Fld) (v : Nat) : (s.put x v).mbx = s.mbx := rfl
@[simp] theorem State.put_saf (s : State) (x : Fld) (v : Nat) : (s.put x v).saf = s.saf := rfl
@[simp] theorem State.put_pxe (s : State) (x : Fld) (v : Nat) : (s.put x v).pxe = s.pxe := rfl
@[simp] theorem State.put_hif (s : State) (x : Fld) (v : Nat) : (s.put x v).hif = s.hif := rfl
@[simp] theorem State.put_net (s : State) (x : Fld) (v : Nat) : (s.put x v).net = s.net := rfl
@[simp] theorem State.put_sec (s : State) (x : Fld) (v : Nat) : (s.put x v).sec = s.sec := rfl
@[simp] theorem State.put_tsn (s : State) (x : Fld) (v : Nat) : (s.put x v).tsn = s.tsn := rfl
@[simp] theorem State.put_memSt (s : State) (x : Fld) (v : Nat) : (s.put x v).memSt = s.memSt := rfl
@[simp] theorem State.put_drm (s : State) (x : Fld) (v : Nat) : (s.put x v).drm = s.drm := rfl
@[simp] theorem State.put_val (s : State) (x : Fld) (v : Nat) : (s.put x v).val = s.val := rfl
@[simp] theorem State.put_ins (s : State) (x : Fld) (v : Nat) : (s.put x v).ins = s.ins := rfl
@[simp] theorem State.put_aon (s : State) (x : Fld) (v : Nat) : (s.put x v).aon = s.aon := rfl
@[simp] theorem State.put_boot (s : State) (x : Fld) (v : Nat) : (s.put x v).boot = s.boot := rfl
@[simp] theorem State.put_reply (s : State) (x : Fld) (v : Nat) : (s.put x v).reply = s.reply := rfl
@[simp] theorem State.put_pending (s : State) (x : Fld) (v : Nat) : (s.put x v).pending = s.pending := rfl

@[simp] theorem State.emit_regs (s : State) (e : Out) : (s.emit e).regs = s.regs := rfl
@[simp] theorem State.emit_mem (s : State) (e : Out) : (s.emit e).mem = s.mem := rfl
@[simp] theorem State.emit_T (s : State) (e : Out) : (s.emit e).T = s.T := rfl
@[simp] theorem State.emit_shadows (s : State) (e : Out) : (s.emit e).shadows = s.shadows := rfl
@[simp] theorem State.emit_resp (s : State) (e : Out) : (s.emit e).resp = s.resp := rfl
@[simp] theorem State.emit_free (s : State) (e : Out) : (s.emit e).free = s.free := rfl
@[simp] theorem State.emit_viol (s : State) (e : Out) : (s.emit e).viol = s.viol := rfl
@[simp] theorem State.emit_refused (s : State) (e : Out) : (s.emit e).refused = s.refused := rfl
@[simp] theorem State.emit_tsp (s : State) (e : Out) : (s.emit e).tsp = s.tsp := rfl
@[simp] theorem State.emit_adc (s : State) (e : Out) : (s.emit e).adc = s.adc := rfl
@[simp] theorem State.emit_pwm (s : State) (e : Out) : (s.emit e).pwm = s.pwm := rfl
@[simp] theorem State.emit_ivs (s : State) (e : Out) : (s.emit e).ivs = s.ivs := rfl
@[simp] theorem State.emit_grd (s : State) (e : Out) : (s.emit e).grd = s.grd := rfl
@[simp] theorem State.emit_ldg (s : State) (e : Out) : (s.emit e).ldg = s.ldg := rfl
@[simp] theorem State.emit_gptp (s : State) (e : Out) : (s.emit e).gptp = s.gptp := rfl
@[simp] theorem State.emit_agg (s : State) (e : Out) : (s.emit e).agg = s.agg := rfl
@[simp] theorem State.emit_dsp (s : State) (e : Out) : (s.emit e).dsp = s.dsp := rfl
@[simp] theorem State.emit_dspMem (s : State) (e : Out) : (s.emit e).dspMem = s.dspMem := rfl
@[simp] theorem State.emit_mbx (s : State) (e : Out) : (s.emit e).mbx = s.mbx := rfl
@[simp] theorem State.emit_saf (s : State) (e : Out) : (s.emit e).saf = s.saf := rfl
@[simp] theorem State.emit_pxe (s : State) (e : Out) : (s.emit e).pxe = s.pxe := rfl
@[simp] theorem State.emit_hif (s : State) (e : Out) : (s.emit e).hif = s.hif := rfl
@[simp] theorem State.emit_net (s : State) (e : Out) : (s.emit e).net = s.net := rfl
@[simp] theorem State.emit_sec (s : State) (e : Out) : (s.emit e).sec = s.sec := rfl
@[simp] theorem State.emit_tsn (s : State) (e : Out) : (s.emit e).tsn = s.tsn := rfl
@[simp] theorem State.emit_memSt (s : State) (e : Out) : (s.emit e).memSt = s.memSt := rfl
@[simp] theorem State.emit_drm (s : State) (e : Out) : (s.emit e).drm = s.drm := rfl
@[simp] theorem State.emit_val (s : State) (e : Out) : (s.emit e).val = s.val := rfl
@[simp] theorem State.emit_ins (s : State) (e : Out) : (s.emit e).ins = s.ins := rfl
@[simp] theorem State.emit_aon (s : State) (e : Out) : (s.emit e).aon = s.aon := rfl
@[simp] theorem State.emit_boot (s : State) (e : Out) : (s.emit e).boot = s.boot := rfl
@[simp] theorem State.emit_reply (s : State) (e : Out) : (s.emit e).reply = s.reply := rfl
@[simp] theorem State.emit_pending (s : State) (e : Out) : (s.emit e).pending = s.pending := rfl

@[simp] theorem State.irq_regs (s : State) (k : Irq) : (s.irq k).regs = s.regs := rfl
@[simp] theorem State.irq_mem (s : State) (k : Irq) : (s.irq k).mem = s.mem := rfl
@[simp] theorem State.irq_T (s : State) (k : Irq) : (s.irq k).T = s.T := rfl
@[simp] theorem State.irq_shadows (s : State) (k : Irq) : (s.irq k).shadows = s.shadows := rfl
@[simp] theorem State.irq_resp (s : State) (k : Irq) : (s.irq k).resp = s.resp := rfl
@[simp] theorem State.irq_free (s : State) (k : Irq) : (s.irq k).free = s.free := rfl
@[simp] theorem State.irq_viol (s : State) (k : Irq) : (s.irq k).viol = s.viol := rfl
@[simp] theorem State.irq_refused (s : State) (k : Irq) : (s.irq k).refused = s.refused := rfl
@[simp] theorem State.irq_tsp (s : State) (k : Irq) : (s.irq k).tsp = s.tsp := rfl
@[simp] theorem State.irq_adc (s : State) (k : Irq) : (s.irq k).adc = s.adc := rfl
@[simp] theorem State.irq_pwm (s : State) (k : Irq) : (s.irq k).pwm = s.pwm := rfl
@[simp] theorem State.irq_ivs (s : State) (k : Irq) : (s.irq k).ivs = s.ivs := rfl
@[simp] theorem State.irq_grd (s : State) (k : Irq) : (s.irq k).grd = s.grd := rfl
@[simp] theorem State.irq_ldg (s : State) (k : Irq) : (s.irq k).ldg = s.ldg := rfl
@[simp] theorem State.irq_gptp (s : State) (k : Irq) : (s.irq k).gptp = s.gptp := rfl
@[simp] theorem State.irq_agg (s : State) (k : Irq) : (s.irq k).agg = s.agg := rfl
@[simp] theorem State.irq_dsp (s : State) (k : Irq) : (s.irq k).dsp = s.dsp := rfl
@[simp] theorem State.irq_dspMem (s : State) (k : Irq) : (s.irq k).dspMem = s.dspMem := rfl
@[simp] theorem State.irq_mbx (s : State) (k : Irq) : (s.irq k).mbx = s.mbx := rfl
@[simp] theorem State.irq_saf (s : State) (k : Irq) : (s.irq k).saf = s.saf := rfl
@[simp] theorem State.irq_pxe (s : State) (k : Irq) : (s.irq k).pxe = s.pxe := rfl
@[simp] theorem State.irq_hif (s : State) (k : Irq) : (s.irq k).hif = s.hif := rfl
@[simp] theorem State.irq_net (s : State) (k : Irq) : (s.irq k).net = s.net := rfl
@[simp] theorem State.irq_sec (s : State) (k : Irq) : (s.irq k).sec = s.sec := rfl
@[simp] theorem State.irq_tsn (s : State) (k : Irq) : (s.irq k).tsn = s.tsn := rfl
@[simp] theorem State.irq_memSt (s : State) (k : Irq) : (s.irq k).memSt = s.memSt := rfl
@[simp] theorem State.irq_drm (s : State) (k : Irq) : (s.irq k).drm = s.drm := rfl
@[simp] theorem State.irq_val (s : State) (k : Irq) : (s.irq k).val = s.val := rfl
@[simp] theorem State.irq_ins (s : State) (k : Irq) : (s.irq k).ins = s.ins := rfl
@[simp] theorem State.irq_aon (s : State) (k : Irq) : (s.irq k).aon = s.aon := rfl
@[simp] theorem State.irq_boot (s : State) (k : Irq) : (s.irq k).boot = s.boot := rfl
@[simp] theorem State.irq_reply (s : State) (k : Irq) : (s.irq k).reply = s.reply := rfl
@[simp] theorem State.irq_pending (s : State) (k : Irq) : (s.irq k).pending = s.pending := rfl

@[simp] theorem State.setByte_regs (s : State) (a : Nat) (v : Byte) : (s.setByte a v).regs = s.regs := rfl
@[simp] theorem State.setByte_T (s : State) (a : Nat) (v : Byte) : (s.setByte a v).T = s.T := rfl
@[simp] theorem State.setByte_shadows (s : State) (a : Nat) (v : Byte) : (s.setByte a v).shadows = s.shadows := rfl
@[simp] theorem State.setByte_resp (s : State) (a : Nat) (v : Byte) : (s.setByte a v).resp = s.resp := rfl
@[simp] theorem State.setByte_out (s : State) (a : Nat) (v : Byte) : (s.setByte a v).out = s.out := rfl
@[simp] theorem State.setByte_free (s : State) (a : Nat) (v : Byte) : (s.setByte a v).free = s.free := rfl
@[simp] theorem State.setByte_viol (s : State) (a : Nat) (v : Byte) : (s.setByte a v).viol = s.viol := rfl
@[simp] theorem State.setByte_refused (s : State) (a : Nat) (v : Byte) : (s.setByte a v).refused = s.refused := rfl
@[simp] theorem State.setByte_tsp (s : State) (a : Nat) (v : Byte) : (s.setByte a v).tsp = s.tsp := rfl
@[simp] theorem State.setByte_adc (s : State) (a : Nat) (v : Byte) : (s.setByte a v).adc = s.adc := rfl
@[simp] theorem State.setByte_pwm (s : State) (a : Nat) (v : Byte) : (s.setByte a v).pwm = s.pwm := rfl
@[simp] theorem State.setByte_ivs (s : State) (a : Nat) (v : Byte) : (s.setByte a v).ivs = s.ivs := rfl
@[simp] theorem State.setByte_grd (s : State) (a : Nat) (v : Byte) : (s.setByte a v).grd = s.grd := rfl
@[simp] theorem State.setByte_ldg (s : State) (a : Nat) (v : Byte) : (s.setByte a v).ldg = s.ldg := rfl
@[simp] theorem State.setByte_gptp (s : State) (a : Nat) (v : Byte) : (s.setByte a v).gptp = s.gptp := rfl
@[simp] theorem State.setByte_agg (s : State) (a : Nat) (v : Byte) : (s.setByte a v).agg = s.agg := rfl
@[simp] theorem State.setByte_dsp (s : State) (a : Nat) (v : Byte) : (s.setByte a v).dsp = s.dsp := rfl
@[simp] theorem State.setByte_dspMem (s : State) (a : Nat) (v : Byte) : (s.setByte a v).dspMem = s.dspMem := rfl
@[simp] theorem State.setByte_mbx (s : State) (a : Nat) (v : Byte) : (s.setByte a v).mbx = s.mbx := rfl
@[simp] theorem State.setByte_saf (s : State) (a : Nat) (v : Byte) : (s.setByte a v).saf = s.saf := rfl
@[simp] theorem State.setByte_pxe (s : State) (a : Nat) (v : Byte) : (s.setByte a v).pxe = s.pxe := rfl
@[simp] theorem State.setByte_hif (s : State) (a : Nat) (v : Byte) : (s.setByte a v).hif = s.hif := rfl
@[simp] theorem State.setByte_net (s : State) (a : Nat) (v : Byte) : (s.setByte a v).net = s.net := rfl
@[simp] theorem State.setByte_sec (s : State) (a : Nat) (v : Byte) : (s.setByte a v).sec = s.sec := rfl
@[simp] theorem State.setByte_tsn (s : State) (a : Nat) (v : Byte) : (s.setByte a v).tsn = s.tsn := rfl
@[simp] theorem State.setByte_memSt (s : State) (a : Nat) (v : Byte) : (s.setByte a v).memSt = s.memSt := rfl
@[simp] theorem State.setByte_drm (s : State) (a : Nat) (v : Byte) : (s.setByte a v).drm = s.drm := rfl
@[simp] theorem State.setByte_val (s : State) (a : Nat) (v : Byte) : (s.setByte a v).val = s.val := rfl
@[simp] theorem State.setByte_ins (s : State) (a : Nat) (v : Byte) : (s.setByte a v).ins = s.ins := rfl
@[simp] theorem State.setByte_aon (s : State) (a : Nat) (v : Byte) : (s.setByte a v).aon = s.aon := rfl
@[simp] theorem State.setByte_boot (s : State) (a : Nat) (v : Byte) : (s.setByte a v).boot = s.boot := rfl
@[simp] theorem State.setByte_reply (s : State) (a : Nat) (v : Byte) : (s.setByte a v).reply = s.reply := rfl
@[simp] theorem State.setByte_pending (s : State) (a : Nat) (v : Byte) : (s.setByte a v).pending = s.pending := rfl

@[simp] theorem State.clearRange_regs (s : State) (a n : Nat) : (s.clearRange a n).regs = s.regs := rfl
@[simp] theorem State.clearRange_T (s : State) (a n : Nat) : (s.clearRange a n).T = s.T := rfl
@[simp] theorem State.clearRange_shadows (s : State) (a n : Nat) : (s.clearRange a n).shadows = s.shadows := rfl
@[simp] theorem State.clearRange_resp (s : State) (a n : Nat) : (s.clearRange a n).resp = s.resp := rfl
@[simp] theorem State.clearRange_out (s : State) (a n : Nat) : (s.clearRange a n).out = s.out := rfl
@[simp] theorem State.clearRange_free (s : State) (a n : Nat) : (s.clearRange a n).free = s.free := rfl
@[simp] theorem State.clearRange_viol (s : State) (a n : Nat) : (s.clearRange a n).viol = s.viol := rfl
@[simp] theorem State.clearRange_refused (s : State) (a n : Nat) : (s.clearRange a n).refused = s.refused := rfl
@[simp] theorem State.clearRange_tsp (s : State) (a n : Nat) : (s.clearRange a n).tsp = s.tsp := rfl
@[simp] theorem State.clearRange_adc (s : State) (a n : Nat) : (s.clearRange a n).adc = s.adc := rfl
@[simp] theorem State.clearRange_pwm (s : State) (a n : Nat) : (s.clearRange a n).pwm = s.pwm := rfl
@[simp] theorem State.clearRange_ivs (s : State) (a n : Nat) : (s.clearRange a n).ivs = s.ivs := rfl
@[simp] theorem State.clearRange_grd (s : State) (a n : Nat) : (s.clearRange a n).grd = s.grd := rfl
@[simp] theorem State.clearRange_ldg (s : State) (a n : Nat) : (s.clearRange a n).ldg = s.ldg := rfl
@[simp] theorem State.clearRange_gptp (s : State) (a n : Nat) : (s.clearRange a n).gptp = s.gptp := rfl
@[simp] theorem State.clearRange_agg (s : State) (a n : Nat) : (s.clearRange a n).agg = s.agg := rfl
@[simp] theorem State.clearRange_dsp (s : State) (a n : Nat) : (s.clearRange a n).dsp = s.dsp := rfl
@[simp] theorem State.clearRange_dspMem (s : State) (a n : Nat) : (s.clearRange a n).dspMem = s.dspMem := rfl
@[simp] theorem State.clearRange_mbx (s : State) (a n : Nat) : (s.clearRange a n).mbx = s.mbx := rfl
@[simp] theorem State.clearRange_saf (s : State) (a n : Nat) : (s.clearRange a n).saf = s.saf := rfl
@[simp] theorem State.clearRange_pxe (s : State) (a n : Nat) : (s.clearRange a n).pxe = s.pxe := rfl
@[simp] theorem State.clearRange_hif (s : State) (a n : Nat) : (s.clearRange a n).hif = s.hif := rfl
@[simp] theorem State.clearRange_net (s : State) (a n : Nat) : (s.clearRange a n).net = s.net := rfl
@[simp] theorem State.clearRange_sec (s : State) (a n : Nat) : (s.clearRange a n).sec = s.sec := rfl
@[simp] theorem State.clearRange_tsn (s : State) (a n : Nat) : (s.clearRange a n).tsn = s.tsn := rfl
@[simp] theorem State.clearRange_memSt (s : State) (a n : Nat) : (s.clearRange a n).memSt = s.memSt := rfl
@[simp] theorem State.clearRange_drm (s : State) (a n : Nat) : (s.clearRange a n).drm = s.drm := rfl
@[simp] theorem State.clearRange_val (s : State) (a n : Nat) : (s.clearRange a n).val = s.val := rfl
@[simp] theorem State.clearRange_ins (s : State) (a n : Nat) : (s.clearRange a n).ins = s.ins := rfl
@[simp] theorem State.clearRange_aon (s : State) (a n : Nat) : (s.clearRange a n).aon = s.aon := rfl
@[simp] theorem State.clearRange_boot (s : State) (a n : Nat) : (s.clearRange a n).boot = s.boot := rfl
@[simp] theorem State.clearRange_reply (s : State) (a n : Nat) : (s.clearRange a n).reply = s.reply := rfl
@[simp] theorem State.clearRange_pending (s : State) (a n : Nat) : (s.clearRange a n).pending = s.pending := rfl

@[simp] theorem State.latch_regs (s : State) (m v x : Nat) : (s.latch m v x).regs = s.regs := rfl
@[simp] theorem State.latch_mem (s : State) (m v x : Nat) : (s.latch m v x).mem = s.mem := rfl
@[simp] theorem State.latch_T (s : State) (m v x : Nat) : (s.latch m v x).T = s.T := rfl
@[simp] theorem State.latch_resp (s : State) (m v x : Nat) : (s.latch m v x).resp = s.resp := rfl
@[simp] theorem State.latch_out (s : State) (m v x : Nat) : (s.latch m v x).out = s.out := rfl
@[simp] theorem State.latch_free (s : State) (m v x : Nat) : (s.latch m v x).free = s.free := rfl
@[simp] theorem State.latch_viol (s : State) (m v x : Nat) : (s.latch m v x).viol = s.viol := rfl
@[simp] theorem State.latch_refused (s : State) (m v x : Nat) : (s.latch m v x).refused = s.refused := rfl
@[simp] theorem State.latch_tsp (s : State) (m v x : Nat) : (s.latch m v x).tsp = s.tsp := rfl
@[simp] theorem State.latch_adc (s : State) (m v x : Nat) : (s.latch m v x).adc = s.adc := rfl
@[simp] theorem State.latch_pwm (s : State) (m v x : Nat) : (s.latch m v x).pwm = s.pwm := rfl
@[simp] theorem State.latch_ivs (s : State) (m v x : Nat) : (s.latch m v x).ivs = s.ivs := rfl
@[simp] theorem State.latch_grd (s : State) (m v x : Nat) : (s.latch m v x).grd = s.grd := rfl
@[simp] theorem State.latch_ldg (s : State) (m v x : Nat) : (s.latch m v x).ldg = s.ldg := rfl
@[simp] theorem State.latch_gptp (s : State) (m v x : Nat) : (s.latch m v x).gptp = s.gptp := rfl
@[simp] theorem State.latch_agg (s : State) (m v x : Nat) : (s.latch m v x).agg = s.agg := rfl
@[simp] theorem State.latch_dsp (s : State) (m v x : Nat) : (s.latch m v x).dsp = s.dsp := rfl
@[simp] theorem State.latch_dspMem (s : State) (m v x : Nat) : (s.latch m v x).dspMem = s.dspMem := rfl
@[simp] theorem State.latch_mbx (s : State) (m v x : Nat) : (s.latch m v x).mbx = s.mbx := rfl
@[simp] theorem State.latch_saf (s : State) (m v x : Nat) : (s.latch m v x).saf = s.saf := rfl
@[simp] theorem State.latch_pxe (s : State) (m v x : Nat) : (s.latch m v x).pxe = s.pxe := rfl
@[simp] theorem State.latch_hif (s : State) (m v x : Nat) : (s.latch m v x).hif = s.hif := rfl
@[simp] theorem State.latch_net (s : State) (m v x : Nat) : (s.latch m v x).net = s.net := rfl
@[simp] theorem State.latch_sec (s : State) (m v x : Nat) : (s.latch m v x).sec = s.sec := rfl
@[simp] theorem State.latch_tsn (s : State) (m v x : Nat) : (s.latch m v x).tsn = s.tsn := rfl
@[simp] theorem State.latch_memSt (s : State) (m v x : Nat) : (s.latch m v x).memSt = s.memSt := rfl
@[simp] theorem State.latch_drm (s : State) (m v x : Nat) : (s.latch m v x).drm = s.drm := rfl
@[simp] theorem State.latch_val (s : State) (m v x : Nat) : (s.latch m v x).val = s.val := rfl
@[simp] theorem State.latch_ins (s : State) (m v x : Nat) : (s.latch m v x).ins = s.ins := rfl
@[simp] theorem State.latch_aon (s : State) (m v x : Nat) : (s.latch m v x).aon = s.aon := rfl
@[simp] theorem State.latch_boot (s : State) (m v x : Nat) : (s.latch m v x).boot = s.boot := rfl
@[simp] theorem State.latch_reply (s : State) (m v x : Nat) : (s.latch m v x).reply = s.reply := rfl
@[simp] theorem State.latch_pending (s : State) (m v x : Nat) : (s.latch m v x).pending = s.pending := rfl

@[simp] theorem State.answer_regs (s : State) (v : Nat) : (s.answer v).regs = s.regs := rfl
@[simp] theorem State.answer_mem (s : State) (v : Nat) : (s.answer v).mem = s.mem := rfl
@[simp] theorem State.answer_T (s : State) (v : Nat) : (s.answer v).T = s.T := rfl
@[simp] theorem State.answer_shadows (s : State) (v : Nat) : (s.answer v).shadows = s.shadows := rfl
@[simp] theorem State.answer_out (s : State) (v : Nat) : (s.answer v).out = s.out := rfl
@[simp] theorem State.answer_free (s : State) (v : Nat) : (s.answer v).free = s.free := rfl
@[simp] theorem State.answer_viol (s : State) (v : Nat) : (s.answer v).viol = s.viol := rfl
@[simp] theorem State.answer_refused (s : State) (v : Nat) : (s.answer v).refused = s.refused := rfl
@[simp] theorem State.answer_tsp (s : State) (v : Nat) : (s.answer v).tsp = s.tsp := rfl
@[simp] theorem State.answer_adc (s : State) (v : Nat) : (s.answer v).adc = s.adc := rfl
@[simp] theorem State.answer_pwm (s : State) (v : Nat) : (s.answer v).pwm = s.pwm := rfl
@[simp] theorem State.answer_ivs (s : State) (v : Nat) : (s.answer v).ivs = s.ivs := rfl
@[simp] theorem State.answer_grd (s : State) (v : Nat) : (s.answer v).grd = s.grd := rfl
@[simp] theorem State.answer_ldg (s : State) (v : Nat) : (s.answer v).ldg = s.ldg := rfl
@[simp] theorem State.answer_gptp (s : State) (v : Nat) : (s.answer v).gptp = s.gptp := rfl
@[simp] theorem State.answer_agg (s : State) (v : Nat) : (s.answer v).agg = s.agg := rfl
@[simp] theorem State.answer_dsp (s : State) (v : Nat) : (s.answer v).dsp = s.dsp := rfl
@[simp] theorem State.answer_dspMem (s : State) (v : Nat) : (s.answer v).dspMem = s.dspMem := rfl
@[simp] theorem State.answer_mbx (s : State) (v : Nat) : (s.answer v).mbx = s.mbx := rfl
@[simp] theorem State.answer_saf (s : State) (v : Nat) : (s.answer v).saf = s.saf := rfl
@[simp] theorem State.answer_pxe (s : State) (v : Nat) : (s.answer v).pxe = s.pxe := rfl
@[simp] theorem State.answer_hif (s : State) (v : Nat) : (s.answer v).hif = s.hif := rfl
@[simp] theorem State.answer_net (s : State) (v : Nat) : (s.answer v).net = s.net := rfl
@[simp] theorem State.answer_sec (s : State) (v : Nat) : (s.answer v).sec = s.sec := rfl
@[simp] theorem State.answer_tsn (s : State) (v : Nat) : (s.answer v).tsn = s.tsn := rfl
@[simp] theorem State.answer_memSt (s : State) (v : Nat) : (s.answer v).memSt = s.memSt := rfl
@[simp] theorem State.answer_drm (s : State) (v : Nat) : (s.answer v).drm = s.drm := rfl
@[simp] theorem State.answer_val (s : State) (v : Nat) : (s.answer v).val = s.val := rfl
@[simp] theorem State.answer_ins (s : State) (v : Nat) : (s.answer v).ins = s.ins := rfl
@[simp] theorem State.answer_aon (s : State) (v : Nat) : (s.answer v).aon = s.aon := rfl
@[simp] theorem State.answer_boot (s : State) (v : Nat) : (s.answer v).boot = s.boot := rfl
@[simp] theorem State.answer_reply (s : State) (v : Nat) : (s.answer v).reply = s.reply := rfl
@[simp] theorem State.answer_pending (s : State) (v : Nat) : (s.answer v).pending = s.pending := rfl

@[simp] theorem State.fresh_regs (s : State) (w : Nat) : ((s.fresh w).2).regs = s.regs := rfl
@[simp] theorem State.fresh_mem (s : State) (w : Nat) : ((s.fresh w).2).mem = s.mem := rfl
@[simp] theorem State.fresh_T (s : State) (w : Nat) : ((s.fresh w).2).T = s.T := rfl
@[simp] theorem State.fresh_shadows (s : State) (w : Nat) : ((s.fresh w).2).shadows = s.shadows := rfl
@[simp] theorem State.fresh_resp (s : State) (w : Nat) : ((s.fresh w).2).resp = s.resp := rfl
@[simp] theorem State.fresh_out (s : State) (w : Nat) : ((s.fresh w).2).out = s.out := rfl
@[simp] theorem State.fresh_viol (s : State) (w : Nat) : ((s.fresh w).2).viol = s.viol := rfl
@[simp] theorem State.fresh_refused (s : State) (w : Nat) : ((s.fresh w).2).refused = s.refused := rfl
@[simp] theorem State.fresh_tsp (s : State) (w : Nat) : ((s.fresh w).2).tsp = s.tsp := rfl
@[simp] theorem State.fresh_adc (s : State) (w : Nat) : ((s.fresh w).2).adc = s.adc := rfl
@[simp] theorem State.fresh_pwm (s : State) (w : Nat) : ((s.fresh w).2).pwm = s.pwm := rfl
@[simp] theorem State.fresh_ivs (s : State) (w : Nat) : ((s.fresh w).2).ivs = s.ivs := rfl
@[simp] theorem State.fresh_grd (s : State) (w : Nat) : ((s.fresh w).2).grd = s.grd := rfl
@[simp] theorem State.fresh_ldg (s : State) (w : Nat) : ((s.fresh w).2).ldg = s.ldg := rfl
@[simp] theorem State.fresh_gptp (s : State) (w : Nat) : ((s.fresh w).2).gptp = s.gptp := rfl
@[simp] theorem State.fresh_agg (s : State) (w : Nat) : ((s.fresh w).2).agg = s.agg := rfl
@[simp] theorem State.fresh_dsp (s : State) (w : Nat) : ((s.fresh w).2).dsp = s.dsp := rfl
@[simp] theorem State.fresh_dspMem (s : State) (w : Nat) : ((s.fresh w).2).dspMem = s.dspMem := rfl
@[simp] theorem State.fresh_mbx (s : State) (w : Nat) : ((s.fresh w).2).mbx = s.mbx := rfl
@[simp] theorem State.fresh_saf (s : State) (w : Nat) : ((s.fresh w).2).saf = s.saf := rfl
@[simp] theorem State.fresh_pxe (s : State) (w : Nat) : ((s.fresh w).2).pxe = s.pxe := rfl
@[simp] theorem State.fresh_hif (s : State) (w : Nat) : ((s.fresh w).2).hif = s.hif := rfl
@[simp] theorem State.fresh_net (s : State) (w : Nat) : ((s.fresh w).2).net = s.net := rfl
@[simp] theorem State.fresh_sec (s : State) (w : Nat) : ((s.fresh w).2).sec = s.sec := rfl
@[simp] theorem State.fresh_tsn (s : State) (w : Nat) : ((s.fresh w).2).tsn = s.tsn := rfl
@[simp] theorem State.fresh_memSt (s : State) (w : Nat) : ((s.fresh w).2).memSt = s.memSt := rfl
@[simp] theorem State.fresh_drm (s : State) (w : Nat) : ((s.fresh w).2).drm = s.drm := rfl
@[simp] theorem State.fresh_val (s : State) (w : Nat) : ((s.fresh w).2).val = s.val := rfl
@[simp] theorem State.fresh_ins (s : State) (w : Nat) : ((s.fresh w).2).ins = s.ins := rfl
@[simp] theorem State.fresh_aon (s : State) (w : Nat) : ((s.fresh w).2).aon = s.aon := rfl
@[simp] theorem State.fresh_boot (s : State) (w : Nat) : ((s.fresh w).2).boot = s.boot := rfl
@[simp] theorem State.fresh_reply (s : State) (w : Nat) : ((s.fresh w).2).reply = s.reply := rfl
@[simp] theorem State.fresh_pending (s : State) (w : Nat) : ((s.fresh w).2).pending = s.pending := rfl

@[simp] theorem State.emit_out (s : State) (e : Out) : (s.emit e).out = s.out ++ [e] := rfl
@[simp] theorem State.irq_out (s : State) (k : Irq) : (s.irq k).out = s.out ++ [.irq k] := rfl
@[simp] theorem State.answer_resp (s : State) (v : Nat) : (s.answer v).resp = v := rfl
@[simp] theorem State.fresh_free (s : State) (w : Nat) : (s.fresh w).2.free = s.free + 1 := rfl

/-! ### Register fields -/

@[simp] theorem State.get_put_self (s : State) (x : Fld) (v : Nat) : (s.put x v).get x = wrap x.w v := RegFile.get_put_self s.regs x v

@[simp] theorem State.get_put_ne (s : State) {x y : Fld} (h : x.key ≠ y.key) (v : Nat) : (s.put x v).get y = s.get y :=
  RegFile.get_put_ne s.regs h v

@[simp] theorem State.get_bumpBy_self (s : State) (x : Fld) (k : Nat) : (s.bumpBy x k).get x = wrap x.w (satAdd x.w (s.get x) k) :=
  State.get_put_self s x _

@[simp] theorem State.get_bumpBy_ne (s : State) {x y : Fld} (h : x.key ≠ y.key) (k : Nat) : (s.bumpBy x k).get y = s.get y :=
  State.get_put_ne s h _

@[simp] theorem State.get_bump_self (s : State) (x : Fld) : (s.bump x).get x = wrap x.w (satAdd x.w (s.get x) 1) := State.get_put_self s x _

@[simp] theorem State.get_bump_ne (s : State) {x y : Fld} (h : x.key ≠ y.key) : (s.bump x).get y = s.get y := State.get_put_ne s h _

@[simp] theorem State.puts_nil (s : State) : s.puts [] = s := rfl

@[simp] theorem State.puts_cons (s : State) (e : Fld × Nat) (l : List (Fld × Nat)) : s.puts (e :: l) = (s.put e.1 e.2).puts l := rfl

/-- A field keeps its value where several others are set. -/
theorem State.get_puts_ne (s : State) (l : List (Fld × Nat)) (y : Fld) (h : ∀ e ∈ l, e.1.key ≠ y.key) : (s.puts l).get y = s.get y := by
  induction l generalizing s with
  | nil => rfl
  | cons e l ih =>
    rw [State.puts_cons, ih _ (fun x hx => h x (List.mem_cons_of_mem _ hx)), State.get_put_ne _ (h e List.mem_cons_self)]

@[simp] theorem State.get_emit (s : State) (e : Out) (y : Fld) : (s.emit e).get y = s.get y := rfl
@[simp] theorem State.get_irq (s : State) (k : Irq) (y : Fld) : (s.irq k).get y = s.get y := rfl
@[simp] theorem State.get_setByte (s : State) (a : Nat) (v : Byte) (y : Fld) : (s.setByte a v).get y = s.get y := rfl
@[simp] theorem State.get_latch (s : State) (m v x : Nat) (y : Fld) : (s.latch m v x).get y = s.get y := rfl
@[simp] theorem State.get_answer (s : State) (v : Nat) (y : Fld) : (s.answer v).get y = s.get y := rfl
@[simp] theorem State.get_fresh (s : State) (w : Nat) (y : Fld) : (s.fresh w).2.get y = s.get y := rfl
@[simp] theorem State.when_true (s : State) (f : State → State) : s.when true f = f s := rfl
@[simp] theorem State.when_false (s : State) (f : State → State) : s.when false f = s := rfl

/-! ### Bytes of memory -/

@[simp] theorem State.byte_setByte (s : State) (a b : Nat) (v : Byte) : (s.setByte a v).byte b = if a = b then v else s.byte b :=
  memGet_put s.mem a b v

@[simp] theorem State.byte_put (s : State) (x : Fld) (v a : Nat) : (s.put x v).byte a = s.byte a := rfl

/-! ### Units: what a set unit reads as, and that the other parts stay -/

@[simp] theorem State.setSrc_regs (s : State) (n : Nat) (v : Src) : (s.setSrc n v).regs = s.regs := rfl
@[simp] theorem State.setSrc_mem (s : State) (n : Nat) (v : Src) : (s.setSrc n v).mem = s.mem := rfl
@[simp] theorem State.setSrc_T (s : State) (n : Nat) (v : Src) : (s.setSrc n v).T = s.T := rfl
@[simp] theorem State.setSrc_shadows (s : State) (n : Nat) (v : Src) : (s.setSrc n v).shadows = s.shadows := rfl
@[simp] theorem State.setSrc_resp (s : State) (n : Nat) (v : Src) : (s.setSrc n v).resp = s.resp := rfl
@[simp] theorem State.setSrc_out (s : State) (n : Nat) (v : Src) : (s.setSrc n v).out = s.out := rfl
@[simp] theorem State.setSrc_free (s : State) (n : Nat) (v : Src) : (s.setSrc n v).free = s.free := rfl
@[simp] theorem State.setSrc_viol (s : State) (n : Nat) (v : Src) : (s.setSrc n v).viol = s.viol := rfl
@[simp] theorem State.setSrc_refused (s : State) (n : Nat) (v : Src) : (s.setSrc n v).refused = s.refused := rfl
@[simp] theorem State.setSrc_adc (s : State) (n : Nat) (v : Src) : (s.setSrc n v).adc = s.adc := rfl
@[simp] theorem State.setSrc_pwm (s : State) (n : Nat) (v : Src) : (s.setSrc n v).pwm = s.pwm := rfl
@[simp] theorem State.setSrc_ivs (s : State) (n : Nat) (v : Src) : (s.setSrc n v).ivs = s.ivs := rfl
@[simp] theorem State.setSrc_grd (s : State) (n : Nat) (v : Src) : (s.setSrc n v).grd = s.grd := rfl
@[simp] theorem State.setSrc_ldg (s : State) (n : Nat) (v : Src) : (s.setSrc n v).ldg = s.ldg := rfl
@[simp] theorem State.setSrc_gptp (s : State) (n : Nat) (v : Src) : (s.setSrc n v).gptp = s.gptp := rfl
@[simp] theorem State.setSrc_agg (s : State) (n : Nat) (v : Src) : (s.setSrc n v).agg = s.agg := rfl
@[simp] theorem State.setSrc_dsp (s : State) (n : Nat) (v : Src) : (s.setSrc n v).dsp = s.dsp := rfl
@[simp] theorem State.setSrc_dspMem (s : State) (n : Nat) (v : Src) : (s.setSrc n v).dspMem = s.dspMem := rfl
@[simp] theorem State.setSrc_mbx (s : State) (n : Nat) (v : Src) : (s.setSrc n v).mbx = s.mbx := rfl
@[simp] theorem State.setSrc_saf (s : State) (n : Nat) (v : Src) : (s.setSrc n v).saf = s.saf := rfl
@[simp] theorem State.setSrc_pxe (s : State) (n : Nat) (v : Src) : (s.setSrc n v).pxe = s.pxe := rfl
@[simp] theorem State.setSrc_hif (s : State) (n : Nat) (v : Src) : (s.setSrc n v).hif = s.hif := rfl
@[simp] theorem State.setSrc_net (s : State) (n : Nat) (v : Src) : (s.setSrc n v).net = s.net := rfl
@[simp] theorem State.setSrc_sec (s : State) (n : Nat) (v : Src) : (s.setSrc n v).sec = s.sec := rfl
@[simp] theorem State.setSrc_tsn (s : State) (n : Nat) (v : Src) : (s.setSrc n v).tsn = s.tsn := rfl
@[simp] theorem State.setSrc_memSt (s : State) (n : Nat) (v : Src) : (s.setSrc n v).memSt = s.memSt := rfl
@[simp] theorem State.setSrc_drm (s : State) (n : Nat) (v : Src) : (s.setSrc n v).drm = s.drm := rfl
@[simp] theorem State.setSrc_val (s : State) (n : Nat) (v : Src) : (s.setSrc n v).val = s.val := rfl
@[simp] theorem State.setSrc_ins (s : State) (n : Nat) (v : Src) : (s.setSrc n v).ins = s.ins := rfl
@[simp] theorem State.setSrc_aon (s : State) (n : Nat) (v : Src) : (s.setSrc n v).aon = s.aon := rfl
@[simp] theorem State.setSrc_boot (s : State) (n : Nat) (v : Src) : (s.setSrc n v).boot = s.boot := rfl
@[simp] theorem State.setSrc_reply (s : State) (n : Nat) (v : Src) : (s.setSrc n v).reply = s.reply := rfl
@[simp] theorem State.setSrc_pending (s : State) (n : Nat) (v : Src) : (s.setSrc n v).pending = s.pending := rfl

@[simp] theorem State.get_setSrc (s : State) (n : Nat) (v : Src) (y : Fld) : (s.setSrc n v).get y = s.get y := rfl
@[simp] theorem State.src_setSrc_self (s : State) (n : Nat) (v : Src) : (s.setSrc n v).src n = v := Tbl.get_set_self _ _ _ _
@[simp] theorem State.src_setSrc_ne (s : State) (n : Nat) (v : Src) {k : Nat} (h : n ≠ k) : (s.setSrc n v).src k = s.src k := Tbl.get_set_ne _ _ h _
@[simp] theorem State.src_put (s : State) (x : Fld) (v k : Nat) : (s.put x v).src k = s.src k := rfl

@[simp] theorem State.setCmp_regs (s : State) (n : Nat) (v : Cmp) : (s.setCmp n v).regs = s.regs := rfl
@[simp] theorem State.setCmp_mem (s : State) (n : Nat) (v : Cmp) : (s.setCmp n v).mem = s.mem := rfl
@[simp] theorem State.setCmp_T (s : State) (n : Nat) (v : Cmp) : (s.setCmp n v).T = s.T := rfl
@[simp] theorem State.setCmp_shadows (s : State) (n : Nat) (v : Cmp) : (s.setCmp n v).shadows = s.shadows := rfl
@[simp] theorem State.setCmp_resp (s : State) (n : Nat) (v : Cmp) : (s.setCmp n v).resp = s.resp := rfl
@[simp] theorem State.setCmp_out (s : State) (n : Nat) (v : Cmp) : (s.setCmp n v).out = s.out := rfl
@[simp] theorem State.setCmp_free (s : State) (n : Nat) (v : Cmp) : (s.setCmp n v).free = s.free := rfl
@[simp] theorem State.setCmp_viol (s : State) (n : Nat) (v : Cmp) : (s.setCmp n v).viol = s.viol := rfl
@[simp] theorem State.setCmp_refused (s : State) (n : Nat) (v : Cmp) : (s.setCmp n v).refused = s.refused := rfl
@[simp] theorem State.setCmp_adc (s : State) (n : Nat) (v : Cmp) : (s.setCmp n v).adc = s.adc := rfl
@[simp] theorem State.setCmp_pwm (s : State) (n : Nat) (v : Cmp) : (s.setCmp n v).pwm = s.pwm := rfl
@[simp] theorem State.setCmp_ivs (s : State) (n : Nat) (v : Cmp) : (s.setCmp n v).ivs = s.ivs := rfl
@[simp] theorem State.setCmp_grd (s : State) (n : Nat) (v : Cmp) : (s.setCmp n v).grd = s.grd := rfl
@[simp] theorem State.setCmp_ldg (s : State) (n : Nat) (v : Cmp) : (s.setCmp n v).ldg = s.ldg := rfl
@[simp] theorem State.setCmp_gptp (s : State) (n : Nat) (v : Cmp) : (s.setCmp n v).gptp = s.gptp := rfl
@[simp] theorem State.setCmp_agg (s : State) (n : Nat) (v : Cmp) : (s.setCmp n v).agg = s.agg := rfl
@[simp] theorem State.setCmp_dsp (s : State) (n : Nat) (v : Cmp) : (s.setCmp n v).dsp = s.dsp := rfl
@[simp] theorem State.setCmp_dspMem (s : State) (n : Nat) (v : Cmp) : (s.setCmp n v).dspMem = s.dspMem := rfl
@[simp] theorem State.setCmp_mbx (s : State) (n : Nat) (v : Cmp) : (s.setCmp n v).mbx = s.mbx := rfl
@[simp] theorem State.setCmp_saf (s : State) (n : Nat) (v : Cmp) : (s.setCmp n v).saf = s.saf := rfl
@[simp] theorem State.setCmp_pxe (s : State) (n : Nat) (v : Cmp) : (s.setCmp n v).pxe = s.pxe := rfl
@[simp] theorem State.setCmp_hif (s : State) (n : Nat) (v : Cmp) : (s.setCmp n v).hif = s.hif := rfl
@[simp] theorem State.setCmp_net (s : State) (n : Nat) (v : Cmp) : (s.setCmp n v).net = s.net := rfl
@[simp] theorem State.setCmp_sec (s : State) (n : Nat) (v : Cmp) : (s.setCmp n v).sec = s.sec := rfl
@[simp] theorem State.setCmp_tsn (s : State) (n : Nat) (v : Cmp) : (s.setCmp n v).tsn = s.tsn := rfl
@[simp] theorem State.setCmp_memSt (s : State) (n : Nat) (v : Cmp) : (s.setCmp n v).memSt = s.memSt := rfl
@[simp] theorem State.setCmp_drm (s : State) (n : Nat) (v : Cmp) : (s.setCmp n v).drm = s.drm := rfl
@[simp] theorem State.setCmp_val (s : State) (n : Nat) (v : Cmp) : (s.setCmp n v).val = s.val := rfl
@[simp] theorem State.setCmp_ins (s : State) (n : Nat) (v : Cmp) : (s.setCmp n v).ins = s.ins := rfl
@[simp] theorem State.setCmp_aon (s : State) (n : Nat) (v : Cmp) : (s.setCmp n v).aon = s.aon := rfl
@[simp] theorem State.setCmp_boot (s : State) (n : Nat) (v : Cmp) : (s.setCmp n v).boot = s.boot := rfl
@[simp] theorem State.setCmp_reply (s : State) (n : Nat) (v : Cmp) : (s.setCmp n v).reply = s.reply := rfl
@[simp] theorem State.setCmp_pending (s : State) (n : Nat) (v : Cmp) : (s.setCmp n v).pending = s.pending := rfl

@[simp] theorem State.get_setCmp (s : State) (n : Nat) (v : Cmp) (y : Fld) : (s.setCmp n v).get y = s.get y := rfl
@[simp] theorem State.cmp_setCmp_self (s : State) (n : Nat) (v : Cmp) : (s.setCmp n v).cmp n = v := Tbl.get_set_self _ _ _ _
@[simp] theorem State.cmp_setCmp_ne (s : State) (n : Nat) (v : Cmp) {k : Nat} (h : n ≠ k) : (s.setCmp n v).cmp k = s.cmp k := Tbl.get_set_ne _ _ h _
@[simp] theorem State.cmp_put (s : State) (x : Fld) (v k : Nat) : (s.put x v).cmp k = s.cmp k := rfl

@[simp] theorem State.setAdcU_regs (s : State) (u : Nat) (v : AdcUnit) : (s.setAdcU u v).regs = s.regs := rfl
@[simp] theorem State.setAdcU_mem (s : State) (u : Nat) (v : AdcUnit) : (s.setAdcU u v).mem = s.mem := rfl
@[simp] theorem State.setAdcU_T (s : State) (u : Nat) (v : AdcUnit) : (s.setAdcU u v).T = s.T := rfl
@[simp] theorem State.setAdcU_shadows (s : State) (u : Nat) (v : AdcUnit) : (s.setAdcU u v).shadows = s.shadows := rfl
@[simp] theorem State.setAdcU_resp (s : State) (u : Nat) (v : AdcUnit) : (s.setAdcU u v).resp = s.resp := rfl
@[simp] theorem State.setAdcU_out (s : State) (u : Nat) (v : AdcUnit) : (s.setAdcU u v).out = s.out := rfl
@[simp] theorem State.setAdcU_free (s : State) (u : Nat) (v : AdcUnit) : (s.setAdcU u v).free = s.free := rfl
@[simp] theorem State.setAdcU_viol (s : State) (u : Nat) (v : AdcUnit) : (s.setAdcU u v).viol = s.viol := rfl
@[simp] theorem State.setAdcU_refused (s : State) (u : Nat) (v : AdcUnit) : (s.setAdcU u v).refused = s.refused := rfl
@[simp] theorem State.setAdcU_tsp (s : State) (u : Nat) (v : AdcUnit) : (s.setAdcU u v).tsp = s.tsp := rfl
@[simp] theorem State.setAdcU_pwm (s : State) (u : Nat) (v : AdcUnit) : (s.setAdcU u v).pwm = s.pwm := rfl
@[simp] theorem State.setAdcU_ivs (s : State) (u : Nat) (v : AdcUnit) : (s.setAdcU u v).ivs = s.ivs := rfl
@[simp] theorem State.setAdcU_grd (s : State) (u : Nat) (v : AdcUnit) : (s.setAdcU u v).grd = s.grd := rfl
@[simp] theorem State.setAdcU_ldg (s : State) (u : Nat) (v : AdcUnit) : (s.setAdcU u v).ldg = s.ldg := rfl
@[simp] theorem State.setAdcU_gptp (s : State) (u : Nat) (v : AdcUnit) : (s.setAdcU u v).gptp = s.gptp := rfl
@[simp] theorem State.setAdcU_agg (s : State) (u : Nat) (v : AdcUnit) : (s.setAdcU u v).agg = s.agg := rfl
@[simp] theorem State.setAdcU_dsp (s : State) (u : Nat) (v : AdcUnit) : (s.setAdcU u v).dsp = s.dsp := rfl
@[simp] theorem State.setAdcU_dspMem (s : State) (u : Nat) (v : AdcUnit) : (s.setAdcU u v).dspMem = s.dspMem := rfl
@[simp] theorem State.setAdcU_mbx (s : State) (u : Nat) (v : AdcUnit) : (s.setAdcU u v).mbx = s.mbx := rfl
@[simp] theorem State.setAdcU_saf (s : State) (u : Nat) (v : AdcUnit) : (s.setAdcU u v).saf = s.saf := rfl
@[simp] theorem State.setAdcU_pxe (s : State) (u : Nat) (v : AdcUnit) : (s.setAdcU u v).pxe = s.pxe := rfl
@[simp] theorem State.setAdcU_hif (s : State) (u : Nat) (v : AdcUnit) : (s.setAdcU u v).hif = s.hif := rfl
@[simp] theorem State.setAdcU_net (s : State) (u : Nat) (v : AdcUnit) : (s.setAdcU u v).net = s.net := rfl
@[simp] theorem State.setAdcU_sec (s : State) (u : Nat) (v : AdcUnit) : (s.setAdcU u v).sec = s.sec := rfl
@[simp] theorem State.setAdcU_tsn (s : State) (u : Nat) (v : AdcUnit) : (s.setAdcU u v).tsn = s.tsn := rfl
@[simp] theorem State.setAdcU_memSt (s : State) (u : Nat) (v : AdcUnit) : (s.setAdcU u v).memSt = s.memSt := rfl
@[simp] theorem State.setAdcU_drm (s : State) (u : Nat) (v : AdcUnit) : (s.setAdcU u v).drm = s.drm := rfl
@[simp] theorem State.setAdcU_val (s : State) (u : Nat) (v : AdcUnit) : (s.setAdcU u v).val = s.val := rfl
@[simp] theorem State.setAdcU_ins (s : State) (u : Nat) (v : AdcUnit) : (s.setAdcU u v).ins = s.ins := rfl
@[simp] theorem State.setAdcU_aon (s : State) (u : Nat) (v : AdcUnit) : (s.setAdcU u v).aon = s.aon := rfl
@[simp] theorem State.setAdcU_boot (s : State) (u : Nat) (v : AdcUnit) : (s.setAdcU u v).boot = s.boot := rfl
@[simp] theorem State.setAdcU_reply (s : State) (u : Nat) (v : AdcUnit) : (s.setAdcU u v).reply = s.reply := rfl
@[simp] theorem State.setAdcU_pending (s : State) (u : Nat) (v : AdcUnit) : (s.setAdcU u v).pending = s.pending := rfl

@[simp] theorem State.get_setAdcU (s : State) (u : Nat) (v : AdcUnit) (y : Fld) : (s.setAdcU u v).get y = s.get y := rfl
@[simp] theorem State.adcU_setAdcU_self (s : State) (u : Nat) (v : AdcUnit) : (s.setAdcU u v).adcU u = v := Tbl.get_set_self _ _ _ _
@[simp] theorem State.adcU_setAdcU_ne (s : State) (u : Nat) (v : AdcUnit) {k : Nat} (h : u ≠ k) : (s.setAdcU u v).adcU k = s.adcU k := Tbl.get_set_ne _ _ h _
@[simp] theorem State.adcU_put (s : State) (x : Fld) (v k : Nat) : (s.put x v).adcU k = s.adcU k := rfl

@[simp] theorem State.setChan_regs (s : State) (n : Nat) (v : Chan) : (s.setChan n v).regs = s.regs := rfl
@[simp] theorem State.setChan_mem (s : State) (n : Nat) (v : Chan) : (s.setChan n v).mem = s.mem := rfl
@[simp] theorem State.setChan_T (s : State) (n : Nat) (v : Chan) : (s.setChan n v).T = s.T := rfl
@[simp] theorem State.setChan_shadows (s : State) (n : Nat) (v : Chan) : (s.setChan n v).shadows = s.shadows := rfl
@[simp] theorem State.setChan_resp (s : State) (n : Nat) (v : Chan) : (s.setChan n v).resp = s.resp := rfl
@[simp] theorem State.setChan_out (s : State) (n : Nat) (v : Chan) : (s.setChan n v).out = s.out := rfl
@[simp] theorem State.setChan_free (s : State) (n : Nat) (v : Chan) : (s.setChan n v).free = s.free := rfl
@[simp] theorem State.setChan_viol (s : State) (n : Nat) (v : Chan) : (s.setChan n v).viol = s.viol := rfl
@[simp] theorem State.setChan_refused (s : State) (n : Nat) (v : Chan) : (s.setChan n v).refused = s.refused := rfl
@[simp] theorem State.setChan_tsp (s : State) (n : Nat) (v : Chan) : (s.setChan n v).tsp = s.tsp := rfl
@[simp] theorem State.setChan_adc (s : State) (n : Nat) (v : Chan) : (s.setChan n v).adc = s.adc := rfl
@[simp] theorem State.setChan_ivs (s : State) (n : Nat) (v : Chan) : (s.setChan n v).ivs = s.ivs := rfl
@[simp] theorem State.setChan_grd (s : State) (n : Nat) (v : Chan) : (s.setChan n v).grd = s.grd := rfl
@[simp] theorem State.setChan_ldg (s : State) (n : Nat) (v : Chan) : (s.setChan n v).ldg = s.ldg := rfl
@[simp] theorem State.setChan_gptp (s : State) (n : Nat) (v : Chan) : (s.setChan n v).gptp = s.gptp := rfl
@[simp] theorem State.setChan_agg (s : State) (n : Nat) (v : Chan) : (s.setChan n v).agg = s.agg := rfl
@[simp] theorem State.setChan_dsp (s : State) (n : Nat) (v : Chan) : (s.setChan n v).dsp = s.dsp := rfl
@[simp] theorem State.setChan_dspMem (s : State) (n : Nat) (v : Chan) : (s.setChan n v).dspMem = s.dspMem := rfl
@[simp] theorem State.setChan_mbx (s : State) (n : Nat) (v : Chan) : (s.setChan n v).mbx = s.mbx := rfl
@[simp] theorem State.setChan_saf (s : State) (n : Nat) (v : Chan) : (s.setChan n v).saf = s.saf := rfl
@[simp] theorem State.setChan_pxe (s : State) (n : Nat) (v : Chan) : (s.setChan n v).pxe = s.pxe := rfl
@[simp] theorem State.setChan_hif (s : State) (n : Nat) (v : Chan) : (s.setChan n v).hif = s.hif := rfl
@[simp] theorem State.setChan_net (s : State) (n : Nat) (v : Chan) : (s.setChan n v).net = s.net := rfl
@[simp] theorem State.setChan_sec (s : State) (n : Nat) (v : Chan) : (s.setChan n v).sec = s.sec := rfl
@[simp] theorem State.setChan_tsn (s : State) (n : Nat) (v : Chan) : (s.setChan n v).tsn = s.tsn := rfl
@[simp] theorem State.setChan_memSt (s : State) (n : Nat) (v : Chan) : (s.setChan n v).memSt = s.memSt := rfl
@[simp] theorem State.setChan_drm (s : State) (n : Nat) (v : Chan) : (s.setChan n v).drm = s.drm := rfl
@[simp] theorem State.setChan_val (s : State) (n : Nat) (v : Chan) : (s.setChan n v).val = s.val := rfl
@[simp] theorem State.setChan_ins (s : State) (n : Nat) (v : Chan) : (s.setChan n v).ins = s.ins := rfl
@[simp] theorem State.setChan_aon (s : State) (n : Nat) (v : Chan) : (s.setChan n v).aon = s.aon := rfl
@[simp] theorem State.setChan_boot (s : State) (n : Nat) (v : Chan) : (s.setChan n v).boot = s.boot := rfl
@[simp] theorem State.setChan_reply (s : State) (n : Nat) (v : Chan) : (s.setChan n v).reply = s.reply := rfl
@[simp] theorem State.setChan_pending (s : State) (n : Nat) (v : Chan) : (s.setChan n v).pending = s.pending := rfl

@[simp] theorem State.get_setChan (s : State) (n : Nat) (v : Chan) (y : Fld) : (s.setChan n v).get y = s.get y := rfl
@[simp] theorem State.chan_setChan_self (s : State) (n : Nat) (v : Chan) : (s.setChan n v).chan n = v := Tbl.get_set_self _ _ _ _
@[simp] theorem State.chan_setChan_ne (s : State) (n : Nat) (v : Chan) {k : Nat} (h : n ≠ k) : (s.setChan n v).chan k = s.chan k := Tbl.get_set_ne _ _ h _
@[simp] theorem State.chan_put (s : State) (x : Fld) (v k : Nat) : (s.put x v).chan k = s.chan k := rfl

@[simp] theorem State.setCd_regs (s : State) (n : Nat) (v : Dsp) : (s.setCd n v).regs = s.regs := rfl
@[simp] theorem State.setCd_mem (s : State) (n : Nat) (v : Dsp) : (s.setCd n v).mem = s.mem := rfl
@[simp] theorem State.setCd_T (s : State) (n : Nat) (v : Dsp) : (s.setCd n v).T = s.T := rfl
@[simp] theorem State.setCd_shadows (s : State) (n : Nat) (v : Dsp) : (s.setCd n v).shadows = s.shadows := rfl
@[simp] theorem State.setCd_resp (s : State) (n : Nat) (v : Dsp) : (s.setCd n v).resp = s.resp := rfl
@[simp] theorem State.setCd_out (s : State) (n : Nat) (v : Dsp) : (s.setCd n v).out = s.out := rfl
@[simp] theorem State.setCd_free (s : State) (n : Nat) (v : Dsp) : (s.setCd n v).free = s.free := rfl
@[simp] theorem State.setCd_viol (s : State) (n : Nat) (v : Dsp) : (s.setCd n v).viol = s.viol := rfl
@[simp] theorem State.setCd_refused (s : State) (n : Nat) (v : Dsp) : (s.setCd n v).refused = s.refused := rfl
@[simp] theorem State.setCd_tsp (s : State) (n : Nat) (v : Dsp) : (s.setCd n v).tsp = s.tsp := rfl
@[simp] theorem State.setCd_adc (s : State) (n : Nat) (v : Dsp) : (s.setCd n v).adc = s.adc := rfl
@[simp] theorem State.setCd_pwm (s : State) (n : Nat) (v : Dsp) : (s.setCd n v).pwm = s.pwm := rfl
@[simp] theorem State.setCd_ivs (s : State) (n : Nat) (v : Dsp) : (s.setCd n v).ivs = s.ivs := rfl
@[simp] theorem State.setCd_grd (s : State) (n : Nat) (v : Dsp) : (s.setCd n v).grd = s.grd := rfl
@[simp] theorem State.setCd_ldg (s : State) (n : Nat) (v : Dsp) : (s.setCd n v).ldg = s.ldg := rfl
@[simp] theorem State.setCd_gptp (s : State) (n : Nat) (v : Dsp) : (s.setCd n v).gptp = s.gptp := rfl
@[simp] theorem State.setCd_agg (s : State) (n : Nat) (v : Dsp) : (s.setCd n v).agg = s.agg := rfl
@[simp] theorem State.setCd_dspMem (s : State) (n : Nat) (v : Dsp) : (s.setCd n v).dspMem = s.dspMem := rfl
@[simp] theorem State.setCd_mbx (s : State) (n : Nat) (v : Dsp) : (s.setCd n v).mbx = s.mbx := rfl
@[simp] theorem State.setCd_saf (s : State) (n : Nat) (v : Dsp) : (s.setCd n v).saf = s.saf := rfl
@[simp] theorem State.setCd_pxe (s : State) (n : Nat) (v : Dsp) : (s.setCd n v).pxe = s.pxe := rfl
@[simp] theorem State.setCd_hif (s : State) (n : Nat) (v : Dsp) : (s.setCd n v).hif = s.hif := rfl
@[simp] theorem State.setCd_net (s : State) (n : Nat) (v : Dsp) : (s.setCd n v).net = s.net := rfl
@[simp] theorem State.setCd_sec (s : State) (n : Nat) (v : Dsp) : (s.setCd n v).sec = s.sec := rfl
@[simp] theorem State.setCd_tsn (s : State) (n : Nat) (v : Dsp) : (s.setCd n v).tsn = s.tsn := rfl
@[simp] theorem State.setCd_memSt (s : State) (n : Nat) (v : Dsp) : (s.setCd n v).memSt = s.memSt := rfl
@[simp] theorem State.setCd_drm (s : State) (n : Nat) (v : Dsp) : (s.setCd n v).drm = s.drm := rfl
@[simp] theorem State.setCd_val (s : State) (n : Nat) (v : Dsp) : (s.setCd n v).val = s.val := rfl
@[simp] theorem State.setCd_ins (s : State) (n : Nat) (v : Dsp) : (s.setCd n v).ins = s.ins := rfl
@[simp] theorem State.setCd_aon (s : State) (n : Nat) (v : Dsp) : (s.setCd n v).aon = s.aon := rfl
@[simp] theorem State.setCd_boot (s : State) (n : Nat) (v : Dsp) : (s.setCd n v).boot = s.boot := rfl
@[simp] theorem State.setCd_reply (s : State) (n : Nat) (v : Dsp) : (s.setCd n v).reply = s.reply := rfl
@[simp] theorem State.setCd_pending (s : State) (n : Nat) (v : Dsp) : (s.setCd n v).pending = s.pending := rfl

@[simp] theorem State.get_setCd (s : State) (n : Nat) (v : Dsp) (y : Fld) : (s.setCd n v).get y = s.get y := rfl
@[simp] theorem State.cd_setCd_self (s : State) (n : Nat) (v : Dsp) : (s.setCd n v).cd n = v := Tbl.get_set_self _ _ _ _
@[simp] theorem State.cd_setCd_ne (s : State) (n : Nat) (v : Dsp) {k : Nat} (h : n ≠ k) : (s.setCd n v).cd k = s.cd k := Tbl.get_set_ne _ _ h _
@[simp] theorem State.cd_put (s : State) (x : Fld) (v k : Nat) : (s.put x v).cd k = s.cd k := rfl

@[simp] theorem State.setCdMem_regs (s : State) (n : Nat) (v : DspMem) : (s.setCdMem n v).regs = s.regs := rfl
@[simp] theorem State.setCdMem_mem (s : State) (n : Nat) (v : DspMem) : (s.setCdMem n v).mem = s.mem := rfl
@[simp] theorem State.setCdMem_T (s : State) (n : Nat) (v : DspMem) : (s.setCdMem n v).T = s.T := rfl
@[simp] theorem State.setCdMem_shadows (s : State) (n : Nat) (v : DspMem) : (s.setCdMem n v).shadows = s.shadows := rfl
@[simp] theorem State.setCdMem_resp (s : State) (n : Nat) (v : DspMem) : (s.setCdMem n v).resp = s.resp := rfl
@[simp] theorem State.setCdMem_out (s : State) (n : Nat) (v : DspMem) : (s.setCdMem n v).out = s.out := rfl
@[simp] theorem State.setCdMem_free (s : State) (n : Nat) (v : DspMem) : (s.setCdMem n v).free = s.free := rfl
@[simp] theorem State.setCdMem_viol (s : State) (n : Nat) (v : DspMem) : (s.setCdMem n v).viol = s.viol := rfl
@[simp] theorem State.setCdMem_refused (s : State) (n : Nat) (v : DspMem) : (s.setCdMem n v).refused = s.refused := rfl
@[simp] theorem State.setCdMem_tsp (s : State) (n : Nat) (v : DspMem) : (s.setCdMem n v).tsp = s.tsp := rfl
@[simp] theorem State.setCdMem_adc (s : State) (n : Nat) (v : DspMem) : (s.setCdMem n v).adc = s.adc := rfl
@[simp] theorem State.setCdMem_pwm (s : State) (n : Nat) (v : DspMem) : (s.setCdMem n v).pwm = s.pwm := rfl
@[simp] theorem State.setCdMem_ivs (s : State) (n : Nat) (v : DspMem) : (s.setCdMem n v).ivs = s.ivs := rfl
@[simp] theorem State.setCdMem_grd (s : State) (n : Nat) (v : DspMem) : (s.setCdMem n v).grd = s.grd := rfl
@[simp] theorem State.setCdMem_ldg (s : State) (n : Nat) (v : DspMem) : (s.setCdMem n v).ldg = s.ldg := rfl
@[simp] theorem State.setCdMem_gptp (s : State) (n : Nat) (v : DspMem) : (s.setCdMem n v).gptp = s.gptp := rfl
@[simp] theorem State.setCdMem_agg (s : State) (n : Nat) (v : DspMem) : (s.setCdMem n v).agg = s.agg := rfl
@[simp] theorem State.setCdMem_dsp (s : State) (n : Nat) (v : DspMem) : (s.setCdMem n v).dsp = s.dsp := rfl
@[simp] theorem State.setCdMem_mbx (s : State) (n : Nat) (v : DspMem) : (s.setCdMem n v).mbx = s.mbx := rfl
@[simp] theorem State.setCdMem_saf (s : State) (n : Nat) (v : DspMem) : (s.setCdMem n v).saf = s.saf := rfl
@[simp] theorem State.setCdMem_pxe (s : State) (n : Nat) (v : DspMem) : (s.setCdMem n v).pxe = s.pxe := rfl
@[simp] theorem State.setCdMem_hif (s : State) (n : Nat) (v : DspMem) : (s.setCdMem n v).hif = s.hif := rfl
@[simp] theorem State.setCdMem_net (s : State) (n : Nat) (v : DspMem) : (s.setCdMem n v).net = s.net := rfl
@[simp] theorem State.setCdMem_sec (s : State) (n : Nat) (v : DspMem) : (s.setCdMem n v).sec = s.sec := rfl
@[simp] theorem State.setCdMem_tsn (s : State) (n : Nat) (v : DspMem) : (s.setCdMem n v).tsn = s.tsn := rfl
@[simp] theorem State.setCdMem_memSt (s : State) (n : Nat) (v : DspMem) : (s.setCdMem n v).memSt = s.memSt := rfl
@[simp] theorem State.setCdMem_drm (s : State) (n : Nat) (v : DspMem) : (s.setCdMem n v).drm = s.drm := rfl
@[simp] theorem State.setCdMem_val (s : State) (n : Nat) (v : DspMem) : (s.setCdMem n v).val = s.val := rfl
@[simp] theorem State.setCdMem_ins (s : State) (n : Nat) (v : DspMem) : (s.setCdMem n v).ins = s.ins := rfl
@[simp] theorem State.setCdMem_aon (s : State) (n : Nat) (v : DspMem) : (s.setCdMem n v).aon = s.aon := rfl
@[simp] theorem State.setCdMem_boot (s : State) (n : Nat) (v : DspMem) : (s.setCdMem n v).boot = s.boot := rfl
@[simp] theorem State.setCdMem_reply (s : State) (n : Nat) (v : DspMem) : (s.setCdMem n v).reply = s.reply := rfl
@[simp] theorem State.setCdMem_pending (s : State) (n : Nat) (v : DspMem) : (s.setCdMem n v).pending = s.pending := rfl

@[simp] theorem State.get_setCdMem (s : State) (n : Nat) (v : DspMem) (y : Fld) : (s.setCdMem n v).get y = s.get y := rfl
@[simp] theorem State.cdMem_setCdMem_self (s : State) (n : Nat) (v : DspMem) : (s.setCdMem n v).cdMem n = v := Tbl.get_set_self _ _ _ _
@[simp] theorem State.cdMem_setCdMem_ne (s : State) (n : Nat) (v : DspMem) {k : Nat} (h : n ≠ k) : (s.setCdMem n v).cdMem k = s.cdMem k := Tbl.get_set_ne _ _ h _
@[simp] theorem State.cdMem_put (s : State) (x : Fld) (v k : Nat) : (s.put x v).cdMem k = s.cdMem k := rfl

@[simp] theorem State.setPt_regs (s : State) (n : Nat) (v : Thread) : (s.setPt n v).regs = s.regs := rfl
@[simp] theorem State.setPt_mem (s : State) (n : Nat) (v : Thread) : (s.setPt n v).mem = s.mem := rfl
@[simp] theorem State.setPt_T (s : State) (n : Nat) (v : Thread) : (s.setPt n v).T = s.T := rfl
@[simp] theorem State.setPt_shadows (s : State) (n : Nat) (v : Thread) : (s.setPt n v).shadows = s.shadows := rfl
@[simp] theorem State.setPt_resp (s : State) (n : Nat) (v : Thread) : (s.setPt n v).resp = s.resp := rfl
@[simp] theorem State.setPt_out (s : State) (n : Nat) (v : Thread) : (s.setPt n v).out = s.out := rfl
@[simp] theorem State.setPt_free (s : State) (n : Nat) (v : Thread) : (s.setPt n v).free = s.free := rfl
@[simp] theorem State.setPt_viol (s : State) (n : Nat) (v : Thread) : (s.setPt n v).viol = s.viol := rfl
@[simp] theorem State.setPt_refused (s : State) (n : Nat) (v : Thread) : (s.setPt n v).refused = s.refused := rfl
@[simp] theorem State.setPt_tsp (s : State) (n : Nat) (v : Thread) : (s.setPt n v).tsp = s.tsp := rfl
@[simp] theorem State.setPt_adc (s : State) (n : Nat) (v : Thread) : (s.setPt n v).adc = s.adc := rfl
@[simp] theorem State.setPt_pwm (s : State) (n : Nat) (v : Thread) : (s.setPt n v).pwm = s.pwm := rfl
@[simp] theorem State.setPt_ivs (s : State) (n : Nat) (v : Thread) : (s.setPt n v).ivs = s.ivs := rfl
@[simp] theorem State.setPt_grd (s : State) (n : Nat) (v : Thread) : (s.setPt n v).grd = s.grd := rfl
@[simp] theorem State.setPt_ldg (s : State) (n : Nat) (v : Thread) : (s.setPt n v).ldg = s.ldg := rfl
@[simp] theorem State.setPt_gptp (s : State) (n : Nat) (v : Thread) : (s.setPt n v).gptp = s.gptp := rfl
@[simp] theorem State.setPt_agg (s : State) (n : Nat) (v : Thread) : (s.setPt n v).agg = s.agg := rfl
@[simp] theorem State.setPt_dsp (s : State) (n : Nat) (v : Thread) : (s.setPt n v).dsp = s.dsp := rfl
@[simp] theorem State.setPt_dspMem (s : State) (n : Nat) (v : Thread) : (s.setPt n v).dspMem = s.dspMem := rfl
@[simp] theorem State.setPt_mbx (s : State) (n : Nat) (v : Thread) : (s.setPt n v).mbx = s.mbx := rfl
@[simp] theorem State.setPt_saf (s : State) (n : Nat) (v : Thread) : (s.setPt n v).saf = s.saf := rfl
@[simp] theorem State.setPt_hif (s : State) (n : Nat) (v : Thread) : (s.setPt n v).hif = s.hif := rfl
@[simp] theorem State.setPt_net (s : State) (n : Nat) (v : Thread) : (s.setPt n v).net = s.net := rfl
@[simp] theorem State.setPt_sec (s : State) (n : Nat) (v : Thread) : (s.setPt n v).sec = s.sec := rfl
@[simp] theorem State.setPt_tsn (s : State) (n : Nat) (v : Thread) : (s.setPt n v).tsn = s.tsn := rfl
@[simp] theorem State.setPt_memSt (s : State) (n : Nat) (v : Thread) : (s.setPt n v).memSt = s.memSt := rfl
@[simp] theorem State.setPt_drm (s : State) (n : Nat) (v : Thread) : (s.setPt n v).drm = s.drm := rfl
@[simp] theorem State.setPt_val (s : State) (n : Nat) (v : Thread) : (s.setPt n v).val = s.val := rfl
@[simp] theorem State.setPt_ins (s : State) (n : Nat) (v : Thread) : (s.setPt n v).ins = s.ins := rfl
@[simp] theorem State.setPt_aon (s : State) (n : Nat) (v : Thread) : (s.setPt n v).aon = s.aon := rfl
@[simp] theorem State.setPt_boot (s : State) (n : Nat) (v : Thread) : (s.setPt n v).boot = s.boot := rfl
@[simp] theorem State.setPt_reply (s : State) (n : Nat) (v : Thread) : (s.setPt n v).reply = s.reply := rfl
@[simp] theorem State.setPt_pending (s : State) (n : Nat) (v : Thread) : (s.setPt n v).pending = s.pending := rfl

@[simp] theorem State.get_setPt (s : State) (n : Nat) (v : Thread) (y : Fld) : (s.setPt n v).get y = s.get y := rfl
@[simp] theorem State.pt_setPt_self (s : State) (n : Nat) (v : Thread) : (s.setPt n v).pt n = v := Tbl.get_set_self _ _ _ _
@[simp] theorem State.pt_setPt_ne (s : State) (n : Nat) (v : Thread) {k : Nat} (h : n ≠ k) : (s.setPt n v).pt k = s.pt k := Tbl.get_set_ne _ _ h _
@[simp] theorem State.pt_put (s : State) (x : Fld) (v k : Nat) : (s.put x v).pt k = s.pt k := rfl

@[simp] theorem State.setRing_regs (s : State) (r : Nat) (v : Ring) : (s.setRing r v).regs = s.regs := rfl
@[simp] theorem State.setRing_mem (s : State) (r : Nat) (v : Ring) : (s.setRing r v).mem = s.mem := rfl
@[simp] theorem State.setRing_T (s : State) (r : Nat) (v : Ring) : (s.setRing r v).T = s.T := rfl
@[simp] theorem State.setRing_shadows (s : State) (r : Nat) (v : Ring) : (s.setRing r v).shadows = s.shadows := rfl
@[simp] theorem State.setRing_resp (s : State) (r : Nat) (v : Ring) : (s.setRing r v).resp = s.resp := rfl
@[simp] theorem State.setRing_out (s : State) (r : Nat) (v : Ring) : (s.setRing r v).out = s.out := rfl
@[simp] theorem State.setRing_free (s : State) (r : Nat) (v : Ring) : (s.setRing r v).free = s.free := rfl
@[simp] theorem State.setRing_viol (s : State) (r : Nat) (v : Ring) : (s.setRing r v).viol = s.viol := rfl
@[simp] theorem State.setRing_refused (s : State) (r : Nat) (v : Ring) : (s.setRing r v).refused = s.refused := rfl
@[simp] theorem State.setRing_tsp (s : State) (r : Nat) (v : Ring) : (s.setRing r v).tsp = s.tsp := rfl
@[simp] theorem State.setRing_adc (s : State) (r : Nat) (v : Ring) : (s.setRing r v).adc = s.adc := rfl
@[simp] theorem State.setRing_pwm (s : State) (r : Nat) (v : Ring) : (s.setRing r v).pwm = s.pwm := rfl
@[simp] theorem State.setRing_ivs (s : State) (r : Nat) (v : Ring) : (s.setRing r v).ivs = s.ivs := rfl
@[simp] theorem State.setRing_grd (s : State) (r : Nat) (v : Ring) : (s.setRing r v).grd = s.grd := rfl
@[simp] theorem State.setRing_ldg (s : State) (r : Nat) (v : Ring) : (s.setRing r v).ldg = s.ldg := rfl
@[simp] theorem State.setRing_gptp (s : State) (r : Nat) (v : Ring) : (s.setRing r v).gptp = s.gptp := rfl
@[simp] theorem State.setRing_agg (s : State) (r : Nat) (v : Ring) : (s.setRing r v).agg = s.agg := rfl
@[simp] theorem State.setRing_dsp (s : State) (r : Nat) (v : Ring) : (s.setRing r v).dsp = s.dsp := rfl
@[simp] theorem State.setRing_dspMem (s : State) (r : Nat) (v : Ring) : (s.setRing r v).dspMem = s.dspMem := rfl
@[simp] theorem State.setRing_mbx (s : State) (r : Nat) (v : Ring) : (s.setRing r v).mbx = s.mbx := rfl
@[simp] theorem State.setRing_saf (s : State) (r : Nat) (v : Ring) : (s.setRing r v).saf = s.saf := rfl
@[simp] theorem State.setRing_pxe (s : State) (r : Nat) (v : Ring) : (s.setRing r v).pxe = s.pxe := rfl
@[simp] theorem State.setRing_net (s : State) (r : Nat) (v : Ring) : (s.setRing r v).net = s.net := rfl
@[simp] theorem State.setRing_sec (s : State) (r : Nat) (v : Ring) : (s.setRing r v).sec = s.sec := rfl
@[simp] theorem State.setRing_tsn (s : State) (r : Nat) (v : Ring) : (s.setRing r v).tsn = s.tsn := rfl
@[simp] theorem State.setRing_memSt (s : State) (r : Nat) (v : Ring) : (s.setRing r v).memSt = s.memSt := rfl
@[simp] theorem State.setRing_drm (s : State) (r : Nat) (v : Ring) : (s.setRing r v).drm = s.drm := rfl
@[simp] theorem State.setRing_val (s : State) (r : Nat) (v : Ring) : (s.setRing r v).val = s.val := rfl
@[simp] theorem State.setRing_ins (s : State) (r : Nat) (v : Ring) : (s.setRing r v).ins = s.ins := rfl
@[simp] theorem State.setRing_aon (s : State) (r : Nat) (v : Ring) : (s.setRing r v).aon = s.aon := rfl
@[simp] theorem State.setRing_boot (s : State) (r : Nat) (v : Ring) : (s.setRing r v).boot = s.boot := rfl
@[simp] theorem State.setRing_reply (s : State) (r : Nat) (v : Ring) : (s.setRing r v).reply = s.reply := rfl
@[simp] theorem State.setRing_pending (s : State) (r : Nat) (v : Ring) : (s.setRing r v).pending = s.pending := rfl

@[simp] theorem State.get_setRing (s : State) (r : Nat) (v : Ring) (y : Fld) : (s.setRing r v).get y = s.get y := rfl
@[simp] theorem State.ring_setRing_self (s : State) (r : Nat) (v : Ring) : (s.setRing r v).ring r = v := Tbl.get_set_self _ _ _ _
@[simp] theorem State.ring_setRing_ne (s : State) (r : Nat) (v : Ring) {k : Nat} (h : r ≠ k) : (s.setRing r v).ring k = s.ring k := Tbl.get_set_ne _ _ h _
@[simp] theorem State.ring_put (s : State) (x : Fld) (v k : Nat) : (s.put x v).ring k = s.ring k := rfl

@[simp] theorem State.setMsix_regs (s : State) (fn v : Nat) (x : Msix) : (s.setMsix fn v x).regs = s.regs := rfl
@[simp] theorem State.setMsix_mem (s : State) (fn v : Nat) (x : Msix) : (s.setMsix fn v x).mem = s.mem := rfl
@[simp] theorem State.setMsix_T (s : State) (fn v : Nat) (x : Msix) : (s.setMsix fn v x).T = s.T := rfl
@[simp] theorem State.setMsix_shadows (s : State) (fn v : Nat) (x : Msix) : (s.setMsix fn v x).shadows = s.shadows := rfl
@[simp] theorem State.setMsix_resp (s : State) (fn v : Nat) (x : Msix) : (s.setMsix fn v x).resp = s.resp := rfl
@[simp] theorem State.setMsix_out (s : State) (fn v : Nat) (x : Msix) : (s.setMsix fn v x).out = s.out := rfl
@[simp] theorem State.setMsix_free (s : State) (fn v : Nat) (x : Msix) : (s.setMsix fn v x).free = s.free := rfl
@[simp] theorem State.setMsix_viol (s : State) (fn v : Nat) (x : Msix) : (s.setMsix fn v x).viol = s.viol := rfl
@[simp] theorem State.setMsix_refused (s : State) (fn v : Nat) (x : Msix) : (s.setMsix fn v x).refused = s.refused := rfl
@[simp] theorem State.setMsix_tsp (s : State) (fn v : Nat) (x : Msix) : (s.setMsix fn v x).tsp = s.tsp := rfl
@[simp] theorem State.setMsix_adc (s : State) (fn v : Nat) (x : Msix) : (s.setMsix fn v x).adc = s.adc := rfl
@[simp] theorem State.setMsix_pwm (s : State) (fn v : Nat) (x : Msix) : (s.setMsix fn v x).pwm = s.pwm := rfl
@[simp] theorem State.setMsix_ivs (s : State) (fn v : Nat) (x : Msix) : (s.setMsix fn v x).ivs = s.ivs := rfl
@[simp] theorem State.setMsix_grd (s : State) (fn v : Nat) (x : Msix) : (s.setMsix fn v x).grd = s.grd := rfl
@[simp] theorem State.setMsix_ldg (s : State) (fn v : Nat) (x : Msix) : (s.setMsix fn v x).ldg = s.ldg := rfl
@[simp] theorem State.setMsix_gptp (s : State) (fn v : Nat) (x : Msix) : (s.setMsix fn v x).gptp = s.gptp := rfl
@[simp] theorem State.setMsix_agg (s : State) (fn v : Nat) (x : Msix) : (s.setMsix fn v x).agg = s.agg := rfl
@[simp] theorem State.setMsix_dsp (s : State) (fn v : Nat) (x : Msix) : (s.setMsix fn v x).dsp = s.dsp := rfl
@[simp] theorem State.setMsix_dspMem (s : State) (fn v : Nat) (x : Msix) : (s.setMsix fn v x).dspMem = s.dspMem := rfl
@[simp] theorem State.setMsix_mbx (s : State) (fn v : Nat) (x : Msix) : (s.setMsix fn v x).mbx = s.mbx := rfl
@[simp] theorem State.setMsix_saf (s : State) (fn v : Nat) (x : Msix) : (s.setMsix fn v x).saf = s.saf := rfl
@[simp] theorem State.setMsix_pxe (s : State) (fn v : Nat) (x : Msix) : (s.setMsix fn v x).pxe = s.pxe := rfl
@[simp] theorem State.setMsix_net (s : State) (fn v : Nat) (x : Msix) : (s.setMsix fn v x).net = s.net := rfl
@[simp] theorem State.setMsix_sec (s : State) (fn v : Nat) (x : Msix) : (s.setMsix fn v x).sec = s.sec := rfl
@[simp] theorem State.setMsix_tsn (s : State) (fn v : Nat) (x : Msix) : (s.setMsix fn v x).tsn = s.tsn := rfl
@[simp] theorem State.setMsix_memSt (s : State) (fn v : Nat) (x : Msix) : (s.setMsix fn v x).memSt = s.memSt := rfl
@[simp] theorem State.setMsix_drm (s : State) (fn v : Nat) (x : Msix) : (s.setMsix fn v x).drm = s.drm := rfl
@[simp] theorem State.setMsix_val (s : State) (fn v : Nat) (x : Msix) : (s.setMsix fn v x).val = s.val := rfl
@[simp] theorem State.setMsix_ins (s : State) (fn v : Nat) (x : Msix) : (s.setMsix fn v x).ins = s.ins := rfl
@[simp] theorem State.setMsix_aon (s : State) (fn v : Nat) (x : Msix) : (s.setMsix fn v x).aon = s.aon := rfl
@[simp] theorem State.setMsix_boot (s : State) (fn v : Nat) (x : Msix) : (s.setMsix fn v x).boot = s.boot := rfl
@[simp] theorem State.setMsix_reply (s : State) (fn v : Nat) (x : Msix) : (s.setMsix fn v x).reply = s.reply := rfl
@[simp] theorem State.setMsix_pending (s : State) (fn v : Nat) (x : Msix) : (s.setMsix fn v x).pending = s.pending := rfl

@[simp] theorem State.get_setMsix (s : State) (fn v : Nat) (x : Msix) (y : Fld) : (s.setMsix fn v x).get y = s.get y := rfl

end Sys2Proof.Machine
end

