-- ==== Sys2Proof/Laws/Frame.lean ====
section
/-! SUPPORT. The frame over the register file (KeepsFields): it composes, it grows with its list, and a store of fields is inside
the frame that lists them. What each shared store leaves in a field it writes. -/
namespace Sys2Proof.Machine
open Sys2Proof.Reg

theorem KeepsFields.refl (s : State) (l : List Fld) : KeepsFields s s l := fun _ _ => rfl

theorem KeepsFields.of_regs {s t : State} (h : t.regs = s.regs) (l : List Fld) : KeepsFields s t l := fun x _ => by
  simp only [State.get, h]

theorem KeepsFields.trans {s t u : State} {l : List Fld} (h : KeepsFields s t l) (k : KeepsFields t u l) : KeepsFields s u l :=
  fun x hx => (k x hx).trans (h x hx)

theorem KeepsFields.mono {s t : State} {l m : List Fld} (h : KeepsFields s t l) (hs : ∀ y ∈ l, y ∈ m) : KeepsFields s t m :=
  fun x hx => h x (fun y hy => hx y (hs y hy))

theorem KeepsFields.put {s t : State} {l : List Fld} (h : KeepsFields s t l) {x : Fld} (hx : x ∈ l) (v : Nat) :
    KeepsFields s (t.put x v) l := fun y hy => (State.get_put_ne t (hy x hx) v).trans (h y hy)

theorem KeepsFields.bump {s t : State} {l : List Fld} (h : KeepsFields s t l) {x : Fld} (hx : x ∈ l) : KeepsFields s (t.bump x) l :=
  h.put hx _

theorem KeepsFields.puts {s t : State} {l : List Fld} (h : KeepsFields s t l) {e : List (Fld × Nat)} (he : ∀ p ∈ e, p.1 ∈ l) :
    KeepsFields s (t.puts e) l := by
  unfold State.puts
  induction e generalizing t with
  | nil => exact h
  | cons p e ih => exact ih (h.put (he p (List.mem_cons_self ..)) p.2) (fun q hq => he q (List.mem_cons_of_mem _ hq))

theorem KeepsFields.when {s t : State} {l : List Fld} {c : Bool} {f : State → State} (h : KeepsFields s t l) (hf : KeepsFields s (f t) l) :
    KeepsFields s (t.when c f) l := by
  unfold State.when
  cases c
  · exact h
  · exact hf

theorem countedOne_bump (s : State) (x : Fld) : countedOne s (s.bump x) x := State.get_put_self s x _

/-- The value of a field of the frame's complement, read in a later state. -/
theorem KeepsFields.get {s t : State} {l : List Fld} (h : KeepsFields s t l) {x : Fld} (hx : ∀ y ∈ l, y.key ≠ x.key) : t.get x = s.get x := h x hx

end Sys2Proof.Machine
end

