-- ==== Sys2Proof/Laws/Keeps.lean ====
section
/-! SUPPORT. What every operation of the model keeps, whatever it does: the queue of commands as it is, the canonical forms of the
register file and of the memories, T below 2^64, the violation log within its 16 entries. One lemma per operation says so; the
lemmas compose. -/
namespace Sys2Proof.Machine

/-- The state `t` that comes of `s` keeps the queue and the invariant's clauses. -/
structure Keeps (s t : State) : Prop where
  pending : t.pending = s.pending
  regs : s.regs.wf = true → t.regs.wf = true
  mem : Memory.wf s.mem = true → Memory.wf t.mem = true
  time : s.T < 2 ^ 64 → t.T < 2 ^ 64
  viol : s.viol.length ≤ 16 → t.viol.length ≤ 16

theorem Keeps.refl (s : State) : Keeps s s := ⟨rfl, id, id, id, id⟩

theorem Keeps.trans {s t u : State} (h : Keeps s t) (k : Keeps t u) : Keeps s u :=
  ⟨k.pending.trans h.pending, k.regs ∘ h.regs, k.mem ∘ h.mem, k.time ∘ h.time, k.viol ∘ h.viol⟩

/-- An update of the other fields keeps all of it. -/
theorem Keeps.upd {s t : State} {x_shadows : Tbl Nat} {x_resp : Nat} {x_out : List Out} {x_free : Nat} {x_refused : Bool} {x_tsp : Tsp} {x_adc : Adc} {x_pwm : Pwm} {x_ivs : Ivs} {x_grd : Grd} {x_ldg : Ldg} {x_gptp : Gptp} {x_agg : Agg} {x_dsp : Tbl Dsp} {x_dspMem : Tbl DspMem} {x_mbx : Mbx} {x_saf : Saf} {x_pxe : Pxe} {x_hif : Hif} {x_net : Net} {x_sec : Sec} {x_tsn : Tsn} {x_memSt : MemSt} {x_drm : Tbl DrmCh} {x_val : Val} {x_ins : Ins} {x_aon : Aon} {x_boot : Boot} {x_reply : List Byte} (h : Keeps s t) :
    Keeps s (State.mk t.regs t.mem t.T x_shadows x_resp x_out x_free t.viol x_refused x_tsp x_adc x_pwm x_ivs x_grd x_ldg x_gptp x_agg x_dsp x_dspMem x_mbx x_saf x_pxe x_hif x_net x_sec x_tsn x_memSt x_drm x_val x_ins x_aon x_boot x_reply t.pending) := ⟨h.pending, h.regs, h.mem, h.time, h.viol⟩

theorem Keeps.ite {s a b : State} {c : Prop} [Decidable c] (ha : Keeps s a) (hb : Keeps s b) : Keeps s (if c then a else b) := by
  split
  · exact ha
  · exact hb

theorem Keeps.foldl {α : Type} {s t : State} {g : State → α → State} {l : List α} (hg : ∀ u a, Keeps u (g u a)) (h : Keeps s t) :
    Keeps s (l.foldl g t) := by
  induction l generalizing t with
  | nil => exact h
  | cons a l ih => exact ih (h.trans (hg t a))

theorem Keeps.foldl1 {α β : Type} {s : State} {t : State × β} {g : State × β → α → State × β} {l : List α}
    (hg : ∀ u a, Keeps u.1 (g u a).1) (h : Keeps s t.1) : Keeps s (l.foldl g t).1 := by
  induction l generalizing t with
  | nil => exact h
  | cons a l ih => exact ih (h.trans (hg t a))

theorem Keeps.foldl2 {α β : Type} {s : State} {t : β × State} {g : β × State → α → β × State} {l : List α}
    (hg : ∀ u a, Keeps u.2 (g u a).2) (h : Keeps s t.2) : Keeps s (l.foldl g t).2 := by
  induction l generalizing t with
  | nil => exact h
  | cons a l ih => exact ih (h.trans (hg t a))

theorem Keeps.foldl3 {α β γ : Type} {s : State} {t : β × γ × State} {g : β × γ × State → α → β × γ × State} {l : List α}
    (hg : ∀ u a, Keeps u.2.2 (g u a).2.2) (h : Keeps s t.2.2) : Keeps s (l.foldl g t).2.2 := by
  induction l generalizing t with
  | nil => exact h
  | cons a l ih => exact ih (h.trans (hg t a))

theorem Keeps.when {s t : State} {c : Bool} {f : State → State} (hf : ∀ u, Keeps u (f u)) (h : Keeps s t) : Keeps s (t.when c f) := by
  unfold State.when
  split
  · exact h.trans (hf t)
  · exact h

theorem Keeps.put {s t : State} (h : Keeps s t) (x : Fld) (v : Nat) : Keeps s (t.put x v) :=
  ⟨h.pending, fun w => RegFile.wf_put (h.regs w) x v, h.mem, h.time, h.viol⟩

theorem Keeps.puts {s t : State} (h : Keeps s t) (l : List (Fld × Nat)) : Keeps s (t.puts l) :=
  Keeps.foldl (fun u e => (Keeps.refl u).put e.1 e.2) h

theorem Keeps.setByte {s t : State} (h : Keeps s t) (a : Nat) (v : Byte) : Keeps s (t.setByte a v) :=
  ⟨h.pending, h.regs, fun w => Memory.wf_put (h.mem w) a v, h.time, h.viol⟩

theorem Keeps.setBytes {s t : State} (h : Keeps s t) (a : Nat) (l : List Byte) : Keeps s (t.setBytes a l) := by
  induction l generalizing t a with
  | nil => exact h
  | cons b l ih => exact ih (h.setByte a b) (a + 1)

theorem Keeps.clearRange {s t : State} (h : Keeps s t) (a n : Nat) : Keeps s (t.clearRange a n) :=
  ⟨h.pending, h.regs, fun w => Memory.wf_filter (h.mem w) _, h.time, h.viol⟩

theorem Keeps.violPush {s t : State} (h : Keeps s t) (hl : t.viol.length < 16) (v : Viol) : Keeps s { t with viol := t.viol ++ [v] } :=
  ⟨h.pending, h.regs, h.mem, h.time, fun _ => by simp; omega⟩

/-- A state that an answer in pair form names. -/
theorem Keeps.viaFst {β : Type} {z t r : State} {e : State × β} {b : β} (q : e = (t, b)) (h : Keeps z e.1) (k : Keeps z t → Keeps z r) :
    Keeps z r := by
  subst q; exact k h

theorem Keeps.viaSnd {β : Type} {z t r : State} {e : β × State} {b : β} (q : e = (b, t)) (h : Keeps z e.2) (k : Keeps z t → Keeps z r) :
    Keeps z r := by
  subst q; exact k h

/-! ### Updates that leave entries out, or start a part anew, beside any update of the other fields -/

theorem Keeps.updRegs {s t : State} {x_shadows : Tbl Nat} {x_resp : Nat} {x_out : List Out} {x_free : Nat} {x_refused : Bool} {x_tsp : Tsp} {x_adc : Adc} {x_pwm : Pwm} {x_ivs : Ivs} {x_grd : Grd} {x_ldg : Ldg} {x_gptp : Gptp} {x_agg : Agg} {x_dsp : Tbl Dsp} {x_dspMem : Tbl DspMem} {x_mbx : Mbx} {x_saf : Saf} {x_pxe : Pxe} {x_hif : Hif} {x_net : Net} {x_sec : Sec} {x_tsn : Tsn} {x_memSt : MemSt} {x_drm : Tbl DrmCh} {x_val : Val} {x_ins : Ins} {x_aon : Aon} {x_boot : Boot} {x_reply : List Byte} (h : Keeps s t) (p : FKey × Nat → Bool) :
    Keeps s (State.mk (List.filter p t.regs) t.mem t.T x_shadows x_resp x_out x_free t.viol x_refused x_tsp x_adc x_pwm x_ivs x_grd x_ldg x_gptp x_agg x_dsp x_dspMem x_mbx x_saf x_pxe x_hif x_net x_sec x_tsn x_memSt x_drm x_val x_ins x_aon x_boot x_reply t.pending) :=
  ⟨h.pending, fun w => RegFile.wf_filter (h.regs w) p, h.mem, h.time, h.viol⟩

theorem Keeps.updMemNil {s t : State} {x_shadows : Tbl Nat} {x_resp : Nat} {x_out : List Out} {x_free : Nat} {x_refused : Bool} {x_tsp : Tsp} {x_adc : Adc} {x_pwm : Pwm} {x_ivs : Ivs} {x_grd : Grd} {x_ldg : Ldg} {x_gptp : Gptp} {x_agg : Agg} {x_dsp : Tbl Dsp} {x_dspMem : Tbl DspMem} {x_mbx : Mbx} {x_saf : Saf} {x_pxe : Pxe} {x_hif : Hif} {x_net : Net} {x_sec : Sec} {x_tsn : Tsn} {x_memSt : MemSt} {x_drm : Tbl DrmCh} {x_val : Val} {x_ins : Ins} {x_aon : Aon} {x_boot : Boot} {x_reply : List Byte} (h : Keeps s t) :
    Keeps s (State.mk t.regs [] t.T x_shadows x_resp x_out x_free t.viol x_refused x_tsp x_adc x_pwm x_ivs x_grd x_ldg x_gptp x_agg x_dsp x_dspMem x_mbx x_saf x_pxe x_hif x_net x_sec x_tsn x_memSt x_drm x_val x_ins x_aon x_boot x_reply t.pending) :=
  ⟨h.pending, h.regs, fun _ => rfl, h.time, h.viol⟩

theorem Keeps.updViolNil {s t : State} {x_shadows : Tbl Nat} {x_resp : Nat} {x_out : List Out} {x_free : Nat} {x_refused : Bool} {x_tsp : Tsp} {x_adc : Adc} {x_pwm : Pwm} {x_ivs : Ivs} {x_grd : Grd} {x_ldg : Ldg} {x_gptp : Gptp} {x_agg : Agg} {x_dsp : Tbl Dsp} {x_dspMem : Tbl DspMem} {x_mbx : Mbx} {x_saf : Saf} {x_pxe : Pxe} {x_hif : Hif} {x_net : Net} {x_sec : Sec} {x_tsn : Tsn} {x_memSt : MemSt} {x_drm : Tbl DrmCh} {x_val : Val} {x_ins : Ins} {x_aon : Aon} {x_boot : Boot} {x_reply : List Byte} (h : Keeps s t) :
    Keeps s (State.mk t.regs t.mem t.T x_shadows x_resp x_out x_free [] x_refused x_tsp x_adc x_pwm x_ivs x_grd x_ldg x_gptp x_agg x_dsp x_dspMem x_mbx x_saf x_pxe x_hif x_net x_sec x_tsn x_memSt x_drm x_val x_ins x_aon x_boot x_reply t.pending) :=
  ⟨h.pending, h.regs, h.mem, h.time, fun _ => Nat.zero_le _⟩

theorem Keeps.updViolDrop {s t : State} {x_shadows : Tbl Nat} {x_resp : Nat} {x_out : List Out} {x_free : Nat} {x_refused : Bool} {x_tsp : Tsp} {x_adc : Adc} {x_pwm : Pwm} {x_ivs : Ivs} {x_grd : Grd} {x_ldg : Ldg} {x_gptp : Gptp} {x_agg : Agg} {x_dsp : Tbl Dsp} {x_dspMem : Tbl DspMem} {x_mbx : Mbx} {x_saf : Saf} {x_pxe : Pxe} {x_hif : Hif} {x_net : Net} {x_sec : Sec} {x_tsn : Tsn} {x_memSt : MemSt} {x_drm : Tbl DrmCh} {x_val : Val} {x_ins : Ins} {x_aon : Aon} {x_boot : Boot} {x_reply : List Byte} (h : Keeps s t) (n : Nat) :
    Keeps s (State.mk t.regs t.mem t.T x_shadows x_resp x_out x_free (List.drop n t.viol) x_refused x_tsp x_adc x_pwm x_ivs x_grd x_ldg x_gptp x_agg x_dsp x_dspMem x_mbx x_saf x_pxe x_hif x_net x_sec x_tsn x_memSt x_drm x_val x_ins x_aon x_boot x_reply t.pending) :=
  ⟨h.pending, h.regs, h.mem, h.time, fun w => by have := h.viol w; rw [List.length_drop]; omega⟩

theorem Keeps.updT {s t : State} {x_shadows : Tbl Nat} {x_resp : Nat} {x_out : List Out} {x_free : Nat} {x_refused : Bool} {x_tsp : Tsp} {x_adc : Adc} {x_pwm : Pwm} {x_ivs : Ivs} {x_grd : Grd} {x_ldg : Ldg} {x_gptp : Gptp} {x_agg : Agg} {x_dsp : Tbl Dsp} {x_dspMem : Tbl DspMem} {x_mbx : Mbx} {x_saf : Saf} {x_pxe : Pxe} {x_hif : Hif} {x_net : Net} {x_sec : Sec} {x_tsn : Tsn} {x_memSt : MemSt} {x_drm : Tbl DrmCh} {x_val : Val} {x_ins : Ins} {x_aon : Aon} {x_boot : Boot} {x_reply : List Byte} (h : Keeps s t) (x : Nat) :
    Keeps s (State.mk t.regs t.mem (wrap 64 x) x_shadows x_resp x_out x_free t.viol x_refused x_tsp x_adc x_pwm x_ivs x_grd x_ldg x_gptp x_agg x_dsp x_dspMem x_mbx x_saf x_pxe x_hif x_net x_sec x_tsn x_memSt x_drm x_val x_ins x_aon x_boot x_reply t.pending) :=
  ⟨h.pending, h.regs, h.mem, fun _ => Nat.mod_lt _ (by decide), h.viol⟩

theorem Keeps.updTzero {s t : State} {x_shadows : Tbl Nat} {x_resp : Nat} {x_out : List Out} {x_free : Nat} {x_refused : Bool} {x_tsp : Tsp} {x_adc : Adc} {x_pwm : Pwm} {x_ivs : Ivs} {x_grd : Grd} {x_ldg : Ldg} {x_gptp : Gptp} {x_agg : Agg} {x_dsp : Tbl Dsp} {x_dspMem : Tbl DspMem} {x_mbx : Mbx} {x_saf : Saf} {x_pxe : Pxe} {x_hif : Hif} {x_net : Net} {x_sec : Sec} {x_tsn : Tsn} {x_memSt : MemSt} {x_drm : Tbl DrmCh} {x_val : Val} {x_ins : Ins} {x_aon : Aon} {x_boot : Boot} {x_reply : List Byte} (h : Keeps s t) :
    Keeps s (State.mk t.regs t.mem 0 x_shadows x_resp x_out x_free t.viol x_refused x_tsp x_adc x_pwm x_ivs x_grd x_ldg x_gptp x_agg x_dsp x_dspMem x_mbx x_saf x_pxe x_hif x_net x_sec x_tsn x_memSt x_drm x_val x_ins x_aon x_boot x_reply t.pending) :=
  ⟨h.pending, h.regs, h.mem, fun _ => Nat.two_pow_pos 64, h.viol⟩

end Sys2Proof.Machine
end

