-- ==== Sys2Proof/Laws/KeepOps.lean ====
section
/-! SUPPORT. What the operations of Machine/Ops.lean keep (Laws/Keeps.lean). -/
set_option linter.unusedSimpArgs false
set_option linter.unusedVariables false
namespace Sys2Proof.Machine
open Sys2Proof.Reg

theorem State.bumpBy_keeps {z : State} (s : State) (x : Fld) (k : Nat) (h : Keeps z s) : Keeps z (State.bumpBy s x k) := by
  unfold State.bumpBy
  simp (maxDischargeDepth := 40) only [implies_true, Keeps.refl, Keeps.ite, Keeps.upd, Keeps.foldl, Keeps.when, Keeps.put, Keeps.puts, Keeps.setByte, Keeps.setBytes, Keeps.clearRange, Keeps.updRegs, Keeps.updMemNil, Keeps.updViolNil, Keeps.updViolDrop, Keeps.updT, Keeps.updTzero, RegFile.resetBlock, h]

theorem State.bump_keeps {z : State} (s : State) (x : Fld) (h : Keeps z s) : Keeps z (State.bump s x) := by
  unfold State.bump
  simp (maxDischargeDepth := 40) only [implies_true, Keeps.refl, Keeps.ite, Keeps.upd, Keeps.foldl, Keeps.when, Keeps.put, Keeps.puts, Keeps.setByte, Keeps.setBytes, Keeps.clearRange, Keeps.updRegs, Keeps.updMemNil, Keeps.updViolNil, Keeps.updViolDrop, Keeps.updT, Keeps.updTzero, RegFile.resetBlock, State.bumpBy_keeps, h]

theorem State.emit_keeps {z : State} (s : State) (o : Out) (h : Keeps z s) : Keeps z (State.emit s o) := by
  unfold State.emit
  simp (maxDischargeDepth := 40) only [implies_true, Keeps.refl, Keeps.ite, Keeps.upd, Keeps.foldl, Keeps.when, Keeps.put, Keeps.puts, Keeps.setByte, Keeps.setBytes, Keeps.clearRange, Keeps.updRegs, Keeps.updMemNil, Keeps.updViolNil, Keeps.updViolDrop, Keeps.updT, Keeps.updTzero, RegFile.resetBlock, h]

theorem State.irq_keeps {z : State} (s : State) (k : Irq) (h : Keeps z s) : Keeps z (State.irq s k) := by
  unfold State.irq
  simp (maxDischargeDepth := 40) only [implies_true, Keeps.refl, Keeps.ite, Keeps.upd, Keeps.foldl, Keeps.when, Keeps.put, Keeps.puts, Keeps.setByte, Keeps.setBytes, Keeps.clearRange, Keeps.updRegs, Keeps.updMemNil, Keeps.updViolNil, Keeps.updViolDrop, Keeps.updT, Keeps.updTzero, RegFile.resetBlock, State.emit_keeps, h]

theorem State.fresh_keeps {z : State} (s : State) (w : Nat) (h : Keeps z s) : Keeps z (State.fresh s w).2 := by
  unfold State.fresh
  simp (maxDischargeDepth := 40) only [implies_true, Keeps.refl, Keeps.ite, Keeps.upd, Keeps.foldl, Keeps.when, Keeps.put, Keeps.puts, Keeps.setByte, Keeps.setBytes, Keeps.clearRange, Keeps.updRegs, Keeps.updMemNil, Keeps.updViolNil, Keeps.updViolDrop, Keeps.updT, Keeps.updTzero, RegFile.resetBlock, h]

theorem State.store_keeps {z : State} (s : State) (a : Nat) (n : Nat) (v : Nat) (h : Keeps z s) : Keeps z (State.store s a n v) := by
  unfold State.store
  simp (maxDischargeDepth := 40) only [implies_true, Keeps.refl, Keeps.ite, Keeps.upd, Keeps.foldl, Keeps.when, Keeps.put, Keeps.puts, Keeps.setByte, Keeps.setBytes, Keeps.clearRange, Keeps.updRegs, Keeps.updMemNil, Keeps.updViolNil, Keeps.updViolDrop, Keeps.updT, Keeps.updTzero, RegFile.resetBlock, h]

theorem State.latch_keeps {z : State} (s : State) (reader : Nat) (v : Nat) (x : Nat) (h : Keeps z s) : Keeps z (State.latch s reader v x) := by
  unfold State.latch
  simp (maxDischargeDepth := 40) only [implies_true, Keeps.refl, Keeps.ite, Keeps.upd, Keeps.foldl, Keeps.when, Keeps.put, Keeps.puts, Keeps.setByte, Keeps.setBytes, Keeps.clearRange, Keeps.updRegs, Keeps.updMemNil, Keeps.updViolNil, Keeps.updViolDrop, Keeps.updT, Keeps.updTzero, RegFile.resetBlock, h]

theorem State.answer_keeps {z : State} (s : State) (v : Nat) (h : Keeps z s) : Keeps z (State.answer s v) := by
  unfold State.answer
  simp (maxDischargeDepth := 40) only [implies_true, Keeps.refl, Keeps.ite, Keeps.upd, Keeps.foldl, Keeps.when, Keeps.put, Keeps.puts, Keeps.setByte, Keeps.setBytes, Keeps.clearRange, Keeps.updRegs, Keeps.updMemNil, Keeps.updViolNil, Keeps.updViolDrop, Keeps.updT, Keeps.updTzero, RegFile.resetBlock, h]

theorem State.setSrc_keeps {z : State} (s : State) (n : Nat) (v : Src) (h : Keeps z s) : Keeps z (State.setSrc s n v) := by
  unfold State.setSrc
  simp (maxDischargeDepth := 40) only [implies_true, Keeps.refl, Keeps.ite, Keeps.upd, Keeps.foldl, Keeps.when, Keeps.put, Keeps.puts, Keeps.setByte, Keeps.setBytes, Keeps.clearRange, Keeps.updRegs, Keeps.updMemNil, Keeps.updViolNil, Keeps.updViolDrop, Keeps.updT, Keeps.updTzero, RegFile.resetBlock, h]

theorem State.setCmp_keeps {z : State} (s : State) (n : Nat) (v : Cmp) (h : Keeps z s) : Keeps z (State.setCmp s n v) := by
  unfold State.setCmp
  simp (maxDischargeDepth := 40) only [implies_true, Keeps.refl, Keeps.ite, Keeps.upd, Keeps.foldl, Keeps.when, Keeps.put, Keeps.puts, Keeps.setByte, Keeps.setBytes, Keeps.clearRange, Keeps.updRegs, Keeps.updMemNil, Keeps.updViolNil, Keeps.updViolDrop, Keeps.updT, Keeps.updTzero, RegFile.resetBlock, h]

theorem State.setAdcU_keeps {z : State} (s : State) (u : Nat) (v : AdcUnit) (h : Keeps z s) : Keeps z (State.setAdcU s u v) := by
  unfold State.setAdcU
  simp (maxDischargeDepth := 40) only [implies_true, Keeps.refl, Keeps.ite, Keeps.upd, Keeps.foldl, Keeps.when, Keeps.put, Keeps.puts, Keeps.setByte, Keeps.setBytes, Keeps.clearRange, Keeps.updRegs, Keeps.updMemNil, Keeps.updViolNil, Keeps.updViolDrop, Keeps.updT, Keeps.updTzero, RegFile.resetBlock, h]

theorem State.setChan_keeps {z : State} (s : State) (n : Nat) (v : Chan) (h : Keeps z s) : Keeps z (State.setChan s n v) := by
  unfold State.setChan
  simp (maxDischargeDepth := 40) only [implies_true, Keeps.refl, Keeps.ite, Keeps.upd, Keeps.foldl, Keeps.when, Keeps.put, Keeps.puts, Keeps.setByte, Keeps.setBytes, Keeps.clearRange, Keeps.updRegs, Keeps.updMemNil, Keeps.updViolNil, Keeps.updViolDrop, Keeps.updT, Keeps.updTzero, RegFile.resetBlock, h]

theorem State.setCd_keeps {z : State} (s : State) (n : Nat) (v : Dsp) (h : Keeps z s) : Keeps z (State.setCd s n v) := by
  unfold State.setCd
  simp (maxDischargeDepth := 40) only [implies_true, Keeps.refl, Keeps.ite, Keeps.upd, Keeps.foldl, Keeps.when, Keeps.put, Keeps.puts, Keeps.setByte, Keeps.setBytes, Keeps.clearRange, Keeps.updRegs, Keeps.updMemNil, Keeps.updViolNil, Keeps.updViolDrop, Keeps.updT, Keeps.updTzero, RegFile.resetBlock, h]

theorem State.setCdMem_keeps {z : State} (s : State) (n : Nat) (v : DspMem) (h : Keeps z s) : Keeps z (State.setCdMem s n v) := by
  unfold State.setCdMem
  simp (maxDischargeDepth := 40) only [implies_true, Keeps.refl, Keeps.ite, Keeps.upd, Keeps.foldl, Keeps.when, Keeps.put, Keeps.puts, Keeps.setByte, Keeps.setBytes, Keeps.clearRange, Keeps.updRegs, Keeps.updMemNil, Keeps.updViolNil, Keeps.updViolDrop, Keeps.updT, Keeps.updTzero, RegFile.resetBlock, h]

theorem State.setPt_keeps {z : State} (s : State) (n : Nat) (v : Thread) (h : Keeps z s) : Keeps z (State.setPt s n v) := by
  unfold State.setPt
  simp (maxDischargeDepth := 40) only [implies_true, Keeps.refl, Keeps.ite, Keeps.upd, Keeps.foldl, Keeps.when, Keeps.put, Keeps.puts, Keeps.setByte, Keeps.setBytes, Keeps.clearRange, Keeps.updRegs, Keeps.updMemNil, Keeps.updViolNil, Keeps.updViolDrop, Keeps.updT, Keeps.updTzero, RegFile.resetBlock, h]

theorem State.setRing_keeps {z : State} (s : State) (r : Nat) (v : Ring) (h : Keeps z s) : Keeps z (State.setRing s r v) := by
  unfold State.setRing
  simp (maxDischargeDepth := 40) only [implies_true, Keeps.refl, Keeps.ite, Keeps.upd, Keeps.foldl, Keeps.when, Keeps.put, Keeps.puts, Keeps.setByte, Keeps.setBytes, Keeps.clearRange, Keeps.updRegs, Keeps.updMemNil, Keeps.updViolNil, Keeps.updViolDrop, Keeps.updT, Keeps.updTzero, RegFile.resetBlock, h]

theorem State.setMsix_keeps {z : State} (s : State) (fn : Nat) (v : Nat) (x : Msix) (h : Keeps z s) : Keeps z (State.setMsix s fn v x) := by
  unfold State.setMsix
  simp (maxDischargeDepth := 40) only [implies_true, Keeps.refl, Keeps.ite, Keeps.upd, Keeps.foldl, Keeps.when, Keeps.put, Keeps.puts, Keeps.setByte, Keeps.setBytes, Keeps.clearRange, Keeps.updRegs, Keeps.updMemNil, Keeps.updViolNil, Keeps.updViolDrop, Keeps.updT, Keeps.updTzero, RegFile.resetBlock, h]

end Sys2Proof.Machine
end

