-- ==== Sys2Proof/Laws/KeepSignals.lean ====
section
/-! SUPPORT. What the operations of Machine/Signals.lean keep (Laws/Keeps.lean). -/
set_option linter.unusedSimpArgs false
set_option linter.unusedVariables false
namespace Sys2Proof.Machine
open Sys2Proof.Reg

theorem State.spViol_keeps {z : State} (s : State) (n : Nat) (h : Keeps z s) : Keeps z (State.spViol s n) := by
  unfold State.spViol
  simp (maxDischargeDepth := 40) only [implies_true, Keeps.refl, Keeps.ite, Keeps.upd, Keeps.foldl, Keeps.when, Keeps.put, Keeps.puts, Keeps.setByte, Keeps.setBytes, Keeps.clearRange, Keeps.updRegs, Keeps.updMemNil, Keeps.updViolNil, Keeps.updViolDrop, Keeps.updT, Keeps.updTzero, RegFile.resetBlock, h]

theorem State.violation_keeps {z : State} (s : State) (m : Nat) (write : Bool) (region : Nat) (addr : Nat) (h : Keeps z s) : Keeps z (State.violation s m write region addr) := by
  unfold State.violation
  dsimp only
  split
  · next hl => exact Keeps.violPush (by simp (maxDischargeDepth := 40) only [implies_true, Keeps.refl, Keeps.ite, Keeps.upd, Keeps.foldl, Keeps.when, Keeps.put, Keeps.puts, Keeps.setByte, Keeps.setBytes, Keeps.clearRange, Keeps.updRegs, Keeps.updMemNil, Keeps.updViolNil, Keeps.updViolDrop, Keeps.updT, Keeps.updTzero, RegFile.resetBlock, State.bump_keeps, State.spViol_keeps, h]) hl _
  · simp (maxDischargeDepth := 40) only [implies_true, Keeps.refl, Keeps.ite, Keeps.upd, Keeps.foldl, Keeps.when, Keeps.put, Keeps.puts, Keeps.setByte, Keeps.setBytes, Keeps.clearRange, Keeps.updRegs, Keeps.updMemNil, Keeps.updViolNil, Keeps.updViolDrop, Keeps.updT, Keeps.updTzero, RegFile.resetBlock, State.bump_keeps, State.spViol_keeps, h]

theorem State.refuseWrite_keeps {z : State} (s : State) (m : Nat) (b : Nat) (off : Nat) (h : Keeps z s) : Keeps z (State.refuseWrite s m b off) := by
  unfold State.refuseWrite
  simp (maxDischargeDepth := 40) only [implies_true, Keeps.refl, Keeps.ite, Keeps.upd, Keeps.foldl, Keeps.when, Keeps.put, Keeps.puts, Keeps.setByte, Keeps.setBytes, Keeps.clearRange, Keeps.updRegs, Keeps.updMemNil, Keeps.updViolNil, Keeps.updViolDrop, Keeps.updT, Keeps.updTzero, RegFile.resetBlock, State.violation_keeps, h]

theorem State.refuseCd_keeps {z : State} (s : State) (m : Nat) (n : Nat) (off : Nat) (h : Keeps z s) : Keeps z (State.refuseCd s m n off) := by
  unfold State.refuseCd
  simp (maxDischargeDepth := 40) only [implies_true, Keeps.refl, Keeps.ite, Keeps.upd, Keeps.foldl, Keeps.when, Keeps.put, Keeps.puts, Keeps.setByte, Keeps.setBytes, Keeps.clearRange, Keeps.updRegs, Keeps.updMemNil, Keeps.updViolNil, Keeps.updViolDrop, Keeps.updT, Keeps.updTzero, RegFile.resetBlock, State.violation_keeps, h]

theorem State.refuseRead_keeps {z : State} (s : State) (m : Nat) (b : Nat) (off : Nat) (h : Keeps z s) : Keeps z (State.refuseRead s m b off) := by
  unfold State.refuseRead
  simp (maxDischargeDepth := 40) only [implies_true, Keeps.refl, Keeps.ite, Keeps.upd, Keeps.foldl, Keeps.when, Keeps.put, Keeps.puts, Keeps.setByte, Keeps.setBytes, Keeps.clearRange, Keeps.updRegs, Keeps.updMemNil, Keeps.updViolNil, Keeps.updViolDrop, Keeps.updT, Keeps.updTzero, RegFile.resetBlock, State.answer_keeps, State.violation_keeps, h]

theorem dspRelease_keeps {z : State} (s : State) (n : Nat) (l : Nat) (t32 : Nat) (h : Keeps z s) : Keeps z (dspRelease s n l t32) := by
  unfold dspRelease
  simp (maxDischargeDepth := 40) only [implies_true, Keeps.refl, Keeps.ite, Keeps.upd, Keeps.foldl, Keeps.when, Keeps.put, Keeps.puts, Keeps.setByte, Keeps.setBytes, Keeps.clearRange, Keeps.updRegs, Keeps.updMemNil, Keeps.updViolNil, Keeps.updViolDrop, Keeps.updT, Keeps.updTzero, RegFile.resetBlock, State.bump_keeps, State.setCd_keeps, h]

theorem dspVector_keeps {z : State} (s : State) (n : Nat) (v : Nat) (h : Keeps z s) : Keeps z (dspVector s n v) := by
  unfold dspVector
  simp (maxDischargeDepth := 40) only [implies_true, Keeps.refl, Keeps.ite, Keeps.upd, Keeps.foldl, Keeps.when, Keeps.put, Keeps.puts, Keeps.setByte, Keeps.setBytes, Keeps.clearRange, Keeps.updRegs, Keeps.updMemNil, Keeps.updViolNil, Keeps.updViolDrop, Keeps.updT, Keeps.updTzero, RegFile.resetBlock, h]

theorem noteStall_keeps {z : State} (s : State) (c : Nat) (h : Keeps z s) : Keeps z (noteStall s c) := by
  unfold noteStall
  simp (maxDischargeDepth := 40) only [implies_true, Keeps.refl, Keeps.ite, Keeps.upd, Keeps.foldl, Keeps.when, Keeps.put, Keeps.puts, Keeps.setByte, Keeps.setBytes, Keeps.clearRange, Keeps.updRegs, Keeps.updMemNil, Keeps.updViolNil, Keeps.updViolDrop, Keeps.updT, Keeps.updTzero, RegFile.resetBlock, h]

theorem fireWake_keeps {z : State} (s : State) (n : Nat) (flags : Nat) (h : Keeps z s) : Keeps z (fireWake s n flags) := by
  unfold fireWake
  simp (maxDischargeDepth := 40) only [implies_true, Keeps.refl, Keeps.ite, Keeps.upd, Keeps.foldl, Keeps.when, Keeps.put, Keeps.puts, Keeps.setByte, Keeps.setBytes, Keeps.clearRange, Keeps.updRegs, Keeps.updMemNil, Keeps.updViolNil, Keeps.updViolDrop, Keeps.updT, Keeps.updTzero, RegFile.resetBlock, State.setPt_keeps, noteStall_keeps, h]

theorem threadWake_keeps {z : State} (s : State) (n : Nat) (cause : Nat) (h : Keeps z s) : Keeps z (threadWake s n cause) := by
  unfold threadWake
  simp (maxDischargeDepth := 40) only [implies_true, Keeps.refl, Keeps.ite, Keeps.upd, Keeps.foldl, Keeps.when, Keeps.put, Keeps.puts, Keeps.setByte, Keeps.setBytes, Keeps.clearRange, Keeps.updRegs, Keeps.updMemNil, Keeps.updViolNil, Keeps.updViolDrop, Keeps.updT, Keeps.updTzero, RegFile.resetBlock, State.bump_keeps, fireWake_keeps, h]

end Sys2Proof.Machine
end

