-- ==== Sys2Proof/Laws/KeepLedger.lean ====
section
/-! SUPPORT. What the operations of Machine/Ledger.lean keep (Laws/Keeps.lean). -/
set_option linter.unusedSimpArgs false
set_option linter.unusedVariables false
namespace Sys2Proof.Machine
open Sys2Proof.Reg

theorem ldgPush_keeps {z : State} (s : State) (r : LdgReq) (h : Keeps z s) : Keeps z (ldgPush s r) := by
  unfold ldgPush
  simp (maxDischargeDepth := 40) only [implies_true, Keeps.refl, Keeps.ite, Keeps.upd, Keeps.foldl, Keeps.when, Keeps.put, Keeps.puts, Keeps.setByte, Keeps.setBytes, Keeps.clearRange, Keeps.updRegs, Keeps.updMemNil, Keeps.updViolNil, Keeps.updViolDrop, Keeps.updT, Keeps.updTzero, RegFile.resetBlock, h]

theorem ldgSubmit_keeps {z : State} (s : State) (r : LdgReq) (h : Keeps z s) : Keeps z (ldgSubmit s r) := by
  unfold ldgSubmit
  simp (maxDischargeDepth := 40) only [implies_true, Keeps.refl, Keeps.ite, Keeps.upd, Keeps.foldl, Keeps.when, Keeps.put, Keeps.puts, Keeps.setByte, Keeps.setBytes, Keeps.clearRange, Keeps.updRegs, Keeps.updMemNil, Keeps.updViolNil, Keeps.updViolDrop, Keeps.updT, Keeps.updTzero, RegFile.resetBlock, State.bump_keeps, ldgPush_keeps, h]

theorem ldgNote_keeps {z : State} (s : State) (typ : Nat) (cls : Nat) (pl : List Byte) (h : Keeps z s) : Keeps z (ldgNote s typ cls pl) := by
  unfold ldgNote
  simp (maxDischargeDepth := 40) only [implies_true, Keeps.refl, Keeps.ite, Keeps.upd, Keeps.foldl, Keeps.when, Keeps.put, Keeps.puts, Keeps.setByte, Keeps.setBytes, Keeps.clearRange, Keeps.updRegs, Keeps.updMemNil, Keeps.updViolNil, Keeps.updViolDrop, Keeps.updT, Keeps.updTzero, RegFile.resetBlock, ldgSubmit_keeps, h]

theorem qorSend_keeps {z : State} (s : State) (typ : Nat) (target : Nat) (pl : List Byte) (h : Keeps z s) : Keeps z (qorSend s typ target pl) := by
  unfold qorSend
  simp (maxDischargeDepth := 40) only [implies_true, Keeps.refl, Keeps.ite, Keeps.upd, Keeps.foldl, Keeps.when, Keeps.put, Keeps.puts, Keeps.setByte, Keeps.setBytes, Keeps.clearRange, Keeps.updRegs, Keeps.updMemNil, Keeps.updViolNil, Keeps.updViolDrop, Keeps.updT, Keeps.updTzero, RegFile.resetBlock, State.emit_keeps, h]

end Sys2Proof.Machine
end

