-- ==== Sys2Proof/Laws/KeepTurnspit.lean ====
section
/-! SUPPORT. What the operations of Machine/Turnspit.lean keep (Laws/Keeps.lean). -/
set_option linter.unusedSimpArgs false
set_option linter.unusedVariables false
namespace Sys2Proof.Machine
open Sys2Proof.Reg

theorem markUnits_keeps {z : State} (s0 : State) (s1 : State) (h : Keeps z s1) : Keeps z (markUnits s0 s1) := by
  unfold markUnits
  repeat' (first | (simp (maxDischargeDepth := 40) only [implies_true, Keeps.refl, Keeps.ite, Keeps.upd, Keeps.foldl, Keeps.when, Keeps.put, Keeps.puts, Keeps.setByte, Keeps.setBytes, Keeps.clearRange, Keeps.updRegs, Keeps.updMemNil, Keeps.updViolNil, Keeps.updViolDrop, Keeps.updT, Keeps.updTzero, RegFile.resetBlock, State.bump_keeps, State.setCmp_keeps, h]; done) | dsimp only | with_reducible refine Keeps.ite ?_ ?_ | split | with_reducible refine Keeps.foldl (fun _ _ => ?_) ?_ | with_reducible refine Keeps.foldl1 (fun _ _ => ?_) ?_ | with_reducible refine Keeps.foldl2 (fun _ _ => ?_) ?_ | with_reducible refine Keeps.foldl3 (fun _ _ => ?_) ?_ | with_reducible refine Keeps.when (fun _ => ?_) ?_)

theorem markThreads_keeps {z : State} (s0 : State) (s1 : State) (h : Keeps z s1) : Keeps z (markThreads s0 s1) := by
  unfold markThreads
  repeat' (first | (simp (maxDischargeDepth := 40) only [implies_true, Keeps.refl, Keeps.ite, Keeps.upd, Keeps.foldl, Keeps.when, Keeps.put, Keeps.puts, Keeps.setByte, Keeps.setBytes, Keeps.clearRange, Keeps.updRegs, Keeps.updMemNil, Keeps.updViolNil, Keeps.updViolDrop, Keeps.updT, Keeps.updTzero, RegFile.resetBlock, State.setPt_keeps, h]; done) | dsimp only | with_reducible refine Keeps.ite ?_ ?_ | split | with_reducible refine Keeps.foldl (fun _ _ => ?_) ?_ | with_reducible refine Keeps.foldl1 (fun _ _ => ?_) ?_ | with_reducible refine Keeps.foldl2 (fun _ _ => ?_) ?_ | with_reducible refine Keeps.foldl3 (fun _ _ => ?_) ?_ | with_reducible refine Keeps.when (fun _ => ?_) ?_)

theorem withJumps_keeps {z : State} (s : State) (f : State → State) (h : Keeps z s) (h_f : ∀ u, Keeps u (f u)) : Keeps z (withJumps s f) := by
  have k_f : ∀ {z u : State} , Keeps z u → Keeps z (f u) := fun  k => k.trans (h_f _ )
  unfold withJumps
  simp (maxDischargeDepth := 40) only [implies_true, Keeps.refl, Keeps.ite, Keeps.upd, Keeps.foldl, Keeps.when, Keeps.put, Keeps.puts, Keeps.setByte, Keeps.setBytes, Keeps.clearRange, Keeps.updRegs, Keeps.updMemNil, Keeps.updViolNil, Keeps.updViolDrop, Keeps.updT, Keeps.updTzero, RegFile.resetBlock, markThreads_keeps, markUnits_keeps, h, k_f]

theorem lossEvent_keeps {z : State} (s : State) (n : Nat) (h : Keeps z s) : Keeps z (lossEvent s n) := by
  unfold lossEvent
  simp (maxDischargeDepth := 40) only [implies_true, Keeps.refl, Keeps.ite, Keeps.upd, Keeps.foldl, Keeps.when, Keeps.put, Keeps.puts, Keeps.setByte, Keeps.setBytes, Keeps.clearRange, Keeps.updRegs, Keeps.updMemNil, Keeps.updViolNil, Keeps.updViolDrop, Keeps.updT, Keeps.updTzero, RegFile.resetBlock, dspRelease_keeps, threadWake_keeps, h]

theorem raiseLoss_keeps {z : State} (s : State) (n : Nat) (h : Keeps z s) : Keeps z (raiseLoss s n) := by
  unfold raiseLoss
  simp (maxDischargeDepth := 40) only [implies_true, Keeps.refl, Keeps.ite, Keeps.upd, Keeps.foldl, Keeps.when, Keeps.put, Keeps.puts, Keeps.setByte, Keeps.setBytes, Keeps.clearRange, Keeps.updRegs, Keeps.updMemNil, Keeps.updViolNil, Keeps.updViolDrop, Keeps.updT, Keeps.updTzero, RegFile.resetBlock, State.irq_keeps, lossEvent_keeps, h]

theorem freeze_keeps {z : State} (s : State) (n : Nat) (h : Keeps z s) : Keeps z (freeze s n) := by
  unfold freeze
  simp (maxDischargeDepth := 40) only [implies_true, Keeps.refl, Keeps.ite, Keeps.upd, Keeps.foldl, Keeps.when, Keeps.put, Keeps.puts, Keeps.setByte, Keeps.setBytes, Keeps.clearRange, Keeps.updRegs, Keeps.updMemNil, Keeps.updViolNil, Keeps.updViolDrop, Keeps.updT, Keeps.updTzero, RegFile.resetBlock, State.setSrc_keeps, h]

theorem toLost_keeps {z : State} (s : State) (n : Nat) (h : Keeps z s) : Keeps z (toLost s n) := by
  unfold toLost
  simp (maxDischargeDepth := 40) only [implies_true, Keeps.refl, Keeps.ite, Keeps.upd, Keeps.foldl, Keeps.when, Keeps.put, Keeps.puts, Keeps.setByte, Keeps.setBytes, Keeps.clearRange, Keeps.updRegs, Keeps.updMemNil, Keeps.updViolNil, Keeps.updViolDrop, Keeps.updT, Keeps.updTzero, RegFile.resetBlock, State.setSrc_keeps, freeze_keeps, h]

theorem dropPending_keeps {z : State} (s : State) (n : Nat) (h : Keeps z s) : Keeps z (dropPending s n) := by
  unfold dropPending
  repeat' (first | (simp (maxDischargeDepth := 40) only [implies_true, Keeps.refl, Keeps.ite, Keeps.upd, Keeps.foldl, Keeps.when, Keeps.put, Keeps.puts, Keeps.setByte, Keeps.setBytes, Keeps.clearRange, Keeps.updRegs, Keeps.updMemNil, Keeps.updViolNil, Keeps.updViolDrop, Keeps.updT, Keeps.updTzero, RegFile.resetBlock, State.setSrc_keeps, h]; done) | dsimp only | with_reducible refine Keeps.ite ?_ ?_ | split | with_reducible refine Keeps.foldl (fun _ _ => ?_) ?_ | with_reducible refine Keeps.foldl1 (fun _ _ => ?_) ?_ | with_reducible refine Keeps.foldl2 (fun _ _ => ?_) ?_ | with_reducible refine Keeps.foldl3 (fun _ _ => ?_) ?_ | with_reducible refine Keeps.when (fun _ => ?_) ?_)

theorem enterLost_keeps {z : State} (s : State) (n : Nat) (h : Keeps z s) : Keeps z (enterLost s n) := by
  unfold enterLost
  repeat' (first | (simp (maxDischargeDepth := 40) only [implies_true, Keeps.refl, Keeps.ite, Keeps.upd, Keeps.foldl, Keeps.when, Keeps.put, Keeps.puts, Keeps.setByte, Keeps.setBytes, Keeps.clearRange, Keeps.updRegs, Keeps.updMemNil, Keeps.updViolNil, Keeps.updViolDrop, Keeps.updT, Keeps.updTzero, RegFile.resetBlock, State.setSrc_keeps, raiseLoss_keeps, toLost_keeps, h]; done) | dsimp only | with_reducible refine Keeps.ite ?_ ?_ | split | with_reducible refine Keeps.foldl (fun _ _ => ?_) ?_ | with_reducible refine Keeps.foldl1 (fun _ _ => ?_) ?_ | with_reducible refine Keeps.foldl2 (fun _ _ => ?_) ?_ | with_reducible refine Keeps.foldl3 (fun _ _ => ?_) ?_ | with_reducible refine Keeps.when (fun _ => ?_) ?_)

theorem enterCoasting_keeps {z : State} (s : State) (n : Nat) (e : Nat) (h : Keeps z s) : Keeps z (enterCoasting s n e) := by
  unfold enterCoasting
  repeat' (first | (simp (maxDischargeDepth := 40) only [implies_true, Keeps.refl, Keeps.ite, Keeps.upd, Keeps.foldl, Keeps.when, Keeps.put, Keeps.puts, Keeps.setByte, Keeps.setBytes, Keeps.clearRange, Keeps.updRegs, Keeps.updMemNil, Keeps.updViolNil, Keeps.updViolDrop, Keeps.updT, Keeps.updTzero, RegFile.resetBlock, State.setSrc_keeps, freeze_keeps, raiseLoss_keeps, h]; done) | dsimp only | with_reducible refine Keeps.ite ?_ ?_ | split | with_reducible refine Keeps.foldl (fun _ _ => ?_) ?_ | with_reducible refine Keeps.foldl1 (fun _ _ => ?_) ?_ | with_reducible refine Keeps.foldl2 (fun _ _ => ?_) ?_ | with_reducible refine Keeps.foldl3 (fun _ _ => ?_) ?_ | with_reducible refine Keeps.when (fun _ => ?_) ?_)

theorem lossAction_keeps {z : State} (s : State) (n : Nat) (h : Keeps z s) : Keeps z (lossAction s n) := by
  unfold lossAction
  repeat' (first | (simp (maxDischargeDepth := 40) only [implies_true, Keeps.refl, Keeps.ite, Keeps.upd, Keeps.foldl, Keeps.when, Keeps.put, Keeps.puts, Keeps.setByte, Keeps.setBytes, Keeps.clearRange, Keeps.updRegs, Keeps.updMemNil, Keeps.updViolNil, Keeps.updViolDrop, Keeps.updT, Keeps.updTzero, RegFile.resetBlock, enterCoasting_keeps, enterLost_keeps, h]; done) | dsimp only | with_reducible refine Keeps.ite ?_ ?_ | split | with_reducible refine Keeps.foldl (fun _ _ => ?_) ?_ | with_reducible refine Keeps.foldl1 (fun _ _ => ?_) ?_ | with_reducible refine Keeps.foldl2 (fun _ _ => ?_) ?_ | with_reducible refine Keeps.foldl3 (fun _ _ => ?_) ?_ | with_reducible refine Keeps.when (fun _ => ?_) ?_)

theorem ownInputLost_keeps {z : State} (s : State) (n : Nat) (h : Keeps z s) : Keeps z (ownInputLost s n) := by
  unfold ownInputLost
  repeat' (first | (simp (maxDischargeDepth := 40) only [implies_true, Keeps.refl, Keeps.ite, Keeps.upd, Keeps.foldl, Keeps.when, Keeps.put, Keeps.puts, Keeps.setByte, Keeps.setBytes, Keeps.clearRange, Keeps.updRegs, Keeps.updMemNil, Keeps.updViolNil, Keeps.updViolDrop, Keeps.updT, Keeps.updTzero, RegFile.resetBlock, State.setSrc_keeps, raiseLoss_keeps, h]; done) | dsimp only | with_reducible refine Keeps.ite ?_ ?_ | split | with_reducible refine Keeps.foldl (fun _ _ => ?_) ?_ | with_reducible refine Keeps.foldl1 (fun _ _ => ?_) ?_ | with_reducible refine Keeps.foldl2 (fun _ _ => ?_) ?_ | with_reducible refine Keeps.foldl3 (fun _ _ => ?_) ?_ | with_reducible refine Keeps.when (fun _ => ?_) ?_)

theorem childLoss_keeps {z : State} (s : State) (m : Nat) (n : Nat) (h : Keeps z s) : Keeps z (childLoss s m n).1 := by
  unfold childLoss
  repeat' (first | (simp (maxDischargeDepth := 40) only [implies_true, Keeps.refl, Keeps.ite, Keeps.upd, Keeps.foldl, Keeps.when, Keeps.put, Keeps.puts, Keeps.setByte, Keeps.setBytes, Keeps.clearRange, Keeps.updRegs, Keeps.updMemNil, Keeps.updViolNil, Keeps.updViolDrop, Keeps.updT, Keeps.updTzero, RegFile.resetBlock, enterCoasting_keeps, enterLost_keeps, lossAction_keeps, ownInputLost_keeps, h]; done) | dsimp only | with_reducible refine Keeps.ite ?_ ?_ | split | with_reducible refine Keeps.foldl (fun _ _ => ?_) ?_ | with_reducible refine Keeps.foldl1 (fun _ _ => ?_) ?_ | with_reducible refine Keeps.foldl2 (fun _ _ => ?_) ?_ | with_reducible refine Keeps.foldl3 (fun _ _ => ?_) ?_ | with_reducible refine Keeps.when (fun _ => ?_) ?_)

theorem cascade_keeps {z : State} (y0 : Nat) (y1 : State) (y2 : Nat) (h : Keeps z y1) : Keeps z (cascade y0 y1 y2) := by
  induction y0 generalizing z y1 y2 with
  | zero => unfold cascade; repeat' (first | (simp (maxDischargeDepth := 40) only [implies_true, Keeps.refl, Keeps.ite, Keeps.upd, Keeps.foldl, Keeps.when, Keeps.put, Keeps.puts, Keeps.setByte, Keeps.setBytes, Keeps.clearRange, Keeps.updRegs, Keeps.updMemNil, Keeps.updViolNil, Keeps.updViolDrop, Keeps.updT, Keeps.updTzero, RegFile.resetBlock, childLoss_keeps, dropPending_keeps, raiseLoss_keeps, toLost_keeps, h]; done) | dsimp only | with_reducible refine Keeps.ite ?_ ?_ | split | with_reducible refine Keeps.foldl (fun _ _ => ?_) ?_ | with_reducible refine Keeps.foldl1 (fun _ _ => ?_) ?_ | with_reducible refine Keeps.foldl2 (fun _ _ => ?_) ?_ | with_reducible refine Keeps.foldl3 (fun _ _ => ?_) ?_ | with_reducible refine Keeps.when (fun _ => ?_) ?_)
  | succ k ih => unfold cascade; repeat' (first | (simp (maxDischargeDepth := 40) only [implies_true, Keeps.refl, Keeps.ite, Keeps.upd, Keeps.foldl, Keeps.when, Keeps.put, Keeps.puts, Keeps.setByte, Keeps.setBytes, Keeps.clearRange, Keeps.updRegs, Keeps.updMemNil, Keeps.updViolNil, Keeps.updViolDrop, Keeps.updT, Keeps.updTzero, RegFile.resetBlock, childLoss_keeps, dropPending_keeps, raiseLoss_keeps, toLost_keeps, h, ih]; done) | dsimp only | with_reducible refine Keeps.ite ?_ ?_ | split | with_reducible refine Keeps.foldl (fun _ _ => ?_) ?_ | with_reducible refine Keeps.foldl1 (fun _ _ => ?_) ?_ | with_reducible refine Keeps.foldl2 (fun _ _ => ?_) ?_ | with_reducible refine Keeps.foldl3 (fun _ _ => ?_) ?_ | with_reducible refine Keeps.when (fun _ => ?_) ?_)

theorem sourceLoss_keeps {z : State} (s : State) (n : Nat) (h : Keeps z s) : Keeps z (sourceLoss s n) := by
  unfold sourceLoss
  simp (maxDischargeDepth := 40) only [implies_true, Keeps.refl, Keeps.ite, Keeps.upd, Keeps.foldl, Keeps.when, Keeps.put, Keeps.puts, Keeps.setByte, Keeps.setBytes, Keeps.clearRange, Keeps.updRegs, Keeps.updMemNil, Keeps.updViolNil, Keeps.updViolDrop, Keeps.updT, Keeps.updTzero, RegFile.resetBlock, State.setSrc_keeps, cascade_keeps, lossAction_keeps, ownInputLost_keeps, h]

theorem takeSwitch_keeps {z : State} (s : State) (n : Nat) (f : Nat) (bumpless : Bool) (h : Keeps z s) : Keeps z (takeSwitch s n f bumpless) := by
  unfold takeSwitch
  simp (maxDischargeDepth := 40) only [implies_true, Keeps.refl, Keeps.ite, Keeps.upd, Keeps.foldl, Keeps.when, Keeps.put, Keeps.puts, Keeps.setByte, Keeps.setBytes, Keeps.clearRange, Keeps.updRegs, Keeps.updMemNil, Keeps.updViolNil, Keeps.updViolDrop, Keeps.updT, Keeps.updTzero, RegFile.resetBlock, State.setSrc_keeps, h]

theorem takeBack_keeps {z : State} (s : State) (n : Nat) (own : Nat) (spd : Int) (h : Keeps z s) : Keeps z (takeBack s n own spd) := by
  unfold takeBack
  simp (maxDischargeDepth := 40) only [implies_true, Keeps.refl, Keeps.ite, Keeps.upd, Keeps.foldl, Keeps.when, Keeps.put, Keeps.puts, Keeps.setByte, Keeps.setBytes, Keeps.clearRange, Keeps.updRegs, Keeps.updMemNil, Keeps.updViolNil, Keeps.updViolDrop, Keeps.updT, Keeps.updTzero, RegFile.resetBlock, State.setSrc_keeps, h]

theorem ownUpdate_keeps {z : State} (s : State) (n : Nat) (own : Nat) (spd : Int) (h : Keeps z s) : Keeps z (ownUpdate s n own spd) := by
  unfold ownUpdate
  repeat' (first | (simp (maxDischargeDepth := 40) only [implies_true, Keeps.refl, Keeps.ite, Keeps.upd, Keeps.foldl, Keeps.when, Keeps.put, Keeps.puts, Keeps.setByte, Keeps.setBytes, Keeps.clearRange, Keeps.updRegs, Keeps.updMemNil, Keeps.updViolNil, Keeps.updViolDrop, Keeps.updT, Keeps.updTzero, RegFile.resetBlock, State.setSrc_keeps, takeBack_keeps, h]; done) | dsimp only | with_reducible refine Keeps.ite ?_ ?_ | split | with_reducible refine Keeps.foldl (fun _ _ => ?_) ?_ | with_reducible refine Keeps.foldl1 (fun _ _ => ?_) ?_ | with_reducible refine Keeps.foldl2 (fun _ _ => ?_) ?_ | with_reducible refine Keeps.foldl3 (fun _ _ => ?_) ?_ | with_reducible refine Keeps.when (fun _ => ?_) ?_)

theorem acquireAt_keeps {z : State} (s : State) (n : Nat) (ang : Nat) (spd : Int) (h : Keeps z s) : Keeps z (acquireAt s n ang spd) := by
  unfold acquireAt
  simp (maxDischargeDepth := 40) only [implies_true, Keeps.refl, Keeps.ite, Keeps.upd, Keeps.foldl, Keeps.when, Keeps.put, Keeps.puts, Keeps.setByte, Keeps.setBytes, Keeps.clearRange, Keeps.updRegs, Keeps.updMemNil, Keeps.updViolNil, Keeps.updViolDrop, Keeps.updT, Keeps.updTzero, RegFile.resetBlock, State.setSrc_keeps, h]

theorem derivedUpdate_keeps {z : State} (s : State) (n : Nat) (h : Keeps z s) : Keeps z (derivedUpdate s n) := by
  unfold derivedUpdate
  simp (maxDischargeDepth := 40) only [implies_true, Keeps.refl, Keeps.ite, Keeps.upd, Keeps.foldl, Keeps.when, Keeps.put, Keeps.puts, Keeps.setByte, Keeps.setBytes, Keeps.clearRange, Keeps.updRegs, Keeps.updMemNil, Keeps.updViolNil, Keeps.updViolDrop, Keeps.updT, Keeps.updTzero, RegFile.resetBlock, State.setSrc_keeps, acquireAt_keeps, ownUpdate_keeps, h]

theorem propagate_keeps {z : State} (y0 : Nat) (y1 : State) (y2 : Nat) (h : Keeps z y1) : Keeps z (propagate y0 y1 y2) := by
  induction y0 generalizing z y1 y2 with
  | zero => unfold propagate; repeat' (first | (simp (maxDischargeDepth := 40) only [implies_true, Keeps.refl, Keeps.ite, Keeps.upd, Keeps.foldl, Keeps.when, Keeps.put, Keeps.puts, Keeps.setByte, Keeps.setBytes, Keeps.clearRange, Keeps.updRegs, Keeps.updMemNil, Keeps.updViolNil, Keeps.updViolDrop, Keeps.updT, Keeps.updTzero, RegFile.resetBlock, State.setSrc_keeps, derivedUpdate_keeps, takeSwitch_keeps, h]; done) | dsimp only | with_reducible refine Keeps.ite ?_ ?_ | split | with_reducible refine Keeps.foldl (fun _ _ => ?_) ?_ | with_reducible refine Keeps.foldl1 (fun _ _ => ?_) ?_ | with_reducible refine Keeps.foldl2 (fun _ _ => ?_) ?_ | with_reducible refine Keeps.foldl3 (fun _ _ => ?_) ?_ | with_reducible refine Keeps.when (fun _ => ?_) ?_)
  | succ k ih => unfold propagate; repeat' (first | (simp (maxDischargeDepth := 40) only [implies_true, Keeps.refl, Keeps.ite, Keeps.upd, Keeps.foldl, Keeps.when, Keeps.put, Keeps.puts, Keeps.setByte, Keeps.setBytes, Keeps.clearRange, Keeps.updRegs, Keeps.updMemNil, Keeps.updViolNil, Keeps.updViolDrop, Keeps.updT, Keeps.updTzero, RegFile.resetBlock, State.setSrc_keeps, derivedUpdate_keeps, takeSwitch_keeps, h, ih]; done) | dsimp only | with_reducible refine Keeps.ite ?_ ?_ | split | with_reducible refine Keeps.foldl (fun _ _ => ?_) ?_ | with_reducible refine Keeps.foldl1 (fun _ _ => ?_) ?_ | with_reducible refine Keeps.foldl2 (fun _ _ => ?_) ?_ | with_reducible refine Keeps.foldl3 (fun _ _ => ?_) ?_ | with_reducible refine Keeps.when (fun _ => ?_) ?_)

theorem updateSource_keeps {z : State} (s : State) (n : Nat) (own : Nat) (spd : Int) (h : Keeps z s) : Keeps z (updateSource s n own spd) := by
  unfold updateSource
  simp (maxDischargeDepth := 40) only [implies_true, Keeps.refl, Keeps.ite, Keeps.upd, Keeps.foldl, Keeps.when, Keeps.put, Keeps.puts, Keeps.setByte, Keeps.setBytes, Keeps.clearRange, Keeps.updRegs, Keeps.updMemNil, Keeps.updViolNil, Keeps.updViolDrop, Keeps.updT, Keeps.updTzero, RegFile.resetBlock, ownUpdate_keeps, propagate_keeps, h]

theorem acquireSource_keeps {z : State} (s : State) (n : Nat) (ang : Nat) (spd : Int) (h : Keeps z s) : Keeps z (acquireSource s n ang spd) := by
  unfold acquireSource
  simp (maxDischargeDepth := 40) only [implies_true, Keeps.refl, Keeps.ite, Keeps.upd, Keeps.foldl, Keeps.when, Keeps.put, Keeps.puts, Keeps.setByte, Keeps.setBytes, Keeps.clearRange, Keeps.updRegs, Keeps.updMemNil, Keeps.updViolNil, Keeps.updViolDrop, Keeps.updT, Keeps.updTzero, RegFile.resetBlock, acquireAt_keeps, propagate_keeps, h]

theorem disarmUnit_keeps {z : State} (s : State) (u : Nat) (h : Keeps z s) : Keeps z (disarmUnit s u) := by
  unfold disarmUnit
  simp (maxDischargeDepth := 40) only [implies_true, Keeps.refl, Keeps.ite, Keeps.upd, Keeps.foldl, Keeps.when, Keeps.put, Keeps.puts, Keeps.setByte, Keeps.setBytes, Keeps.clearRange, Keeps.updRegs, Keeps.updMemNil, Keeps.updViolNil, Keeps.updViolDrop, Keeps.updT, Keeps.updTzero, RegFile.resetBlock, State.setCmp_keeps, h]

theorem releaseUnits_keeps {z : State} (s : State) (m : Nat) (h : Keeps z s) : Keeps z (releaseUnits s m) := by
  unfold releaseUnits
  simp (maxDischargeDepth := 40) only [implies_true, Keeps.refl, Keeps.ite, Keeps.upd, Keeps.foldl, Keeps.when, Keeps.put, Keeps.puts, Keeps.setByte, Keeps.setBytes, Keeps.clearRange, Keeps.updRegs, Keeps.updMemNil, Keeps.updViolNil, Keeps.updViolDrop, Keeps.updT, Keeps.updTzero, RegFile.resetBlock, disarmUnit_keeps, h]

theorem tspConflict_keeps {z : State} (s : State) (claimant : Nat) (holder : Nat) (res : Nat) (h : Keeps z s) : Keeps z (tspConflict s claimant holder res) := by
  unfold tspConflict
  simp (maxDischargeDepth := 40) only [implies_true, Keeps.refl, Keeps.ite, Keeps.upd, Keeps.foldl, Keeps.when, Keeps.put, Keeps.puts, Keeps.setByte, Keeps.setBytes, Keeps.clearRange, Keeps.updRegs, Keeps.updMemNil, Keeps.updViolNil, Keeps.updViolDrop, Keeps.updT, Keeps.updTzero, RegFile.resetBlock, State.bump_keeps, h]

theorem advanceUnit_keeps {z : State} (s : State) (u : Nat) (a : Arming) (k : Nat) (missed : Nat) (h : Keeps z s) : Keeps z (advanceUnit s u a k missed) := by
  unfold advanceUnit
  repeat' (first | (simp (maxDischargeDepth := 40) only [implies_true, Keeps.refl, Keeps.ite, Keeps.upd, Keeps.foldl, Keeps.when, Keeps.put, Keeps.puts, Keeps.setByte, Keeps.setBytes, Keeps.clearRange, Keeps.updRegs, Keeps.updMemNil, Keeps.updViolNil, Keeps.updViolDrop, Keeps.updT, Keeps.updTzero, RegFile.resetBlock, State.bumpBy_keeps, State.setCmp_keeps, h]; done) | dsimp only | with_reducible refine Keeps.ite ?_ ?_ | split | with_reducible refine Keeps.foldl (fun _ _ => ?_) ?_ | with_reducible refine Keeps.foldl1 (fun _ _ => ?_) ?_ | with_reducible refine Keeps.foldl2 (fun _ _ => ?_) ?_ | with_reducible refine Keeps.foldl3 (fun _ _ => ?_) ?_ | with_reducible refine Keeps.when (fun _ => ?_) ?_)

theorem fireUnit_keeps {z : State} (s : State) (u : Nat) (a : Arming) (h : Keeps z s) : Keeps z (fireUnit s u a) := by
  unfold fireUnit
  simp (maxDischargeDepth := 40) only [implies_true, Keeps.refl, Keeps.ite, Keeps.upd, Keeps.foldl, Keeps.when, Keeps.put, Keeps.puts, Keeps.setByte, Keeps.setBytes, Keeps.clearRange, Keeps.updRegs, Keeps.updMemNil, Keeps.updViolNil, Keeps.updViolDrop, Keeps.updT, Keeps.updTzero, RegFile.resetBlock, advanceUnit_keeps, disarmUnit_keeps, h]

theorem overrunUnit_keeps {z : State} (s : State) (u : Nat) (a : Arming) (h : Keeps z s) : Keeps z (overrunUnit s u a) := by
  unfold overrunUnit
  repeat' (first | (simp (maxDischargeDepth := 40) only [implies_true, Keeps.refl, Keeps.ite, Keeps.upd, Keeps.foldl, Keeps.when, Keeps.put, Keeps.puts, Keeps.setByte, Keeps.setBytes, Keeps.clearRange, Keeps.updRegs, Keeps.updMemNil, Keeps.updViolNil, Keeps.updViolDrop, Keeps.updT, Keeps.updTzero, RegFile.resetBlock, advanceUnit_keeps, h]; done) | dsimp only | with_reducible refine Keeps.ite ?_ ?_ | split | with_reducible refine Keeps.foldl (fun _ _ => ?_) ?_ | with_reducible refine Keeps.foldl1 (fun _ _ => ?_) ?_ | with_reducible refine Keeps.foldl2 (fun _ _ => ?_) ?_ | with_reducible refine Keeps.foldl3 (fun _ _ => ?_) ?_ | with_reducible refine Keeps.when (fun _ => ?_) ?_)

end Sys2Proof.Machine
end

