-- ==== Sys2Proof/Laws/KeepTurnspitCmds.lean ====
section
/-! SUPPORT. What the operations of Machine/TurnspitCmds.lean keep (Laws/Keeps.lean). -/
set_option linter.unusedSimpArgs false
set_option linter.unusedVariables false
namespace Sys2Proof.Machine
open Sys2Proof.Reg

theorem startAcquire_keeps {z : State} (s : State) (n : Nat) (h : Keeps z s) : Keeps z (startAcquire s n) := by
  unfold startAcquire
  simp (maxDischargeDepth := 40) only [implies_true, Keeps.refl, Keeps.ite, Keeps.upd, Keeps.foldl, Keeps.when, Keeps.put, Keeps.puts, Keeps.setByte, Keeps.setBytes, Keeps.clearRange, Keeps.updRegs, Keeps.updMemNil, Keeps.updViolNil, Keeps.updViolDrop, Keeps.updT, Keeps.updTzero, RegFile.resetBlock, State.setSrc_keeps, h]

theorem enableSource_keeps {z : State} (s : State) (m : Nat) (n : Nat) (h : Keeps z s) : Keeps z (enableSource s m n) := by
  unfold enableSource
  repeat' (first | (simp (maxDischargeDepth := 40) only [implies_true, Keeps.refl, Keeps.ite, Keeps.upd, Keeps.foldl, Keeps.when, Keeps.put, Keeps.puts, Keeps.setByte, Keeps.setBytes, Keeps.clearRange, Keeps.updRegs, Keeps.updMemNil, Keeps.updViolNil, Keeps.updViolDrop, Keeps.updT, Keeps.updTzero, RegFile.resetBlock, State.setSrc_keeps, derivedUpdate_keeps, propagate_keeps, startAcquire_keeps, tspConflict_keeps, h]; done) | dsimp only | with_reducible refine Keeps.ite ?_ ?_ | split | with_reducible refine Keeps.foldl (fun _ _ => ?_) ?_ | with_reducible refine Keeps.foldl1 (fun _ _ => ?_) ?_ | with_reducible refine Keeps.foldl2 (fun _ _ => ?_) ?_ | with_reducible refine Keeps.foldl3 (fun _ _ => ?_) ?_ | with_reducible refine Keeps.when (fun _ => ?_) ?_)

theorem disarmOn_keeps {z : State} (s : State) (n : Nat) (h : Keeps z s) : Keeps z (disarmOn s n) := by
  unfold disarmOn
  repeat' (first | (simp (maxDischargeDepth := 40) only [implies_true, Keeps.refl, Keeps.ite, Keeps.upd, Keeps.foldl, Keeps.when, Keeps.put, Keeps.puts, Keeps.setByte, Keeps.setBytes, Keeps.clearRange, Keeps.updRegs, Keeps.updMemNil, Keeps.updViolNil, Keeps.updViolDrop, Keeps.updT, Keeps.updTzero, RegFile.resetBlock, disarmUnit_keeps, h]; done) | dsimp only | with_reducible refine Keeps.ite ?_ ?_ | split | with_reducible refine Keeps.foldl (fun _ _ => ?_) ?_ | with_reducible refine Keeps.foldl1 (fun _ _ => ?_) ?_ | with_reducible refine Keeps.foldl2 (fun _ _ => ?_) ?_ | with_reducible refine Keeps.foldl3 (fun _ _ => ?_) ?_ | with_reducible refine Keeps.when (fun _ => ?_) ?_)

theorem disableSource_keeps {z : State} (s : State) (n : Nat) (h : Keeps z s) : Keeps z (disableSource s n) := by
  unfold disableSource
  simp (maxDischargeDepth := 40) only [implies_true, Keeps.refl, Keeps.ite, Keeps.upd, Keeps.foldl, Keeps.when, Keeps.put, Keeps.puts, Keeps.setByte, Keeps.setBytes, Keeps.clearRange, Keeps.updRegs, Keeps.updMemNil, Keeps.updViolNil, Keeps.updViolDrop, Keeps.updT, Keeps.updTzero, RegFile.resetBlock, State.setSrc_keeps, cascade_keeps, disarmOn_keeps, freeze_keeps, h]

theorem State.putWord_keeps {z : State} (s : State) (l : List (Fld × Nat)) (v : Nat) (h : Keeps z s) : Keeps z (State.putWord s l v) := by
  unfold State.putWord
  simp (maxDischargeDepth := 40) only [implies_true, Keeps.refl, Keeps.ite, Keeps.upd, Keeps.foldl, Keeps.when, Keeps.put, Keeps.puts, Keeps.setByte, Keeps.setBytes, Keeps.clearRange, Keeps.updRegs, Keeps.updMemNil, Keeps.updViolNil, Keeps.updViolDrop, Keeps.updT, Keeps.updTzero, RegFile.resetBlock, h]

theorem writeLocked_keeps {z : State} (s : State) (n : Nat) (en : Bool) (l : List (Fld × Nat)) (v : Nat) (h : Keeps z s) : Keeps z (writeLocked s n en l v) := by
  unfold writeLocked
  simp (maxDischargeDepth := 40) only [implies_true, Keeps.refl, Keeps.ite, Keeps.upd, Keeps.foldl, Keeps.when, Keeps.put, Keeps.puts, Keeps.setByte, Keeps.setBytes, Keeps.clearRange, Keeps.updRegs, Keeps.updMemNil, Keeps.updViolNil, Keeps.updViolDrop, Keeps.updT, Keeps.updTzero, RegFile.resetBlock, State.putWord_keeps, h]

theorem srcCfgWrite_keeps {z : State} (s : State) (m : Nat) (n : Nat) (v : Nat) (h : Keeps z s) : Keeps z (srcCfgWrite s m n v) := by
  unfold srcCfgWrite
  simp (maxDischargeDepth := 40) only [implies_true, Keeps.refl, Keeps.ite, Keeps.upd, Keeps.foldl, Keeps.when, Keeps.put, Keeps.puts, Keeps.setByte, Keeps.setBytes, Keeps.clearRange, Keeps.updRegs, Keeps.updMemNil, Keeps.updViolNil, Keeps.updViolDrop, Keeps.updT, Keeps.updTzero, RegFile.resetBlock, State.putWord_keeps, disableSource_keeps, enableSource_keeps, withJumps_keeps, writeLocked_keeps, h]

theorem tspSrcCfgWrite_keeps {z : State} (s : State) (m : Nat) (n : Nat) (v : Nat) (h : Keeps z s) : Keeps z (tspSrcCfgWrite s m n v) := by
  unfold tspSrcCfgWrite
  simp (maxDischargeDepth := 40) only [implies_true, Keeps.refl, Keeps.ite, Keeps.upd, Keeps.foldl, Keeps.when, Keeps.put, Keeps.puts, Keeps.setByte, Keeps.setBytes, Keeps.clearRange, Keeps.updRegs, Keeps.updMemNil, Keeps.updViolNil, Keeps.updViolDrop, Keeps.updT, Keeps.updTzero, RegFile.resetBlock, State.refuseWrite_keeps, srcCfgWrite_keeps, h]

theorem tspSrcInWrite_keeps {z : State} (s : State) (m : Nat) (n : Nat) (v : Nat) (h : Keeps z s) : Keeps z (tspSrcInWrite s m n v) := by
  unfold tspSrcInWrite
  simp (maxDischargeDepth := 40) only [implies_true, Keeps.refl, Keeps.ite, Keeps.upd, Keeps.foldl, Keeps.when, Keeps.put, Keeps.puts, Keeps.setByte, Keeps.setBytes, Keeps.clearRange, Keeps.updRegs, Keeps.updMemNil, Keeps.updViolNil, Keeps.updViolDrop, Keeps.updT, Keeps.updTzero, RegFile.resetBlock, State.refuseWrite_keeps, writeLocked_keeps, h]

theorem tspSrcScaleWrite_keeps {z : State} (s : State) (m : Nat) (n : Nat) (v : Nat) (h : Keeps z s) : Keeps z (tspSrcScaleWrite s m n v) := by
  unfold tspSrcScaleWrite
  simp (maxDischargeDepth := 40) only [implies_true, Keeps.refl, Keeps.ite, Keeps.upd, Keeps.foldl, Keeps.when, Keeps.put, Keeps.puts, Keeps.setByte, Keeps.setBytes, Keeps.clearRange, Keeps.updRegs, Keeps.updMemNil, Keeps.updViolNil, Keeps.updViolDrop, Keeps.updT, Keeps.updTzero, RegFile.resetBlock, State.refuseWrite_keeps, writeLocked_keeps, h]

theorem tspSrcLossWrite_keeps {z : State} (s : State) (m : Nat) (n : Nat) (v : Nat) (h : Keeps z s) : Keeps z (tspSrcLossWrite s m n v) := by
  unfold tspSrcLossWrite
  simp (maxDischargeDepth := 40) only [implies_true, Keeps.refl, Keeps.ite, Keeps.upd, Keeps.foldl, Keeps.when, Keeps.put, Keeps.puts, Keeps.setByte, Keeps.setBytes, Keeps.clearRange, Keeps.updRegs, Keeps.updMemNil, Keeps.updViolNil, Keeps.updViolDrop, Keeps.updT, Keeps.updTzero, RegFile.resetBlock, State.putWord_keeps, State.refuseWrite_keeps, h]

theorem tspSrcOfsWrite_keeps {z : State} (s : State) (m : Nat) (n : Nat) (v : Nat) (h : Keeps z s) : Keeps z (tspSrcOfsWrite s m n v) := by
  unfold tspSrcOfsWrite
  simp (maxDischargeDepth := 40) only [implies_true, Keeps.refl, Keeps.ite, Keeps.upd, Keeps.foldl, Keeps.when, Keeps.put, Keeps.puts, Keeps.setByte, Keeps.setBytes, Keeps.clearRange, Keeps.updRegs, Keeps.updMemNil, Keeps.updViolNil, Keeps.updViolDrop, Keeps.updT, Keeps.updTzero, RegFile.resetBlock, State.refuseWrite_keeps, h]

theorem countIllegal_keeps {z : State} (s : State) (n : Nat) (h : Keeps z s) : Keeps z (countIllegal s n) := by
  unfold countIllegal
  simp (maxDischargeDepth := 40) only [implies_true, Keeps.refl, Keeps.ite, Keeps.upd, Keeps.foldl, Keeps.when, Keeps.put, Keeps.puts, Keeps.setByte, Keeps.setBytes, Keeps.clearRange, Keeps.updRegs, Keeps.updMemNil, Keeps.updViolNil, Keeps.updViolDrop, Keeps.updT, Keeps.updTzero, RegFile.resetBlock, State.bump_keeps, h]

theorem noteEdge_keeps {z : State} (s : State) (n : Nat) (reverse : Bool) (h : Keeps z s) : Keeps z (noteEdge s n reverse) := by
  unfold noteEdge
  simp (maxDischargeDepth := 40) only [implies_true, Keeps.refl, Keeps.ite, Keeps.upd, Keeps.foldl, Keeps.when, Keeps.put, Keeps.puts, Keeps.setByte, Keeps.setBytes, Keeps.clearRange, Keeps.updRegs, Keeps.updMemNil, Keeps.updViolNil, Keeps.updViolDrop, Keeps.updT, Keeps.updTzero, RegFile.resetBlock, State.setSrc_keeps, h]

theorem noteFault_keeps {z : State} (s : State) (n : Nat) (win : Nat) (h : Keeps z s) : Keeps z (noteFault s n win) := by
  unfold noteFault
  simp (maxDischargeDepth := 40) only [implies_true, Keeps.refl, Keeps.ite, Keeps.upd, Keeps.foldl, Keeps.when, Keeps.put, Keeps.puts, Keeps.setByte, Keeps.setBytes, Keeps.clearRange, Keeps.updRegs, Keeps.updMemNil, Keeps.updViolNil, Keeps.updViolDrop, Keeps.updT, Keeps.updTzero, RegFile.resetBlock, State.setSrc_keeps, countIllegal_keeps, sourceLoss_keeps, h]

theorem encoderEdge_keeps {z : State} (s : State) (n : Nat) (a : Bool) (b : Bool) (samples : Nat) (h : Keeps z s) : Keeps z (encoderEdge s n a b samples) := by
  unfold encoderEdge
  simp (maxDischargeDepth := 40) only [implies_true, Keeps.refl, Keeps.ite, Keeps.upd, Keeps.foldl, Keeps.when, Keeps.put, Keeps.puts, Keeps.setByte, Keeps.setBytes, Keeps.clearRange, Keeps.updRegs, Keeps.updMemNil, Keeps.updViolNil, Keeps.updViolDrop, Keeps.updT, Keeps.updTzero, RegFile.resetBlock, State.setSrc_keeps, countIllegal_keeps, noteEdge_keeps, noteFault_keeps, updateSource_keeps, h]

theorem tspEncoderEdge_keeps {z : State} (s : State) (n : Nat) (a : Bool) (b : Bool) (samples : Nat) (h : Keeps z s) : Keeps z (tspEncoderEdge s n a b samples) := by
  unfold tspEncoderEdge
  simp (maxDischargeDepth := 40) only [implies_true, Keeps.refl, Keeps.ite, Keeps.upd, Keeps.foldl, Keeps.when, Keeps.put, Keeps.puts, Keeps.setByte, Keeps.setBytes, Keeps.clearRange, Keeps.updRegs, Keeps.updMemNil, Keeps.updViolNil, Keeps.updViolDrop, Keeps.updT, Keeps.updTzero, RegFile.resetBlock, encoderEdge_keeps, withJumps_keeps, h]

theorem encoderZ_keeps {z : State} (s : State) (n : Nat) (samples : Nat) (h : Keeps z s) : Keeps z (encoderZ s n samples) := by
  unfold encoderZ
  simp (maxDischargeDepth := 40) only [implies_true, Keeps.refl, Keeps.ite, Keeps.upd, Keeps.foldl, Keeps.when, Keeps.put, Keeps.puts, Keeps.setByte, Keeps.setBytes, Keeps.clearRange, Keeps.updRegs, Keeps.updMemNil, Keeps.updViolNil, Keeps.updViolDrop, Keeps.updT, Keeps.updTzero, RegFile.resetBlock, State.bump_keeps, State.setSrc_keeps, acquireSource_keeps, countIllegal_keeps, h]

theorem tspEncoderZ_keeps {z : State} (s : State) (n : Nat) (samples : Nat) (h : Keeps z s) : Keeps z (tspEncoderZ s n samples) := by
  unfold tspEncoderZ
  simp (maxDischargeDepth := 40) only [implies_true, Keeps.refl, Keeps.ite, Keeps.upd, Keeps.foldl, Keeps.when, Keeps.put, Keeps.puts, Keeps.setByte, Keeps.setBytes, Keeps.clearRange, Keeps.updRegs, Keeps.updMemNil, Keeps.updViolNil, Keeps.updViolDrop, Keeps.updT, Keeps.updTzero, RegFile.resetBlock, encoderZ_keeps, withJumps_keeps, h]

theorem hallCode_keeps {z : State} (s : State) (n : Nat) (code : Nat) (samples : Nat) (h : Keeps z s) : Keeps z (hallCode s n code samples) := by
  unfold hallCode
  repeat' (first | (simp (maxDischargeDepth := 40) only [implies_true, Keeps.refl, Keeps.ite, Keeps.upd, Keeps.foldl, Keeps.when, Keeps.put, Keeps.puts, Keeps.setByte, Keeps.setBytes, Keeps.clearRange, Keeps.updRegs, Keeps.updMemNil, Keeps.updViolNil, Keeps.updViolDrop, Keeps.updT, Keeps.updTzero, RegFile.resetBlock, State.setSrc_keeps, acquireSource_keeps, countIllegal_keeps, noteEdge_keeps, noteFault_keeps, sourceLoss_keeps, updateSource_keeps, h]; done) | dsimp only | with_reducible refine Keeps.ite ?_ ?_ | split | with_reducible refine Keeps.foldl (fun _ _ => ?_) ?_ | with_reducible refine Keeps.foldl1 (fun _ _ => ?_) ?_ | with_reducible refine Keeps.foldl2 (fun _ _ => ?_) ?_ | with_reducible refine Keeps.foldl3 (fun _ _ => ?_) ?_ | with_reducible refine Keeps.when (fun _ => ?_) ?_)

theorem tspHallCode_keeps {z : State} (s : State) (n : Nat) (code : Nat) (samples : Nat) (h : Keeps z s) : Keeps z (tspHallCode s n code samples) := by
  unfold tspHallCode
  simp (maxDischargeDepth := 40) only [implies_true, Keeps.refl, Keeps.ite, Keeps.upd, Keeps.foldl, Keeps.when, Keeps.put, Keeps.puts, Keeps.setByte, Keeps.setBytes, Keeps.clearRange, Keeps.updRegs, Keeps.updMemNil, Keeps.updViolNil, Keeps.updViolDrop, Keeps.updT, Keeps.updTzero, RegFile.resetBlock, hallCode_keeps, withJumps_keeps, h]

theorem noteRefSign_keeps {z : State} (s : State) (n : Nat) (h : Keeps z s) : Keeps z (noteRefSign s n) := by
  unfold noteRefSign
  simp (maxDischargeDepth := 40) only [implies_true, Keeps.refl, Keeps.ite, Keeps.upd, Keeps.foldl, Keeps.when, Keeps.put, Keeps.puts, Keeps.setByte, Keeps.setBytes, Keeps.clearRange, Keeps.updRegs, Keeps.updMemNil, Keeps.updViolNil, Keeps.updViolDrop, Keeps.updT, Keeps.updTzero, RegFile.resetBlock, State.setSrc_keeps, h]

theorem wheelPulse_keeps {z : State} (s : State) (n : Nat) (samples : Nat) (h : Keeps z s) : Keeps z (wheelPulse s n samples) := by
  unfold wheelPulse
  simp (maxDischargeDepth := 40) only [implies_true, Keeps.refl, Keeps.ite, Keeps.upd, Keeps.foldl, Keeps.when, Keeps.put, Keeps.puts, Keeps.setByte, Keeps.setBytes, Keeps.clearRange, Keeps.updRegs, Keeps.updMemNil, Keeps.updViolNil, Keeps.updViolDrop, Keeps.updT, Keeps.updTzero, RegFile.resetBlock, State.setSrc_keeps, countIllegal_keeps, noteEdge_keeps, noteRefSign_keeps, propagate_keeps, updateSource_keeps, h]

theorem tspWheelPulse_keeps {z : State} (s : State) (n : Nat) (samples : Nat) (h : Keeps z s) : Keeps z (tspWheelPulse s n samples) := by
  unfold tspWheelPulse
  simp (maxDischargeDepth := 40) only [implies_true, Keeps.refl, Keeps.ite, Keeps.upd, Keeps.foldl, Keeps.when, Keeps.put, Keeps.puts, Keeps.setByte, Keeps.setBytes, Keeps.clearRange, Keeps.updRegs, Keeps.updMemNil, Keeps.updViolNil, Keeps.updViolDrop, Keeps.updT, Keeps.updTzero, RegFile.resetBlock, wheelPulse_keeps, withJumps_keeps, h]

theorem tspCoastTimeout_keeps {z : State} (s : State) (n : Nat) (h : Keeps z s) : Keeps z (tspCoastTimeout s n) := by
  unfold tspCoastTimeout
  simp (maxDischargeDepth := 40) only [implies_true, Keeps.refl, Keeps.ite, Keeps.upd, Keeps.foldl, Keeps.when, Keeps.put, Keeps.puts, Keeps.setByte, Keeps.setBytes, Keeps.clearRange, Keeps.updRegs, Keeps.updMemNil, Keeps.updViolNil, Keeps.updViolDrop, Keeps.updT, Keeps.updTzero, RegFile.resetBlock, cascade_keeps, raiseLoss_keeps, toLost_keeps, withJumps_keeps, h]

theorem tspStandstill_keeps {z : State} (s : State) (n : Nat) (h : Keeps z s) : Keeps z (tspStandstill s n) := by
  unfold tspStandstill
  simp (maxDischargeDepth := 40) only [implies_true, Keeps.refl, Keeps.ite, Keeps.upd, Keeps.foldl, Keeps.when, Keeps.put, Keeps.puts, Keeps.setByte, Keeps.setBytes, Keeps.clearRange, Keeps.updRegs, Keeps.updMemNil, Keeps.updViolNil, Keeps.updViolDrop, Keeps.updT, Keeps.updTzero, RegFile.resetBlock, h]

theorem cfgIgn_keeps {z : State} (s : State) (n : Nat) (h : Keeps z s) : Keeps z (cfgIgn s n) := by
  unfold cfgIgn
  simp (maxDischargeDepth := 40) only [implies_true, Keeps.refl, Keeps.ite, Keeps.upd, Keeps.foldl, Keeps.when, Keeps.put, Keeps.puts, Keeps.setByte, Keeps.setBytes, Keeps.clearRange, Keeps.updRegs, Keeps.updMemNil, Keeps.updViolNil, Keeps.updViolDrop, Keeps.updT, Keeps.updTzero, RegFile.resetBlock, h]

theorem resyncCmd_keeps {z : State} (s : State) (n : Nat) (h : Keeps z s) : Keeps z (resyncCmd s n) := by
  unfold resyncCmd
  simp (maxDischargeDepth := 40) only [implies_true, Keeps.refl, Keeps.ite, Keeps.upd, Keeps.foldl, Keeps.when, Keeps.put, Keeps.puts, Keeps.setByte, Keeps.setBytes, Keeps.clearRange, Keeps.updRegs, Keeps.updMemNil, Keeps.updViolNil, Keeps.updViolDrop, Keeps.updT, Keeps.updTzero, RegFile.resetBlock, State.setSrc_keeps, cascade_keeps, cfgIgn_keeps, derivedUpdate_keeps, freeze_keeps, propagate_keeps, startAcquire_keeps, h]

theorem switchCmd_keeps {z : State} (s : State) (n : Nat) (h : Keeps z s) : Keeps z (switchCmd s n) := by
  unfold switchCmd
  simp (maxDischargeDepth := 40) only [implies_true, Keeps.refl, Keeps.ite, Keeps.upd, Keeps.foldl, Keeps.when, Keeps.put, Keeps.puts, Keeps.setByte, Keeps.setBytes, Keeps.clearRange, Keeps.updRegs, Keeps.updMemNil, Keeps.updViolNil, Keeps.updViolDrop, Keeps.updT, Keeps.updTzero, RegFile.resetBlock, State.setSrc_keeps, cfgIgn_keeps, h]

theorem swbackCmd_keeps {z : State} (s : State) (n : Nat) (h : Keeps z s) : Keeps z (swbackCmd s n) := by
  unfold swbackCmd
  repeat' (first | (simp (maxDischargeDepth := 40) only [implies_true, Keeps.refl, Keeps.ite, Keeps.upd, Keeps.foldl, Keeps.when, Keeps.put, Keeps.puts, Keeps.setByte, Keeps.setBytes, Keeps.clearRange, Keeps.updRegs, Keeps.updMemNil, Keeps.updViolNil, Keeps.updViolDrop, Keeps.updT, Keeps.updTzero, RegFile.resetBlock, State.setSrc_keeps, cfgIgn_keeps, h]; done) | dsimp only | with_reducible refine Keeps.ite ?_ ?_ | split | with_reducible refine Keeps.foldl (fun _ _ => ?_) ?_ | with_reducible refine Keeps.foldl1 (fun _ _ => ?_) ?_ | with_reducible refine Keeps.foldl2 (fun _ _ => ?_) ?_ | with_reducible refine Keeps.foldl3 (fun _ _ => ?_) ?_ | with_reducible refine Keeps.when (fun _ => ?_) ?_)

theorem tspSrcCmdWrite_keeps {z : State} (s : State) (m : Nat) (n : Nat) (v : Nat) (h : Keeps z s) : Keeps z (tspSrcCmdWrite s m n v) := by
  unfold tspSrcCmdWrite
  simp (maxDischargeDepth := 40) only [implies_true, Keeps.refl, Keeps.ite, Keeps.upd, Keeps.foldl, Keeps.when, Keeps.put, Keeps.puts, Keeps.setByte, Keeps.setBytes, Keeps.clearRange, Keeps.updRegs, Keeps.updMemNil, Keeps.updViolNil, Keeps.updViolDrop, Keeps.updT, Keeps.updTzero, RegFile.resetBlock, State.refuseWrite_keeps, cfgIgn_keeps, resyncCmd_keeps, swbackCmd_keeps, switchCmd_keeps, withJumps_keeps, h]

theorem claimUnit_keeps {z : State} (s : State) (m : Nat) (u : Nat) (h : Keeps z s) : Keeps z (claimUnit s m u) := by
  unfold claimUnit
  simp (maxDischargeDepth := 40) only [implies_true, Keeps.refl, Keeps.ite, Keeps.upd, Keeps.foldl, Keeps.when, Keeps.put, Keeps.puts, Keeps.setByte, Keeps.setBytes, Keeps.clearRange, Keeps.updRegs, Keeps.updMemNil, Keeps.updViolNil, Keeps.updViolDrop, Keeps.updT, Keeps.updTzero, RegFile.resetBlock, tspConflict_keeps, h]

theorem discardUnitWrite_keeps {z : State} (s : State) (h : Keeps z s) : Keeps z (discardUnitWrite s) := by
  unfold discardUnitWrite
  simp (maxDischargeDepth := 40) only [implies_true, Keeps.refl, Keeps.ite, Keeps.upd, Keeps.foldl, Keeps.when, Keeps.put, Keeps.puts, Keeps.setByte, Keeps.setBytes, Keeps.clearRange, Keeps.updRegs, Keeps.updMemNil, Keeps.updViolNil, Keeps.updViolDrop, Keeps.updT, Keeps.updTzero, RegFile.resetBlock, State.bump_keeps, h]

theorem releaseUnit_keeps {z : State} (s : State) (m : Nat) (u : Nat) (h : Keeps z s) : Keeps z (releaseUnit s m u) := by
  unfold releaseUnit
  simp (maxDischargeDepth := 40) only [implies_true, Keeps.refl, Keeps.ite, Keeps.upd, Keeps.foldl, Keeps.when, Keeps.put, Keeps.puts, Keeps.setByte, Keeps.setBytes, Keeps.clearRange, Keeps.updRegs, Keeps.updMemNil, Keeps.updViolNil, Keeps.updViolDrop, Keeps.updT, Keeps.updTzero, RegFile.resetBlock, disarmUnit_keeps, discardUnitWrite_keeps, h]

theorem tspCmpOwnWrite_keeps {z : State} (s : State) (m : Nat) (u : Nat) (v : Nat) (h : Keeps z s) : Keeps z (tspCmpOwnWrite s m u v) := by
  unfold tspCmpOwnWrite
  simp (maxDischargeDepth := 40) only [implies_true, Keeps.refl, Keeps.ite, Keeps.upd, Keeps.foldl, Keeps.when, Keeps.put, Keeps.puts, Keeps.setByte, Keeps.setBytes, Keeps.clearRange, Keeps.updRegs, Keeps.updMemNil, Keeps.updViolNil, Keeps.updViolDrop, Keeps.updT, Keeps.updTzero, RegFile.resetBlock, State.refuseWrite_keeps, claimUnit_keeps, discardUnitWrite_keeps, releaseUnit_keeps, h]

theorem armNow_keeps {z : State} (s : State) (u : Nat) (h : Keeps z s) : Keeps z (armNow s u) := by
  unfold armNow
  simp (maxDischargeDepth := 40) only [implies_true, Keeps.refl, Keeps.ite, Keeps.upd, Keeps.foldl, Keeps.when, Keeps.put, Keeps.puts, Keeps.setByte, Keeps.setBytes, Keeps.clearRange, Keeps.updRegs, Keeps.updMemNil, Keeps.updViolNil, Keeps.updViolDrop, Keeps.updT, Keeps.updTzero, RegFile.resetBlock, State.setCmp_keeps, h]

theorem cancelIfDue_keeps {z : State} (s : State) (u : Nat) (h : Keeps z s) : Keeps z (cancelIfDue s u) := by
  unfold cancelIfDue
  repeat' (first | (simp (maxDischargeDepth := 40) only [implies_true, Keeps.refl, Keeps.ite, Keeps.upd, Keeps.foldl, Keeps.when, Keeps.put, Keeps.puts, Keeps.setByte, Keeps.setBytes, Keeps.clearRange, Keeps.updRegs, Keeps.updMemNil, Keeps.updViolNil, Keeps.updViolDrop, Keeps.updT, Keeps.updTzero, RegFile.resetBlock, State.bump_keeps, State.setCmp_keeps, h]; done) | dsimp only | with_reducible refine Keeps.ite ?_ ?_ | split | with_reducible refine Keeps.foldl (fun _ _ => ?_) ?_ | with_reducible refine Keeps.foldl1 (fun _ _ => ?_) ?_ | with_reducible refine Keeps.foldl2 (fun _ _ => ?_) ?_ | with_reducible refine Keeps.foldl3 (fun _ _ => ?_) ?_ | with_reducible refine Keeps.when (fun _ => ?_) ?_)

theorem armUnit_keeps {z : State} (s : State) (m : Nat) (u : Nat) (h : Keeps z s) : Keeps z (armUnit s m u) := by
  unfold armUnit
  simp (maxDischargeDepth := 40) only [implies_true, Keeps.refl, Keeps.ite, Keeps.upd, Keeps.foldl, Keeps.when, Keeps.put, Keeps.puts, Keeps.setByte, Keeps.setBytes, Keeps.clearRange, Keeps.updRegs, Keeps.updMemNil, Keeps.updViolNil, Keeps.updViolDrop, Keeps.updT, Keeps.updTzero, RegFile.resetBlock, armNow_keeps, cancelIfDue_keeps, h]

theorem disarmCmd_keeps {z : State} (s : State) (u : Nat) (h : Keeps z s) : Keeps z (disarmCmd s u) := by
  unfold disarmCmd
  simp (maxDischargeDepth := 40) only [implies_true, Keeps.refl, Keeps.ite, Keeps.upd, Keeps.foldl, Keeps.when, Keeps.put, Keeps.puts, Keeps.setByte, Keeps.setBytes, Keeps.clearRange, Keeps.updRegs, Keeps.updMemNil, Keeps.updViolNil, Keeps.updViolDrop, Keeps.updT, Keeps.updTzero, RegFile.resetBlock, cancelIfDue_keeps, disarmUnit_keeps, h]

theorem tspCmpCtrlWrite_keeps {z : State} (s : State) (m : Nat) (u : Nat) (v : Nat) (h : Keeps z s) : Keeps z (tspCmpCtrlWrite s m u v) := by
  unfold tspCmpCtrlWrite
  simp (maxDischargeDepth := 40) only [implies_true, Keeps.refl, Keeps.ite, Keeps.upd, Keeps.foldl, Keeps.when, Keeps.put, Keeps.puts, Keeps.setByte, Keeps.setBytes, Keeps.clearRange, Keeps.updRegs, Keeps.updMemNil, Keeps.updViolNil, Keeps.updViolDrop, Keeps.updT, Keeps.updTzero, RegFile.resetBlock, State.refuseWrite_keeps, armUnit_keeps, disarmCmd_keeps, discardUnitWrite_keeps, h]

theorem writeTarget_keeps {z : State} (s : State) (u : Nat) (high : Bool) (v : Nat) (h : Keeps z s) : Keeps z (writeTarget s u high v) := by
  unfold writeTarget
  simp (maxDischargeDepth := 40) only [implies_true, Keeps.refl, Keeps.ite, Keeps.upd, Keeps.foldl, Keeps.when, Keeps.put, Keeps.puts, Keeps.setByte, Keeps.setBytes, Keeps.clearRange, Keeps.updRegs, Keeps.updMemNil, Keeps.updViolNil, Keeps.updViolDrop, Keeps.updT, Keeps.updTzero, RegFile.resetBlock, State.setCmp_keeps, h]

theorem tspCmpRegWrite_keeps {z : State} (s : State) (m : Nat) (u : Nat) (off : Nat) (v : Nat) (h : Keeps z s) : Keeps z (tspCmpRegWrite s m u off v) := by
  unfold tspCmpRegWrite
  simp (maxDischargeDepth := 40) only [implies_true, Keeps.refl, Keeps.ite, Keeps.upd, Keeps.foldl, Keeps.when, Keeps.put, Keeps.puts, Keeps.setByte, Keeps.setBytes, Keeps.clearRange, Keeps.updRegs, Keeps.updMemNil, Keeps.updViolNil, Keeps.updViolDrop, Keeps.updT, Keeps.updTzero, RegFile.resetBlock, State.putWord_keeps, State.refuseWrite_keeps, discardUnitWrite_keeps, writeTarget_keeps, h]

theorem tspAngRead_keeps {z : State} (s : State) (m : Nat) (n : Nat) (h : Keeps z s) : Keeps z (tspAngRead s m n) := by
  unfold tspAngRead
  simp (maxDischargeDepth := 40) only [implies_true, Keeps.refl, Keeps.ite, Keeps.upd, Keeps.foldl, Keeps.when, Keeps.put, Keeps.puts, Keeps.setByte, Keeps.setBytes, Keeps.clearRange, Keeps.updRegs, Keeps.updMemNil, Keeps.updViolNil, Keeps.updViolDrop, Keeps.updT, Keeps.updTzero, RegFile.resetBlock, State.answer_keeps, State.latch_keeps, State.refuseRead_keeps, h]

theorem tspConflictRead_keeps {z : State} (s : State) (m : Nat) (h : Keeps z s) : Keeps z (tspConflictRead s m) := by
  unfold tspConflictRead
  simp (maxDischargeDepth := 40) only [implies_true, Keeps.refl, Keeps.ite, Keeps.upd, Keeps.foldl, Keeps.when, Keeps.put, Keeps.puts, Keeps.setByte, Keeps.setBytes, Keeps.clearRange, Keeps.updRegs, Keeps.updMemNil, Keeps.updViolNil, Keeps.updViolDrop, Keeps.updT, Keeps.updTzero, RegFile.resetBlock, State.answer_keeps, State.refuseRead_keeps, h]

theorem nsTick_keeps {z : State} (s : State) (h : Keeps z s) : Keeps z (nsTick s) := by
  unfold nsTick
  simp (maxDischargeDepth := 40) only [implies_true, Keeps.refl, Keeps.ite, Keeps.upd, Keeps.foldl, Keeps.when, Keeps.put, Keeps.puts, Keeps.setByte, Keeps.setBytes, Keeps.clearRange, Keeps.updRegs, Keeps.updMemNil, Keeps.updViolNil, Keeps.updViolDrop, Keeps.updT, Keeps.updTzero, RegFile.resetBlock, noteRefSign_keeps, h]

end Sys2Proof.Machine
end

