-- ==== Sys2Proof/Laws/KeepPwm.lean ====
section
/-! SUPPORT. What the operations of Machine/Pwm.lean keep (Laws/Keeps.lean). -/
set_option linter.unusedSimpArgs false
set_option linter.unusedVariables false
namespace Sys2Proof.Machine
open Sys2Proof.Reg

theorem noteBallEdge_keeps {z : State} (s : State) (n : Nat) (h : Keeps z s) : Keeps z (noteBallEdge s n) := by
  unfold noteBallEdge
  simp (maxDischargeDepth := 40) only [implies_true, Keeps.refl, Keeps.ite, Keeps.upd, Keeps.foldl, Keeps.when, Keeps.put, Keeps.puts, Keeps.setByte, Keeps.setBytes, Keeps.clearRange, Keeps.updRegs, Keeps.updMemNil, Keeps.updViolNil, Keeps.updViolDrop, Keeps.updT, Keeps.updTzero, RegFile.resetBlock, State.setChan_keeps, h]

theorem setLegOut_keeps {z : State} (s : State) (n : Nat) (j : Nat) (l : Leg) (o : Bool × Bool) (h : Keeps z s) : Keeps z (setLegOut s n j l o) := by
  unfold setLegOut
  simp (maxDischargeDepth := 40) only [implies_true, Keeps.refl, Keeps.ite, Keeps.upd, Keeps.foldl, Keeps.when, Keeps.put, Keeps.puts, Keeps.setByte, Keeps.setBytes, Keeps.clearRange, Keeps.updRegs, Keeps.updMemNil, Keeps.updViolNil, Keeps.updViolDrop, Keeps.updT, Keeps.updTzero, RegFile.resetBlock, State.setChan_keeps, noteBallEdge_keeps, h]

theorem refreshLeg_keeps {z : State} (s : State) (n : Nat) (j : Nat) (h : Keeps z s) : Keeps z (refreshLeg s n j) := by
  unfold refreshLeg
  repeat' (first | (simp (maxDischargeDepth := 40) only [implies_true, Keeps.refl, Keeps.ite, Keeps.upd, Keeps.foldl, Keeps.when, Keeps.put, Keeps.puts, Keeps.setByte, Keeps.setBytes, Keeps.clearRange, Keeps.updRegs, Keeps.updMemNil, Keeps.updViolNil, Keeps.updViolDrop, Keeps.updT, Keeps.updTzero, RegFile.resetBlock, setLegOut_keeps, h]; done) | dsimp only | with_reducible refine Keeps.ite ?_ ?_ | split | with_reducible refine Keeps.foldl (fun _ _ => ?_) ?_ | with_reducible refine Keeps.foldl1 (fun _ _ => ?_) ?_ | with_reducible refine Keeps.foldl2 (fun _ _ => ?_) ?_ | with_reducible refine Keeps.foldl3 (fun _ _ => ?_) ?_ | with_reducible refine Keeps.when (fun _ => ?_) ?_)

theorem refreshLegs_keeps {z : State} (s : State) (n : Nat) (h : Keeps z s) : Keeps z (refreshLegs s n) := by
  unfold refreshLegs
  simp (maxDischargeDepth := 40) only [implies_true, Keeps.refl, Keeps.ite, Keeps.upd, Keeps.foldl, Keeps.when, Keeps.put, Keeps.puts, Keeps.setByte, Keeps.setBytes, Keeps.clearRange, Keeps.updRegs, Keeps.updMemNil, Keeps.updViolNil, Keeps.updViolDrop, Keeps.updT, Keeps.updTzero, RegFile.resetBlock, refreshLeg_keeps, h]

theorem ivsLeave_keeps {z : State} (s : State) (n : Nat) (h : Keeps z s) : Keeps z (ivsLeave s n) := by
  unfold ivsLeave
  simp (maxDischargeDepth := 40) only [implies_true, Keeps.refl, Keeps.ite, Keeps.upd, Keeps.foldl, Keeps.when, Keeps.put, Keeps.puts, Keeps.setByte, Keeps.setBytes, Keeps.clearRange, Keeps.updRegs, Keeps.updMemNil, Keeps.updViolNil, Keeps.updViolDrop, Keeps.updT, Keeps.updTzero, RegFile.resetBlock, h]

theorem endRun_keeps {z : State} (s : State) (n : Nat) (loss : Bool) (h : Keeps z s) : Keeps z (endRun s n loss) := by
  unfold endRun
  simp (maxDischargeDepth := 40) only [implies_true, Keeps.refl, Keeps.ite, Keeps.upd, Keeps.foldl, Keeps.when, Keeps.put, Keeps.puts, Keeps.setByte, Keeps.setBytes, Keeps.clearRange, Keeps.updRegs, Keeps.updMemNil, Keeps.updViolNil, Keeps.updViolDrop, Keeps.updT, Keeps.updTzero, RegFile.resetBlock, State.setChan_keeps, ivsLeave_keeps, h]

theorem dspLoss_keeps {z : State} (s : State) (n : Nat) (h : Keeps z s) : Keeps z (dspLoss s n) := by
  unfold dspLoss
  simp (maxDischargeDepth := 40) only [implies_true, Keeps.refl, Keeps.ite, Keeps.upd, Keeps.foldl, Keeps.when, Keeps.put, Keeps.puts, Keeps.setByte, Keeps.setBytes, Keeps.clearRange, Keeps.updRegs, Keeps.updMemNil, Keeps.updViolNil, Keeps.updViolDrop, Keeps.updT, Keeps.updTzero, RegFile.resetBlock, State.irq_keeps, State.setChan_keeps, endRun_keeps, refreshLegs_keeps, h]

theorem dspStopped_keeps {z : State} (s : State) (d : Nat) (h : Keeps z s) : Keeps z (dspStopped s d) := by
  unfold dspStopped
  simp (maxDischargeDepth := 40) only [implies_true, Keeps.refl, Keeps.ite, Keeps.upd, Keeps.foldl, Keeps.when, Keeps.put, Keeps.puts, Keeps.setByte, Keeps.setBytes, Keeps.clearRange, Keeps.updRegs, Keeps.updMemNil, Keeps.updViolNil, Keeps.updViolDrop, Keeps.updT, Keeps.updTzero, RegFile.resetBlock, dspLoss_keeps, h]

theorem putShadow_keeps {z : State} (s : State) (n : Nat) (v : ShSet) (h : Keeps z s) : Keeps z (putShadow s n v) := by
  unfold putShadow
  simp (maxDischargeDepth := 40) only [implies_true, Keeps.refl, Keeps.ite, Keeps.upd, Keeps.foldl, Keeps.when, Keeps.put, Keeps.puts, Keeps.setByte, Keeps.setBytes, Keeps.clearRange, Keeps.updRegs, Keeps.updMemNil, Keeps.updViolNil, Keeps.updViolDrop, Keeps.updT, Keeps.updTzero, RegFile.resetBlock, h]

theorem putActive_keeps {z : State} (s : State) (n : Nat) (v : ShSet) (h : Keeps z s) : Keeps z (putActive s n v) := by
  unfold putActive
  simp (maxDischargeDepth := 40) only [implies_true, Keeps.refl, Keeps.ite, Keeps.upd, Keeps.foldl, Keeps.when, Keeps.put, Keeps.puts, Keeps.setByte, Keeps.setBytes, Keeps.clearRange, Keeps.updRegs, Keeps.updMemNil, Keeps.updViolNil, Keeps.updViolDrop, Keeps.updT, Keeps.updTzero, RegFile.resetBlock, h]

theorem unrun_keeps {z : State} (s : State) (n : Nat) (h : Keeps z s) : Keeps z (unrun s n) := by
  unfold unrun
  repeat' (first | (simp (maxDischargeDepth := 40) only [implies_true, Keeps.refl, Keeps.ite, Keeps.upd, Keeps.foldl, Keeps.when, Keeps.put, Keeps.puts, Keeps.setByte, Keeps.setBytes, Keeps.clearRange, Keeps.updRegs, Keeps.updMemNil, Keeps.updViolNil, Keeps.updViolDrop, Keeps.updT, Keeps.updTzero, RegFile.resetBlock, State.setChan_keeps, putActive_keeps, h]; done) | dsimp only | with_reducible refine Keeps.ite ?_ ?_ | split | with_reducible refine Keeps.foldl (fun _ _ => ?_) ?_ | with_reducible refine Keeps.foldl1 (fun _ _ => ?_) ?_ | with_reducible refine Keeps.foldl2 (fun _ _ => ?_) ?_ | with_reducible refine Keeps.foldl3 (fun _ _ => ?_) ?_ | with_reducible refine Keeps.when (fun _ => ?_) ?_)

theorem tripScan_keeps {z : State} (s : State) (n : Nat) (force : Bool) (h : Keeps z s) : Keeps z (tripScan s n force) := by
  unfold tripScan
  simp (maxDischargeDepth := 40) only [implies_true, Keeps.refl, Keeps.ite, Keeps.upd, Keeps.foldl, Keeps.when, Keeps.put, Keeps.puts, Keeps.setByte, Keeps.setBytes, Keeps.clearRange, Keeps.updRegs, Keeps.updMemNil, Keeps.updViolNil, Keeps.updViolDrop, Keeps.updT, Keeps.updTzero, RegFile.resetBlock, State.bump_keeps, State.irq_keeps, State.setChan_keeps, dspVector_keeps, endRun_keeps, refreshLegs_keeps, unrun_keeps, h]

theorem tripScanAll_keeps {z : State} (s : State) (h : Keeps z s) : Keeps z (tripScanAll s) := by
  unfold tripScanAll
  simp (maxDischargeDepth := 40) only [implies_true, Keeps.refl, Keeps.ite, Keeps.upd, Keeps.foldl, Keeps.when, Keeps.put, Keeps.puts, Keeps.setByte, Keeps.setBytes, Keeps.clearRange, Keeps.updRegs, Keeps.updMemNil, Keeps.updViolNil, Keeps.updViolDrop, Keeps.updT, Keeps.updTzero, RegFile.resetBlock, tripScan_keeps, h]

theorem noteCmpStat_keeps {z : State} (s : State) (h : Keeps z s) : Keeps z (noteCmpStat s) := by
  unfold noteCmpStat
  simp (maxDischargeDepth := 40) only [implies_true, Keeps.refl, Keeps.ite, Keeps.upd, Keeps.foldl, Keeps.when, Keeps.put, Keeps.puts, Keeps.setByte, Keeps.setBytes, Keeps.clearRange, Keeps.updRegs, Keeps.updMemNil, Keeps.updViolNil, Keeps.updViolDrop, Keeps.updT, Keeps.updTzero, RegFile.resetBlock, h]

theorem cmpChanged_keeps {z : State} (s : State) (h : Keeps z s) : Keeps z (cmpChanged s) := by
  unfold cmpChanged
  simp (maxDischargeDepth := 40) only [implies_true, Keeps.refl, Keeps.ite, Keeps.upd, Keeps.foldl, Keeps.when, Keeps.put, Keeps.puts, Keeps.setByte, Keeps.setBytes, Keeps.clearRange, Keeps.updRegs, Keeps.updMemNil, Keeps.updViolNil, Keeps.updViolDrop, Keeps.updT, Keeps.updTzero, RegFile.resetBlock, noteCmpStat_keeps, tripScanAll_keeps, h]

theorem hardTrip_keeps {z : State} (s : State) (n : Nat) (k : Nat) (h : Keeps z s) : Keeps z (hardTrip s n k) := by
  unfold hardTrip
  simp (maxDischargeDepth := 40) only [implies_true, Keeps.refl, Keeps.ite, Keeps.upd, Keeps.foldl, Keeps.when, Keeps.put, Keeps.puts, Keeps.setByte, Keeps.setBytes, Keeps.clearRange, Keeps.updRegs, Keeps.updMemNil, Keeps.updViolNil, Keeps.updViolDrop, Keeps.updT, Keeps.updTzero, RegFile.resetBlock, State.setChan_keeps, tripScan_keeps, h]

theorem tripRelease_keeps {z : State} (s : State) (n : Nat) (k : Nat) (h : Keeps z s) : Keeps z (tripRelease s n k) := by
  unfold tripRelease
  simp (maxDischargeDepth := 40) only [implies_true, Keeps.refl, Keeps.ite, Keeps.upd, Keeps.foldl, Keeps.when, Keeps.put, Keeps.puts, Keeps.setByte, Keeps.setBytes, Keeps.clearRange, Keeps.updRegs, Keeps.updMemNil, Keeps.updViolNil, Keeps.updViolDrop, Keeps.updT, Keeps.updTzero, RegFile.resetBlock, State.setChan_keeps, h]

theorem setPermit_keeps {z : State} (s : State) (n : Nat) (on : Bool) (h : Keeps z s) : Keeps z (setPermit s n on) := by
  unfold setPermit
  simp (maxDischargeDepth := 40) only [implies_true, Keeps.refl, Keeps.ite, Keeps.upd, Keeps.foldl, Keeps.when, Keeps.put, Keeps.puts, Keeps.setByte, Keeps.setBytes, Keeps.clearRange, Keeps.updRegs, Keeps.updMemNil, Keeps.updViolNil, Keeps.updViolDrop, Keeps.updT, Keeps.updTzero, RegFile.resetBlock, endRun_keeps, refreshLegs_keeps, h]

theorem beforeShadow_keeps {z : State} (s : State) (n : Nat) (h : Keeps z s) : Keeps z (beforeShadow s n) := by
  unfold beforeShadow
  simp (maxDischargeDepth := 40) only [implies_true, Keeps.refl, Keeps.ite, Keeps.upd, Keeps.foldl, Keeps.when, Keeps.put, Keeps.puts, Keeps.setByte, Keeps.setBytes, Keeps.clearRange, Keeps.updRegs, Keeps.updMemNil, Keeps.updViolNil, Keeps.updViolDrop, Keeps.updT, Keeps.updTzero, RegFile.resetBlock, State.setChan_keeps, h]

theorem commitSet_keeps {z : State} (s : State) (n : Nat) (h : Keeps z s) : Keeps z (commitSet s n) := by
  unfold commitSet
  simp (maxDischargeDepth := 40) only [implies_true, Keeps.refl, Keeps.ite, Keeps.upd, Keeps.foldl, Keeps.when, Keeps.put, Keeps.puts, Keeps.setByte, Keeps.setBytes, Keeps.clearRange, Keeps.updRegs, Keeps.updMemNil, Keeps.updViolNil, Keeps.updViolDrop, Keeps.updT, Keeps.updTzero, RegFile.resetBlock, beforeShadow_keeps, h]

theorem ivsTransfer_keeps {z : State} (s : State) (n : Nat) (cyc : Nat) (h : Keeps z s) : Keeps z (ivsTransfer s n cyc) := by
  unfold ivsTransfer
  simp (maxDischargeDepth := 40) only [implies_true, Keeps.refl, Keeps.ite, Keeps.upd, Keeps.foldl, Keeps.when, Keeps.put, Keeps.puts, Keeps.setByte, Keeps.setBytes, Keeps.clearRange, Keeps.updRegs, Keeps.updMemNil, Keeps.updViolNil, Keeps.updViolDrop, Keeps.updT, Keeps.updTzero, RegFile.resetBlock, h]

theorem transfer_keeps {z : State} (s : State) (n : Nat) (cyc : Nat) (h : Keeps z s) : Keeps z (transfer s n cyc) := by
  unfold transfer
  repeat' (first | (simp (maxDischargeDepth := 40) only [implies_true, Keeps.refl, Keeps.ite, Keeps.upd, Keeps.foldl, Keeps.when, Keeps.put, Keeps.puts, Keeps.setByte, Keeps.setBytes, Keeps.clearRange, Keeps.updRegs, Keeps.updMemNil, Keeps.updViolNil, Keeps.updViolDrop, Keeps.updT, Keeps.updTzero, RegFile.resetBlock, State.bump_keeps, State.setChan_keeps, ivsTransfer_keeps, putActive_keeps, h]; done) | dsimp only | with_reducible refine Keeps.ite ?_ ?_ | split | with_reducible refine Keeps.foldl (fun _ _ => ?_) ?_ | with_reducible refine Keeps.foldl1 (fun _ _ => ?_) ?_ | with_reducible refine Keeps.foldl2 (fun _ _ => ?_) ?_ | with_reducible refine Keeps.foldl3 (fun _ _ => ?_) ?_ | with_reducible refine Keeps.when (fun _ => ?_) ?_)

theorem staleStart_keeps {z : State} (s : State) (n : Nat) (h : Keeps z s) : Keeps z (staleStart s n) := by
  unfold staleStart
  simp (maxDischargeDepth := 40) only [implies_true, Keeps.refl, Keeps.ite, Keeps.upd, Keeps.foldl, Keeps.when, Keeps.put, Keeps.puts, Keeps.setByte, Keeps.setBytes, Keeps.clearRange, Keeps.updRegs, Keeps.updMemNil, Keeps.updViolNil, Keeps.updViolDrop, Keeps.updT, Keeps.updTzero, RegFile.resetBlock, State.setChan_keeps, h]

theorem periodWrap_keeps {z : State} (s : State) (n : Nat) (h : Keeps z s) : Keeps z (periodWrap s n) := by
  unfold periodWrap
  repeat' (first | (simp (maxDischargeDepth := 40) only [implies_true, Keeps.refl, Keeps.ite, Keeps.upd, Keeps.foldl, Keeps.when, Keeps.put, Keeps.puts, Keeps.setByte, Keeps.setBytes, Keeps.clearRange, Keeps.updRegs, Keeps.updMemNil, Keeps.updViolNil, Keeps.updViolDrop, Keeps.updT, Keeps.updTzero, RegFile.resetBlock, State.setChan_keeps, refreshLegs_keeps, staleStart_keeps, transfer_keeps, h]; done) | dsimp only | with_reducible refine Keeps.ite ?_ ?_ | split | with_reducible refine Keeps.foldl (fun _ _ => ?_) ?_ | with_reducible refine Keeps.foldl1 (fun _ _ => ?_) ?_ | with_reducible refine Keeps.foldl2 (fun _ _ => ?_) ?_ | with_reducible refine Keeps.foldl3 (fun _ _ => ?_) ?_ | with_reducible refine Keeps.when (fun _ => ?_) ?_)

theorem xferEvent_keeps {z : State} (s : State) (n : Nat) (h : Keeps z s) : Keeps z (xferEvent s n) := by
  unfold xferEvent
  simp (maxDischargeDepth := 40) only [implies_true, Keeps.refl, Keeps.ite, Keeps.upd, Keeps.foldl, Keeps.when, Keeps.put, Keeps.puts, Keeps.setByte, Keeps.setBytes, Keeps.clearRange, Keeps.updRegs, Keeps.updMemNil, Keeps.updViolNil, Keeps.updViolDrop, Keeps.updT, Keeps.updTzero, RegFile.resetBlock, State.bump_keeps, State.setChan_keeps, h]

theorem xferEffective_keeps {z : State} (s : State) (n : Nat) (h : Keeps z s) : Keeps z (xferEffective s n) := by
  unfold xferEffective
  repeat' (first | (simp (maxDischargeDepth := 40) only [implies_true, Keeps.refl, Keeps.ite, Keeps.upd, Keeps.foldl, Keeps.when, Keeps.put, Keeps.puts, Keeps.setByte, Keeps.setBytes, Keeps.clearRange, Keeps.updRegs, Keeps.updMemNil, Keeps.updViolNil, Keeps.updViolDrop, Keeps.updT, Keeps.updTzero, RegFile.resetBlock, State.setChan_keeps, refreshLegs_keeps, transfer_keeps, h]; done) | dsimp only | with_reducible refine Keeps.ite ?_ ?_ | split | with_reducible refine Keeps.foldl (fun _ _ => ?_) ?_ | with_reducible refine Keeps.foldl1 (fun _ _ => ?_) ?_ | with_reducible refine Keeps.foldl2 (fun _ _ => ?_) ?_ | with_reducible refine Keeps.foldl3 (fun _ _ => ?_) ?_ | with_reducible refine Keeps.when (fun _ => ?_) ?_)

theorem pwmWatchdog_keeps {z : State} (s : State) (n : Nat) (h : Keeps z s) : Keeps z (pwmWatchdog s n) := by
  unfold pwmWatchdog
  simp (maxDischargeDepth := 40) only [implies_true, Keeps.refl, Keeps.ite, Keeps.upd, Keeps.foldl, Keeps.when, Keeps.put, Keeps.puts, Keeps.setByte, Keeps.setBytes, Keeps.clearRange, Keeps.updRegs, Keeps.updMemNil, Keeps.updViolNil, Keeps.updViolDrop, Keeps.updT, Keeps.updTzero, RegFile.resetBlock, State.bump_keeps, dspLoss_keeps, h]

theorem pwmIgn_keeps {z : State} (s : State) (n : Nat) (h : Keeps z s) : Keeps z (pwmIgn s n) := by
  unfold pwmIgn
  simp (maxDischargeDepth := 40) only [implies_true, Keeps.refl, Keeps.ite, Keeps.upd, Keeps.foldl, Keeps.when, Keeps.put, Keeps.puts, Keeps.setByte, Keeps.setBytes, Keeps.clearRange, Keeps.updRegs, Keeps.updMemNil, Keeps.updViolNil, Keeps.updViolDrop, Keeps.updT, Keeps.updTzero, RegFile.resetBlock, h]

theorem dspCommit_keeps {z : State} (s : State) (n : Nat) (h : Keeps z s) : Keeps z (dspCommit s n) := by
  unfold dspCommit
  simp (maxDischargeDepth := 40) only [implies_true, Keeps.refl, Keeps.ite, Keeps.upd, Keeps.foldl, Keeps.when, Keeps.put, Keeps.puts, Keeps.setByte, Keeps.setBytes, Keeps.clearRange, Keeps.updRegs, Keeps.updMemNil, Keeps.updViolNil, Keeps.updViolDrop, Keeps.updT, Keeps.updTzero, RegFile.resetBlock, commitSet_keeps, pwmIgn_keeps, h]

theorem runCmd_keeps {z : State} (s : State) (n : Nat) (h : Keeps z s) : Keeps z (runCmd s n) := by
  unfold runCmd
  simp (maxDischargeDepth := 40) only [implies_true, Keeps.refl, Keeps.ite, Keeps.upd, Keeps.foldl, Keeps.when, Keeps.put, Keeps.puts, Keeps.setByte, Keeps.setBytes, Keeps.clearRange, Keeps.updRegs, Keeps.updMemNil, Keeps.updViolNil, Keeps.updViolDrop, Keeps.updT, Keeps.updTzero, RegFile.resetBlock, State.setChan_keeps, ivsTransfer_keeps, putActive_keeps, refreshLegs_keeps, h]

theorem stopCmd_keeps {z : State} (s : State) (n : Nat) (h : Keeps z s) : Keeps z (stopCmd s n) := by
  unfold stopCmd
  simp (maxDischargeDepth := 40) only [implies_true, Keeps.refl, Keeps.ite, Keeps.upd, Keeps.foldl, Keeps.when, Keeps.put, Keeps.puts, Keeps.setByte, Keeps.setBytes, Keeps.clearRange, Keeps.updRegs, Keeps.updMemNil, Keeps.updViolNil, Keeps.updViolDrop, Keeps.updT, Keeps.updTzero, RegFile.resetBlock, endRun_keeps, refreshLegs_keeps, h]

theorem tripClr_keeps {z : State} (s : State) (n : Nat) (force : Bool) (h : Keeps z s) : Keeps z (tripClr s n force) := by
  unfold tripClr
  simp (maxDischargeDepth := 40) only [implies_true, Keeps.refl, Keeps.ite, Keeps.upd, Keeps.foldl, Keeps.when, Keeps.put, Keeps.puts, Keeps.setByte, Keeps.setBytes, Keeps.clearRange, Keeps.updRegs, Keeps.updMemNil, Keeps.updViolNil, Keeps.updViolDrop, Keeps.updT, Keeps.updTzero, RegFile.resetBlock, h]

theorem drvRst_keeps {z : State} (s : State) (n : Nat) (h : Keeps z s) : Keeps z (drvRst s n) := by
  unfold drvRst
  simp (maxDischargeDepth := 40) only [implies_true, Keeps.refl, Keeps.ite, Keeps.upd, Keeps.foldl, Keeps.when, Keeps.put, Keeps.puts, Keeps.setByte, Keeps.setBytes, Keeps.clearRange, Keeps.updRegs, Keeps.updMemNil, Keeps.updViolNil, Keeps.updViolDrop, Keeps.updT, Keeps.updTzero, RegFile.resetBlock, State.setChan_keeps, pwmIgn_keeps, h]

theorem drvEnd_keeps {z : State} (s : State) (n : Nat) (h : Keeps z s) : Keeps z (drvEnd s n) := by
  unfold drvEnd
  repeat' (first | (simp (maxDischargeDepth := 40) only [implies_true, Keeps.refl, Keeps.ite, Keeps.upd, Keeps.foldl, Keeps.when, Keeps.put, Keeps.puts, Keeps.setByte, Keeps.setBytes, Keeps.clearRange, Keeps.updRegs, Keeps.updMemNil, Keeps.updViolNil, Keeps.updViolDrop, Keeps.updT, Keeps.updTzero, RegFile.resetBlock, State.setChan_keeps, h]; done) | dsimp only | with_reducible refine Keeps.ite ?_ ?_ | split | with_reducible refine Keeps.foldl (fun _ _ => ?_) ?_ | with_reducible refine Keeps.foldl1 (fun _ _ => ?_) ?_ | with_reducible refine Keeps.foldl2 (fun _ _ => ?_) ?_ | with_reducible refine Keeps.foldl3 (fun _ _ => ?_) ?_ | with_reducible refine Keeps.when (fun _ => ?_) ?_)

theorem refuseChan_keeps {z : State} (s : State) (m : Nat) (n : Nat) (off : Nat) (h : Keeps z s) : Keeps z (refuseChan s m n off) := by
  unfold refuseChan
  simp (maxDischargeDepth := 40) only [implies_true, Keeps.refl, Keeps.ite, Keeps.upd, Keeps.foldl, Keeps.when, Keeps.put, Keeps.puts, Keeps.setByte, Keeps.setBytes, Keeps.clearRange, Keeps.updRegs, Keeps.updMemNil, Keeps.updViolNil, Keeps.updViolDrop, Keeps.updT, Keeps.updTzero, RegFile.resetBlock, State.violation_keeps, h]

theorem pwmCtrlWrite_keeps {z : State} (s : State) (m : Nat) (n : Nat) (v : Nat) (h : Keeps z s) : Keeps z (pwmCtrlWrite s m n v) := by
  unfold pwmCtrlWrite
  simp (maxDischargeDepth := 40) only [implies_true, Keeps.refl, Keeps.ite, Keeps.upd, Keeps.foldl, Keeps.when, Keeps.put, Keeps.puts, Keeps.setByte, Keeps.setBytes, Keeps.clearRange, Keeps.updRegs, Keeps.updMemNil, Keeps.updViolNil, Keeps.updViolDrop, Keeps.updT, Keeps.updTzero, RegFile.resetBlock, drvRst_keeps, dspCommit_keeps, refuseChan_keeps, runCmd_keeps, stopCmd_keeps, tripClr_keeps, tripScan_keeps, h]

theorem pwmBindWrite_keeps {z : State} (s : State) (m : Nat) (n : Nat) (v : Nat) (h : Keeps z s) : Keeps z (pwmBindWrite s m n v) := by
  unfold pwmBindWrite
  simp (maxDischargeDepth := 40) only [implies_true, Keeps.refl, Keeps.ite, Keeps.upd, Keeps.foldl, Keeps.when, Keeps.put, Keeps.puts, Keeps.setByte, Keeps.setBytes, Keeps.clearRange, Keeps.updRegs, Keeps.updMemNil, Keeps.updViolNil, Keeps.updViolDrop, Keeps.updT, Keeps.updTzero, RegFile.resetBlock, State.putWord_keeps, State.refuseWrite_keeps, State.setChan_keeps, tripScan_keeps, h]

theorem shadowWrite_keeps {z : State} (s : State) (m : Nat) (n : Nat) (r : Nat) (v : Nat) (h : Keeps z s) : Keeps z (shadowWrite s m n r v) := by
  unfold shadowWrite
  simp (maxDischargeDepth := 40) only [implies_true, Keeps.refl, Keeps.ite, Keeps.upd, Keeps.foldl, Keeps.when, Keeps.put, Keeps.puts, Keeps.setByte, Keeps.setBytes, Keeps.clearRange, Keeps.updRegs, Keeps.updMemNil, Keeps.updViolNil, Keeps.updViolDrop, Keeps.updT, Keeps.updTzero, RegFile.resetBlock, State.putWord_keeps, beforeShadow_keeps, pwmIgn_keeps, refuseChan_keeps, h]

theorem pwmConflict_keeps {z : State} (s : State) (claimant : Nat) (holder : Nat) (k : Nat) (h : Keeps z s) : Keeps z (pwmConflict s claimant holder k) := by
  unfold pwmConflict
  simp (maxDischargeDepth := 40) only [implies_true, Keeps.refl, Keeps.ite, Keeps.upd, Keeps.foldl, Keeps.when, Keeps.put, Keeps.puts, Keeps.setByte, Keeps.setBytes, Keeps.clearRange, Keeps.updRegs, Keeps.updMemNil, Keeps.updViolNil, Keeps.updViolDrop, Keeps.updT, Keeps.updTzero, RegFile.resetBlock, State.bump_keeps, h]

theorem claimX_keeps {z : State} (s : State) (m : Nat) (n : Nat) (h : Keeps z s) : Keeps z (claimX s m n) := by
  unfold claimX
  repeat' (first | (simp (maxDischargeDepth := 40) only [implies_true, Keeps.refl, Keeps.ite, Keeps.upd, Keeps.foldl, Keeps.when, Keeps.put, Keeps.puts, Keeps.setByte, Keeps.setBytes, Keeps.clearRange, Keeps.updRegs, Keeps.updMemNil, Keeps.updViolNil, Keeps.updViolDrop, Keeps.updT, Keeps.updTzero, RegFile.resetBlock, pwmConflict_keeps, h]; done) | dsimp only | with_reducible refine Keeps.ite ?_ ?_ | split | with_reducible refine Keeps.foldl (fun _ _ => ?_) ?_ | with_reducible refine Keeps.foldl1 (fun _ _ => ?_) ?_ | with_reducible refine Keeps.foldl2 (fun _ _ => ?_) ?_ | with_reducible refine Keeps.foldl3 (fun _ _ => ?_) ?_ | with_reducible refine Keeps.when (fun _ => ?_) ?_)

theorem releaseX_keeps {z : State} (s : State) (n : Nat) (h : Keeps z s) : Keeps z (releaseX s n) := by
  unfold releaseX
  simp (maxDischargeDepth := 40) only [implies_true, Keeps.refl, Keeps.ite, Keeps.upd, Keeps.foldl, Keeps.when, Keeps.put, Keeps.puts, Keeps.setByte, Keeps.setBytes, Keeps.clearRange, Keeps.updRegs, Keeps.updMemNil, Keeps.updViolNil, Keeps.updViolDrop, Keeps.updT, Keeps.updTzero, RegFile.resetBlock, h]

theorem pwmCfgWrite_keeps {z : State} (s : State) (m : Nat) (n : Nat) (v : Nat) (h : Keeps z s) : Keeps z (pwmCfgWrite s m n v) := by
  unfold pwmCfgWrite
  simp (maxDischargeDepth := 40) only [implies_true, Keeps.refl, Keeps.ite, Keeps.upd, Keeps.foldl, Keeps.when, Keeps.put, Keeps.puts, Keeps.setByte, Keeps.setBytes, Keeps.clearRange, Keeps.updRegs, Keeps.updMemNil, Keeps.updViolNil, Keeps.updViolDrop, Keeps.updT, Keeps.updTzero, RegFile.resetBlock, State.putWord_keeps, claimX_keeps, pwmIgn_keeps, refuseChan_keeps, releaseX_keeps, h]

theorem pwmDtWrite_keeps {z : State} (s : State) (m : Nat) (n : Nat) (v : Nat) (h : Keeps z s) : Keeps z (pwmDtWrite s m n v) := by
  unfold pwmDtWrite
  simp (maxDischargeDepth := 40) only [implies_true, Keeps.refl, Keeps.ite, Keeps.upd, Keeps.foldl, Keeps.when, Keeps.put, Keeps.puts, Keeps.setByte, Keeps.setBytes, Keeps.clearRange, Keeps.updRegs, Keeps.updMemNil, Keeps.updViolNil, Keeps.updViolDrop, Keeps.updT, Keeps.updTzero, RegFile.resetBlock, State.putWord_keeps, pwmIgn_keeps, refuseChan_keeps, h]

theorem pwmRegWrite_keeps {z : State} (s : State) (m : Nat) (n : Nat) (off : Nat) (v : Nat) (h : Keeps z s) : Keeps z (pwmRegWrite s m n off v) := by
  unfold pwmRegWrite
  simp (maxDischargeDepth := 40) only [implies_true, Keeps.refl, Keeps.ite, Keeps.upd, Keeps.foldl, Keeps.when, Keeps.put, Keeps.puts, Keeps.setByte, Keeps.setBytes, Keeps.clearRange, Keeps.updRegs, Keeps.updMemNil, Keeps.updViolNil, Keeps.updViolDrop, Keeps.updT, Keeps.updTzero, RegFile.resetBlock, refuseChan_keeps, h]

theorem pinClaim_keeps {z : State} (s : State) (m : Nat) (k : Nat) (h : Keeps z s) : Keeps z (pinClaim s m k) := by
  unfold pinClaim
  simp (maxDischargeDepth := 40) only [implies_true, Keeps.refl, Keeps.ite, Keeps.upd, Keeps.foldl, Keeps.when, Keeps.put, Keeps.puts, Keeps.setByte, Keeps.setBytes, Keeps.clearRange, Keeps.updRegs, Keeps.updMemNil, Keeps.updViolNil, Keeps.updViolDrop, Keeps.updT, Keeps.updTzero, RegFile.resetBlock, pwmConflict_keeps, h]

theorem pinRelease_keeps {z : State} (s : State) (m : Nat) (k : Nat) (h : Keeps z s) : Keeps z (pinRelease s m k) := by
  unfold pinRelease
  simp (maxDischargeDepth := 40) only [implies_true, Keeps.refl, Keeps.ite, Keeps.upd, Keeps.foldl, Keeps.when, Keeps.put, Keeps.puts, Keeps.setByte, Keeps.setBytes, Keeps.clearRange, Keeps.updRegs, Keeps.updMemNil, Keeps.updViolNil, Keeps.updViolDrop, Keeps.updT, Keeps.updTzero, RegFile.resetBlock, State.bump_keeps, h]

theorem pinLevel_keeps {z : State} (s : State) (m : Nat) (k : Nat) (v : Nat) (h : Keeps z s) : Keeps z (pinLevel s m k v) := by
  unfold pinLevel
  simp (maxDischargeDepth := 40) only [implies_true, Keeps.refl, Keeps.ite, Keeps.upd, Keeps.foldl, Keeps.when, Keeps.put, Keeps.puts, Keeps.setByte, Keeps.setBytes, Keeps.clearRange, Keeps.updRegs, Keeps.updMemNil, Keeps.updViolNil, Keeps.updViolDrop, Keeps.updT, Keeps.updTzero, RegFile.resetBlock, State.bump_keeps, h]

theorem pinOwn_keeps {z : State} (s : State) (m : Nat) (k : Nat) (v : Nat) (h : Keeps z s) : Keeps z (pinOwn s m k v) := by
  unfold pinOwn
  repeat' (first | (simp (maxDischargeDepth := 40) only [implies_true, Keeps.refl, Keeps.ite, Keeps.upd, Keeps.foldl, Keeps.when, Keeps.put, Keeps.puts, Keeps.setByte, Keeps.setBytes, Keeps.clearRange, Keeps.updRegs, Keeps.updMemNil, Keeps.updViolNil, Keeps.updViolDrop, Keeps.updT, Keeps.updTzero, RegFile.resetBlock, pinClaim_keeps, pinLevel_keeps, pinRelease_keeps, h]; done) | dsimp only | with_reducible refine Keeps.ite ?_ ?_ | split | with_reducible refine Keeps.foldl (fun _ _ => ?_) ?_ | with_reducible refine Keeps.foldl1 (fun _ _ => ?_) ?_ | with_reducible refine Keeps.foldl2 (fun _ _ => ?_) ?_ | with_reducible refine Keeps.foldl3 (fun _ _ => ?_) ?_ | with_reducible refine Keeps.when (fun _ => ?_) ?_)

theorem pinOwnWrite_keeps {z : State} (s : State) (m : Nat) (k : Nat) (v : Nat) (h : Keeps z s) : Keeps z (pinOwnWrite s m k v) := by
  unfold pinOwnWrite
  simp (maxDischargeDepth := 40) only [implies_true, Keeps.refl, Keeps.ite, Keeps.upd, Keeps.foldl, Keeps.when, Keeps.put, Keeps.puts, Keeps.setByte, Keeps.setBytes, Keeps.clearRange, Keeps.updRegs, Keeps.updMemNil, Keeps.updViolNil, Keeps.updViolDrop, Keeps.updT, Keeps.updTzero, RegFile.resetBlock, State.refuseWrite_keeps, noteBallEdge_keeps, pinOwn_keeps, h]

theorem pwmConflictRead_keeps {z : State} (s : State) (m : Nat) (h : Keeps z s) : Keeps z (pwmConflictRead s m) := by
  unfold pwmConflictRead
  simp (maxDischargeDepth := 40) only [implies_true, Keeps.refl, Keeps.ite, Keeps.upd, Keeps.foldl, Keeps.when, Keeps.put, Keeps.puts, Keeps.setByte, Keeps.setBytes, Keeps.clearRange, Keeps.updRegs, Keeps.updMemNil, Keeps.updViolNil, Keeps.updViolDrop, Keeps.updT, Keeps.updTzero, RegFile.resetBlock, State.answer_keeps, State.refuseRead_keeps, h]

end Sys2Proof.Machine
end

