-- ==== Sys2Proof/Laws/KeepGrid.lean ====
section
/-! SUPPORT. What the operations of Machine/Grid.lean keep (Laws/Keeps.lean). -/
set_option linter.unusedSimpArgs false
set_option linter.unusedVariables false
namespace Sys2Proof.Machine
open Sys2Proof.Reg

theorem esUpdate_keeps {z : State} (s : State) (h : Keeps z s) : Keeps z (esUpdate s) := by
  unfold esUpdate
  simp (maxDischargeDepth := 40) only [implies_true, Keeps.refl, Keeps.ite, Keeps.upd, Keeps.foldl, Keeps.when, Keeps.put, Keeps.puts, Keeps.setByte, Keeps.setBytes, Keeps.clearRange, Keeps.updRegs, Keeps.updMemNil, Keeps.updViolNil, Keeps.updViolDrop, Keeps.updT, Keeps.updTzero, RegFile.resetBlock, h]

theorem ceaseAssert_keeps {z : State} (s : State) (h : Keeps z s) : Keeps z (ceaseAssert s) := by
  unfold ceaseAssert
  simp (maxDischargeDepth := 40) only [implies_true, Keeps.refl, Keeps.ite, Keeps.upd, Keeps.foldl, Keeps.when, Keeps.put, Keeps.puts, Keeps.setByte, Keeps.setBytes, Keeps.clearRange, Keeps.updRegs, Keeps.updMemNil, Keeps.updViolNil, Keeps.updViolDrop, Keeps.updT, Keeps.updTzero, RegFile.resetBlock, State.bump_keeps, State.irq_keeps, ldgNote_keeps, tripScanAll_keeps, h]

theorem causeOn_keeps {z : State} (s : State) (b : Nat) (h : Keeps z s) : Keeps z (causeOn s b) := by
  unfold causeOn
  simp (maxDischargeDepth := 40) only [implies_true, Keeps.refl, Keeps.ite, Keeps.upd, Keeps.foldl, Keeps.when, Keeps.put, Keeps.puts, Keeps.setByte, Keeps.setBytes, Keeps.clearRange, Keeps.updRegs, Keeps.updMemNil, Keeps.updViolNil, Keeps.updViolDrop, Keeps.updT, Keeps.updTzero, RegFile.resetBlock, ceaseAssert_keeps, esUpdate_keeps, h]

theorem causeOff_keeps {z : State} (s : State) (b : Nat) (h : Keeps z s) : Keeps z (causeOff s b) := by
  unfold causeOff
  simp (maxDischargeDepth := 40) only [implies_true, Keeps.refl, Keeps.ite, Keeps.upd, Keeps.foldl, Keeps.when, Keeps.put, Keeps.puts, Keeps.setByte, Keeps.setBytes, Keeps.clearRange, Keeps.updRegs, Keeps.updMemNil, Keeps.updViolNil, Keeps.updViolDrop, Keeps.updT, Keeps.updTzero, RegFile.resetBlock, esUpdate_keeps, h]

theorem declareIsland_keeps {z : State} (s : State) (h : Keeps z s) : Keeps z (declareIsland s) := by
  unfold declareIsland
  simp (maxDischargeDepth := 40) only [implies_true, Keeps.refl, Keeps.ite, Keeps.upd, Keeps.foldl, Keeps.when, Keeps.put, Keeps.puts, Keeps.setByte, Keeps.setBytes, Keeps.clearRange, Keeps.updRegs, Keeps.updMemNil, Keeps.updViolNil, Keeps.updViolDrop, Keeps.updT, Keeps.updTzero, RegFile.resetBlock, causeOn_keeps, qorSend_keeps, h]

theorem gridCause_keeps {z : State} (s : State) (b : Nat) (on : Bool) (h : Keeps z s) : Keeps z (gridCause s b on) := by
  unfold gridCause
  simp (maxDischargeDepth := 40) only [implies_true, Keeps.refl, Keeps.ite, Keeps.upd, Keeps.foldl, Keeps.when, Keeps.put, Keeps.puts, Keeps.setByte, Keeps.setBytes, Keeps.clearRange, Keeps.updRegs, Keeps.updMemNil, Keeps.updViolNil, Keeps.updViolDrop, Keeps.updT, Keeps.updTzero, RegFile.resetBlock, causeOff_keeps, causeOn_keeps, declareIsland_keeps, h]

theorem aggCease_keeps {z : State} (s : State) (h : Keeps z s) : Keeps z (aggCease s) := by
  unfold aggCease
  simp (maxDischargeDepth := 40) only [implies_true, Keeps.refl, Keeps.ite, Keeps.upd, Keeps.foldl, Keeps.when, Keeps.put, Keeps.puts, Keeps.setByte, Keeps.setBytes, Keeps.clearRange, Keeps.updRegs, Keeps.updMemNil, Keeps.updViolNil, Keeps.updViolDrop, Keeps.updT, Keeps.updTzero, RegFile.resetBlock, causeOff_keeps, causeOn_keeps, h]

theorem aggGate_keeps {z : State} (s : State) (h : Keeps z s) : Keeps z (aggGate s) := by
  unfold aggGate
  simp (maxDischargeDepth := 40) only [implies_true, Keeps.refl, Keeps.ite, Keeps.upd, Keeps.foldl, Keeps.when, Keeps.put, Keeps.puts, Keeps.setByte, Keeps.setBytes, Keeps.clearRange, Keeps.updRegs, Keeps.updMemNil, Keeps.updViolNil, Keeps.updViolDrop, Keeps.updT, Keeps.updTzero, RegFile.resetBlock, aggCease_keeps, h]

theorem aggState_keeps {z : State} (s : State) (st : Nat) (h : Keeps z s) : Keeps z (aggState s st) := by
  unfold aggState
  simp (maxDischargeDepth := 40) only [implies_true, Keeps.refl, Keeps.ite, Keeps.upd, Keeps.foldl, Keeps.when, Keeps.put, Keeps.puts, Keeps.setByte, Keeps.setBytes, Keeps.clearRange, Keeps.updRegs, Keeps.updMemNil, Keeps.updViolNil, Keeps.updViolDrop, Keeps.updT, Keeps.updTzero, RegFile.resetBlock, aggGate_keeps, h]

theorem aggLeaveGroup_keeps {z : State} (s : State) (reason : Nat) (h : Keeps z s) : Keeps z (aggLeaveGroup s reason) := by
  unfold aggLeaveGroup
  simp (maxDischargeDepth := 40) only [implies_true, Keeps.refl, Keeps.ite, Keeps.upd, Keeps.foldl, Keeps.when, Keeps.put, Keeps.puts, Keeps.setByte, Keeps.setBytes, Keeps.clearRange, Keeps.updRegs, Keeps.updMemNil, Keeps.updViolNil, Keeps.updViolDrop, Keeps.updT, Keeps.updTzero, RegFile.resetBlock, aggState_keeps, qorSend_keeps, h]

theorem ceaseCmd_keeps {z : State} (s : State) (h : Keeps z s) : Keeps z (ceaseCmd s) := by
  unfold ceaseCmd
  simp (maxDischargeDepth := 40) only [implies_true, Keeps.refl, Keeps.ite, Keeps.upd, Keeps.foldl, Keeps.when, Keeps.put, Keeps.puts, Keeps.setByte, Keeps.setBytes, Keeps.clearRange, Keeps.updRegs, Keeps.updMemNil, Keeps.updViolNil, Keeps.updViolDrop, Keeps.updT, Keeps.updTzero, RegFile.resetBlock, causeOn_keeps, h]

theorem ceaseClr_keeps {z : State} (s : State) (h : Keeps z s) : Keeps z (ceaseClr s) := by
  unfold ceaseClr
  simp (maxDischargeDepth := 40) only [implies_true, Keeps.refl, Keeps.ite, Keeps.upd, Keeps.foldl, Keeps.when, Keeps.put, Keeps.puts, Keeps.setByte, Keeps.setBytes, Keeps.clearRange, Keeps.updRegs, Keeps.updMemNil, Keeps.updViolNil, Keeps.updViolDrop, Keeps.updT, Keeps.updTzero, RegFile.resetBlock, aggCease_keeps, causeOff_keeps, h]

theorem evalPoint_keeps {z : State} (s : State) (c : Nat) (i : Nat) (h : Keeps z s) : Keeps z (evalPoint s c i) := by
  unfold evalPoint
  simp (maxDischargeDepth := 40) only [implies_true, Keeps.refl, Keeps.ite, Keeps.upd, Keeps.foldl, Keeps.when, Keeps.put, Keeps.puts, Keeps.setByte, Keeps.setBytes, Keeps.clearRange, Keeps.updRegs, Keeps.updMemNil, Keeps.updViolNil, Keeps.updViolDrop, Keeps.updT, Keeps.updTzero, RegFile.resetBlock, h]

theorem setRegion_keeps {z : State} (s : State) (h : Keeps z s) : Keeps z (setRegion s) := by
  unfold setRegion
  simp (maxDischargeDepth := 40) only [implies_true, Keeps.refl, Keeps.ite, Keeps.upd, Keeps.foldl, Keeps.when, Keeps.put, Keeps.puts, Keeps.setByte, Keeps.setBytes, Keeps.clearRange, Keeps.updRegs, Keeps.updMemNil, Keeps.updViolNil, Keeps.updViolDrop, Keeps.updT, Keeps.updTzero, RegFile.resetBlock, esUpdate_keeps, gridCause_keeps, h]

theorem evalCurves_keeps {z : State} (s : State) (volt : Bool) (h : Keeps z s) : Keeps z (evalCurves s volt) := by
  unfold evalCurves
  simp (maxDischargeDepth := 40) only [implies_true, Keeps.refl, Keeps.ite, Keeps.upd, Keeps.foldl, Keeps.when, Keeps.put, Keeps.puts, Keeps.setByte, Keeps.setBytes, Keeps.clearRange, Keeps.updRegs, Keeps.updMemNil, Keeps.updViolNil, Keeps.updViolDrop, Keeps.updT, Keeps.updTzero, RegFile.resetBlock, evalPoint_keeps, setRegion_keeps, h]

theorem addHalf_keeps {z : State} (s : State) (k : Nat) (r : HalfRes) (h : Keeps z s) : Keeps z (addHalf s k r) := by
  unfold addHalf
  repeat' (first | (simp (maxDischargeDepth := 40) only [implies_true, Keeps.refl, Keeps.ite, Keeps.upd, Keeps.foldl, Keeps.when, Keeps.put, Keeps.puts, Keeps.setByte, Keeps.setBytes, Keeps.clearRange, Keeps.updRegs, Keeps.updMemNil, Keeps.updViolNil, Keeps.updViolDrop, Keeps.updT, Keeps.updTzero, RegFile.resetBlock, h]; done) | dsimp only | with_reducible refine Keeps.ite ?_ ?_ | split | with_reducible refine Keeps.foldl (fun _ _ => ?_) ?_ | with_reducible refine Keeps.foldl1 (fun _ _ => ?_) ?_ | with_reducible refine Keeps.foldl2 (fun _ _ => ?_) ?_ | with_reducible refine Keeps.foldl3 (fun _ _ => ?_) ?_ | with_reducible refine Keeps.when (fun _ => ?_) ?_)

theorem rawCrossing_keeps {z : State} (s : State) (t : Nat) (x : Int) (h : Keeps z s) : Keeps z (rawCrossing s t x) := by
  unfold rawCrossing
  repeat' (first | (simp (maxDischargeDepth := 40) only [implies_true, Keeps.refl, Keeps.ite, Keeps.upd, Keeps.foldl, Keeps.when, Keeps.put, Keeps.puts, Keeps.setByte, Keeps.setBytes, Keeps.clearRange, Keeps.updRegs, Keeps.updMemNil, Keeps.updViolNil, Keeps.updViolDrop, Keeps.updT, Keeps.updTzero, RegFile.resetBlock, h]; done) | dsimp only | with_reducible refine Keeps.ite ?_ ?_ | split | with_reducible refine Keeps.foldl (fun _ _ => ?_) ?_ | with_reducible refine Keeps.foldl1 (fun _ _ => ?_) ?_ | with_reducible refine Keeps.foldl2 (fun _ _ => ?_) ?_ | with_reducible refine Keeps.foldl3 (fun _ _ => ?_) ?_ | with_reducible refine Keeps.when (fun _ => ?_) ?_)

theorem ivsSample_keeps {z : State} (s : State) (u : Nat) (input : Nat) (t : Nat) (code : Nat) (bad : Bool) (h : Keeps z s) : Keeps z (ivsSample s u input t code bad) := by
  unfold ivsSample
  simp (maxDischargeDepth := 40) only [implies_true, Keeps.refl, Keeps.ite, Keeps.upd, Keeps.foldl, Keeps.when, Keeps.put, Keeps.puts, Keeps.setByte, Keeps.setBytes, Keeps.clearRange, Keeps.updRegs, Keeps.updMemNil, Keeps.updViolNil, Keeps.updViolDrop, Keeps.updT, Keeps.updTzero, RegFile.resetBlock, h]

theorem gridResult_keeps {z : State} (s : State) (u : Nat) (input : Nat) (t : Nat) (code : Nat) (refu : Bool) (ovr : Bool) (h : Keeps z s) : Keeps z (gridResult s u input t code refu ovr) := by
  unfold gridResult
  simp (maxDischargeDepth := 40) only [implies_true, Keeps.refl, Keeps.ite, Keeps.upd, Keeps.foldl, Keeps.when, Keeps.put, Keeps.puts, Keeps.setByte, Keeps.setBytes, Keeps.clearRange, Keeps.updRegs, Keeps.updMemNil, Keeps.updViolNil, Keeps.updViolDrop, Keeps.updT, Keeps.updTzero, RegFile.resetBlock, addHalf_keeps, ivsSample_keeps, rawCrossing_keeps, h]

theorem setNudge_keeps {z : State} (s : State) (h : Keeps z s) : Keeps z (setNudge s) := by
  unfold setNudge
  simp (maxDischargeDepth := 40) only [implies_true, Keeps.refl, Keeps.ite, Keeps.upd, Keeps.foldl, Keeps.when, Keeps.put, Keeps.puts, Keeps.setByte, Keeps.setBytes, Keeps.clearRange, Keeps.updRegs, Keeps.updMemNil, Keeps.updViolNil, Keeps.updViolDrop, Keeps.updT, Keeps.updTzero, RegFile.resetBlock, h]

theorem slewTrim_keeps {z : State} (s : State) (d : Int) (h : Keeps z s) : Keeps z (slewTrim s d) := by
  unfold slewTrim
  simp (maxDischargeDepth := 40) only [implies_true, Keeps.refl, Keeps.ite, Keeps.upd, Keeps.foldl, Keeps.when, Keeps.put, Keeps.puts, Keeps.setByte, Keeps.setBytes, Keeps.clearRange, Keeps.updRegs, Keeps.updMemNil, Keeps.updViolNil, Keeps.updViolDrop, Keeps.updT, Keeps.updTzero, RegFile.resetBlock, h]

theorem trackerUnlock_keeps {z : State} (s : State) (h : Keeps z s) : Keeps z (trackerUnlock s) := by
  unfold trackerUnlock
  simp (maxDischargeDepth := 40) only [implies_true, Keeps.refl, Keeps.ite, Keeps.upd, Keeps.foldl, Keeps.when, Keeps.put, Keeps.puts, Keeps.setByte, Keeps.setBytes, Keeps.clearRange, Keeps.updRegs, Keeps.updMemNil, Keeps.updViolNil, Keeps.updViolDrop, Keeps.updT, Keeps.updTzero, RegFile.resetBlock, State.bump_keeps, State.irq_keeps, aggLeaveGroup_keeps, esUpdate_keeps, gridCause_keeps, h]

theorem trackerLock_keeps {z : State} (s : State) (h : Keeps z s) : Keeps z (trackerLock s) := by
  unfold trackerLock
  simp (maxDischargeDepth := 40) only [implies_true, Keeps.refl, Keeps.ite, Keeps.upd, Keeps.foldl, Keeps.when, Keeps.put, Keeps.puts, Keeps.setByte, Keeps.setBytes, Keeps.clearRange, Keeps.updRegs, Keeps.updMemNil, Keeps.updViolNil, Keeps.updViolDrop, Keeps.updT, Keeps.updTzero, RegFile.resetBlock, esUpdate_keeps, gridCause_keeps, h]

theorem judgeLock_keeps {z : State} (s : State) (perr : Int) (freq : Nat) (amp : Nat) (h : Keeps z s) : Keeps z (judgeLock s perr freq amp) := by
  unfold judgeLock
  repeat' (first | (simp (maxDischargeDepth := 40) only [implies_true, Keeps.refl, Keeps.ite, Keeps.upd, Keeps.foldl, Keeps.when, Keeps.put, Keeps.puts, Keeps.setByte, Keeps.setBytes, Keeps.clearRange, Keeps.updRegs, Keeps.updMemNil, Keeps.updViolNil, Keeps.updViolDrop, Keeps.updT, Keeps.updTzero, RegFile.resetBlock, trackerLock_keeps, trackerUnlock_keeps, h]; done) | dsimp only | with_reducible refine Keeps.ite ?_ ?_ | split | with_reducible refine Keeps.foldl (fun _ _ => ?_) ?_ | with_reducible refine Keeps.foldl1 (fun _ _ => ?_) ?_ | with_reducible refine Keeps.foldl2 (fun _ _ => ?_) ?_ | with_reducible refine Keeps.foldl3 (fun _ _ => ?_) ?_ | with_reducible refine Keeps.when (fun _ => ?_) ?_)

theorem mainsUpdate_keeps {z : State} (s : State) (was : Bool) (theta : Nat) (freq : Nat) (h : Keeps z s) : Keeps z (mainsUpdate s was theta freq) := by
  unfold mainsUpdate
  simp (maxDischargeDepth := 40) only [implies_true, Keeps.refl, Keeps.ite, Keeps.upd, Keeps.foldl, Keeps.when, Keeps.put, Keeps.puts, Keeps.setByte, Keeps.setBytes, Keeps.clearRange, Keeps.updRegs, Keeps.updMemNil, Keeps.updViolNil, Keeps.updViolDrop, Keeps.updT, Keeps.updTzero, RegFile.resetBlock, State.setSrc_keeps, acquireSource_keeps, sourceLoss_keeps, updateSource_keeps, h]

theorem turnHalf_keeps {z : State} (s : State) (k : Nat) (t : Nat) (h : Keeps z s) : Keeps z (turnHalf s k t) := by
  unfold turnHalf
  repeat' (first | (simp (maxDischargeDepth := 40) only [implies_true, Keeps.refl, Keeps.ite, Keeps.upd, Keeps.foldl, Keeps.when, Keeps.put, Keeps.puts, Keeps.setByte, Keeps.setBytes, Keeps.clearRange, Keeps.updRegs, Keeps.updMemNil, Keeps.updViolNil, Keeps.updViolDrop, Keeps.updT, Keeps.updTzero, RegFile.resetBlock, h]; done) | dsimp only | with_reducible refine Keeps.ite ?_ ?_ | split | with_reducible refine Keeps.foldl (fun _ _ => ?_) ?_ | with_reducible refine Keeps.foldl1 (fun _ _ => ?_) ?_ | with_reducible refine Keeps.foldl2 (fun _ _ => ?_) ?_ | with_reducible refine Keeps.foldl3 (fun _ _ => ?_) ?_ | with_reducible refine Keeps.when (fun _ => ?_) ?_)

theorem closeHalf_keeps {z : State} (s : State) (k : Nat) (old : Nat) (new : Nat) (freq : Nat) (h : Keeps z s) : Keeps z (closeHalf s k old new freq) := by
  unfold closeHalf
  repeat' (first | (simp (maxDischargeDepth := 40) only [implies_true, Keeps.refl, Keeps.ite, Keeps.upd, Keeps.foldl, Keeps.when, Keeps.put, Keeps.puts, Keeps.setByte, Keeps.setBytes, Keeps.clearRange, Keeps.updRegs, Keeps.updMemNil, Keeps.updViolNil, Keeps.updViolDrop, Keeps.updT, Keeps.updTzero, RegFile.resetBlock, turnHalf_keeps, h]; done) | dsimp only | with_reducible refine Keeps.ite ?_ ?_ | split | with_reducible refine Keeps.foldl (fun _ _ => ?_) ?_ | with_reducible refine Keeps.foldl1 (fun _ _ => ?_) ?_ | with_reducible refine Keeps.foldl2 (fun _ _ => ?_) ?_ | with_reducible refine Keeps.foldl3 (fun _ _ => ?_) ?_ | with_reducible refine Keeps.when (fun _ => ?_) ?_)

theorem mainsLoss_keeps {z : State} (s : State) (h : Keeps z s) : Keeps z (mainsLoss s) := by
  unfold mainsLoss
  repeat' (first | (simp (maxDischargeDepth := 40) only [implies_true, Keeps.refl, Keeps.ite, Keeps.upd, Keeps.foldl, Keeps.when, Keeps.put, Keeps.puts, Keeps.setByte, Keeps.setBytes, Keeps.clearRange, Keeps.updRegs, Keeps.updMemNil, Keeps.updViolNil, Keeps.updViolDrop, Keeps.updT, Keeps.updTzero, RegFile.resetBlock, sourceLoss_keeps, h]; done) | dsimp only | with_reducible refine Keeps.ite ?_ ?_ | split | with_reducible refine Keeps.foldl (fun _ _ => ?_) ?_ | with_reducible refine Keeps.foldl1 (fun _ _ => ?_) ?_ | with_reducible refine Keeps.foldl2 (fun _ _ => ?_) ?_ | with_reducible refine Keeps.foldl3 (fun _ _ => ?_) ?_ | with_reducible refine Keeps.when (fun _ => ?_) ?_)

theorem tieTurn_keeps {z : State} (s : State) (h : Keeps z s) : Keeps z (tieTurn s) := by
  unfold tieTurn
  repeat' (first | (simp (maxDischargeDepth := 40) only [implies_true, Keeps.refl, Keeps.ite, Keeps.upd, Keeps.foldl, Keeps.when, Keeps.put, Keeps.puts, Keeps.setByte, Keeps.setBytes, Keeps.clearRange, Keeps.updRegs, Keeps.updMemNil, Keeps.updViolNil, Keeps.updViolDrop, Keeps.updT, Keeps.updTzero, RegFile.resetBlock, h]; done) | dsimp only | with_reducible refine Keeps.ite ?_ ?_ | split | with_reducible refine Keeps.foldl (fun _ _ => ?_) ?_ | with_reducible refine Keeps.foldl1 (fun _ _ => ?_) ?_ | with_reducible refine Keeps.foldl2 (fun _ _ => ?_) ?_ | with_reducible refine Keeps.foldl3 (fun _ _ => ?_) ?_ | with_reducible refine Keeps.when (fun _ => ?_) ?_)

theorem gridPublish_keeps {z : State} (s : State) (theta : Nat) (freq : Nat) (perr : Int) (amp : Nat) (seq : Bool) (h : Keeps z s) : Keeps z (gridPublish s theta freq perr amp seq) := by
  unfold gridPublish
  simp (maxDischargeDepth := 40) only [implies_true, Keeps.refl, Keeps.ite, Keeps.upd, Keeps.foldl, Keeps.when, Keeps.put, Keeps.puts, Keeps.setByte, Keeps.setBytes, Keeps.clearRange, Keeps.updRegs, Keeps.updMemNil, Keeps.updViolNil, Keeps.updViolDrop, Keeps.updT, Keeps.updTzero, RegFile.resetBlock, closeHalf_keeps, judgeLock_keeps, mainsLoss_keeps, mainsUpdate_keeps, slewTrim_keeps, tieTurn_keeps, h]

theorem trackerPublish_keeps {z : State} (s : State) (theta : Nat) (freq : Nat) (perr : Int) (amp : Nat) (seq : Bool) (h : Keeps z s) : Keeps z (trackerPublish s theta freq perr amp seq) := by
  unfold trackerPublish
  simp (maxDischargeDepth := 40) only [implies_true, Keeps.refl, Keeps.ite, Keeps.upd, Keeps.foldl, Keeps.when, Keeps.put, Keeps.puts, Keeps.setByte, Keeps.setBytes, Keeps.clearRange, Keeps.updRegs, Keeps.updMemNil, Keeps.updViolNil, Keeps.updViolDrop, Keeps.updT, Keeps.updTzero, RegFile.resetBlock, gridPublish_keeps, withJumps_keeps, h]

theorem halfCycleEnd_keeps {z : State} (s : State) (k : Nat) (h : Keeps z s) : Keeps z (halfCycleEnd s k) := by
  unfold halfCycleEnd
  repeat' (first | (simp (maxDischargeDepth := 40) only [implies_true, Keeps.refl, Keeps.ite, Keeps.upd, Keeps.foldl, Keeps.when, Keeps.put, Keeps.puts, Keeps.setByte, Keeps.setBytes, Keeps.clearRange, Keeps.updRegs, Keeps.updMemNil, Keeps.updViolNil, Keeps.updViolDrop, Keeps.updT, Keeps.updTzero, RegFile.resetBlock, State.bump_keeps, evalCurves_keeps, gridCause_keeps, h]; done) | dsimp only | with_reducible refine Keeps.ite ?_ ?_ | split | with_reducible refine Keeps.foldl (fun _ _ => ?_) ?_ | with_reducible refine Keeps.foldl1 (fun _ _ => ?_) ?_ | with_reducible refine Keeps.foldl2 (fun _ _ => ?_) ?_ | with_reducible refine Keeps.foldl3 (fun _ _ => ?_) ?_ | with_reducible refine Keeps.when (fun _ => ?_) ?_)

theorem freqUpdate_keeps {z : State} (s : State) (h : Keeps z s) : Keeps z (freqUpdate s) := by
  unfold freqUpdate
  repeat' (first | (simp (maxDischargeDepth := 40) only [implies_true, Keeps.refl, Keeps.ite, Keeps.upd, Keeps.foldl, Keeps.when, Keeps.put, Keeps.puts, Keeps.setByte, Keeps.setBytes, Keeps.clearRange, Keeps.updRegs, Keeps.updMemNil, Keeps.updViolNil, Keeps.updViolDrop, Keeps.updT, Keeps.updTzero, RegFile.resetBlock, evalCurves_keeps, gridCause_keeps, setNudge_keeps, h]; done) | dsimp only | with_reducible refine Keeps.ite ?_ ?_ | split | with_reducible refine Keeps.foldl (fun _ _ => ?_) ?_ | with_reducible refine Keeps.foldl1 (fun _ _ => ?_) ?_ | with_reducible refine Keeps.foldl2 (fun _ _ => ?_) ?_ | with_reducible refine Keeps.foldl3 (fun _ _ => ?_) ?_ | with_reducible refine Keeps.when (fun _ => ?_) ?_)

theorem vectorShift_keeps {z : State} (s : State) (h : Keeps z s) : Keeps z (vectorShift s) := by
  unfold vectorShift
  repeat' (first | (simp (maxDischargeDepth := 40) only [implies_true, Keeps.refl, Keeps.ite, Keeps.upd, Keeps.foldl, Keeps.when, Keeps.put, Keeps.puts, Keeps.setByte, Keeps.setBytes, Keeps.clearRange, Keeps.updRegs, Keeps.updMemNil, Keeps.updViolNil, Keeps.updViolDrop, Keeps.updT, Keeps.updTzero, RegFile.resetBlock, gridCause_keeps, h]; done) | dsimp only | with_reducible refine Keeps.ite ?_ ?_ | split | with_reducible refine Keeps.foldl (fun _ _ => ?_) ?_ | with_reducible refine Keeps.foldl1 (fun _ _ => ?_) ?_ | with_reducible refine Keeps.foldl2 (fun _ _ => ?_) ?_ | with_reducible refine Keeps.foldl3 (fun _ _ => ?_) ?_ | with_reducible refine Keeps.when (fun _ => ?_) ?_)

theorem esExpiry_keeps {z : State} (s : State) (h : Keeps z s) : Keeps z (esExpiry s) := by
  unfold esExpiry
  simp (maxDischargeDepth := 40) only [implies_true, Keeps.refl, Keeps.ite, Keeps.upd, Keeps.foldl, Keeps.when, Keeps.put, Keeps.puts, Keeps.setByte, Keeps.setBytes, Keeps.clearRange, Keeps.updRegs, Keeps.updMemNil, Keeps.updViolNil, Keeps.updViolDrop, Keeps.updT, Keeps.updTzero, RegFile.resetBlock, gridCause_keeps, h]

theorem profErr_keeps {z : State} (s : State) (code : Nat) (h : Keeps z s) : Keeps z (profErr s code) := by
  unfold profErr
  simp (maxDischargeDepth := 40) only [implies_true, Keeps.refl, Keeps.ite, Keeps.upd, Keeps.foldl, Keeps.when, Keeps.put, Keeps.puts, Keeps.setByte, Keeps.setBytes, Keeps.clearRange, Keeps.updRegs, Keeps.updMemNil, Keeps.updViolNil, Keeps.updViolDrop, Keeps.updT, Keeps.updTzero, RegFile.resetBlock, h]

theorem activate_keeps {z : State} (s : State) (h : Keeps z s) : Keeps z (activate s) := by
  unfold activate
  simp (maxDischargeDepth := 40) only [implies_true, Keeps.refl, Keeps.ite, Keeps.upd, Keeps.foldl, Keeps.when, Keeps.put, Keeps.puts, Keeps.setByte, Keeps.setBytes, Keeps.clearRange, Keeps.updRegs, Keeps.updMemNil, Keeps.updViolNil, Keeps.updViolDrop, Keeps.updT, Keeps.updTzero, RegFile.resetBlock, ldgPush_keeps, profErr_keeps, h]

theorem bankSwap_keeps {z : State} (s : State) (h : Keeps z s) : Keeps z (bankSwap s) := by
  unfold bankSwap
  simp (maxDischargeDepth := 40) only [implies_true, Keeps.refl, Keeps.ite, Keeps.upd, Keeps.foldl, Keeps.when, Keeps.put, Keeps.puts, Keeps.setByte, Keeps.setBytes, Keeps.clearRange, Keeps.updRegs, Keeps.updMemNil, Keeps.updViolNil, Keeps.updViolDrop, Keeps.updT, Keeps.updTzero, RegFile.resetBlock, gridCause_keeps, setNudge_keeps, setRegion_keeps, h]

theorem profileCommitted_keeps {z : State} (s : State) (ok : Bool) (h : Keeps z s) : Keeps z (profileCommitted s ok) := by
  unfold profileCommitted
  simp (maxDischargeDepth := 40) only [implies_true, Keeps.refl, Keeps.ite, Keeps.upd, Keeps.foldl, Keeps.when, Keeps.put, Keeps.puts, Keeps.setByte, Keeps.setBytes, Keeps.clearRange, Keeps.updRegs, Keeps.updMemNil, Keeps.updViolNil, Keeps.updViolDrop, Keeps.updT, Keeps.updTzero, RegFile.resetBlock, bankSwap_keeps, profErr_keeps, h]

theorem profileSwap_keeps {z : State} (s : State) (h : Keeps z s) : Keeps z (profileSwap s) := by
  unfold profileSwap
  simp (maxDischargeDepth := 40) only [implies_true, Keeps.refl, Keeps.ite, Keeps.upd, Keeps.foldl, Keeps.when, Keeps.put, Keeps.puts, Keeps.setByte, Keeps.setBytes, Keeps.clearRange, Keeps.updRegs, Keeps.updMemNil, Keeps.updViolNil, Keeps.updViolDrop, Keeps.updT, Keeps.updTzero, RegFile.resetBlock, bankSwap_keeps, h]

theorem injStart_keeps {z : State} (s : State) (h : Keeps z s) : Keeps z (injStart s) := by
  unfold injStart
  simp (maxDischargeDepth := 40) only [implies_true, Keeps.refl, Keeps.ite, Keeps.upd, Keeps.foldl, Keeps.when, Keeps.put, Keeps.puts, Keeps.setByte, Keeps.setBytes, Keeps.clearRange, Keeps.updRegs, Keeps.updMemNil, Keeps.updViolNil, Keeps.updViolDrop, Keeps.updT, Keeps.updTzero, RegFile.resetBlock, setNudge_keeps, h]

theorem applyInjLate_keeps {z : State} (s : State) (h : Keeps z s) : Keeps z (applyInjLate s) := by
  unfold applyInjLate
  repeat' (first | (simp (maxDischargeDepth := 40) only [implies_true, Keeps.refl, Keeps.ite, Keeps.upd, Keeps.foldl, Keeps.when, Keeps.put, Keeps.puts, Keeps.setByte, Keeps.setBytes, Keeps.clearRange, Keeps.updRegs, Keeps.updMemNil, Keeps.updViolNil, Keeps.updViolDrop, Keeps.updT, Keeps.updTzero, RegFile.resetBlock, h]; done) | dsimp only | with_reducible refine Keeps.ite ?_ ?_ | split | with_reducible refine Keeps.foldl (fun _ _ => ?_) ?_ | with_reducible refine Keeps.foldl1 (fun _ _ => ?_) ?_ | with_reducible refine Keeps.foldl2 (fun _ _ => ?_) ?_ | with_reducible refine Keeps.foldl3 (fun _ _ => ?_) ?_ | with_reducible refine Keeps.when (fun _ => ?_) ?_)

theorem injEnd_keeps {z : State} (s : State) (h : Keeps z s) : Keeps z (injEnd s) := by
  unfold injEnd
  repeat' (first | (simp (maxDischargeDepth := 40) only [implies_true, Keeps.refl, Keeps.ite, Keeps.upd, Keeps.foldl, Keeps.when, Keeps.put, Keeps.puts, Keeps.setByte, Keeps.setBytes, Keeps.clearRange, Keeps.updRegs, Keeps.updMemNil, Keeps.updViolNil, Keeps.updViolDrop, Keeps.updT, Keeps.updTzero, RegFile.resetBlock, applyInjLate_keeps, setNudge_keeps, h]; done) | dsimp only | with_reducible refine Keeps.ite ?_ ?_ | split | with_reducible refine Keeps.foldl (fun _ _ => ?_) ?_ | with_reducible refine Keeps.foldl1 (fun _ _ => ?_) ?_ | with_reducible refine Keeps.foldl2 (fun _ _ => ?_) ?_ | with_reducible refine Keeps.foldl3 (fun _ _ => ?_) ?_ | with_reducible refine Keeps.when (fun _ => ?_) ?_)

theorem injResponse_keeps {z : State} (s : State) (h : Keeps z s) : Keeps z (injResponse s) := by
  unfold injResponse
  repeat' (first | (simp (maxDischargeDepth := 40) only [implies_true, Keeps.refl, Keeps.ite, Keeps.upd, Keeps.foldl, Keeps.when, Keeps.put, Keeps.puts, Keeps.setByte, Keeps.setBytes, Keeps.clearRange, Keeps.updRegs, Keeps.updMemNil, Keeps.updViolNil, Keeps.updViolDrop, Keeps.updT, Keeps.updTzero, RegFile.resetBlock, gridCause_keeps, h]; done) | dsimp only | with_reducible refine Keeps.ite ?_ ?_ | split | with_reducible refine Keeps.foldl (fun _ _ => ?_) ?_ | with_reducible refine Keeps.foldl1 (fun _ _ => ?_) ?_ | with_reducible refine Keeps.foldl2 (fun _ _ => ?_) ?_ | with_reducible refine Keeps.foldl3 (fun _ _ => ?_) ?_ | with_reducible refine Keeps.when (fun _ => ?_) ?_)

theorem injWrite_keeps {z : State} (s : State) (slot : Bool) (v : Nat) (h : Keeps z s) : Keeps z (injWrite s slot v) := by
  unfold injWrite
  simp (maxDischargeDepth := 40) only [implies_true, Keeps.refl, Keeps.ite, Keeps.upd, Keeps.foldl, Keeps.when, Keeps.put, Keeps.puts, Keeps.setByte, Keeps.setBytes, Keeps.clearRange, Keeps.updRegs, Keeps.updMemNil, Keeps.updViolNil, Keeps.updViolDrop, Keeps.updT, Keeps.updTzero, RegFile.resetBlock, h]

theorem grdIgn_keeps {z : State} (s : State) (h : Keeps z s) : Keeps z (grdIgn s) := by
  unfold grdIgn
  simp (maxDischargeDepth := 40) only [implies_true, Keeps.refl, Keeps.ite, Keeps.upd, Keeps.foldl, Keeps.when, Keeps.put, Keeps.puts, Keeps.setByte, Keeps.setBytes, Keeps.clearRange, Keeps.updRegs, Keeps.updMemNil, Keeps.updViolNil, Keeps.updViolDrop, Keeps.updT, Keeps.updTzero, RegFile.resetBlock, h]

theorem setTrim_keeps {z : State} (s : State) (v : Nat) (h : Keeps z s) : Keeps z (setTrim s v) := by
  unfold setTrim
  simp (maxDischargeDepth := 40) only [implies_true, Keeps.refl, Keeps.ite, Keeps.upd, Keeps.foldl, Keeps.when, Keeps.put, Keeps.puts, Keeps.setByte, Keeps.setBytes, Keeps.clearRange, Keeps.updRegs, Keeps.updMemNil, Keeps.updViolNil, Keeps.updViolDrop, Keeps.updT, Keeps.updTzero, RegFile.resetBlock, grdIgn_keeps, h]

theorem grdCtrl_keeps {z : State} (s : State) (v : Nat) (h : Keeps z s) : Keeps z (grdCtrl s v) := by
  unfold grdCtrl
  simp (maxDischargeDepth := 40) only [implies_true, Keeps.refl, Keeps.ite, Keeps.upd, Keeps.foldl, Keeps.when, Keeps.put, Keeps.puts, Keeps.setByte, Keeps.setBytes, Keeps.clearRange, Keeps.updRegs, Keeps.updMemNil, Keeps.updViolNil, Keeps.updViolDrop, Keeps.updT, Keeps.updTzero, RegFile.resetBlock, activate_keeps, ceaseClr_keeps, ceaseCmd_keeps, h]

theorem grdCfgWrite_keeps {z : State} (s : State) (v : Nat) (h : Keeps z s) : Keeps z (grdCfgWrite s v) := by
  unfold grdCfgWrite
  simp (maxDischargeDepth := 40) only [implies_true, Keeps.refl, Keeps.ite, Keeps.upd, Keeps.foldl, Keeps.when, Keeps.put, Keeps.puts, Keeps.setByte, Keeps.setBytes, Keeps.clearRange, Keeps.updRegs, Keeps.updMemNil, Keeps.updViolNil, Keeps.updViolDrop, Keeps.updT, Keeps.updTzero, RegFile.resetBlock, State.putWord_keeps, grdIgn_keeps, trackerUnlock_keeps, h]

theorem grdVinWrite_keeps {z : State} (s : State) (k : Nat) (v : Nat) (h : Keeps z s) : Keeps z (grdVinWrite s k v) := by
  unfold grdVinWrite
  simp (maxDischargeDepth := 40) only [implies_true, Keeps.refl, Keeps.ite, Keeps.upd, Keeps.foldl, Keeps.when, Keeps.put, Keeps.puts, Keeps.setByte, Keeps.setBytes, Keeps.clearRange, Keeps.updRegs, Keeps.updMemNil, Keeps.updViolNil, Keeps.updViolDrop, Keeps.updT, Keeps.updTzero, RegFile.resetBlock, State.putWord_keeps, grdIgn_keeps, h]

theorem profileWrite_keeps {z : State} (s : State) (m : Nat) (b : Nat) (w : Nat) (v : Nat) (h : Keeps z s) : Keeps z (profileWrite s m b w v) := by
  unfold profileWrite
  simp (maxDischargeDepth := 40) only [implies_true, Keeps.refl, Keeps.ite, Keeps.upd, Keeps.foldl, Keeps.when, Keeps.put, Keeps.puts, Keeps.setByte, Keeps.setBytes, Keeps.clearRange, Keeps.updRegs, Keeps.updMemNil, Keeps.updViolNil, Keeps.updViolDrop, Keeps.updT, Keeps.updTzero, RegFile.resetBlock, State.refuseWrite_keeps, h]

theorem ivsIgn_keeps {z : State} (s : State) (h : Keeps z s) : Keeps z (ivsIgn s) := by
  unfold ivsIgn
  simp (maxDischargeDepth := 40) only [implies_true, Keeps.refl, Keeps.ite, Keeps.upd, Keeps.foldl, Keeps.when, Keeps.put, Keeps.puts, Keeps.setByte, Keeps.setBytes, Keeps.clearRange, Keeps.updRegs, Keeps.updMemNil, Keeps.updViolNil, Keeps.updViolDrop, Keeps.updT, Keeps.updTzero, RegFile.resetBlock, h]

theorem ivsCommit_keeps {z : State} (s : State) (v : ShSet) (h : Keeps z s) : Keeps z (ivsCommit s v).1 := by
  unfold ivsCommit
  simp (maxDischargeDepth := 40) only [implies_true, Keeps.refl, Keeps.ite, Keeps.upd, Keeps.foldl, Keeps.when, Keeps.put, Keeps.puts, Keeps.setByte, Keeps.setBytes, Keeps.clearRange, Keeps.updRegs, Keeps.updMemNil, Keeps.updViolNil, Keeps.updViolDrop, Keeps.updT, Keeps.updTzero, RegFile.resetBlock, beforeShadow_keeps, commitSet_keeps, putShadow_keeps, h]

theorem beforeIvs_keeps {z : State} (s : State) (h : Keeps z s) : Keeps z (beforeIvs s) := by
  unfold beforeIvs
  repeat' (first | (simp (maxDischargeDepth := 40) only [implies_true, Keeps.refl, Keeps.ite, Keeps.upd, Keeps.foldl, Keeps.when, Keeps.put, Keeps.puts, Keeps.setByte, Keeps.setBytes, Keeps.clearRange, Keeps.updRegs, Keeps.updMemNil, Keeps.updViolNil, Keeps.updViolDrop, Keeps.updT, Keeps.updTzero, RegFile.resetBlock, h]; done) | dsimp only | with_reducible refine Keeps.ite ?_ ?_ | split | with_reducible refine Keeps.foldl (fun _ _ => ?_) ?_ | with_reducible refine Keeps.foldl1 (fun _ _ => ?_) ?_ | with_reducible refine Keeps.foldl2 (fun _ _ => ?_) ?_ | with_reducible refine Keeps.foldl3 (fun _ _ => ?_) ?_ | with_reducible refine Keeps.when (fun _ => ?_) ?_)

theorem ivsApply_keeps {z : State} (s : State) (h : Keeps z s) : Keeps z (ivsApply s) := by
  unfold ivsApply
  simp (maxDischargeDepth := 40) only [implies_true, Keeps.refl, Keeps.ite, Keeps.upd, Keeps.foldl, Keeps.when, Keeps.put, Keeps.puts, Keeps.setByte, Keeps.setBytes, Keeps.clearRange, Keeps.updRegs, Keeps.updMemNil, Keeps.updViolNil, Keeps.updViolDrop, Keeps.updT, Keeps.updTzero, RegFile.resetBlock, ivsCommit_keeps, h]

theorem ivsStepCommit_keeps {z : State} (s : State) (r : IvsView) (h : Keeps z s) : Keeps z (ivsStepCommit s r) := by
  unfold ivsStepCommit
  simp (maxDischargeDepth := 40) only [implies_true, Keeps.refl, Keeps.ite, Keeps.upd, Keeps.foldl, Keeps.when, Keeps.put, Keeps.puts, Keeps.setByte, Keeps.setBytes, Keeps.clearRange, Keeps.updRegs, Keeps.updMemNil, Keeps.updViolNil, Keeps.updViolDrop, Keeps.updT, Keeps.updTzero, RegFile.resetBlock, ivsCommit_keeps, h]

theorem ivsScan_keeps {z : State} (s : State) (h : Keeps z s) : Keeps z (ivsScan s) := by
  unfold ivsScan
  repeat' (first | (simp (maxDischargeDepth := 40) only [implies_true, Keeps.refl, Keeps.ite, Keeps.upd, Keeps.foldl, Keeps.when, Keeps.put, Keeps.puts, Keeps.setByte, Keeps.setBytes, Keeps.clearRange, Keeps.updRegs, Keeps.updMemNil, Keeps.updViolNil, Keeps.updViolDrop, Keeps.updT, Keeps.updTzero, RegFile.resetBlock, ivsIgn_keeps, ivsStepCommit_keeps, h]; done) | dsimp only | with_reducible refine Keeps.ite ?_ ?_ | split | with_reducible refine Keeps.foldl (fun _ _ => ?_) ?_ | with_reducible refine Keeps.foldl1 (fun _ _ => ?_) ?_ | with_reducible refine Keeps.foldl2 (fun _ _ => ?_) ?_ | with_reducible refine Keeps.foldl3 (fun _ _ => ?_) ?_ | with_reducible refine Keeps.when (fun _ => ?_) ?_)

theorem ivsAbort_keeps {z : State} (s : State) (h : Keeps z s) : Keeps z (ivsAbort s) := by
  unfold ivsAbort
  simp (maxDischargeDepth := 40) only [implies_true, Keeps.refl, Keeps.ite, Keeps.upd, Keeps.foldl, Keeps.when, Keeps.put, Keeps.puts, Keeps.setByte, Keeps.setBytes, Keeps.clearRange, Keeps.updRegs, Keeps.updMemNil, Keeps.updViolNil, Keeps.updViolDrop, Keeps.updT, Keeps.updTzero, RegFile.resetBlock, ivsCommit_keeps, h]

theorem ivsCtrl_keeps {z : State} (s : State) (v : Nat) (h : Keeps z s) : Keeps z (ivsCtrl s v) := by
  unfold ivsCtrl
  simp (maxDischargeDepth := 40) only [implies_true, Keeps.refl, Keeps.ite, Keeps.upd, Keeps.foldl, Keeps.when, Keeps.put, Keeps.puts, Keeps.setByte, Keeps.setBytes, Keeps.clearRange, Keeps.updRegs, Keeps.updMemNil, Keeps.updViolNil, Keeps.updViolDrop, Keeps.updT, Keeps.updTzero, RegFile.resetBlock, ivsAbort_keeps, ivsApply_keeps, ivsIgn_keeps, ivsScan_keeps, h]

theorem ivsStringDone_keeps {z : State} (s : State) (r : IvsView) (h : Keeps z s) : Keeps z (ivsStringDone s r) := by
  unfold ivsStringDone
  repeat' (first | (simp (maxDischargeDepth := 40) only [implies_true, Keeps.refl, Keeps.ite, Keeps.upd, Keeps.foldl, Keeps.when, Keeps.put, Keeps.puts, Keeps.setByte, Keeps.setBytes, Keeps.clearRange, Keeps.updRegs, Keeps.updMemNil, Keeps.updViolNil, Keeps.updViolDrop, Keeps.updT, Keeps.updTzero, RegFile.resetBlock, State.irq_keeps, ivsCommit_keeps, ivsStepCommit_keeps, h]; done) | dsimp only | with_reducible refine Keeps.ite ?_ ?_ | split | with_reducible refine Keeps.foldl (fun _ _ => ?_) ?_ | with_reducible refine Keeps.foldl1 (fun _ _ => ?_) ?_ | with_reducible refine Keeps.foldl2 (fun _ _ => ?_) ?_ | with_reducible refine Keeps.foldl3 (fun _ _ => ?_) ?_ | with_reducible refine Keeps.when (fun _ => ?_) ?_)

theorem ivsDwellEnd_keeps {z : State} (s : State) (h : Keeps z s) : Keeps z (ivsDwellEnd s) := by
  unfold ivsDwellEnd
  simp (maxDischargeDepth := 40) only [implies_true, Keeps.refl, Keeps.ite, Keeps.upd, Keeps.foldl, Keeps.when, Keeps.put, Keeps.puts, Keeps.setByte, Keeps.setBytes, Keeps.clearRange, Keeps.updRegs, Keeps.updMemNil, Keeps.updViolNil, Keeps.updViolDrop, Keeps.updT, Keeps.updTzero, RegFile.resetBlock, ivsStepCommit_keeps, ivsStringDone_keeps, h]

theorem ivsCompareWrite_keeps {z : State} (s : State) (j : Nat) (fall : Bool) (v : Nat) (h : Keeps z s) : Keeps z (ivsCompareWrite s j fall v) := by
  unfold ivsCompareWrite
  simp (maxDischargeDepth := 40) only [implies_true, Keeps.refl, Keeps.ite, Keeps.upd, Keeps.foldl, Keeps.when, Keeps.put, Keeps.puts, Keeps.setByte, Keeps.setBytes, Keeps.clearRange, Keeps.updRegs, Keeps.updMemNil, Keeps.updViolNil, Keeps.updViolDrop, Keeps.updT, Keeps.updTzero, RegFile.resetBlock, beforeIvs_keeps, ivsIgn_keeps, h]

theorem ivsInWrite_keeps {z : State} (s : State) (j : Nat) (v : Nat) (h : Keeps z s) : Keeps z (ivsInWrite s j v) := by
  unfold ivsInWrite
  simp (maxDischargeDepth := 40) only [implies_true, Keeps.refl, Keeps.ite, Keeps.upd, Keeps.foldl, Keeps.when, Keeps.put, Keeps.puts, Keeps.setByte, Keeps.setBytes, Keeps.clearRange, Keeps.updRegs, Keeps.updMemNil, Keeps.updViolNil, Keeps.updViolDrop, Keeps.updT, Keeps.updTzero, RegFile.resetBlock, State.putWord_keeps, ivsIgn_keeps, h]

theorem grdRefRead_keeps {z : State} (s : State) (m : Nat) (h : Keeps z s) : Keeps z (grdRefRead s m) := by
  unfold grdRefRead
  simp (maxDischargeDepth := 40) only [implies_true, Keeps.refl, Keeps.ite, Keeps.upd, Keeps.foldl, Keeps.when, Keeps.put, Keeps.puts, Keeps.setByte, Keeps.setBytes, Keeps.clearRange, Keeps.updRegs, Keeps.updMemNil, Keeps.updViolNil, Keeps.updViolDrop, Keeps.updT, Keeps.updTzero, RegFile.resetBlock, State.answer_keeps, State.latch_keeps, State.refuseRead_keeps, h]

end Sys2Proof.Machine
end

