-- ==== Sys2Proof/Laws/KeepAcquisition.lean ====
section
/-! SUPPORT. What the operations of Machine/Acquisition.lean keep (Laws/Keeps.lean). -/
set_option linter.unusedSimpArgs false
set_option linter.unusedVariables false
namespace Sys2Proof.Machine
open Sys2Proof.Reg

theorem adcIgn_keeps {z : State} (s : State) (u : Nat) (h : Keeps z s) : Keeps z (adcIgn s u) := by
  unfold adcIgn
  simp (maxDischargeDepth := 40) only [implies_true, Keeps.refl, Keeps.ite, Keeps.upd, Keeps.foldl, Keeps.when, Keeps.put, Keeps.puts, Keeps.setByte, Keeps.setBytes, Keeps.clearRange, Keeps.updRegs, Keeps.updMemNil, Keeps.updViolNil, Keeps.updViolDrop, Keeps.updT, Keeps.updTzero, RegFile.resetBlock, h]

theorem adcRefIgn_keeps {z : State} (s : State) (h : Keeps z s) : Keeps z (adcRefIgn s) := by
  unfold adcRefIgn
  simp (maxDischargeDepth := 40) only [implies_true, Keeps.refl, Keeps.ite, Keeps.upd, Keeps.foldl, Keeps.when, Keeps.put, Keeps.puts, Keeps.setByte, Keeps.setBytes, Keeps.clearRange, Keeps.updRegs, Keeps.updMemNil, Keeps.updViolNil, Keeps.updViolDrop, Keeps.updT, Keeps.updTzero, RegFile.resetBlock, h]

theorem takeSwap_keeps {z : State} (s : State) (u : Nat) (h : Keeps z s) : Keeps z (takeSwap s u) := by
  unfold takeSwap
  simp (maxDischargeDepth := 40) only [implies_true, Keeps.refl, Keeps.ite, Keeps.upd, Keeps.foldl, Keeps.when, Keeps.put, Keeps.puts, Keeps.setByte, Keeps.setBytes, Keeps.clearRange, Keeps.updRegs, Keeps.updMemNil, Keeps.updViolNil, Keeps.updViolDrop, Keeps.updT, Keeps.updTzero, RegFile.resetBlock, h]

theorem unitStopped_keeps {z : State} (s : State) (u : Nat) (h : Keeps z s) : Keeps z (unitStopped s u) := by
  unfold unitStopped
  simp (maxDischargeDepth := 40) only [implies_true, Keeps.refl, Keeps.ite, Keeps.upd, Keeps.foldl, Keeps.when, Keeps.put, Keeps.puts, Keeps.setByte, Keeps.setBytes, Keeps.clearRange, Keeps.updRegs, Keeps.updMemNil, Keeps.updViolNil, Keeps.updViolDrop, Keeps.updT, Keeps.updTzero, RegFile.resetBlock, State.setAdcU_keeps, takeSwap_keeps, h]

theorem passEnd_keeps {z : State} (s : State) (u : Nat) (h : Keeps z s) : Keeps z (passEnd s u) := by
  unfold passEnd
  simp (maxDischargeDepth := 40) only [implies_true, Keeps.refl, Keeps.ite, Keeps.upd, Keeps.foldl, Keeps.when, Keeps.put, Keeps.puts, Keeps.setByte, Keeps.setBytes, Keeps.clearRange, Keeps.updRegs, Keeps.updMemNil, Keeps.updViolNil, Keeps.updViolDrop, Keeps.updT, Keeps.updTzero, RegFile.resetBlock, takeSwap_keeps, h]

theorem slotStart_keeps {z : State} (s : State) (u : Nat) (h : Keeps z s) : Keeps z (slotStart s u) := by
  unfold slotStart
  simp (maxDischargeDepth := 40) only [implies_true, Keeps.refl, Keeps.ite, Keeps.upd, Keeps.foldl, Keeps.when, Keeps.put, Keeps.puts, Keeps.setByte, Keeps.setBytes, Keeps.clearRange, Keeps.updRegs, Keeps.updMemNil, Keeps.updViolNil, Keeps.updViolDrop, Keeps.updT, Keeps.updTzero, RegFile.resetBlock, State.setAdcU_keeps, State.store_keeps, passEnd_keeps, h]

theorem windowClose_keeps {z : State} (s : State) (u : Nat) (h : Keeps z s) : Keeps z (windowClose s u) := by
  unfold windowClose
  repeat' (first | (simp (maxDischargeDepth := 40) only [implies_true, Keeps.refl, Keeps.ite, Keeps.upd, Keeps.foldl, Keeps.when, Keeps.put, Keeps.puts, Keeps.setByte, Keeps.setBytes, Keeps.clearRange, Keeps.updRegs, Keeps.updMemNil, Keeps.updViolNil, Keeps.updViolDrop, Keeps.updT, Keeps.updTzero, RegFile.resetBlock, State.setAdcU_keeps, State.store_keeps, h]; done) | dsimp only | with_reducible refine Keeps.ite ?_ ?_ | split | with_reducible refine Keeps.foldl (fun _ _ => ?_) ?_ | with_reducible refine Keeps.foldl1 (fun _ _ => ?_) ?_ | with_reducible refine Keeps.foldl2 (fun _ _ => ?_) ?_ | with_reducible refine Keeps.foldl3 (fun _ _ => ?_) ?_ | with_reducible refine Keeps.when (fun _ => ?_) ?_)

theorem urgJudge_keeps {z : State} (s : State) (u : Nat) (event : Bool) (h : Keeps z s) : Keeps z (urgJudge s u event) := by
  unfold urgJudge
  repeat' (first | (simp (maxDischargeDepth := 40) only [implies_true, Keeps.refl, Keeps.ite, Keeps.upd, Keeps.foldl, Keeps.when, Keeps.put, Keeps.puts, Keeps.setByte, Keeps.setBytes, Keeps.clearRange, Keeps.updRegs, Keeps.updMemNil, Keeps.updViolNil, Keeps.updViolDrop, Keeps.updT, Keeps.updTzero, RegFile.resetBlock, State.bump_keeps, State.setAdcU_keeps, h]; done) | dsimp only | with_reducible refine Keeps.ite ?_ ?_ | split | with_reducible refine Keeps.foldl (fun _ _ => ?_) ?_ | with_reducible refine Keeps.foldl1 (fun _ _ => ?_) ?_ | with_reducible refine Keeps.foldl2 (fun _ _ => ?_) ?_ | with_reducible refine Keeps.foldl3 (fun _ _ => ?_) ?_ | with_reducible refine Keeps.when (fun _ => ?_) ?_)

theorem noteUrg_keeps {z : State} (s : State) (u : Nat) (event : Bool) (h : Keeps z s) : Keeps z (noteUrg s u event) := by
  unfold noteUrg
  repeat' (first | (simp (maxDischargeDepth := 40) only [implies_true, Keeps.refl, Keeps.ite, Keeps.upd, Keeps.foldl, Keeps.when, Keeps.put, Keeps.puts, Keeps.setByte, Keeps.setBytes, Keeps.clearRange, Keeps.updRegs, Keeps.updMemNil, Keeps.updViolNil, Keeps.updViolDrop, Keeps.updT, Keeps.updTzero, RegFile.resetBlock, State.setAdcU_keeps, h]; done) | dsimp only | with_reducible refine Keeps.ite ?_ ?_ | split | with_reducible refine Keeps.foldl (fun _ _ => ?_) ?_ | with_reducible refine Keeps.foldl1 (fun _ _ => ?_) ?_ | with_reducible refine Keeps.foldl2 (fun _ _ => ?_) ?_ | with_reducible refine Keeps.foldl3 (fun _ _ => ?_) ?_ | with_reducible refine Keeps.when (fun _ => ?_) ?_)

theorem boundarySwap_keeps {z : State} (s : State) (u : Nat) (h : Keeps z s) : Keeps z (boundarySwap s u) := by
  unfold boundarySwap
  repeat' (first | (simp (maxDischargeDepth := 40) only [implies_true, Keeps.refl, Keeps.ite, Keeps.upd, Keeps.foldl, Keeps.when, Keeps.put, Keeps.puts, Keeps.setByte, Keeps.setBytes, Keeps.clearRange, Keeps.updRegs, Keeps.updMemNil, Keeps.updViolNil, Keeps.updViolDrop, Keeps.updT, Keeps.updTzero, RegFile.resetBlock, State.setAdcU_keeps, noteUrg_keeps, slotStart_keeps, takeSwap_keeps, urgJudge_keeps, h]; done) | dsimp only | with_reducible refine Keeps.ite ?_ ?_ | split | with_reducible refine Keeps.foldl (fun _ _ => ?_) ?_ | with_reducible refine Keeps.foldl1 (fun _ _ => ?_) ?_ | with_reducible refine Keeps.foldl2 (fun _ _ => ?_) ?_ | with_reducible refine Keeps.foldl3 (fun _ _ => ?_) ?_ | with_reducible refine Keeps.when (fun _ => ?_) ?_)

theorem adcStart_keeps {z : State} (s : State) (u : Nat) (h : Keeps z s) : Keeps z (adcStart s u) := by
  unfold adcStart
  simp (maxDischargeDepth := 40) only [implies_true, Keeps.refl, Keeps.ite, Keeps.upd, Keeps.foldl, Keeps.when, Keeps.put, Keeps.puts, Keeps.setByte, Keeps.setBytes, Keeps.clearRange, Keeps.updRegs, Keeps.updMemNil, Keeps.updViolNil, Keeps.updViolDrop, Keeps.updT, Keeps.updTzero, RegFile.resetBlock, State.setAdcU_keeps, adcIgn_keeps, h]

theorem adcStop_keeps {z : State} (s : State) (u : Nat) (h : Keeps z s) : Keeps z (adcStop s u) := by
  unfold adcStop
  repeat' (first | (simp (maxDischargeDepth := 40) only [implies_true, Keeps.refl, Keeps.ite, Keeps.upd, Keeps.foldl, Keeps.when, Keeps.put, Keeps.puts, Keeps.setByte, Keeps.setBytes, Keeps.clearRange, Keeps.updRegs, Keeps.updMemNil, Keeps.updViolNil, Keeps.updViolDrop, Keeps.updT, Keeps.updTzero, RegFile.resetBlock, State.setAdcU_keeps, unitStopped_keeps, h]; done) | dsimp only | with_reducible refine Keeps.ite ?_ ?_ | split | with_reducible refine Keeps.foldl (fun _ _ => ?_) ?_ | with_reducible refine Keeps.foldl1 (fun _ _ => ?_) ?_ | with_reducible refine Keeps.foldl2 (fun _ _ => ?_) ?_ | with_reducible refine Keeps.foldl3 (fun _ _ => ?_) ?_ | with_reducible refine Keeps.when (fun _ => ?_) ?_)

theorem adcSwap_keeps {z : State} (s : State) (u : Nat) (h : Keeps z s) : Keeps z (adcSwap s u) := by
  unfold adcSwap
  simp (maxDischargeDepth := 40) only [implies_true, Keeps.refl, Keeps.ite, Keeps.upd, Keeps.foldl, Keeps.when, Keeps.put, Keeps.puts, Keeps.setByte, Keeps.setBytes, Keeps.clearRange, Keeps.updRegs, Keeps.updMemNil, Keeps.updViolNil, Keeps.updViolDrop, Keeps.updT, Keeps.updTzero, RegFile.resetBlock, boundarySwap_keeps, takeSwap_keeps, h]

theorem adcCommand_keeps {z : State} (s : State) (u : Nat) (swap : Bool) (stop : Bool) (start : Bool) (h : Keeps z s) : Keeps z (adcCommand s u swap stop start) := by
  unfold adcCommand
  simp (maxDischargeDepth := 40) only [implies_true, Keeps.refl, Keeps.ite, Keeps.upd, Keeps.foldl, Keeps.when, Keeps.put, Keeps.puts, Keeps.setByte, Keeps.setBytes, Keeps.clearRange, Keeps.updRegs, Keeps.updMemNil, Keeps.updViolNil, Keeps.updViolDrop, Keeps.updT, Keeps.updTzero, RegFile.resetBlock, adcStart_keeps, adcStop_keeps, adcSwap_keeps, h]

theorem adcCtrlWrite_keeps {z : State} (s : State) (m : Nat) (u : Nat) (v : Nat) (h : Keeps z s) : Keeps z (adcCtrlWrite s m u v) := by
  unfold adcCtrlWrite
  simp (maxDischargeDepth := 40) only [implies_true, Keeps.refl, Keeps.ite, Keeps.upd, Keeps.foldl, Keeps.when, Keeps.put, Keeps.puts, Keeps.setByte, Keeps.setBytes, Keeps.clearRange, Keeps.updRegs, Keeps.updMemNil, Keeps.updViolNil, Keeps.updViolDrop, Keeps.updT, Keeps.updTzero, RegFile.resetBlock, State.refuseWrite_keeps, adcCommand_keeps, h]

theorem adcStartWrite_keeps {z : State} (s : State) (m : Nat) (v : Nat) (h : Keeps z s) : Keeps z (adcStartWrite s m v) := by
  unfold adcStartWrite
  simp (maxDischargeDepth := 40) only [implies_true, Keeps.refl, Keeps.ite, Keeps.upd, Keeps.foldl, Keeps.when, Keeps.put, Keeps.puts, Keeps.setByte, Keeps.setBytes, Keeps.clearRange, Keeps.updRegs, Keeps.updMemNil, Keeps.updViolNil, Keeps.updViolDrop, Keeps.updT, Keeps.updTzero, RegFile.resetBlock, State.refuseWrite_keeps, adcCommand_keeps, adcIgn_keeps, h]

theorem sampleInstant_keeps {z : State} (s : State) (u : Nat) (code : Nat) (range : Nat) (h : Keeps z s) : Keeps z (sampleInstant s u code range) := by
  unfold sampleInstant
  repeat' (first | (simp (maxDischargeDepth := 40) only [implies_true, Keeps.refl, Keeps.ite, Keeps.upd, Keeps.foldl, Keeps.when, Keeps.put, Keeps.puts, Keeps.setByte, Keeps.setBytes, Keeps.clearRange, Keeps.updRegs, Keeps.updMemNil, Keeps.updViolNil, Keeps.updViolDrop, Keeps.updT, Keeps.updTzero, RegFile.resetBlock, State.setAdcU_keeps, h]; done) | dsimp only | with_reducible refine Keeps.ite ?_ ?_ | split | with_reducible refine Keeps.foldl (fun _ _ => ?_) ?_ | with_reducible refine Keeps.foldl1 (fun _ _ => ?_) ?_ | with_reducible refine Keeps.foldl2 (fun _ _ => ?_) ?_ | with_reducible refine Keeps.foldl3 (fun _ _ => ?_) ?_ | with_reducible refine Keeps.when (fun _ => ?_) ?_)

theorem queuePair_keeps {z : State} (s : State) (n : Nat) (p : Pair) (h : Keeps z s) : Keeps z (queuePair s n p) := by
  unfold queuePair
  repeat' (first | (simp (maxDischargeDepth := 40) only [implies_true, Keeps.refl, Keeps.ite, Keeps.upd, Keeps.foldl, Keeps.when, Keeps.put, Keeps.puts, Keeps.setByte, Keeps.setBytes, Keeps.clearRange, Keeps.updRegs, Keeps.updMemNil, Keeps.updViolNil, Keeps.updViolDrop, Keeps.updT, Keeps.updTzero, RegFile.resetBlock, h]; done) | dsimp only | with_reducible refine Keeps.ite ?_ ?_ | split | with_reducible refine Keeps.foldl (fun _ _ => ?_) ?_ | with_reducible refine Keeps.foldl1 (fun _ _ => ?_) ?_ | with_reducible refine Keeps.foldl2 (fun _ _ => ?_) ?_ | with_reducible refine Keeps.foldl3 (fun _ _ => ?_) ?_ | with_reducible refine Keeps.when (fun _ => ?_) ?_)

theorem badPair_keeps {z : State} (s : State) (n : Nat) (sum : Nat) (h : Keeps z s) : Keeps z (badPair s n sum) := by
  unfold badPair
  repeat' (first | (simp (maxDischargeDepth := 40) only [implies_true, Keeps.refl, Keeps.ite, Keeps.upd, Keeps.foldl, Keeps.when, Keeps.put, Keeps.puts, Keeps.setByte, Keeps.setBytes, Keeps.clearRange, Keeps.updRegs, Keeps.updMemNil, Keeps.updViolNil, Keeps.updViolDrop, Keeps.updT, Keeps.updTzero, RegFile.resetBlock, queuePair_keeps, h]; done) | dsimp only | with_reducible refine Keeps.ite ?_ ?_ | split | with_reducible refine Keeps.foldl (fun _ _ => ?_) ?_ | with_reducible refine Keeps.foldl1 (fun _ _ => ?_) ?_ | with_reducible refine Keeps.foldl2 (fun _ _ => ?_) ?_ | with_reducible refine Keeps.foldl3 (fun _ _ => ?_) ?_ | with_reducible refine Keeps.when (fun _ => ?_) ?_)

theorem formPair_keeps {z : State} (s : State) (n : Nat) (a : Half) (b : Half) (h : Keeps z s) : Keeps z (formPair s n a b) := by
  unfold formPair
  simp (maxDischargeDepth := 40) only [implies_true, Keeps.refl, Keeps.ite, Keeps.upd, Keeps.foldl, Keeps.when, Keeps.put, Keeps.puts, Keeps.setByte, Keeps.setBytes, Keeps.clearRange, Keeps.updRegs, Keeps.updMemNil, Keeps.updViolNil, Keeps.updViolDrop, Keeps.updT, Keeps.updTzero, RegFile.resetBlock, queuePair_keeps, h]

theorem pairHalf_keeps {z : State} (s : State) (n : Nat) (k : Nat) (k' : Nat) (u' : Nat) (isSin : Bool) (h : Half) (h0 : Keeps z s) : Keeps z (pairHalf s n k k' u' isSin h) := by
  unfold pairHalf
  repeat' (first | (simp (maxDischargeDepth := 40) only [implies_true, Keeps.refl, Keeps.ite, Keeps.upd, Keeps.foldl, Keeps.when, Keeps.put, Keeps.puts, Keeps.setByte, Keeps.setBytes, Keeps.clearRange, Keeps.updRegs, Keeps.updMemNil, Keeps.updViolNil, Keeps.updViolDrop, Keeps.updT, Keeps.updTzero, RegFile.resetBlock, badPair_keeps, formPair_keeps, h0]; done) | dsimp only | with_reducible refine Keeps.ite ?_ ?_ | split | with_reducible refine Keeps.foldl (fun _ _ => ?_) ?_ | with_reducible refine Keeps.foldl1 (fun _ _ => ?_) ?_ | with_reducible refine Keeps.foldl2 (fun _ _ => ?_) ?_ | with_reducible refine Keeps.foldl3 (fun _ _ => ?_) ?_ | with_reducible refine Keeps.when (fun _ => ?_) ?_)

theorem offerResolver_keeps {z : State} (s : State) (n : Nat) (u : Nat) (r : AdcRes) (h : Keeps z s) : Keeps z (offerResolver s n u r) := by
  unfold offerResolver
  repeat' (first | (simp (maxDischargeDepth := 40) only [implies_true, Keeps.refl, Keeps.ite, Keeps.upd, Keeps.foldl, Keeps.when, Keeps.put, Keeps.puts, Keeps.setByte, Keeps.setBytes, Keeps.clearRange, Keeps.updRegs, Keeps.updMemNil, Keeps.updViolNil, Keeps.updViolDrop, Keeps.updT, Keeps.updTzero, RegFile.resetBlock, pairHalf_keeps, h]; done) | dsimp only | with_reducible refine Keeps.ite ?_ ?_ | split | with_reducible refine Keeps.foldl (fun _ _ => ?_) ?_ | with_reducible refine Keeps.foldl1 (fun _ _ => ?_) ?_ | with_reducible refine Keeps.foldl2 (fun _ _ => ?_) ?_ | with_reducible refine Keeps.foldl3 (fun _ _ => ?_) ?_ | with_reducible refine Keeps.when (fun _ => ?_) ?_)

theorem deliver_keeps {z : State} (s : State) (u : Nat) (r : AdcRes) (h : Keeps z s) : Keeps z (deliver s u r) := by
  unfold deliver
  simp (maxDischargeDepth := 40) only [implies_true, Keeps.refl, Keeps.ite, Keeps.upd, Keeps.foldl, Keeps.when, Keeps.put, Keeps.puts, Keeps.setByte, Keeps.setBytes, Keeps.clearRange, Keeps.updRegs, Keeps.updMemNil, Keeps.updViolNil, Keeps.updViolDrop, Keeps.updT, Keeps.updTzero, RegFile.resetBlock, State.bump_keeps, State.setAdcU_keeps, State.store_keeps, dspVector_keeps, gridResult_keeps, offerResolver_keeps, h]

theorem conversionEnd_keeps {z : State} (s : State) (u : Nat) (h : Keeps z s) : Keeps z (conversionEnd s u) := by
  unfold conversionEnd
  repeat' (first | (simp (maxDischargeDepth := 40) only [implies_true, Keeps.refl, Keeps.ite, Keeps.upd, Keeps.foldl, Keeps.when, Keeps.put, Keeps.puts, Keeps.setByte, Keeps.setBytes, Keeps.clearRange, Keeps.updRegs, Keeps.updMemNil, Keeps.updViolNil, Keeps.updViolDrop, Keeps.updT, Keeps.updTzero, RegFile.resetBlock, State.setAdcU_keeps, deliver_keeps, unitStopped_keeps, h]; done) | dsimp only | with_reducible refine Keeps.ite ?_ ?_ | split | with_reducible refine Keeps.foldl (fun _ _ => ?_) ?_ | with_reducible refine Keeps.foldl1 (fun _ _ => ?_) ?_ | with_reducible refine Keeps.foldl2 (fun _ _ => ?_) ?_ | with_reducible refine Keeps.foldl3 (fun _ _ => ?_) ?_ | with_reducible refine Keeps.when (fun _ => ?_) ?_)

theorem quietWindowEnd_keeps {z : State} (s : State) (u : Nat) (h : Keeps z s) : Keeps z (quietWindowEnd s u) := by
  unfold quietWindowEnd
  repeat' (first | (simp (maxDischargeDepth := 40) only [implies_true, Keeps.refl, Keeps.ite, Keeps.upd, Keeps.foldl, Keeps.when, Keeps.put, Keeps.puts, Keeps.setByte, Keeps.setBytes, Keeps.clearRange, Keeps.updRegs, Keeps.updMemNil, Keeps.updViolNil, Keeps.updViolDrop, Keeps.updT, Keeps.updTzero, RegFile.resetBlock, State.setAdcU_keeps, deliver_keeps, h]; done) | dsimp only | with_reducible refine Keeps.ite ?_ ?_ | split | with_reducible refine Keeps.foldl (fun _ _ => ?_) ?_ | with_reducible refine Keeps.foldl1 (fun _ _ => ?_) ?_ | with_reducible refine Keeps.foldl2 (fun _ _ => ?_) ?_ | with_reducible refine Keeps.foldl3 (fun _ _ => ?_) ?_ | with_reducible refine Keeps.when (fun _ => ?_) ?_)

theorem dmaCommit_keeps {z : State} (s : State) (u : Nat) (h : Keeps z s) : Keeps z (dmaCommit s u) := by
  unfold dmaCommit
  repeat' (first | (simp (maxDischargeDepth := 40) only [implies_true, Keeps.refl, Keeps.ite, Keeps.upd, Keeps.foldl, Keeps.when, Keeps.put, Keeps.puts, Keeps.setByte, Keeps.setBytes, Keeps.clearRange, Keeps.updRegs, Keeps.updMemNil, Keeps.updViolNil, Keeps.updViolDrop, Keeps.updT, Keeps.updTzero, RegFile.resetBlock, State.setAdcU_keeps, State.setCdMem_keeps, State.store_keeps, h]; done) | dsimp only | with_reducible refine Keeps.ite ?_ ?_ | split | with_reducible refine Keeps.foldl (fun _ _ => ?_) ?_ | with_reducible refine Keeps.foldl1 (fun _ _ => ?_) ?_ | with_reducible refine Keeps.foldl2 (fun _ _ => ?_) ?_ | with_reducible refine Keeps.foldl3 (fun _ _ => ?_) ?_ | with_reducible refine Keeps.when (fun _ => ?_) ?_)

theorem adcSettle_keeps {z : State} (s : State) (u : Nat) (h : Keeps z s) : Keeps z (adcSettle s u) := by
  unfold adcSettle
  simp (maxDischargeDepth := 40) only [implies_true, Keeps.refl, Keeps.ite, Keeps.upd, Keeps.foldl, Keeps.when, Keeps.put, Keeps.puts, Keeps.setByte, Keeps.setBytes, Keeps.clearRange, Keeps.updRegs, Keeps.updMemNil, Keeps.updViolNil, Keeps.updViolDrop, Keeps.updT, Keeps.updTzero, RegFile.resetBlock, conversionEnd_keeps, slotStart_keeps, h]

theorem urgRequest_keeps {z : State} (s : State) (u : Nat) (event : Bool) (h : Keeps z s) : Keeps z (urgRequest s u event) := by
  unfold urgRequest
  repeat' (first | (simp (maxDischargeDepth := 40) only [implies_true, Keeps.refl, Keeps.ite, Keeps.upd, Keeps.foldl, Keeps.when, Keeps.put, Keeps.puts, Keeps.setByte, Keeps.setBytes, Keeps.clearRange, Keeps.updRegs, Keeps.updMemNil, Keeps.updViolNil, Keeps.updViolDrop, Keeps.updT, Keeps.updTzero, RegFile.resetBlock, adcSettle_keeps, noteUrg_keeps, urgJudge_keeps, h]; done) | dsimp only | with_reducible refine Keeps.ite ?_ ?_ | split | with_reducible refine Keeps.foldl (fun _ _ => ?_) ?_ | with_reducible refine Keeps.foldl1 (fun _ _ => ?_) ?_ | with_reducible refine Keeps.foldl2 (fun _ _ => ?_) ?_ | with_reducible refine Keeps.foldl3 (fun _ _ => ?_) ?_ | with_reducible refine Keeps.when (fun _ => ?_) ?_)

theorem urgReqWrite_keeps {z : State} (s : State) (m : Nat) (u : Nat) (v : Nat) (h : Keeps z s) : Keeps z (urgReqWrite s m u v) := by
  unfold urgReqWrite
  simp (maxDischargeDepth := 40) only [implies_true, Keeps.refl, Keeps.ite, Keeps.upd, Keeps.foldl, Keeps.when, Keeps.put, Keeps.puts, Keeps.setByte, Keeps.setBytes, Keeps.clearRange, Keeps.updRegs, Keeps.updMemNil, Keeps.updViolNil, Keeps.updViolDrop, Keeps.updT, Keeps.updTzero, RegFile.resetBlock, State.refuseWrite_keeps, urgRequest_keeps, h]

theorem urgCfgWrite_keeps {z : State} (s : State) (m : Nat) (u : Nat) (v : Nat) (h : Keeps z s) : Keeps z (urgCfgWrite s m u v) := by
  unfold urgCfgWrite
  simp (maxDischargeDepth := 40) only [implies_true, Keeps.refl, Keeps.ite, Keeps.upd, Keeps.foldl, Keeps.when, Keeps.put, Keeps.puts, Keeps.setByte, Keeps.setBytes, Keeps.clearRange, Keeps.updRegs, Keeps.updMemNil, Keeps.updViolNil, Keeps.updViolDrop, Keeps.updT, Keeps.updTzero, RegFile.resetBlock, State.putWord_keeps, State.refuseWrite_keeps, adcIgn_keeps, h]

theorem adcCfgWrite_keeps {z : State} (s : State) (m : Nat) (u : Nat) (v : Nat) (h : Keeps z s) : Keeps z (adcCfgWrite s m u v) := by
  unfold adcCfgWrite
  simp (maxDischargeDepth := 40) only [implies_true, Keeps.refl, Keeps.ite, Keeps.upd, Keeps.foldl, Keeps.when, Keeps.put, Keeps.puts, Keeps.setByte, Keeps.setBytes, Keeps.clearRange, Keeps.updRegs, Keeps.updMemNil, Keeps.updViolNil, Keeps.updViolDrop, Keeps.updT, Keeps.updTzero, RegFile.resetBlock, State.putWord_keeps, State.refuseWrite_keeps, adcIgn_keeps, h]

theorem adcStoppedWrite_keeps {z : State} (s : State) (m : Nat) (u : Nat) (off : Nat) (l : List (Fld × Nat)) (v : Nat) (h : Keeps z s) : Keeps z (adcStoppedWrite s m u off l v) := by
  unfold adcStoppedWrite
  simp (maxDischargeDepth := 40) only [implies_true, Keeps.refl, Keeps.ite, Keeps.upd, Keeps.foldl, Keeps.when, Keeps.put, Keeps.puts, Keeps.setByte, Keeps.setBytes, Keeps.clearRange, Keeps.updRegs, Keeps.updMemNil, Keeps.updViolNil, Keeps.updViolDrop, Keeps.updT, Keeps.updTzero, RegFile.resetBlock, State.putWord_keeps, State.refuseWrite_keeps, adcIgn_keeps, h]

theorem adcSlotWrite_keeps {z : State} (s : State) (m : Nat) (u : Nat) (b : Nat) (k : Nat) (v : Nat) (h : Keeps z s) : Keeps z (adcSlotWrite s m u b k v) := by
  unfold adcSlotWrite
  simp (maxDischargeDepth := 40) only [implies_true, Keeps.refl, Keeps.ite, Keeps.upd, Keeps.foldl, Keeps.when, Keeps.put, Keeps.puts, Keeps.setByte, Keeps.setBytes, Keeps.clearRange, Keeps.updRegs, Keeps.updMemNil, Keeps.updViolNil, Keeps.updViolDrop, Keeps.updT, Keeps.updTzero, RegFile.resetBlock, State.putWord_keeps, State.refuseWrite_keeps, adcIgn_keeps, h]

theorem adcUnitWrite_keeps {z : State} (s : State) (m : Nat) (u : Nat) (off : Nat) (v : Nat) (h : Keeps z s) : Keeps z (adcUnitWrite s m u off v) := by
  unfold adcUnitWrite
  simp (maxDischargeDepth := 40) only [implies_true, Keeps.refl, Keeps.ite, Keeps.upd, Keeps.foldl, Keeps.when, Keeps.put, Keeps.puts, Keeps.setByte, Keeps.setBytes, Keeps.clearRange, Keeps.updRegs, Keeps.updMemNil, Keeps.updViolNil, Keeps.updViolDrop, Keeps.updT, Keeps.updTzero, RegFile.resetBlock, State.refuseWrite_keeps, adcCfgWrite_keeps, adcCtrlWrite_keeps, adcSlotWrite_keeps, adcStoppedWrite_keeps, urgCfgWrite_keeps, urgReqWrite_keeps, h]

theorem refCtrl_keeps {z : State} (s : State) (en : Bool) (h : Keeps z s) : Keeps z (refCtrl s en) := by
  unfold refCtrl
  simp (maxDischargeDepth := 40) only [implies_true, Keeps.refl, Keeps.ite, Keeps.upd, Keeps.foldl, Keeps.when, Keeps.put, Keeps.puts, Keeps.setByte, Keeps.setBytes, Keeps.clearRange, Keeps.updRegs, Keeps.updMemNil, Keeps.updViolNil, Keeps.updViolDrop, Keeps.updT, Keeps.updTzero, RegFile.resetBlock, cmpChanged_keeps, h]

theorem refCtrlWrite_keeps {z : State} (s : State) (m : Nat) (v : Nat) (h : Keeps z s) : Keeps z (refCtrlWrite s m v) := by
  unfold refCtrlWrite
  simp (maxDischargeDepth := 40) only [implies_true, Keeps.refl, Keeps.ite, Keeps.upd, Keeps.foldl, Keeps.when, Keeps.put, Keeps.puts, Keeps.setByte, Keeps.setBytes, Keeps.clearRange, Keeps.updRegs, Keeps.updMemNil, Keeps.updViolNil, Keeps.updViolDrop, Keeps.updT, Keeps.updTzero, RegFile.resetBlock, State.refuseWrite_keeps, refCtrl_keeps, h]

theorem refSettle_keeps {z : State} (s : State) (h : Keeps z s) : Keeps z (refSettle s) := by
  unfold refSettle
  repeat' (first | (simp (maxDischargeDepth := 40) only [implies_true, Keeps.refl, Keeps.ite, Keeps.upd, Keeps.foldl, Keeps.when, Keeps.put, Keeps.puts, Keeps.setByte, Keeps.setBytes, Keeps.clearRange, Keeps.updRegs, Keeps.updMemNil, Keeps.updViolNil, Keeps.updViolDrop, Keeps.updT, Keeps.updTzero, RegFile.resetBlock, h]; done) | dsimp only | with_reducible refine Keeps.ite ?_ ?_ | split | with_reducible refine Keeps.foldl (fun _ _ => ?_) ?_ | with_reducible refine Keeps.foldl1 (fun _ _ => ?_) ?_ | with_reducible refine Keeps.foldl2 (fun _ _ => ?_) ?_ | with_reducible refine Keeps.foldl3 (fun _ _ => ?_) ?_ | with_reducible refine Keeps.when (fun _ => ?_) ?_)

theorem refDeviate_keeps {z : State} (s : State) (h : Keeps z s) : Keeps z (refDeviate s) := by
  unfold refDeviate
  simp (maxDischargeDepth := 40) only [implies_true, Keeps.refl, Keeps.ite, Keeps.upd, Keeps.foldl, Keeps.when, Keeps.put, Keeps.puts, Keeps.setByte, Keeps.setBytes, Keeps.clearRange, Keeps.updRegs, Keeps.updMemNil, Keeps.updViolNil, Keeps.updViolDrop, Keeps.updT, Keeps.updTzero, RegFile.resetBlock, State.bump_keeps, cmpChanged_keeps, h]

theorem refRecover_keeps {z : State} (s : State) (h : Keeps z s) : Keeps z (refRecover s) := by
  unfold refRecover
  simp (maxDischargeDepth := 40) only [implies_true, Keeps.refl, Keeps.ite, Keeps.upd, Keeps.foldl, Keeps.when, Keeps.put, Keeps.puts, Keeps.setByte, Keeps.setBytes, Keeps.clearRange, Keeps.updRegs, Keeps.updMemNil, Keeps.updViolNil, Keeps.updViolDrop, Keeps.updT, Keeps.updTzero, RegFile.resetBlock, h]

theorem setReq_keeps {z : State} (s : State) (k : Nat) (v : Nat) (h : Keeps z s) : Keeps z (setReq s k v) := by
  unfold setReq
  simp (maxDischargeDepth := 40) only [implies_true, Keeps.refl, Keeps.ite, Keeps.upd, Keeps.foldl, Keeps.when, Keeps.put, Keeps.puts, Keeps.setByte, Keeps.setBytes, Keeps.clearRange, Keeps.updRegs, Keeps.updMemNil, Keeps.updViolNil, Keeps.updViolDrop, Keeps.updT, Keeps.updTzero, RegFile.resetBlock, h]

theorem comparatorTrip_keeps {z : State} (s : State) (c : Nat) (high : Bool) (lvl : Nat) (held : Nat) (h : Keeps z s) : Keeps z (comparatorTrip s c high lvl held) := by
  unfold comparatorTrip
  simp (maxDischargeDepth := 40) only [implies_true, Keeps.refl, Keeps.ite, Keeps.upd, Keeps.foldl, Keeps.when, Keeps.put, Keeps.puts, Keeps.setByte, Keeps.setBytes, Keeps.clearRange, Keeps.updRegs, Keeps.updMemNil, Keeps.updViolNil, Keeps.updViolDrop, Keeps.updT, Keeps.updTzero, RegFile.resetBlock, cmpChanged_keeps, setReq_keeps, h]

theorem comparatorRelease_keeps {z : State} (s : State) (c : Nat) (high : Bool) (lvl : Nat) (held : Nat) (h : Keeps z s) : Keeps z (comparatorRelease s c high lvl held) := by
  unfold comparatorRelease
  simp (maxDischargeDepth := 40) only [implies_true, Keeps.refl, Keeps.ite, Keeps.upd, Keeps.foldl, Keeps.when, Keeps.put, Keeps.puts, Keeps.setByte, Keeps.setBytes, Keeps.clearRange, Keeps.updRegs, Keeps.updMemNil, Keeps.updViolNil, Keeps.updViolDrop, Keeps.updT, Keeps.updTzero, RegFile.resetBlock, setReq_keeps, h]

theorem cmpWritten_keeps {z : State} (old : State) (s : State) (c : Nat) (h : Keeps z s) : Keeps z (cmpWritten old s c) := by
  unfold cmpWritten
  repeat' (first | (simp (maxDischargeDepth := 40) only [implies_true, Keeps.refl, Keeps.ite, Keeps.upd, Keeps.foldl, Keeps.when, Keeps.put, Keeps.puts, Keeps.setByte, Keeps.setBytes, Keeps.clearRange, Keeps.updRegs, Keeps.updMemNil, Keeps.updViolNil, Keeps.updViolDrop, Keeps.updT, Keeps.updTzero, RegFile.resetBlock, h]; done) | dsimp only | with_reducible refine Keeps.ite ?_ ?_ | split | with_reducible refine Keeps.foldl (fun _ _ => ?_) ?_ | with_reducible refine Keeps.foldl1 (fun _ _ => ?_) ?_ | with_reducible refine Keeps.foldl2 (fun _ _ => ?_) ?_ | with_reducible refine Keeps.foldl3 (fun _ _ => ?_) ?_ | with_reducible refine Keeps.when (fun _ => ?_) ?_)

theorem adcCmpWrite_keeps {z : State} (s : State) (m : Nat) (c : Nat) (reg : Nat) (v : Nat) (h : Keeps z s) : Keeps z (adcCmpWrite s m c reg v) := by
  unfold adcCmpWrite
  simp (maxDischargeDepth := 40) only [implies_true, Keeps.refl, Keeps.ite, Keeps.upd, Keeps.foldl, Keeps.when, Keeps.put, Keeps.puts, Keeps.setByte, Keeps.setBytes, Keeps.clearRange, Keeps.updRegs, Keeps.updMemNil, Keeps.updViolNil, Keeps.updViolDrop, Keeps.updT, Keeps.updTzero, RegFile.resetBlock, State.putWord_keeps, State.refuseWrite_keeps, adcRefIgn_keeps, cmpChanged_keeps, cmpWritten_keeps, h]

theorem adcLockWrite_keeps {z : State} (s : State) (m : Nat) (v : Nat) (h : Keeps z s) : Keeps z (adcLockWrite s m v) := by
  unfold adcLockWrite
  simp (maxDischargeDepth := 40) only [implies_true, Keeps.refl, Keeps.ite, Keeps.upd, Keeps.foldl, Keeps.when, Keeps.put, Keeps.puts, Keeps.setByte, Keeps.setBytes, Keeps.clearRange, Keeps.updRegs, Keeps.updMemNil, Keeps.updViolNil, Keeps.updViolDrop, Keeps.updT, Keeps.updTzero, RegFile.resetBlock, State.refuseWrite_keeps, adcRefIgn_keeps, h]

theorem adcClearWrite_keeps {z : State} (s : State) (m : Nat) (off : Nat) (v : Nat) (h : Keeps z s) : Keeps z (adcClearWrite s m off v) := by
  unfold adcClearWrite
  simp (maxDischargeDepth := 40) only [implies_true, Keeps.refl, Keeps.ite, Keeps.upd, Keeps.foldl, Keeps.when, Keeps.put, Keeps.puts, Keeps.setByte, Keeps.setBytes, Keeps.clearRange, Keeps.updRegs, Keeps.updMemNil, Keeps.updViolNil, Keeps.updViolDrop, Keeps.updT, Keeps.updTzero, RegFile.resetBlock, State.refuseWrite_keeps, noteCmpStat_keeps, h]

theorem excCfgWrite_keeps {z : State} (s : State) (m : Nat) (v : Nat) (h : Keeps z s) : Keeps z (excCfgWrite s m v) := by
  unfold excCfgWrite
  simp (maxDischargeDepth := 40) only [implies_true, Keeps.refl, Keeps.ite, Keeps.upd, Keeps.foldl, Keeps.when, Keeps.put, Keeps.puts, Keeps.setByte, Keeps.setBytes, Keeps.clearRange, Keeps.updRegs, Keeps.updMemNil, Keeps.updViolNil, Keeps.updViolDrop, Keeps.updT, Keeps.updTzero, RegFile.resetBlock, State.refuseWrite_keeps, adcRefIgn_keeps, h]

theorem adcWrite_keeps {z : State} (s : State) (m : Nat) (off : Nat) (v : Nat) (h : Keeps z s) : Keeps z (adcWrite s m off v) := by
  unfold adcWrite
  simp (maxDischargeDepth := 40) only [implies_true, Keeps.refl, Keeps.ite, Keeps.upd, Keeps.foldl, Keeps.when, Keeps.put, Keeps.puts, Keeps.setByte, Keeps.setBytes, Keeps.clearRange, Keeps.updRegs, Keeps.updMemNil, Keeps.updViolNil, Keeps.updViolDrop, Keeps.updT, Keeps.updTzero, RegFile.resetBlock, State.refuseWrite_keeps, adcClearWrite_keeps, adcCmpWrite_keeps, adcLockWrite_keeps, adcStartWrite_keeps, adcUnitWrite_keeps, excCfgWrite_keeps, refCtrlWrite_keeps, h]

theorem lastValRead_keeps {z : State} (s : State) (m : Nat) (u : Nat) (h : Keeps z s) : Keeps z (lastValRead s m u) := by
  unfold lastValRead
  simp (maxDischargeDepth := 40) only [implies_true, Keeps.refl, Keeps.ite, Keeps.upd, Keeps.foldl, Keeps.when, Keeps.put, Keeps.puts, Keeps.setByte, Keeps.setBytes, Keeps.clearRange, Keeps.updRegs, Keeps.updMemNil, Keeps.updViolNil, Keeps.updViolDrop, Keeps.updT, Keeps.updTzero, RegFile.resetBlock, State.answer_keeps, State.latch_keeps, State.refuseRead_keeps, h]

theorem lastAngRead_keeps {z : State} (s : State) (m : Nat) (u : Nat) (h : Keeps z s) : Keeps z (lastAngRead s m u) := by
  unfold lastAngRead
  repeat' (first | (simp (maxDischargeDepth := 40) only [implies_true, Keeps.refl, Keeps.ite, Keeps.upd, Keeps.foldl, Keeps.when, Keeps.put, Keeps.puts, Keeps.setByte, Keeps.setBytes, Keeps.clearRange, Keeps.updRegs, Keeps.updMemNil, Keeps.updViolNil, Keeps.updViolDrop, Keeps.updT, Keeps.updTzero, RegFile.resetBlock, State.answer_keeps, State.latch_keeps, State.refuseRead_keeps, h]; done) | dsimp only | with_reducible refine Keeps.ite ?_ ?_ | split | with_reducible refine Keeps.foldl (fun _ _ => ?_) ?_ | with_reducible refine Keeps.foldl1 (fun _ _ => ?_) ?_ | with_reducible refine Keeps.foldl2 (fun _ _ => ?_) ?_ | with_reducible refine Keeps.foldl3 (fun _ _ => ?_) ?_ | with_reducible refine Keeps.when (fun _ => ?_) ?_)

theorem resolverBad_keeps {z : State} (s : State) (n : Nat) (amp : Bool) (err : Bool) (use : Bool) (h : Keeps z s) : Keeps z (resolverBad s n amp err use) := by
  unfold resolverBad
  simp (maxDischargeDepth := 40) only [implies_true, Keeps.refl, Keeps.ite, Keeps.upd, Keeps.foldl, Keeps.when, Keeps.put, Keeps.puts, Keeps.setByte, Keeps.setBytes, Keeps.clearRange, Keeps.updRegs, Keeps.updMemNil, Keeps.updViolNil, Keeps.updViolDrop, Keeps.updT, Keeps.updTzero, RegFile.resetBlock, State.setSrc_keeps, sourceLoss_keeps, h]

theorem resolverPairOf_keeps {z : State} (s : State) (n : Nat) (p : Pair) (h : Keeps z s) : Keeps z (resolverPairOf s n p) := by
  unfold resolverPairOf
  simp (maxDischargeDepth := 40) only [implies_true, Keeps.refl, Keeps.ite, Keeps.upd, Keeps.foldl, Keeps.when, Keeps.put, Keeps.puts, Keeps.setByte, Keeps.setBytes, Keeps.clearRange, Keeps.updRegs, Keeps.updMemNil, Keeps.updViolNil, Keeps.updViolDrop, Keeps.updT, Keeps.updTzero, RegFile.resetBlock, State.setSrc_keeps, acquireSource_keeps, resolverBad_keeps, updateSource_keeps, h]

theorem resolverPair_keeps {z : State} (s : State) (n : Nat) (h : Keeps z s) : Keeps z (resolverPair s n) := by
  unfold resolverPair
  repeat' (first | (simp (maxDischargeDepth := 40) only [implies_true, Keeps.refl, Keeps.ite, Keeps.upd, Keeps.foldl, Keeps.when, Keeps.put, Keeps.puts, Keeps.setByte, Keeps.setBytes, Keeps.clearRange, Keeps.updRegs, Keeps.updMemNil, Keeps.updViolNil, Keeps.updViolDrop, Keeps.updT, Keeps.updTzero, RegFile.resetBlock, resolverPairOf_keeps, h]; done) | dsimp only | with_reducible refine Keeps.ite ?_ ?_ | split | with_reducible refine Keeps.foldl (fun _ _ => ?_) ?_ | with_reducible refine Keeps.foldl1 (fun _ _ => ?_) ?_ | with_reducible refine Keeps.foldl2 (fun _ _ => ?_) ?_ | with_reducible refine Keeps.foldl3 (fun _ _ => ?_) ?_ | with_reducible refine Keeps.when (fun _ => ?_) ?_)

theorem tspResolverPair_keeps {z : State} (s : State) (n : Nat) (h : Keeps z s) : Keeps z (tspResolverPair s n) := by
  unfold tspResolverPair
  simp (maxDischargeDepth := 40) only [implies_true, Keeps.refl, Keeps.ite, Keeps.upd, Keeps.foldl, Keeps.when, Keeps.put, Keeps.puts, Keeps.setByte, Keeps.setBytes, Keeps.clearRange, Keeps.updRegs, Keeps.updMemNil, Keeps.updViolNil, Keeps.updViolDrop, Keeps.updT, Keeps.updTzero, RegFile.resetBlock, resolverPair_keeps, withJumps_keeps, h]

end Sys2Proof.Machine
end

