-- ==== Sys2Proof/Laws/KeepDsp.lean ====
section
/-! SUPPORT. What the operations of Machine/Dsp.lean keep (Laws/Keeps.lean). -/
set_option linter.unusedSimpArgs false
set_option linter.unusedVariables false
namespace Sys2Proof.Machine
open Sys2Proof.Reg

theorem squashAt_keeps {z : State} (s : State) (n : Nat) (pc : Nat) (c : Nat) (h : Keeps z s) : Keeps z (squashAt s n pc c) := by
  unfold squashAt
  simp (maxDischargeDepth := 40) only [implies_true, Keeps.refl, Keeps.ite, Keeps.upd, Keeps.foldl, Keeps.when, Keeps.put, Keeps.puts, Keeps.setByte, Keeps.setBytes, Keeps.clearRange, Keeps.updRegs, Keeps.updMemNil, Keeps.updViolNil, Keeps.updViolDrop, Keeps.updT, Keeps.updTzero, RegFile.resetBlock, State.setCd_keeps, h]

theorem recordFault_keeps {z : State} (s : State) (n : Nat) (vec : Nat) (pc : Nat) (b : Option BusFault) (h : Keeps z s) : Keeps z (recordFault s n vec pc b) := by
  unfold recordFault
  repeat' (first | (simp (maxDischargeDepth := 40) only [implies_true, Keeps.refl, Keeps.ite, Keeps.upd, Keeps.foldl, Keeps.when, Keeps.put, Keeps.puts, Keeps.setByte, Keeps.setBytes, Keeps.clearRange, Keeps.updRegs, Keeps.updMemNil, Keeps.updViolNil, Keeps.updViolDrop, Keeps.updT, Keeps.updTzero, RegFile.resetBlock, h]; done) | dsimp only | with_reducible refine Keeps.ite ?_ ?_ | split | with_reducible refine Keeps.foldl (fun _ _ => ?_) ?_ | with_reducible refine Keeps.foldl1 (fun _ _ => ?_) ?_ | with_reducible refine Keeps.foldl2 (fun _ _ => ?_) ?_ | with_reducible refine Keeps.foldl3 (fun _ _ => ?_) ?_ | with_reducible refine Keeps.when (fun _ => ?_) ?_)

theorem cdLeave_keeps {z : State} (s : State) (n : Nat) (st : Nat) (h : Keeps z s) : Keeps z (cdLeave s n st) := by
  unfold cdLeave
  simp (maxDischargeDepth := 40) only [implies_true, Keeps.refl, Keeps.ite, Keeps.upd, Keeps.foldl, Keeps.when, Keeps.put, Keeps.puts, Keeps.setByte, Keeps.setBytes, Keeps.clearRange, Keeps.updRegs, Keeps.updMemNil, Keeps.updViolNil, Keeps.updViolDrop, Keeps.updT, Keeps.updTzero, RegFile.resetBlock, dspStopped_keeps, h]

theorem doubleFault_keeps {z : State} (s : State) (n : Nat) (h : Keeps z s) : Keeps z (doubleFault s n) := by
  unfold doubleFault
  simp (maxDischargeDepth := 40) only [implies_true, Keeps.refl, Keeps.ite, Keeps.upd, Keeps.foldl, Keeps.when, Keeps.put, Keeps.puts, Keeps.setByte, Keeps.setBytes, Keeps.clearRange, Keeps.updRegs, Keeps.updMemNil, Keeps.updViolNil, Keeps.updViolDrop, Keeps.updT, Keeps.updTzero, RegFile.resetBlock, State.irq_keeps, cdLeave_keeps, h]

theorem enterHandler_keeps {z : State} (s : State) (n : Nat) (v : Nat) (level : Nat) (ret : Nat) (h : Keeps z s) : Keeps z (enterHandler s n v level ret) := by
  unfold enterHandler
  simp (maxDischargeDepth := 40) only [implies_true, Keeps.refl, Keeps.ite, Keeps.upd, Keeps.foldl, Keeps.when, Keeps.put, Keeps.puts, Keeps.setByte, Keeps.setBytes, Keeps.clearRange, Keeps.updRegs, Keeps.updMemNil, Keeps.updViolNil, Keeps.updViolDrop, Keeps.updT, Keeps.updTzero, RegFile.resetBlock, State.setCd_keeps, doubleFault_keeps, recordFault_keeps, h]

theorem takeFault_keeps {z : State} (s : State) (n : Nat) (v : Nat) (pc : Nat) (ret : Nat) (b : Option BusFault) (h : Keeps z s) : Keeps z (takeFault s n v pc ret b) := by
  unfold takeFault
  simp (maxDischargeDepth := 40) only [implies_true, Keeps.refl, Keeps.ite, Keeps.upd, Keeps.foldl, Keeps.when, Keeps.put, Keeps.puts, Keeps.setByte, Keeps.setBytes, Keeps.clearRange, Keeps.updRegs, Keeps.updMemNil, Keeps.updViolNil, Keeps.updViolDrop, Keeps.updT, Keeps.updTzero, RegFile.resetBlock, doubleFault_keeps, enterHandler_keeps, recordFault_keeps, squashAt_keeps, h]

theorem dspRetire_keeps {z : State} (s : State) (n : Nat) (k : DKind) (w : Nat) (x : DWork) (h : Keeps z s) : Keeps z (dspRetire s n k w x) := by
  unfold dspRetire
  repeat' (first | (simp (maxDischargeDepth := 40) only [implies_true, Keeps.refl, Keeps.ite, Keeps.upd, Keeps.foldl, Keeps.when, Keeps.put, Keeps.puts, Keeps.setByte, Keeps.setBytes, Keeps.clearRange, Keeps.updRegs, Keeps.updMemNil, Keeps.updViolNil, Keeps.updViolDrop, Keeps.updT, Keeps.updTzero, RegFile.resetBlock, State.setCdMem_keeps, State.setCd_keeps, dspVector_keeps, recordFault_keeps, squashAt_keeps, takeFault_keeps, h]; done) | dsimp only | with_reducible refine Keeps.ite ?_ ?_ | split | with_reducible refine Keeps.foldl (fun _ _ => ?_) ?_ | with_reducible refine Keeps.foldl1 (fun _ _ => ?_) ?_ | with_reducible refine Keeps.foldl2 (fun _ _ => ?_) ?_ | with_reducible refine Keeps.foldl3 (fun _ _ => ?_) ?_ | with_reducible refine Keeps.when (fun _ => ?_) ?_)

theorem dspReady_keeps {z : State} (s : State) (n : Nat) (k : DKind) (w : Nat) (h : Keeps z s) : Keeps z (dspReady s n k w) := by
  unfold dspReady
  simp (maxDischargeDepth := 40) only [implies_true, Keeps.refl, Keeps.ite, Keeps.upd, Keeps.foldl, Keeps.when, Keeps.put, Keeps.puts, Keeps.setByte, Keeps.setBytes, Keeps.clearRange, Keeps.updRegs, Keeps.updMemNil, Keeps.updViolNil, Keeps.updViolDrop, Keeps.updT, Keeps.updTzero, RegFile.resetBlock, State.setCd_keeps, h]

theorem dspStep_keeps {z : State} (s : State) (n : Nat) (k : DKind) (w : Nat) (h : Keeps z s) : Keeps z (dspStep s n k w) := by
  unfold dspStep
  simp (maxDischargeDepth := 40) only [implies_true, Keeps.refl, Keeps.ite, Keeps.upd, Keeps.foldl, Keeps.when, Keeps.put, Keeps.puts, Keeps.setByte, Keeps.setBytes, Keeps.clearRange, Keeps.updRegs, Keeps.updMemNil, Keeps.updViolNil, Keeps.updViolDrop, Keeps.updT, Keeps.updTzero, RegFile.resetBlock, State.setCd_keeps, dspReady_keeps, dspRetire_keeps, h]

theorem dspRow_keeps {z : State} (s : State) (n : Nat) (k : DKind) (h : Keeps z s) : Keeps z (dspRow s n k) := by
  unfold dspRow
  simp (maxDischargeDepth := 40) only [implies_true, Keeps.refl, Keeps.ite, Keeps.upd, Keeps.foldl, Keeps.when, Keeps.put, Keeps.puts, Keeps.setByte, Keeps.setBytes, Keeps.clearRange, Keeps.updRegs, Keeps.updMemNil, Keeps.updViolNil, Keeps.updViolDrop, Keeps.updT, Keeps.updTzero, RegFile.resetBlock, dspStep_keeps, h]

theorem coprocComplete_keeps {z : State} (s : State) (n : Nat) (h : Keeps z s) : Keeps z (coprocComplete s n) := by
  unfold coprocComplete
  repeat' (first | (simp (maxDischargeDepth := 40) only [implies_true, Keeps.refl, Keeps.ite, Keeps.upd, Keeps.foldl, Keeps.when, Keeps.put, Keeps.puts, Keeps.setByte, Keeps.setBytes, Keeps.clearRange, Keeps.updRegs, Keeps.updMemNil, Keeps.updViolNil, Keeps.updViolDrop, Keeps.updT, Keeps.updTzero, RegFile.resetBlock, State.setCd_keeps, h]; done) | dsimp only | with_reducible refine Keeps.ite ?_ ?_ | split | with_reducible refine Keeps.foldl (fun _ _ => ?_) ?_ | with_reducible refine Keeps.foldl1 (fun _ _ => ?_) ?_ | with_reducible refine Keeps.foldl2 (fun _ _ => ?_) ?_ | with_reducible refine Keeps.foldl3 (fun _ _ => ?_) ?_ | with_reducible refine Keeps.when (fun _ => ?_) ?_)

theorem dspAccept_keeps {z : State} (s : State) (n : Nat) (h : Keeps z s) : Keeps z (dspAccept s n) := by
  unfold dspAccept
  repeat' (first | (simp (maxDischargeDepth := 40) only [implies_true, Keeps.refl, Keeps.ite, Keeps.upd, Keeps.foldl, Keeps.when, Keeps.put, Keeps.puts, Keeps.setByte, Keeps.setBytes, Keeps.clearRange, Keeps.updRegs, Keeps.updMemNil, Keeps.updViolNil, Keeps.updViolDrop, Keeps.updT, Keeps.updTzero, RegFile.resetBlock, State.setCd_keeps, enterHandler_keeps, squashAt_keeps, h]; done) | dsimp only | with_reducible refine Keeps.ite ?_ ?_ | split | with_reducible refine Keeps.foldl (fun _ _ => ?_) ?_ | with_reducible refine Keeps.foldl1 (fun _ _ => ?_) ?_ | with_reducible refine Keeps.foldl2 (fun _ _ => ?_) ?_ | with_reducible refine Keeps.foldl3 (fun _ _ => ?_) ?_ | with_reducible refine Keeps.when (fun _ => ?_) ?_)

theorem relSet_keeps {z : State} (s : State) (m : Nat) (n : Nat) (v : Nat) (h : Keeps z s) : Keeps z (relSet s m n v) := by
  unfold relSet
  simp (maxDischargeDepth := 40) only [implies_true, Keeps.refl, Keeps.ite, Keeps.upd, Keeps.foldl, Keeps.when, Keeps.put, Keeps.puts, Keeps.setByte, Keeps.setBytes, Keeps.clearRange, Keeps.updRegs, Keeps.updMemNil, Keeps.updViolNil, Keeps.updViolDrop, Keeps.updT, Keeps.updTzero, RegFile.resetBlock, State.refuseCd_keeps, dspRelease_keeps, h]

theorem relCancel_keeps {z : State} (s : State) (m : Nat) (n : Nat) (v : Nat) (h : Keeps z s) : Keeps z (relCancel s m n v) := by
  unfold relCancel
  simp (maxDischargeDepth := 40) only [implies_true, Keeps.refl, Keeps.ite, Keeps.upd, Keeps.foldl, Keeps.when, Keeps.put, Keeps.puts, Keeps.setByte, Keeps.setBytes, Keeps.clearRange, Keeps.updRegs, Keeps.updMemNil, Keeps.updViolNil, Keeps.updViolDrop, Keeps.updT, Keeps.updTzero, RegFile.resetBlock, State.bumpBy_keeps, State.refuseCd_keeps, State.setCd_keeps, h]

theorem cdHalt_keeps {z : State} (s : State) (n : Nat) (h : Keeps z s) : Keeps z (cdHalt s n) := by
  unfold cdHalt
  simp (maxDischargeDepth := 40) only [implies_true, Keeps.refl, Keeps.ite, Keeps.upd, Keeps.foldl, Keeps.when, Keeps.put, Keeps.puts, Keeps.setByte, Keeps.setBytes, Keeps.clearRange, Keeps.updRegs, Keeps.updMemNil, Keeps.updViolNil, Keeps.updViolDrop, Keeps.updT, Keeps.updTzero, RegFile.resetBlock, State.setCd_keeps, cdLeave_keeps, squashAt_keeps, h]

theorem cdRun_keeps {z : State} (s : State) (n : Nat) (h : Keeps z s) : Keeps z (cdRun s n) := by
  unfold cdRun
  simp (maxDischargeDepth := 40) only [implies_true, Keeps.refl, Keeps.ite, Keeps.upd, Keeps.foldl, Keeps.when, Keeps.put, Keeps.puts, Keeps.setByte, Keeps.setBytes, Keeps.clearRange, Keeps.updRegs, Keeps.updMemNil, Keeps.updViolNil, Keeps.updViolDrop, Keeps.updT, Keeps.updTzero, RegFile.resetBlock, State.setCd_keeps, h]

theorem cdResetCore_keeps {z : State} (s : State) (n : Nat) (h : Keeps z s) : Keeps z (cdResetCore s n) := by
  unfold cdResetCore
  simp (maxDischargeDepth := 40) only [implies_true, Keeps.refl, Keeps.ite, Keeps.upd, Keeps.foldl, Keeps.when, Keeps.put, Keeps.puts, Keeps.setByte, Keeps.setBytes, Keeps.clearRange, Keeps.updRegs, Keeps.updMemNil, Keeps.updViolNil, Keeps.updViolDrop, Keeps.updT, Keeps.updTzero, RegFile.resetBlock, State.setCd_keeps, cdLeave_keeps, releaseUnits_keeps, h]

theorem cdAperture_keeps {z : State} (s : State) (m : Nat) (n : Nat) (write : Bool) (off : Nat) (v : Nat) (h : Keeps z s) : Keeps z (cdAperture s m n write off v) := by
  unfold cdAperture
  simp (maxDischargeDepth := 40) only [implies_true, Keeps.refl, Keeps.ite, Keeps.upd, Keeps.foldl, Keeps.when, Keeps.put, Keeps.puts, Keeps.setByte, Keeps.setBytes, Keeps.clearRange, Keeps.updRegs, Keeps.updMemNil, Keeps.updViolNil, Keeps.updViolDrop, Keeps.updT, Keeps.updTzero, RegFile.resetBlock, State.answer_keeps, State.setCdMem_keeps, State.violation_keeps, h]

end Sys2Proof.Machine
end

