-- ==== Sys2Proof/Laws/KeepMessaging.lean ====
section
/-! SUPPORT. What the operations of Machine/Messaging.lean keep (Laws/Keeps.lean). -/
set_option linter.unusedSimpArgs false
set_option linter.unusedVariables false
namespace Sys2Proof.Machine
open Sys2Proof.Reg

theorem setWords_keeps {z : State} (s : State) (q : Nat) (l : List Nat) (h : Keeps z s) : Keeps z (setWords s q l) := by
  unfold setWords
  simp (maxDischargeDepth := 40) only [implies_true, Keeps.refl, Keeps.ite, Keeps.upd, Keeps.foldl, Keeps.when, Keeps.put, Keeps.puts, Keeps.setByte, Keeps.setBytes, Keeps.clearRange, Keeps.updRegs, Keeps.updMemNil, Keeps.updViolNil, Keeps.updViolDrop, Keeps.updT, Keeps.updTzero, RegFile.resetBlock, h]

theorem qNotEmpty_keeps {z : State} (s : State) (q : Nat) (h : Keeps z s) : Keeps z (qNotEmpty s q) := by
  unfold qNotEmpty
  simp (maxDischargeDepth := 40) only [implies_true, Keeps.refl, Keeps.ite, Keeps.upd, Keeps.foldl, Keeps.when, Keeps.put, Keeps.puts, Keeps.setByte, Keeps.setBytes, Keeps.clearRange, Keeps.updRegs, Keeps.updMemNil, Keeps.updViolNil, Keeps.updViolDrop, Keeps.updT, Keeps.updTzero, RegFile.resetBlock, State.irq_keeps, dspVector_keeps, h]

theorem qSpace_keeps {z : State} (s : State) (q : Nat) (h : Keeps z s) : Keeps z (qSpace s q) := by
  unfold qSpace
  simp (maxDischargeDepth := 40) only [implies_true, Keeps.refl, Keeps.ite, Keeps.upd, Keeps.foldl, Keeps.when, Keeps.put, Keeps.puts, Keeps.setByte, Keeps.setBytes, Keeps.clearRange, Keeps.updRegs, Keeps.updMemNil, Keeps.updViolNil, Keeps.updViolDrop, Keeps.updT, Keeps.updTzero, RegFile.resetBlock, State.irq_keeps, dspVector_keeps, h]

theorem qPop_keeps {z : State} (s : State) (q : Nat) (event : Bool) (h : Keeps z s) : Keeps z (qPop s q event) := by
  unfold qPop
  repeat' (first | (simp (maxDischargeDepth := 40) only [implies_true, Keeps.refl, Keeps.ite, Keeps.upd, Keeps.foldl, Keeps.when, Keeps.put, Keeps.puts, Keeps.setByte, Keeps.setBytes, Keeps.clearRange, Keeps.updRegs, Keeps.updMemNil, Keeps.updViolNil, Keeps.updViolDrop, Keeps.updT, Keeps.updTzero, RegFile.resetBlock, State.answer_keeps, State.bump_keeps, qSpace_keeps, setWords_keeps, h]; done) | dsimp only | with_reducible refine Keeps.ite ?_ ?_ | split | with_reducible refine Keeps.foldl (fun _ _ => ?_) ?_ | with_reducible refine Keeps.foldl1 (fun _ _ => ?_) ?_ | with_reducible refine Keeps.foldl2 (fun _ _ => ?_) ?_ | with_reducible refine Keeps.foldl3 (fun _ _ => ?_) ?_ | with_reducible refine Keeps.when (fun _ => ?_) ?_)

theorem qPush_keeps {z : State} (s : State) (q : Nat) (w : Nat) (event : Bool) (h : Keeps z s) : Keeps z (qPush s q w event) := by
  unfold qPush
  simp (maxDischargeDepth := 40) only [implies_true, Keeps.refl, Keeps.ite, Keeps.upd, Keeps.foldl, Keeps.when, Keeps.put, Keeps.puts, Keeps.setByte, Keeps.setBytes, Keeps.clearRange, Keeps.updRegs, Keeps.updMemNil, Keeps.updViolNil, Keeps.updViolDrop, Keeps.updT, Keeps.updTzero, RegFile.resetBlock, State.bump_keeps, qNotEmpty_keeps, setWords_keeps, h]

theorem qBoth_keeps {z : State} (s : State) (q : Nat) (w : Nat) (h : Keeps z s) : Keeps z (qBoth s q w) := by
  unfold qBoth
  simp (maxDischargeDepth := 40) only [implies_true, Keeps.refl, Keeps.ite, Keeps.upd, Keeps.foldl, Keeps.when, Keeps.put, Keeps.puts, Keeps.setByte, Keeps.setBytes, Keeps.clearRange, Keeps.updRegs, Keeps.updMemNil, Keeps.updViolNil, Keeps.updViolDrop, Keeps.updT, Keeps.updTzero, RegFile.resetBlock, qPop_keeps, qPush_keeps, h]

theorem mbxPush_keeps {z : State} (s : State) (m : Nat) (q : Nat) (w : Nat) (pop : Bool) (h : Keeps z s) : Keeps z (mbxPush s m q w pop) := by
  unfold mbxPush
  simp (maxDischargeDepth := 40) only [implies_true, Keeps.refl, Keeps.ite, Keeps.upd, Keeps.foldl, Keeps.when, Keeps.put, Keeps.puts, Keeps.setByte, Keeps.setBytes, Keeps.clearRange, Keeps.updRegs, Keeps.updMemNil, Keeps.updViolNil, Keeps.updViolDrop, Keeps.updT, Keeps.updTzero, RegFile.resetBlock, State.refuseWrite_keeps, qBoth_keeps, qPush_keeps, h]

theorem mbxPop_keeps {z : State} (s : State) (m : Nat) (q : Nat) (h : Keeps z s) : Keeps z (mbxPop s m q) := by
  unfold mbxPop
  simp (maxDischargeDepth := 40) only [implies_true, Keeps.refl, Keeps.ite, Keeps.upd, Keeps.foldl, Keeps.when, Keeps.put, Keeps.puts, Keeps.setByte, Keeps.setBytes, Keeps.clearRange, Keeps.updRegs, Keeps.updMemNil, Keeps.updViolNil, Keeps.updViolDrop, Keeps.updT, Keeps.updTzero, RegFile.resetBlock, State.refuseRead_keeps, qPop_keeps, h]

theorem flushQueues_keeps {z : State} (s : State) (m : Nat) (h : Keeps z s) : Keeps z (flushQueues s m) := by
  unfold flushQueues
  simp (maxDischargeDepth := 40) only [implies_true, Keeps.refl, Keeps.ite, Keeps.upd, Keeps.foldl, Keeps.when, Keeps.put, Keeps.puts, Keeps.setByte, Keeps.setBytes, Keeps.clearRange, Keeps.updRegs, Keeps.updMemNil, Keeps.updViolNil, Keeps.updViolDrop, Keeps.updT, Keeps.updTzero, RegFile.resetBlock, State.bumpBy_keeps, setWords_keeps, h]

theorem lockNote_keeps {z : State} (s : State) (who : Nat) (kind : Nat) (k : Nat) (h : Keeps z s) : Keeps z (lockNote s who kind k) := by
  unfold lockNote
  simp (maxDischargeDepth := 40) only [implies_true, Keeps.refl, Keeps.ite, Keeps.upd, Keeps.foldl, Keeps.when, Keeps.put, Keeps.puts, Keeps.setByte, Keeps.setBytes, Keeps.clearRange, Keeps.updRegs, Keeps.updMemNil, Keeps.updViolNil, Keeps.updViolDrop, Keeps.updT, Keeps.updTzero, RegFile.resetBlock, h]

theorem lockRead_keeps {z : State} (s : State) (m : Nat) (k : Nat) (h : Keeps z s) : Keeps z (lockRead s m k) := by
  unfold lockRead
  simp (maxDischargeDepth := 40) only [implies_true, Keeps.refl, Keeps.ite, Keeps.upd, Keeps.foldl, Keeps.when, Keeps.put, Keeps.puts, Keeps.setByte, Keeps.setBytes, Keeps.clearRange, Keeps.updRegs, Keeps.updMemNil, Keeps.updViolNil, Keeps.updViolDrop, Keeps.updT, Keeps.updTzero, RegFile.resetBlock, State.answer_keeps, State.refuseRead_keeps, h]

theorem lockWrite_keeps {z : State} (s : State) (m : Nat) (k : Nat) (v : Nat) (h : Keeps z s) : Keeps z (lockWrite s m k v) := by
  unfold lockWrite
  simp (maxDischargeDepth := 40) only [implies_true, Keeps.refl, Keeps.ite, Keeps.upd, Keeps.foldl, Keeps.when, Keeps.put, Keeps.puts, Keeps.setByte, Keeps.setBytes, Keeps.clearRange, Keeps.updRegs, Keeps.updMemNil, Keeps.updViolNil, Keeps.updViolDrop, Keeps.updT, Keeps.updTzero, RegFile.resetBlock, State.bump_keeps, State.refuseWrite_keeps, lockNote_keeps, h]

theorem lockForce_keeps {z : State} (s : State) (m : Nat) (v : Nat) (h : Keeps z s) : Keeps z (lockForce s m v) := by
  unfold lockForce
  simp (maxDischargeDepth := 40) only [implies_true, Keeps.refl, Keeps.ite, Keeps.upd, Keeps.foldl, Keeps.when, Keeps.put, Keeps.puts, Keeps.setByte, Keeps.setBytes, Keeps.clearRange, Keeps.updRegs, Keeps.updMemNil, Keeps.updViolNil, Keeps.updViolDrop, Keeps.updT, Keeps.updTzero, RegFile.resetBlock, State.refuseWrite_keeps, lockNote_keeps, h]

theorem breakLocks_keeps {z : State} (s : State) (m : Nat) (h : Keeps z s) : Keeps z (breakLocks s m) := by
  unfold breakLocks
  simp (maxDischargeDepth := 40) only [implies_true, Keeps.refl, Keeps.ite, Keeps.upd, Keeps.foldl, Keeps.when, Keeps.put, Keeps.puts, Keeps.setByte, Keeps.setBytes, Keeps.clearRange, Keeps.updRegs, Keeps.updMemNil, Keeps.updViolNil, Keeps.updViolDrop, Keeps.updT, Keeps.updTzero, RegFile.resetBlock, State.bump_keeps, State.irq_keeps, lockNote_keeps, h]

theorem dbEvent_keeps {z : State} (s : State) (k : Nat) (h : Keeps z s) : Keeps z (dbEvent s k) := by
  unfold dbEvent
  simp (maxDischargeDepth := 40) only [implies_true, Keeps.refl, Keeps.ite, Keeps.upd, Keeps.foldl, Keeps.when, Keeps.put, Keeps.puts, Keeps.setByte, Keeps.setBytes, Keeps.clearRange, Keeps.updRegs, Keeps.updMemNil, Keeps.updViolNil, Keeps.updViolDrop, Keeps.updT, Keeps.updTzero, RegFile.resetBlock, State.irq_keeps, dspVector_keeps, threadWake_keeps, h]

theorem dbRing_keeps {z : State} (s : State) (k : Nat) (v : Nat) (h : Keeps z s) : Keeps z (dbRing s k v) := by
  unfold dbRing
  simp (maxDischargeDepth := 40) only [implies_true, Keeps.refl, Keeps.ite, Keeps.upd, Keeps.foldl, Keeps.when, Keeps.put, Keeps.puts, Keeps.setByte, Keeps.setBytes, Keeps.clearRange, Keeps.updRegs, Keeps.updMemNil, Keeps.updViolNil, Keeps.updViolDrop, Keeps.updT, Keeps.updTzero, RegFile.resetBlock, dbEvent_keeps, h]

theorem dbSet_keeps {z : State} (s : State) (m : Nat) (k : Nat) (v : Nat) (h : Keeps z s) : Keeps z (dbSet s m k v) := by
  unfold dbSet
  simp (maxDischargeDepth := 40) only [implies_true, Keeps.refl, Keeps.ite, Keeps.upd, Keeps.foldl, Keeps.when, Keeps.put, Keeps.puts, Keeps.setByte, Keeps.setBytes, Keeps.clearRange, Keeps.updRegs, Keeps.updMemNil, Keeps.updViolNil, Keeps.updViolDrop, Keeps.updT, Keeps.updTzero, RegFile.resetBlock, State.refuseWrite_keeps, dbRing_keeps, h]

theorem dbClear_keeps {z : State} (s : State) (m : Nat) (k : Nat) (v : Nat) (h : Keeps z s) : Keeps z (dbClear s m k v) := by
  unfold dbClear
  simp (maxDischargeDepth := 40) only [implies_true, Keeps.refl, Keeps.ite, Keeps.upd, Keeps.foldl, Keeps.when, Keeps.put, Keeps.puts, Keeps.setByte, Keeps.setBytes, Keeps.clearRange, Keeps.updRegs, Keeps.updMemNil, Keeps.updViolNil, Keeps.updViolDrop, Keeps.updT, Keeps.updTzero, RegFile.resetBlock, State.refuseWrite_keeps, dbEvent_keeps, h]

theorem dbMask_keeps {z : State} (s : State) (m : Nat) (k : Nat) (v : Nat) (h : Keeps z s) : Keeps z (dbMask s m k v) := by
  unfold dbMask
  simp (maxDischargeDepth := 40) only [implies_true, Keeps.refl, Keeps.ite, Keeps.upd, Keeps.foldl, Keeps.when, Keeps.put, Keeps.puts, Keeps.setByte, Keeps.setBytes, Keeps.clearRange, Keeps.updRegs, Keeps.updMemNil, Keeps.updViolNil, Keeps.updViolDrop, Keeps.updT, Keeps.updTzero, RegFile.resetBlock, State.refuseWrite_keeps, dbEvent_keeps, h]

theorem dbCfg_keeps {z : State} (s : State) (m : Nat) (k : Nat) (v : Nat) (h : Keeps z s) : Keeps z (dbCfg s m k v) := by
  unfold dbCfg
  simp (maxDischargeDepth := 40) only [implies_true, Keeps.refl, Keeps.ite, Keeps.upd, Keeps.foldl, Keeps.when, Keeps.put, Keeps.puts, Keeps.setByte, Keeps.setBytes, Keeps.clearRange, Keeps.updRegs, Keeps.updMemNil, Keeps.updViolNil, Keeps.updViolDrop, Keeps.updT, Keeps.updTzero, RegFile.resetBlock, State.refuseWrite_keeps, h]

theorem cdReset_keeps {z : State} (s : State) (n : Nat) (h : Keeps z s) : Keeps z (cdReset s n) := by
  unfold cdReset
  simp (maxDischargeDepth := 40) only [implies_true, Keeps.refl, Keeps.ite, Keeps.upd, Keeps.foldl, Keeps.when, Keeps.put, Keeps.puts, Keeps.setByte, Keeps.setBytes, Keeps.clearRange, Keeps.updRegs, Keeps.updMemNil, Keeps.updViolNil, Keeps.updViolDrop, Keeps.updT, Keeps.updTzero, RegFile.resetBlock, breakLocks_keeps, cdResetCore_keeps, flushQueues_keeps, h]

theorem cdCtrlWrite_keeps {z : State} (s : State) (m : Nat) (n : Nat) (v : Nat) (h : Keeps z s) : Keeps z (cdCtrlWrite s m n v) := by
  unfold cdCtrlWrite
  simp (maxDischargeDepth := 40) only [implies_true, Keeps.refl, Keeps.ite, Keeps.upd, Keeps.foldl, Keeps.when, Keeps.put, Keeps.puts, Keeps.setByte, Keeps.setBytes, Keeps.clearRange, Keeps.updRegs, Keeps.updMemNil, Keeps.updViolNil, Keeps.updViolDrop, Keeps.updT, Keeps.updTzero, RegFile.resetBlock, State.refuseCd_keeps, cdHalt_keeps, cdReset_keeps, cdRun_keeps, h]

theorem cdRegWrite_keeps {z : State} (s : State) (m : Nat) (n : Nat) (off : Nat) (v : Nat) (h : Keeps z s) : Keeps z (cdRegWrite s m n off v) := by
  unfold cdRegWrite
  simp (maxDischargeDepth := 40) only [implies_true, Keeps.refl, Keeps.ite, Keeps.upd, Keeps.foldl, Keeps.when, Keeps.put, Keeps.puts, Keeps.setByte, Keeps.setBytes, Keeps.clearRange, Keeps.updRegs, Keeps.updMemNil, Keeps.updViolNil, Keeps.updViolDrop, Keeps.updT, Keeps.updTzero, RegFile.resetBlock, State.refuseCd_keeps, cdAperture_keeps, cdCtrlWrite_keeps, relCancel_keeps, relSet_keeps, h]

end Sys2Proof.Machine
end

