-- ==== Sys2Proof/Laws/KeepSecurity.lean ====
section
/-! SUPPORT. What the operations of Machine/Security.lean keep (Laws/Keeps.lean). -/
set_option linter.unusedSimpArgs false
set_option linter.unusedVariables false
namespace Sys2Proof.Machine
open Sys2Proof.Reg

theorem setSessions_keeps {z : State} (s : State) (l : List Session) (h : Keeps z s) : Keeps z (setSessions s l) := by
  unfold setSessions
  simp (maxDischargeDepth := 40) only [implies_true, Keeps.refl, Keeps.ite, Keeps.upd, Keeps.foldl, Keeps.when, Keeps.put, Keeps.puts, Keeps.setByte, Keeps.setBytes, Keeps.clearRange, Keeps.updRegs, Keeps.updMemNil, Keeps.updViolNil, Keeps.updViolDrop, Keeps.updT, Keeps.updTzero, RegFile.resetBlock, h]

theorem closeSession_keeps {z : State} (s : State) (x : Session) (reason : Nat) (after : Option LdgAfter) (h : Keeps z s) : Keeps z (closeSession s x reason after) := by
  unfold closeSession
  simp (maxDischargeDepth := 40) only [implies_true, Keeps.refl, Keeps.ite, Keeps.upd, Keeps.foldl, Keeps.when, Keeps.put, Keeps.puts, Keeps.setByte, Keeps.setBytes, Keeps.clearRange, Keeps.updRegs, Keeps.updMemNil, Keeps.updViolNil, Keeps.updViolDrop, Keeps.updT, Keeps.updTzero, RegFile.resetBlock, ldgSubmit_keeps, setSessions_keeps, h]

theorem closeAll_keeps {z : State} (s : State) (p : Session → Bool) (reason : Nat) (h : Keeps z s) : Keeps z (closeAll s p reason) := by
  unfold closeAll
  simp (maxDischargeDepth := 40) only [implies_true, Keeps.refl, Keeps.ite, Keeps.upd, Keeps.foldl, Keeps.when, Keeps.put, Keeps.puts, Keeps.setByte, Keeps.setBytes, Keeps.clearRange, Keeps.updRegs, Keeps.updMemNil, Keeps.updViolNil, Keeps.updViolDrop, Keeps.updT, Keeps.updTzero, RegFile.resetBlock, closeSession_keeps, h]

theorem idleTimeout_keeps {z : State} (s : State) (v : Nat) (h : Keeps z s) : Keeps z (idleTimeout s v) := by
  unfold idleTimeout
  simp (maxDischargeDepth := 40) only [implies_true, Keeps.refl, Keeps.ite, Keeps.upd, Keeps.foldl, Keeps.when, Keeps.put, Keeps.puts, Keeps.setByte, Keeps.setBytes, Keeps.clearRange, Keeps.updRegs, Keeps.updMemNil, Keeps.updViolNil, Keeps.updViolDrop, Keeps.updT, Keeps.updTzero, RegFile.resetBlock, closeAll_keeps, h]

theorem sessionValue_keeps {z : State} (s : State) (h : Keeps z s) : Keeps z (sessionValue s).2 := by
  unfold sessionValue
  simp (maxDischargeDepth := 40) only [implies_true, Keeps.refl, Keeps.ite, Keeps.upd, Keeps.foldl, Keeps.when, Keeps.put, Keeps.puts, Keeps.setByte, Keeps.setBytes, Keeps.clearRange, Keeps.updRegs, Keeps.updMemNil, Keeps.updViolNil, Keeps.updViolDrop, Keeps.updT, Keeps.updTzero, RegFile.resetBlock, State.fresh_keeps, h]

theorem lockoutExpiry_keeps {z : State} (s : State) (k : Nat) (h : Keeps z s) : Keeps z (lockoutExpiry s k) := by
  unfold lockoutExpiry
  simp (maxDischargeDepth := 40) only [implies_true, Keeps.refl, Keeps.ite, Keeps.upd, Keeps.foldl, Keeps.when, Keeps.put, Keeps.puts, Keeps.setByte, Keeps.setBytes, Keeps.clearRange, Keeps.updRegs, Keeps.updMemNil, Keeps.updViolNil, Keeps.updViolDrop, Keeps.updT, Keeps.updTzero, RegFile.resetBlock, h]

theorem challengeExpiry_keeps {z : State} (s : State) (n : Nat) (h : Keeps z s) : Keeps z (challengeExpiry s n) := by
  unfold challengeExpiry
  repeat' (first | (simp (maxDischargeDepth := 40) only [implies_true, Keeps.refl, Keeps.ite, Keeps.upd, Keeps.foldl, Keeps.when, Keeps.put, Keeps.puts, Keeps.setByte, Keeps.setBytes, Keeps.clearRange, Keeps.updRegs, Keeps.updMemNil, Keeps.updViolNil, Keeps.updViolDrop, Keeps.updT, Keeps.updTzero, RegFile.resetBlock, h]; done) | dsimp only | with_reducible refine Keeps.ite ?_ ?_ | split | with_reducible refine Keeps.foldl (fun _ _ => ?_) ?_ | with_reducible refine Keeps.foldl1 (fun _ _ => ?_) ?_ | with_reducible refine Keeps.foldl2 (fun _ _ => ?_) ?_ | with_reducible refine Keeps.foldl3 (fun _ _ => ?_) ?_ | with_reducible refine Keeps.when (fun _ => ?_) ?_)

theorem reply_keeps {z : State} (s : State) (t : MsgTo) (result : Nat) (low : Nat) (pl : List Byte) (h : Keeps z s) : Keeps z (reply s t result low pl) := by
  unfold reply
  repeat' (first | (simp (maxDischargeDepth := 40) only [implies_true, Keeps.refl, Keeps.ite, Keeps.upd, Keeps.foldl, Keeps.when, Keeps.put, Keeps.puts, Keeps.setByte, Keeps.setBytes, Keeps.clearRange, Keeps.updRegs, Keeps.updMemNil, Keeps.updViolNil, Keeps.updViolDrop, Keeps.updT, Keeps.updTzero, RegFile.resetBlock, State.emit_keeps, awaitDma_keeps, h]; done) | dsimp only | with_reducible refine Keeps.ite ?_ ?_ | split | with_reducible refine Keeps.foldl (fun _ _ => ?_) ?_ | with_reducible refine Keeps.foldl1 (fun _ _ => ?_) ?_ | with_reducible refine Keeps.foldl2 (fun _ _ => ?_) ?_ | with_reducible refine Keeps.foldl3 (fun _ _ => ?_) ?_ | with_reducible refine Keeps.when (fun _ => ?_) ?_)

theorem message_keeps {z : State} (s : State) (r : Nat) (typ : Nat) (sess : Nat) (len : Nat) (pl : List Byte) (want : Nat) (gate : Option Nat) (f : State → MsgTo → Nat → State) (h : Keeps z s) (h_f : ∀ u a0 a1, Keeps u (f u a0 a1)) : Keeps z (message s r typ sess len pl want gate f) := by
  have k_f : ∀ {z u : State} (a0 : MsgTo) (a1 : Nat), Keeps z u → Keeps z (f u a0 a1) := fun _ _ k => k.trans (h_f _ _ _)
  unfold message
  repeat' (first | (simp (maxDischargeDepth := 40) only [implies_true, Keeps.refl, Keeps.ite, Keeps.upd, Keeps.foldl, Keeps.when, Keeps.put, Keeps.puts, Keeps.setByte, Keeps.setBytes, Keeps.clearRange, Keeps.updRegs, Keeps.updMemNil, Keeps.updViolNil, Keeps.updViolDrop, Keeps.updT, Keeps.updTzero, RegFile.resetBlock, finishItem_keeps, setSessions_keeps, startItem_keeps, h, k_f]; done) | dsimp only | with_reducible refine Keeps.ite ?_ ?_ | split | with_reducible refine Keeps.foldl (fun _ _ => ?_) ?_ | with_reducible refine Keeps.foldl1 (fun _ _ => ?_) ?_ | with_reducible refine Keeps.foldl2 (fun _ _ => ?_) ?_ | with_reducible refine Keeps.foldl3 (fun _ _ => ?_) ?_ | with_reducible refine Keeps.when (fun _ => ?_) ?_)

theorem commitMsg_keeps {z : State} (s : State) (t : MsgTo) (n : Nat) (typ : Nat) (pl : List Byte) (res : Nat) (more : List Nat) (h : Keeps z s) : Keeps z (commitMsg s t n typ pl res more) := by
  unfold commitMsg
  simp (maxDischargeDepth := 40) only [implies_true, Keeps.refl, Keeps.ite, Keeps.upd, Keeps.foldl, Keeps.when, Keeps.put, Keeps.puts, Keeps.setByte, Keeps.setBytes, Keeps.clearRange, Keeps.updRegs, Keeps.updMemNil, Keeps.updViolNil, Keeps.updViolDrop, Keeps.updT, Keeps.updTzero, RegFile.resetBlock, ldgPush_keeps, reply_keeps, h]

theorem msgOpen_keeps {z : State} (s : State) (r : Nat) (sess : Nat) (len : Nat) (pl : List Byte) (h : Keeps z s) : Keeps z (msgOpen s r sess len pl) := by
  unfold msgOpen
  simp (maxDischargeDepth := 40) only [implies_true, Keeps.refl, Keeps.ite, Keeps.upd, Keeps.foldl, Keeps.when, Keeps.put, Keeps.puts, Keeps.setByte, Keeps.setBytes, Keeps.clearRange, Keeps.updRegs, Keeps.updMemNil, Keeps.updViolNil, Keeps.updViolDrop, Keeps.updT, Keeps.updTzero, RegFile.resetBlock, State.fresh_keeps, message_keeps, reply_keeps, sessionValue_keeps, h]

theorem msgProve_keeps {z : State} (s : State) (r : Nat) (sess : Nat) (len : Nat) (pl : List Byte) (h : Keeps z s) : Keeps z (msgProve s r sess len pl) := by
  unfold msgProve
  repeat' (first | (simp (maxDischargeDepth := 40) only [implies_true, Keeps.refl, Keeps.ite, Keeps.upd, Keeps.foldl, Keeps.when, Keeps.put, Keeps.puts, Keeps.setByte, Keeps.setBytes, Keeps.clearRange, Keeps.updRegs, Keeps.updMemNil, Keeps.updViolNil, Keeps.updViolDrop, Keeps.updT, Keeps.updTzero, RegFile.resetBlock, State.bump_keeps, commitMsg_keeps, message_keeps, reply_keeps, h]; done) | dsimp only | with_reducible refine Keeps.ite ?_ ?_ | with_reducible apply message_keeps | intro _ | split | with_reducible refine Keeps.foldl (fun _ _ => ?_) ?_ | with_reducible refine Keeps.foldl1 (fun _ _ => ?_) ?_ | with_reducible refine Keeps.foldl2 (fun _ _ => ?_) ?_ | with_reducible refine Keeps.foldl3 (fun _ _ => ?_) ?_ | with_reducible refine Keeps.when (fun _ => ?_) ?_)

theorem msgClose_keeps {z : State} (s : State) (r : Nat) (sess : Nat) (len : Nat) (pl : List Byte) (h : Keeps z s) : Keeps z (msgClose s r sess len pl) := by
  unfold msgClose
  repeat' (first | (simp (maxDischargeDepth := 40) only [implies_true, Keeps.refl, Keeps.ite, Keeps.upd, Keeps.foldl, Keeps.when, Keeps.put, Keeps.puts, Keeps.setByte, Keeps.setBytes, Keeps.clearRange, Keeps.updRegs, Keeps.updMemNil, Keeps.updViolNil, Keeps.updViolDrop, Keeps.updT, Keeps.updTzero, RegFile.resetBlock, closeSession_keeps, message_keeps, reply_keeps, h]; done) | dsimp only | with_reducible refine Keeps.ite ?_ ?_ | with_reducible apply message_keeps | intro _ | split | with_reducible refine Keeps.foldl (fun _ _ => ?_) ?_ | with_reducible refine Keeps.foldl1 (fun _ _ => ?_) ?_ | with_reducible refine Keeps.foldl2 (fun _ _ => ?_) ?_ | with_reducible refine Keeps.foldl3 (fun _ _ => ?_) ?_ | with_reducible refine Keeps.when (fun _ => ?_) ?_)

theorem msgGetCert_keeps {z : State} (s : State) (r : Nat) (sess : Nat) (len : Nat) (pl : List Byte) (h : Keeps z s) : Keeps z (msgGetCert s r sess len pl) := by
  unfold msgGetCert
  simp (maxDischargeDepth := 40) only [implies_true, Keeps.refl, Keeps.ite, Keeps.upd, Keeps.foldl, Keeps.when, Keeps.put, Keeps.puts, Keeps.setByte, Keeps.setBytes, Keeps.clearRange, Keeps.updRegs, Keeps.updMemNil, Keeps.updViolNil, Keeps.updViolDrop, Keeps.updT, Keeps.updTzero, RegFile.resetBlock, message_keeps, reply_keeps, h]

theorem msgPsetDeliver_keeps {z : State} (s : State) (r : Nat) (sess : Nat) (len : Nat) (pl : List Byte) (h : Keeps z s) : Keeps z (msgPsetDeliver s r sess len pl) := by
  unfold msgPsetDeliver
  simp (maxDischargeDepth := 40) only [implies_true, Keeps.refl, Keeps.ite, Keeps.upd, Keeps.foldl, Keeps.when, Keeps.put, Keeps.puts, Keeps.setByte, Keeps.setBytes, Keeps.clearRange, Keeps.updRegs, Keeps.updMemNil, Keeps.updViolNil, Keeps.updViolDrop, Keeps.updT, Keeps.updTzero, RegFile.resetBlock, message_keeps, psetDeliver_keeps, reply_keeps, h]

theorem msgPsetConfirm_keeps {z : State} (s : State) (r : Nat) (sess : Nat) (len : Nat) (pl : List Byte) (h : Keeps z s) : Keeps z (msgPsetConfirm s r sess len pl) := by
  unfold msgPsetConfirm
  repeat' (first | (simp (maxDischargeDepth := 40) only [implies_true, Keeps.refl, Keeps.ite, Keeps.upd, Keeps.foldl, Keeps.when, Keeps.put, Keeps.puts, Keeps.setByte, Keeps.setBytes, Keeps.clearRange, Keeps.updRegs, Keeps.updMemNil, Keeps.updViolNil, Keeps.updViolDrop, Keeps.updT, Keeps.updTzero, RegFile.resetBlock, ldgPush_keeps, message_keeps, psetCommitted_keeps, psetTimeout_keeps, reply_keeps, h]; done) | dsimp only | with_reducible refine Keeps.ite ?_ ?_ | with_reducible apply message_keeps | intro _ | split | with_reducible refine Keeps.foldl (fun _ _ => ?_) ?_ | with_reducible refine Keeps.foldl1 (fun _ _ => ?_) ?_ | with_reducible refine Keeps.foldl2 (fun _ _ => ?_) ?_ | with_reducible refine Keeps.foldl3 (fun _ _ => ?_) ?_ | with_reducible refine Keeps.when (fun _ => ?_) ?_)

theorem msgKeyEnrol_keeps {z : State} (s : State) (r : Nat) (sess : Nat) (len : Nat) (pl : List Byte) (h : Keeps z s) : Keeps z (msgKeyEnrol s r sess len pl) := by
  unfold msgKeyEnrol
  simp (maxDischargeDepth := 40) only [implies_true, Keeps.refl, Keeps.ite, Keeps.upd, Keeps.foldl, Keeps.when, Keeps.put, Keeps.puts, Keeps.setByte, Keeps.setBytes, Keeps.clearRange, Keeps.updRegs, Keeps.updMemNil, Keeps.updViolNil, Keeps.updViolDrop, Keeps.updT, Keeps.updTzero, RegFile.resetBlock, commitMsg_keeps, message_keeps, reply_keeps, h]

theorem msgPasswordSet_keeps {z : State} (s : State) (r : Nat) (sess : Nat) (len : Nat) (pl : List Byte) (h : Keeps z s) : Keeps z (msgPasswordSet s r sess len pl) := by
  unfold msgPasswordSet
  simp (maxDischargeDepth := 40) only [implies_true, Keeps.refl, Keeps.ite, Keeps.upd, Keeps.foldl, Keeps.when, Keeps.put, Keeps.puts, Keeps.setByte, Keeps.setBytes, Keeps.clearRange, Keeps.updRegs, Keeps.updMemNil, Keeps.updViolNil, Keeps.updViolDrop, Keeps.updT, Keeps.updTzero, RegFile.resetBlock, commitMsg_keeps, message_keeps, reply_keeps, h]

theorem msgSessCfg_keeps {z : State} (s : State) (r : Nat) (sess : Nat) (len : Nat) (pl : List Byte) (h : Keeps z s) : Keeps z (msgSessCfg s r sess len pl) := by
  unfold msgSessCfg
  simp (maxDischargeDepth := 40) only [implies_true, Keeps.refl, Keeps.ite, Keeps.upd, Keeps.foldl, Keeps.when, Keeps.put, Keeps.puts, Keeps.setByte, Keeps.setBytes, Keeps.clearRange, Keeps.updRegs, Keeps.updMemNil, Keeps.updViolNil, Keeps.updViolDrop, Keeps.updT, Keeps.updTzero, RegFile.resetBlock, commitMsg_keeps, message_keeps, reply_keeps, h]

theorem msgTamperCfg_keeps {z : State} (s : State) (r : Nat) (sess : Nat) (len : Nat) (pl : List Byte) (h : Keeps z s) : Keeps z (msgTamperCfg s r sess len pl) := by
  unfold msgTamperCfg
  simp (maxDischargeDepth := 40) only [implies_true, Keeps.refl, Keeps.ite, Keeps.upd, Keeps.foldl, Keeps.when, Keeps.put, Keeps.puts, Keeps.setByte, Keeps.setBytes, Keeps.clearRange, Keeps.updRegs, Keeps.updMemNil, Keeps.updViolNil, Keeps.updViolDrop, Keeps.updT, Keeps.updTzero, RegFile.resetBlock, commitMsg_keeps, message_keeps, reply_keeps, h]

theorem msgTamperRearm_keeps {z : State} (s : State) (r : Nat) (sess : Nat) (len : Nat) (pl : List Byte) (h : Keeps z s) : Keeps z (msgTamperRearm s r sess len pl) := by
  unfold msgTamperRearm
  simp (maxDischargeDepth := 40) only [implies_true, Keeps.refl, Keeps.ite, Keeps.upd, Keeps.foldl, Keeps.when, Keeps.put, Keeps.puts, Keeps.setByte, Keeps.setBytes, Keeps.clearRange, Keeps.updRegs, Keeps.updMemNil, Keeps.updViolNil, Keeps.updViolDrop, Keeps.updT, Keeps.updTzero, RegFile.resetBlock, commitMsg_keeps, message_keeps, reply_keeps, h]

theorem msgOdoCfg_keeps {z : State} (s : State) (r : Nat) (sess : Nat) (len : Nat) (pl : List Byte) (h : Keeps z s) : Keeps z (msgOdoCfg s r sess len pl) := by
  unfold msgOdoCfg
  simp (maxDischargeDepth := 40) only [implies_true, Keeps.refl, Keeps.ite, Keeps.upd, Keeps.foldl, Keeps.when, Keeps.put, Keeps.puts, Keeps.setByte, Keeps.setBytes, Keeps.clearRange, Keeps.updRegs, Keeps.updMemNil, Keeps.updViolNil, Keeps.updViolDrop, Keeps.updT, Keeps.updTzero, RegFile.resetBlock, commitMsg_keeps, message_keeps, reply_keeps, h]

theorem eraseKeys_keeps {z : State} (s : State) (h : Keeps z s) : Keeps z (eraseKeys s) := by
  unfold eraseKeys
  simp (maxDischargeDepth := 40) only [implies_true, Keeps.refl, Keeps.ite, Keeps.upd, Keeps.foldl, Keeps.when, Keeps.put, Keeps.puts, Keeps.setByte, Keeps.setBytes, Keeps.clearRange, Keeps.updRegs, Keeps.updMemNil, Keeps.updViolNil, Keeps.updViolDrop, Keeps.updT, Keeps.updTzero, RegFile.resetBlock, eraseTenantKeys_keeps, h]

theorem msgDebugOpen_keeps {z : State} (s : State) (r : Nat) (sess : Nat) (len : Nat) (pl : List Byte) (h : Keeps z s) : Keeps z (msgDebugOpen s r sess len pl) := by
  unfold msgDebugOpen
  simp (maxDischargeDepth := 40) only [implies_true, Keeps.refl, Keeps.ite, Keeps.upd, Keeps.foldl, Keeps.when, Keeps.put, Keeps.puts, Keeps.setByte, Keeps.setBytes, Keeps.clearRange, Keeps.updRegs, Keeps.updMemNil, Keeps.updViolNil, Keeps.updViolDrop, Keeps.updT, Keeps.updTzero, RegFile.resetBlock, commitMsg_keeps, eraseKeys_keeps, ldgPush_keeps, message_keeps, reply_keeps, h]

theorem msgLifecycle_keeps {z : State} (s : State) (r : Nat) (sess : Nat) (len : Nat) (pl : List Byte) (h : Keeps z s) : Keeps z (msgLifecycle s r sess len pl) := by
  unfold msgLifecycle
  simp (maxDischargeDepth := 40) only [implies_true, Keeps.refl, Keeps.ite, Keeps.upd, Keeps.foldl, Keeps.when, Keeps.put, Keeps.puts, Keeps.setByte, Keeps.setBytes, Keeps.clearRange, Keeps.updRegs, Keeps.updMemNil, Keeps.updViolNil, Keeps.updViolDrop, Keeps.updT, Keeps.updTzero, RegFile.resetBlock, commitMsg_keeps, message_keeps, reply_keeps, h]

theorem msgGrantSet_keeps {z : State} (s : State) (r : Nat) (sess : Nat) (len : Nat) (pl : List Byte) (h : Keeps z s) : Keeps z (msgGrantSet s r sess len pl) := by
  unfold msgGrantSet
  simp (maxDischargeDepth := 40) only [implies_true, Keeps.refl, Keeps.ite, Keeps.upd, Keeps.foldl, Keeps.when, Keeps.put, Keeps.puts, Keeps.setByte, Keeps.setBytes, Keeps.clearRange, Keeps.updRegs, Keeps.updMemNil, Keeps.updViolNil, Keeps.updViolDrop, Keeps.updT, Keeps.updTzero, RegFile.resetBlock, commitMsg_keeps, message_keeps, reply_keeps, h]

theorem msgCheckpoint_keeps {z : State} (s : State) (r : Nat) (sess : Nat) (len : Nat) (pl : List Byte) (h : Keeps z s) : Keeps z (msgCheckpoint s r sess len pl) := by
  unfold msgCheckpoint
  simp (maxDischargeDepth := 40) only [implies_true, Keeps.refl, Keeps.ite, Keeps.upd, Keeps.foldl, Keeps.when, Keeps.put, Keeps.puts, Keeps.setByte, Keeps.setBytes, Keeps.clearRange, Keeps.updRegs, Keeps.updMemNil, Keeps.updViolNil, Keeps.updViolDrop, Keeps.updT, Keeps.updTzero, RegFile.resetBlock, commitMsg_keeps, message_keeps, h]

theorem msgCompatAck_keeps {z : State} (s : State) (r : Nat) (sess : Nat) (len : Nat) (pl : List Byte) (h : Keeps z s) : Keeps z (msgCompatAck s r sess len pl) := by
  unfold msgCompatAck
  simp (maxDischargeDepth := 40) only [implies_true, Keeps.refl, Keeps.ite, Keeps.upd, Keeps.foldl, Keeps.when, Keeps.put, Keeps.puts, Keeps.setByte, Keeps.setBytes, Keeps.clearRange, Keeps.updRegs, Keeps.updMemNil, Keeps.updViolNil, Keeps.updViolDrop, Keeps.updT, Keeps.updTzero, RegFile.resetBlock, commitMsg_keeps, message_keeps, reply_keeps, h]

theorem setGrant_keeps {z : State} (s : State) (i : Nat) (h : Keeps z s) : Keeps z (setGrant s i) := by
  unfold setGrant
  simp (maxDischargeDepth := 40) only [implies_true, Keeps.refl, Keeps.ite, Keeps.upd, Keeps.foldl, Keeps.when, Keeps.put, Keeps.puts, Keeps.setByte, Keeps.setBytes, Keeps.clearRange, Keeps.updRegs, Keeps.updMemNil, Keeps.updViolNil, Keeps.updViolDrop, Keeps.updT, Keeps.updTzero, RegFile.resetBlock, h]

theorem applyMsg_keeps {z : State} (s : State) (t : MsgTo) (n : Nat) (more : List Nat) (h : Keeps z s) : Keeps z (applyMsg s t n more) := by
  unfold applyMsg
  repeat' (first | (simp (maxDischargeDepth := 40) only [implies_true, Keeps.refl, Keeps.ite, Keeps.upd, Keeps.foldl, Keeps.when, Keeps.put, Keeps.puts, Keeps.setByte, Keeps.setBytes, Keeps.clearRange, Keeps.updRegs, Keeps.updMemNil, Keeps.updViolNil, Keeps.updViolDrop, Keeps.updT, Keeps.updTzero, RegFile.resetBlock, State.fresh_keeps, psetCommitted_keeps, setGrant_keeps, setSessions_keeps, h]; done) | dsimp only | with_reducible refine Keeps.ite ?_ ?_ | split | with_reducible refine Keeps.foldl (fun _ _ => ?_) ?_ | with_reducible refine Keeps.foldl1 (fun _ _ => ?_) ?_ | with_reducible refine Keeps.foldl2 (fun _ _ => ?_) ?_ | with_reducible refine Keeps.foldl3 (fun _ _ => ?_) ?_ | with_reducible refine Keeps.when (fun _ => ?_) ?_)

theorem msgCommitted_keeps {z : State} (s : State) (args : List Nat) (ok : Bool) (h : Keeps z s) : Keeps z (msgCommitted s args ok) := by
  unfold msgCommitted
  repeat' (first | (simp (maxDischargeDepth := 40) only [implies_true, Keeps.refl, Keeps.ite, Keeps.upd, Keeps.foldl, Keeps.when, Keeps.put, Keeps.puts, Keeps.setByte, Keeps.setBytes, Keeps.clearRange, Keeps.updRegs, Keeps.updMemNil, Keeps.updViolNil, Keeps.updViolDrop, Keeps.updT, Keeps.updTzero, RegFile.resetBlock, applyMsg_keeps, psetCommitted_keeps, reply_keeps, h]; done) | dsimp only | with_reducible refine Keeps.ite ?_ ?_ | split | with_reducible refine Keeps.foldl (fun _ _ => ?_) ?_ | with_reducible refine Keeps.foldl1 (fun _ _ => ?_) ?_ | with_reducible refine Keeps.foldl2 (fun _ _ => ?_) ?_ | with_reducible refine Keeps.foldl3 (fun _ _ => ?_) ?_ | with_reducible refine Keeps.when (fun _ => ?_) ?_)

theorem erasedCommitted_keeps {z : State} (s : State) (args : List Nat) (ok : Bool) (h : Keeps z s) : Keeps z (erasedCommitted s args ok) := by
  unfold erasedCommitted
  repeat' (first | (simp (maxDischargeDepth := 40) only [implies_true, Keeps.refl, Keeps.ite, Keeps.upd, Keeps.foldl, Keeps.when, Keeps.put, Keeps.puts, Keeps.setByte, Keeps.setBytes, Keeps.clearRange, Keeps.updRegs, Keeps.updMemNil, Keeps.updViolNil, Keeps.updViolDrop, Keeps.updT, Keeps.updTzero, RegFile.resetBlock, commitMsg_keeps, reply_keeps, h]; done) | dsimp only | with_reducible refine Keeps.ite ?_ ?_ | split | with_reducible refine Keeps.foldl (fun _ _ => ?_) ?_ | with_reducible refine Keeps.foldl1 (fun _ _ => ?_) ?_ | with_reducible refine Keeps.foldl2 (fun _ _ => ?_) ?_ | with_reducible refine Keeps.foldl3 (fun _ _ => ?_) ?_ | with_reducible refine Keeps.when (fun _ => ?_) ?_)

theorem ledgerRead_keeps {z : State} (s : State) (r : Nat) (h : Keeps z s) : Keeps z (ledgerRead s r) := by
  unfold ledgerRead
  repeat' (first | (simp (maxDischargeDepth := 40) only [implies_true, Keeps.refl, Keeps.ite, Keeps.upd, Keeps.foldl, Keeps.when, Keeps.put, Keeps.puts, Keeps.setByte, Keeps.setBytes, Keeps.clearRange, Keeps.updRegs, Keeps.updMemNil, Keeps.updViolNil, Keeps.updViolDrop, Keeps.updT, Keeps.updTzero, RegFile.resetBlock, State.emit_keeps, awaitDma_keeps, finishItem_keeps, setSessions_keeps, startItem_keeps, h]; done) | dsimp only | with_reducible refine Keeps.ite ?_ ?_ | split | with_reducible refine Keeps.foldl (fun _ _ => ?_) ?_ | with_reducible refine Keeps.foldl1 (fun _ _ => ?_) ?_ | with_reducible refine Keeps.foldl2 (fun _ _ => ?_) ?_ | with_reducible refine Keeps.foldl3 (fun _ _ => ?_) ?_ | with_reducible refine Keeps.when (fun _ => ?_) ?_)

theorem odoShow_keeps {z : State} (s : State) (h : Keeps z s) : Keeps z (odoShow s) := by
  unfold odoShow
  simp (maxDischargeDepth := 40) only [implies_true, Keeps.refl, Keeps.ite, Keeps.upd, Keeps.foldl, Keeps.when, Keeps.put, Keeps.puts, Keeps.setByte, Keeps.setBytes, Keeps.clearRange, Keeps.updRegs, Keeps.updMemNil, Keeps.updViolNil, Keeps.updViolDrop, Keeps.updT, Keeps.updTzero, RegFile.resetBlock, h]

theorem odoTotal_keeps {z : State} (s : State) (h : Keeps z s) : Keeps z (odoTotal s) := by
  unfold odoTotal
  simp (maxDischargeDepth := 40) only [implies_true, Keeps.refl, Keeps.ite, Keeps.upd, Keeps.foldl, Keeps.when, Keeps.put, Keeps.puts, Keeps.setByte, Keeps.setBytes, Keeps.clearRange, Keeps.updRegs, Keeps.updMemNil, Keeps.updViolNil, Keeps.updViolDrop, Keeps.updT, Keeps.updTzero, RegFile.resetBlock, ldgNote_keeps, h]

theorem odoCapture_keeps {z : State} (s : State) (h : Keeps z s) : Keeps z (odoCapture s) := by
  unfold odoCapture
  repeat' (first | (simp (maxDischargeDepth := 40) only [implies_true, Keeps.refl, Keeps.ite, Keeps.upd, Keeps.foldl, Keeps.when, Keeps.put, Keeps.puts, Keeps.setByte, Keeps.setBytes, Keeps.clearRange, Keeps.updRegs, Keeps.updMemNil, Keeps.updViolNil, Keeps.updViolDrop, Keeps.updT, Keeps.updTzero, RegFile.resetBlock, State.bump_keeps, State.fresh_keeps, ldgNote_keeps, odoShow_keeps, odoTotal_keeps, h]; done) | dsimp only | with_reducible refine Keeps.ite ?_ ?_ | split | with_reducible refine Keeps.foldl (fun _ _ => ?_) ?_ | with_reducible refine Keeps.foldl1 (fun _ _ => ?_) ?_ | with_reducible refine Keeps.foldl2 (fun _ _ => ?_) ?_ | with_reducible refine Keeps.foldl3 (fun _ _ => ?_) ?_ | with_reducible refine Keeps.when (fun _ => ?_) ?_)

theorem motionDelivery_keeps {z : State} (s : State) (h : Keeps z s) : Keeps z (motionDelivery s) := by
  unfold motionDelivery
  repeat' (first | (simp (maxDischargeDepth := 40) only [implies_true, Keeps.refl, Keeps.ite, Keeps.upd, Keeps.foldl, Keeps.when, Keeps.put, Keeps.puts, Keeps.setByte, Keeps.setBytes, Keeps.clearRange, Keeps.updRegs, Keeps.updMemNil, Keeps.updViolNil, Keeps.updViolDrop, Keeps.updT, Keeps.updTzero, RegFile.resetBlock, State.bump_keeps, State.emit_keeps, awaitDma_keeps, startItem_keeps, h]; done) | dsimp only | with_reducible refine Keeps.ite ?_ ?_ | split | with_reducible refine Keeps.foldl (fun _ _ => ?_) ?_ | with_reducible refine Keeps.foldl1 (fun _ _ => ?_) ?_ | with_reducible refine Keeps.foldl2 (fun _ _ => ?_) ?_ | with_reducible refine Keeps.foldl3 (fun _ _ => ?_) ?_ | with_reducible refine Keeps.when (fun _ => ?_) ?_)

theorem tamperSubmit_keeps {z : State} (s : State) (typ : Nat) (pl : List Byte) (h : Keeps z s) : Keeps z (tamperSubmit s typ pl) := by
  unfold tamperSubmit
  simp (maxDischargeDepth := 40) only [implies_true, Keeps.refl, Keeps.ite, Keeps.upd, Keeps.foldl, Keeps.when, Keeps.put, Keeps.puts, Keeps.setByte, Keeps.setBytes, Keeps.clearRange, Keeps.updRegs, Keeps.updMemNil, Keeps.updViolNil, Keeps.updViolDrop, Keeps.updT, Keeps.updTzero, RegFile.resetBlock, ldgSubmit_keeps, h]

theorem tamperEvent_keeps {z : State} (s : State) (j : Nat) (h : Keeps z s) : Keeps z (tamperEvent s j) := by
  unfold tamperEvent
  simp (maxDischargeDepth := 40) only [implies_true, Keeps.refl, Keeps.ite, Keeps.upd, Keeps.foldl, Keeps.when, Keeps.put, Keeps.puts, Keeps.setByte, Keeps.setBytes, Keeps.clearRange, Keeps.updRegs, Keeps.updMemNil, Keeps.updViolNil, Keeps.updViolDrop, Keeps.updT, Keeps.updTzero, RegFile.resetBlock, closeAll_keeps, eraseKeys_keeps, tamperSubmit_keeps, h]

theorem tamperReturn_keeps {z : State} (s : State) (j : Nat) (h : Keeps z s) : Keeps z (tamperReturn s j) := by
  unfold tamperReturn
  simp (maxDischargeDepth := 40) only [implies_true, Keeps.refl, Keeps.ite, Keeps.upd, Keeps.foldl, Keeps.when, Keeps.put, Keeps.puts, Keeps.setByte, Keeps.setBytes, Keeps.clearRange, Keeps.updRegs, Keeps.updMemNil, Keeps.updViolNil, Keeps.updViolDrop, Keeps.updT, Keeps.updTzero, RegFile.resetBlock, h]

theorem tamperParked_keeps {z : State} (s : State) (parked : Bool) (j : Nat) (k : Nat) (h : Keeps z s) : Keeps z (tamperParked s parked j k) := by
  unfold tamperParked
  simp (maxDischargeDepth := 40) only [implies_true, Keeps.refl, Keeps.ite, Keeps.upd, Keeps.foldl, Keeps.when, Keeps.put, Keeps.puts, Keeps.setByte, Keeps.setBytes, Keeps.clearRange, Keeps.updRegs, Keeps.updMemNil, Keeps.updViolNil, Keeps.updViolDrop, Keeps.updT, Keeps.updTzero, RegFile.resetBlock, h]

theorem ldgHeadRead_keeps {z : State} (s : State) (m : Nat) (h : Keeps z s) : Keeps z (ldgHeadRead s m) := by
  unfold ldgHeadRead
  simp (maxDischargeDepth := 40) only [implies_true, Keeps.refl, Keeps.ite, Keeps.upd, Keeps.foldl, Keeps.when, Keeps.put, Keeps.puts, Keeps.setByte, Keeps.setBytes, Keeps.clearRange, Keeps.updRegs, Keeps.updMemNil, Keeps.updViolNil, Keeps.updViolDrop, Keeps.updT, Keeps.updTzero, RegFile.resetBlock, State.answer_keeps, State.latch_keeps, State.refuseRead_keeps, h]

end Sys2Proof.Machine
end

