-- ==== Sys2Proof/Laws/KeepBus.lean ====
section
/-! SUPPORT. What the operations of Machine/Bus.lean keep (Laws/Keeps.lean). -/
set_option linter.unusedSimpArgs false
set_option linter.unusedVariables false
namespace Sys2Proof.Machine
open Sys2Proof.Reg

theorem plainWrite_keeps {z : State} (s : State) (n : Nat) (m : List RegRow) (off : Nat) (v : Nat) (h : Keeps z s) : Keeps z (plainWrite s n m off v) := by
  unfold plainWrite
  repeat' (first | (simp (maxDischargeDepth := 40) only [implies_true, Keeps.refl, Keeps.ite, Keeps.upd, Keeps.foldl, Keeps.when, Keeps.put, Keeps.puts, Keeps.setByte, Keeps.setBytes, Keeps.clearRange, Keeps.updRegs, Keeps.updMemNil, Keeps.updViolNil, Keeps.updViolDrop, Keeps.updT, Keeps.updTzero, RegFile.resetBlock, rowWrite_keeps, h]; done) | dsimp only | with_reducible refine Keeps.ite ?_ ?_ | split | with_reducible refine Keeps.foldl (fun _ _ => ?_) ?_ | with_reducible refine Keeps.foldl1 (fun _ _ => ?_) ?_ | with_reducible refine Keeps.foldl2 (fun _ _ => ?_) ?_ | with_reducible refine Keeps.foldl3 (fun _ _ => ?_) ?_ | with_reducible refine Keeps.when (fun _ => ?_) ?_)

theorem mcWrite_keeps {z : State} (s : State) (m : Nat) (b : Nat) (rows : List RegRow) (off : Nat) (v : Nat) (h : Keeps z s) : Keeps z (mcWrite s m b rows off v) := by
  unfold mcWrite
  simp (maxDischargeDepth := 40) only [implies_true, Keeps.refl, Keeps.ite, Keeps.upd, Keeps.foldl, Keeps.when, Keeps.put, Keeps.puts, Keeps.setByte, Keeps.setBytes, Keeps.clearRange, Keeps.updRegs, Keeps.updMemNil, Keeps.updViolNil, Keeps.updViolDrop, Keeps.updT, Keeps.updTzero, RegFile.resetBlock, State.refuseWrite_keeps, plainWrite_keeps, h]

theorem memRegWrite_keeps {z : State} (s : State) (m : Nat) (off : Nat) (v : Nat) (h : Keeps z s) : Keeps z (memRegWrite s m off v) := by
  unfold memRegWrite
  simp (maxDischargeDepth := 40) only [implies_true, Keeps.refl, Keeps.ite, Keeps.upd, Keeps.foldl, Keeps.when, Keeps.put, Keeps.puts, Keeps.setByte, Keeps.setBytes, Keeps.clearRange, Keeps.updRegs, Keeps.updMemNil, Keeps.updViolNil, Keeps.updViolDrop, Keeps.updT, Keeps.updTzero, RegFile.resetBlock, drTagWrite_keeps, mcWrite_keeps, memErrPop_keeps, memRstPop_keeps, spTagWrite_keeps, violPop_keeps, h]

theorem drmWrite_keeps {z : State} (s : State) (m : Nat) (off : Nat) (v : Nat) (h : Keeps z s) : Keeps z (drmWrite s m off v) := by
  unfold drmWrite
  simp (maxDischargeDepth := 40) only [implies_true, Keeps.refl, Keeps.ite, Keeps.upd, Keeps.foldl, Keeps.when, Keeps.put, Keeps.puts, Keeps.setByte, Keeps.setBytes, Keeps.clearRange, Keeps.updRegs, Keeps.updMemNil, Keeps.updViolNil, Keeps.updViolDrop, Keeps.updT, Keeps.updTzero, RegFile.resetBlock, State.refuseWrite_keeps, dlyWrite_keeps, drmCfgWrite_keeps, drmInit_keeps, mcWrite_keeps, srEnter_keeps, srExit_keeps, trainWrite_keeps, h]

theorem folioCtrlWrite_keeps {z : State} (s : State) (m : Nat) (n : Nat) (d2h : Bool) (v : Nat) (h : Keeps z s) : Keeps z (folioCtrlWrite s m n d2h v) := by
  unfold folioCtrlWrite
  simp (maxDischargeDepth := 40) only [implies_true, Keeps.refl, Keeps.ite, Keeps.upd, Keeps.foldl, Keeps.when, Keeps.put, Keeps.puts, Keeps.setByte, Keeps.setBytes, Keeps.clearRange, Keeps.updRegs, Keeps.updMemNil, Keeps.updViolNil, Keeps.updViolDrop, Keeps.updT, Keeps.updTzero, RegFile.resetBlock, deliverAnswer_keeps, folioCtrl_keeps, h]

theorem mbxWrite_keeps {z : State} (s : State) (m : Nat) (off : Nat) (v : Nat) (h : Keeps z s) : Keeps z (mbxWrite s m off v) := by
  unfold mbxWrite
  simp (maxDischargeDepth := 40) only [implies_true, Keeps.refl, Keeps.ite, Keeps.upd, Keeps.foldl, Keeps.when, Keeps.put, Keeps.puts, Keeps.setByte, Keeps.setBytes, Keeps.clearRange, Keeps.updRegs, Keeps.updMemNil, Keeps.updViolNil, Keeps.updViolDrop, Keeps.updT, Keeps.updTzero, RegFile.resetBlock, dbCfg_keeps, dbClear_keeps, dbMask_keeps, dbSet_keeps, folioCtrlWrite_keeps, folioWrite_keeps, lockForce_keeps, lockWrite_keeps, mbxPush_keeps, mcWrite_keeps, h]

theorem tspWrite_keeps {z : State} (s : State) (m : Nat) (off : Nat) (v : Nat) (h : Keeps z s) : Keeps z (tspWrite s m off v) := by
  unfold tspWrite
  simp (maxDischargeDepth := 40) only [implies_true, Keeps.refl, Keeps.ite, Keeps.upd, Keeps.foldl, Keeps.when, Keeps.put, Keeps.puts, Keeps.setByte, Keeps.setBytes, Keeps.clearRange, Keeps.updRegs, Keeps.updMemNil, Keeps.updViolNil, Keeps.updViolDrop, Keeps.updT, Keeps.updTzero, RegFile.resetBlock, State.refuseWrite_keeps, plainWrite_keeps, tspCmpCtrlWrite_keeps, tspCmpOwnWrite_keeps, tspCmpRegWrite_keeps, tspSrcCfgWrite_keeps, tspSrcCmdWrite_keeps, tspSrcInWrite_keeps, tspSrcLossWrite_keeps, tspSrcOfsWrite_keeps, tspSrcScaleWrite_keeps, h]

theorem pwmWrite_keeps {z : State} (s : State) (m : Nat) (off : Nat) (v : Nat) (h : Keeps z s) : Keeps z (pwmWrite s m off v) := by
  unfold pwmWrite
  simp (maxDischargeDepth := 40) only [implies_true, Keeps.refl, Keeps.ite, Keeps.upd, Keeps.foldl, Keeps.when, Keeps.put, Keeps.puts, Keeps.setByte, Keeps.setBytes, Keeps.clearRange, Keeps.updRegs, Keeps.updMemNil, Keeps.updViolNil, Keeps.updViolDrop, Keeps.updT, Keeps.updTzero, RegFile.resetBlock, State.refuseWrite_keeps, pinOwnWrite_keeps, pwmBindWrite_keeps, pwmCfgWrite_keeps, pwmCtrlWrite_keeps, pwmDtWrite_keeps, pwmRegWrite_keeps, shadowWrite_keeps, h]

theorem grdWrite_keeps {z : State} (s : State) (m : Nat) (off : Nat) (v : Nat) (h : Keeps z s) : Keeps z (grdWrite s m off v) := by
  unfold grdWrite
  simp (maxDischargeDepth := 40) only [implies_true, Keeps.refl, Keeps.ite, Keeps.upd, Keeps.foldl, Keeps.when, Keeps.put, Keeps.puts, Keeps.setByte, Keeps.setBytes, Keeps.clearRange, Keeps.updRegs, Keeps.updMemNil, Keeps.updViolNil, Keeps.updViolDrop, Keeps.updT, Keeps.updTzero, RegFile.resetBlock, State.refuseWrite_keeps, beforeIvs_keeps, grdCfgWrite_keeps, grdCtrl_keeps, grdVinWrite_keeps, injWrite_keeps, ivsCompareWrite_keeps, ivsCtrl_keeps, ivsInWrite_keeps, plainWrite_keeps, profileWrite_keeps, setTrim_keeps, withJumps_keeps, h]

theorem hifWrite_keeps {z : State} (s : State) (m : Nat) (off : Nat) (v : Nat) (h : Keeps z s) : Keeps z (hifWrite s m off v) := by
  unfold hifWrite
  simp (maxDischargeDepth := 40) only [implies_true, Keeps.refl, Keeps.ite, Keeps.upd, Keeps.foldl, Keeps.when, Keeps.put, Keeps.puts, Keeps.setByte, Keeps.setBytes, Keeps.clearRange, Keeps.updRegs, Keeps.updMemNil, Keeps.updViolNil, Keeps.updViolDrop, Keeps.updT, Keeps.updTzero, RegFile.resetBlock, State.refuseWrite_keeps, plainWrite_keeps, ringCtxWrite_keeps, h]

theorem tsnRegWrite_keeps {z : State} (s : State) (m : Nat) (off : Nat) (v : Nat) (h : Keeps z s) : Keeps z (tsnRegWrite s m off v) := by
  unfold tsnRegWrite
  simp (maxDischargeDepth := 40) only [implies_true, Keeps.refl, Keeps.ite, Keeps.upd, Keeps.foldl, Keeps.when, Keeps.put, Keeps.puts, Keeps.setByte, Keeps.setBytes, Keeps.clearRange, Keeps.updRegs, Keeps.updMemNil, Keeps.updViolNil, Keeps.updViolDrop, Keeps.updT, Keeps.updTzero, RegFile.resetBlock, captureGrid_keeps, tsnWrite_keeps, h]

theorem busWrite_keeps {z : State} (s : State) (m : Nat) (a : Nat) (v : Nat) (h : Keeps z s) : Keeps z (busWrite s m a v) := by
  unfold busWrite
  repeat' (first | (simp (maxDischargeDepth := 40) only [implies_true, Keeps.refl, Keeps.ite, Keeps.upd, Keeps.foldl, Keeps.when, Keeps.put, Keeps.puts, Keeps.setByte, Keeps.setBytes, Keeps.clearRange, Keeps.updRegs, Keeps.updMemNil, Keeps.updViolNil, Keeps.updViolDrop, Keeps.updT, Keeps.updTzero, RegFile.resetBlock, State.refuseWrite_keeps, adcWrite_keeps, aggWrite_keeps, bootWrite_keeps, cdRegWrite_keeps, clkWrite_keeps, drmWrite_keeps, grdWrite_keeps, hifWrite_keeps, insRegWrite_keeps, mbxWrite_keeps, memRegWrite_keeps, netWrite_keeps, pwmWrite_keeps, pwrWrite_keeps, pxeRegWrite_keeps, rstWrite_keeps, tsnRegWrite_keeps, tspWrite_keeps, valRegWrite_keeps, h]; done) | dsimp only | with_reducible refine Keeps.ite ?_ ?_ | split | with_reducible refine Keeps.foldl (fun _ _ => ?_) ?_ | with_reducible refine Keeps.foldl1 (fun _ _ => ?_) ?_ | with_reducible refine Keeps.foldl2 (fun _ _ => ?_) ?_ | with_reducible refine Keeps.foldl3 (fun _ _ => ?_) ?_ | with_reducible refine Keeps.when (fun _ => ?_) ?_)

theorem plainRead_keeps {z : State} (s : State) (m : Nat) (b : Nat) (n : Nat) (rows : List RegRow) (live : FKey → Option Nat) (off : Nat) (h : Keeps z s) : Keeps z (plainRead s m b n rows live off) := by
  unfold plainRead
  repeat' (first | (simp (maxDischargeDepth := 40) only [implies_true, Keeps.refl, Keeps.ite, Keeps.upd, Keeps.foldl, Keeps.when, Keeps.put, Keeps.puts, Keeps.setByte, Keeps.setBytes, Keeps.clearRange, Keeps.updRegs, Keeps.updMemNil, Keeps.updViolNil, Keeps.updViolDrop, Keeps.updT, Keeps.updTzero, RegFile.resetBlock, State.answer_keeps, State.latch_keeps, rowClear_keeps, h]; done) | dsimp only | with_reducible refine Keeps.ite ?_ ?_ | split | with_reducible refine Keeps.foldl (fun _ _ => ?_) ?_ | with_reducible refine Keeps.foldl1 (fun _ _ => ?_) ?_ | with_reducible refine Keeps.foldl2 (fun _ _ => ?_) ?_ | with_reducible refine Keeps.foldl3 (fun _ _ => ?_) ?_ | with_reducible refine Keeps.when (fun _ => ?_) ?_)

theorem blockRead_keeps {z : State} (s : State) (m : Nat) (b : Nat) (ok : Bool) (rows : List RegRow) (live : FKey → Option Nat) (off : Nat) (h : Keeps z s) : Keeps z (blockRead s m b ok rows live off) := by
  unfold blockRead
  simp (maxDischargeDepth := 40) only [implies_true, Keeps.refl, Keeps.ite, Keeps.upd, Keeps.foldl, Keeps.when, Keeps.put, Keeps.puts, Keeps.setByte, Keeps.setBytes, Keeps.clearRange, Keeps.updRegs, Keeps.updMemNil, Keeps.updViolNil, Keeps.updViolDrop, Keeps.updT, Keeps.updTzero, RegFile.resetBlock, State.refuseRead_keeps, plainRead_keeps, h]

theorem memRegRead_keeps {z : State} (s : State) (m : Nat) (off : Nat) (h : Keeps z s) : Keeps z (memRegRead s m off) := by
  unfold memRegRead
  simp (maxDischargeDepth := 40) only [implies_true, Keeps.refl, Keeps.ite, Keeps.upd, Keeps.foldl, Keeps.when, Keeps.put, Keeps.puts, Keeps.setByte, Keeps.setBytes, Keeps.clearRange, Keeps.updRegs, Keeps.updMemNil, Keeps.updViolNil, Keeps.updViolDrop, Keeps.updT, Keeps.updTzero, RegFile.resetBlock, State.answer_keeps, State.refuseRead_keeps, autoInc_keeps, plainRead_keeps, reqidRead_keeps, h]

theorem mbxRead_keeps {z : State} (s : State) (m : Nat) (off : Nat) (h : Keeps z s) : Keeps z (mbxRead s m off) := by
  unfold mbxRead
  simp (maxDischargeDepth := 40) only [implies_true, Keeps.refl, Keeps.ite, Keeps.upd, Keeps.foldl, Keeps.when, Keeps.put, Keeps.puts, Keeps.setByte, Keeps.setBytes, Keeps.clearRange, Keeps.updRegs, Keeps.updMemNil, Keeps.updViolNil, Keeps.updViolDrop, Keeps.updT, Keeps.updTzero, RegFile.resetBlock, blockRead_keeps, lockRead_keeps, mbxPop_keeps, h]

theorem tspRead_keeps {z : State} (s : State) (m : Nat) (off : Nat) (h : Keeps z s) : Keeps z (tspRead s m off) := by
  unfold tspRead
  simp (maxDischargeDepth := 40) only [implies_true, Keeps.refl, Keeps.ite, Keeps.upd, Keeps.foldl, Keeps.when, Keeps.put, Keeps.puts, Keeps.setByte, Keeps.setBytes, Keeps.clearRange, Keeps.updRegs, Keeps.updMemNil, Keeps.updViolNil, Keeps.updViolDrop, Keeps.updT, Keeps.updTzero, RegFile.resetBlock, blockRead_keeps, tspAngRead_keeps, tspConflictRead_keeps, h]

theorem adcRead_keeps {z : State} (s : State) (m : Nat) (off : Nat) (h : Keeps z s) : Keeps z (adcRead s m off) := by
  unfold adcRead
  simp (maxDischargeDepth := 40) only [implies_true, Keeps.refl, Keeps.ite, Keeps.upd, Keeps.foldl, Keeps.when, Keeps.put, Keeps.puts, Keeps.setByte, Keeps.setBytes, Keeps.clearRange, Keeps.updRegs, Keeps.updMemNil, Keeps.updViolNil, Keeps.updViolDrop, Keeps.updT, Keeps.updTzero, RegFile.resetBlock, blockRead_keeps, lastAngRead_keeps, lastValRead_keeps, h]

theorem pwmRead_keeps {z : State} (s : State) (m : Nat) (off : Nat) (h : Keeps z s) : Keeps z (pwmRead s m off) := by
  unfold pwmRead
  simp (maxDischargeDepth := 40) only [implies_true, Keeps.refl, Keeps.ite, Keeps.upd, Keeps.foldl, Keeps.when, Keeps.put, Keeps.puts, Keeps.setByte, Keeps.setBytes, Keeps.clearRange, Keeps.updRegs, Keeps.updMemNil, Keeps.updViolNil, Keeps.updViolDrop, Keeps.updT, Keeps.updTzero, RegFile.resetBlock, State.answer_keeps, State.violation_keeps, blockRead_keeps, plainRead_keeps, pwmConflictRead_keeps, h]

theorem grdRead_keeps {z : State} (s : State) (m : Nat) (off : Nat) (h : Keeps z s) : Keeps z (grdRead s m off) := by
  unfold grdRead
  simp (maxDischargeDepth := 40) only [implies_true, Keeps.refl, Keeps.ite, Keeps.upd, Keeps.foldl, Keeps.when, Keeps.put, Keeps.puts, Keeps.setByte, Keeps.setBytes, Keeps.clearRange, Keeps.updRegs, Keeps.updMemNil, Keeps.updViolNil, Keeps.updViolDrop, Keeps.updT, Keeps.updTzero, RegFile.resetBlock, blockRead_keeps, grdRefRead_keeps, h]

theorem safRead_keeps {z : State} (s : State) (m : Nat) (off : Nat) (h : Keeps z s) : Keeps z (safRead s m off) := by
  unfold safRead
  simp (maxDischargeDepth := 40) only [implies_true, Keeps.refl, Keeps.ite, Keeps.upd, Keeps.foldl, Keeps.when, Keeps.put, Keeps.puts, Keeps.setByte, Keeps.setBytes, Keeps.clearRange, Keeps.updRegs, Keeps.updMemNil, Keeps.updViolNil, Keeps.updViolDrop, Keeps.updT, Keeps.updTzero, RegFile.resetBlock, blockRead_keeps, safStatRead_keeps, h]

theorem ldgRead_keeps {z : State} (s : State) (m : Nat) (off : Nat) (h : Keeps z s) : Keeps z (ldgRead s m off) := by
  unfold ldgRead
  simp (maxDischargeDepth := 40) only [implies_true, Keeps.refl, Keeps.ite, Keeps.upd, Keeps.foldl, Keeps.when, Keeps.put, Keeps.puts, Keeps.setByte, Keeps.setBytes, Keeps.clearRange, Keeps.updRegs, Keeps.updMemNil, Keeps.updViolNil, Keeps.updViolDrop, Keeps.updT, Keeps.updTzero, RegFile.resetBlock, blockRead_keeps, ldgHeadRead_keeps, h]

theorem aggRead_keeps {z : State} (s : State) (m : Nat) (off : Nat) (h : Keeps z s) : Keeps z (aggRead s m off) := by
  unfold aggRead
  simp (maxDischargeDepth := 40) only [implies_true, Keeps.refl, Keeps.ite, Keeps.upd, Keeps.foldl, Keeps.when, Keeps.put, Keeps.puts, Keeps.setByte, Keeps.setBytes, Keeps.clearRange, Keeps.updRegs, Keeps.updMemNil, Keeps.updViolNil, Keeps.updViolDrop, Keeps.updT, Keeps.updTzero, RegFile.resetBlock, aggCapRead_keeps, blockRead_keeps, h]

theorem cdRead_keeps {z : State} (s : State) (m : Nat) (n : Nat) (off : Nat) (h : Keeps z s) : Keeps z (cdRead s m n off) := by
  unfold cdRead
  simp (maxDischargeDepth := 40) only [implies_true, Keeps.refl, Keeps.ite, Keeps.upd, Keeps.foldl, Keeps.when, Keeps.put, Keeps.puts, Keeps.setByte, Keeps.setBytes, Keeps.clearRange, Keeps.updRegs, Keeps.updMemNil, Keeps.updViolNil, Keeps.updViolDrop, Keeps.updT, Keeps.updTzero, RegFile.resetBlock, State.answer_keeps, State.violation_keeps, cdAperture_keeps, plainRead_keeps, h]

theorem insRead_keeps {z : State} (s : State) (m : Nat) (off : Nat) (h : Keeps z s) : Keeps z (insRead s m off) := by
  unfold insRead
  repeat' (first | (simp (maxDischargeDepth := 40) only [implies_true, Keeps.refl, Keeps.ite, Keeps.upd, Keeps.foldl, Keeps.when, Keeps.put, Keeps.puts, Keeps.setByte, Keeps.setBytes, Keeps.clearRange, Keeps.updRegs, Keeps.updMemNil, Keeps.updViolNil, Keeps.updViolDrop, Keeps.updT, Keeps.updTzero, RegFile.resetBlock, State.answer_keeps, blockRead_keeps, insInfoRead_keeps, h]; done) | dsimp only | with_reducible refine Keeps.ite ?_ ?_ | split | with_reducible refine Keeps.foldl (fun _ _ => ?_) ?_ | with_reducible refine Keeps.foldl1 (fun _ _ => ?_) ?_ | with_reducible refine Keeps.foldl2 (fun _ _ => ?_) ?_ | with_reducible refine Keeps.foldl3 (fun _ _ => ?_) ?_ | with_reducible refine Keeps.when (fun _ => ?_) ?_)

theorem freeRead_keeps {z : State} (s : State) (h : Keeps z s) : Keeps z (freeRead s) := by
  unfold freeRead
  simp (maxDischargeDepth := 40) only [implies_true, Keeps.refl, Keeps.ite, Keeps.upd, Keeps.foldl, Keeps.when, Keeps.put, Keeps.puts, Keeps.setByte, Keeps.setBytes, Keeps.clearRange, Keeps.updRegs, Keeps.updMemNil, Keeps.updViolNil, Keeps.updViolDrop, Keeps.updT, Keeps.updTzero, RegFile.resetBlock, h]

theorem busRead_keeps {z : State} (s : State) (m : Nat) (a : Nat) (h : Keeps z s) : Keeps z (busRead s m a) := by
  unfold busRead
  repeat' (first | (simp (maxDischargeDepth := 40) only [implies_true, Keeps.refl, Keeps.ite, Keeps.upd, Keeps.foldl, Keeps.when, Keeps.put, Keeps.puts, Keeps.setByte, Keeps.setBytes, Keeps.clearRange, Keeps.updRegs, Keeps.updMemNil, Keeps.updViolNil, Keeps.updViolDrop, Keeps.updT, Keeps.updTzero, RegFile.resetBlock, State.answer_keeps, adcRead_keeps, aggRead_keeps, blockRead_keeps, cdRead_keeps, freeRead_keeps, grdRead_keeps, insRead_keeps, ldgRead_keeps, mbxRead_keeps, memRegRead_keeps, pwmRead_keeps, safRead_keeps, tspRead_keeps, h]; done) | dsimp only | with_reducible refine Keeps.ite ?_ ?_ | split | with_reducible refine Keeps.foldl (fun _ _ => ?_) ?_ | with_reducible refine Keeps.foldl1 (fun _ _ => ?_) ?_ | with_reducible refine Keeps.foldl2 (fun _ _ => ?_) ?_ | with_reducible refine Keeps.foldl3 (fun _ _ => ?_) ?_ | with_reducible refine Keeps.when (fun _ => ?_) ?_)

theorem regAccess_keeps {z : State} (s : State) (m : Nat) (write : Bool) (a : Nat) (v : Nat) (h : Keeps z s) : Keeps z (regAccess s m write a v).2.2 := by
  unfold regAccess
  simp (maxDischargeDepth := 40) only [implies_true, Keeps.refl, Keeps.ite, Keeps.upd, Keeps.foldl, Keeps.when, Keeps.put, Keeps.puts, Keeps.setByte, Keeps.setBytes, Keeps.clearRange, Keeps.updRegs, Keeps.updMemNil, Keeps.updViolNil, Keeps.updViolDrop, Keeps.updT, Keeps.updTzero, RegFile.resetBlock, busRead_keeps, busWrite_keeps, h]

theorem pickWord_keeps {z : State} (q : Option Nat) (f : Nat → State) (t : State) (hf : ∀ w, Keeps z (f w)) (ht : Keeps z t) :
    Keeps z (match q with | some w => (AccRes.refused, f w) | none => (AccRes.ok, t)).2 := by
  cases q with
  | none => exact ht
  | some w => exact hf w

theorem regPartial_keeps {z : State} (s : State) (m : Nat) (a : Nat) (len : Nat) (v : Nat) (h : Keeps z s) : Keeps z (regPartial s m a len v).2 := by
  have hu : Keeps z { s with refused := false } := by simp only [Keeps.upd, h]
  unfold regPartial
  exact pickWord_keeps _ _ _ (fun w => busWrite_keeps _ _ _ _ hu) hu

theorem splitRes_keeps {z : State} (q : AccRes × State) (k : Keeps z q.2) :
    Keeps z (match q with | (r, s) => (r, 0, s) : AccRes × Nat × State).2.2 := k

theorem laneRead_keeps {z : State} (a size : Nat) (q : AccRes × Nat × State) (k : Keeps z q.2.2) :
    Keeps z (match q with | (r, w, s) => (r, bits w (8 * (a % 4)) (8 * size), s)).2.2 := k

theorem fabAccess_keeps {z : State} (s : State) (m : Nat) (write : Bool) (a : Nat) (size : Nat) (v : Nat) (h : Keeps z s) : Keeps z (fabAccess s m write a size v).2.2 := by
  unfold fabAccess
  by_cases hr : areaOf s a = .regs
  · rw [if_pos hr]
    cases write
    · exact laneRead_keeps a size _ (regAccess_keeps s m false (a - a % 4) 0 h)
    · rw [if_pos rfl]
      by_cases hq : size = 4 ∧ a % 4 = 0
      · rw [if_pos hq]; exact regAccess_keeps _ _ _ _ _ h
      · rw [if_neg hq]; exact splitRes_keeps _ (regPartial_keeps s m a size v h)
  · rw [if_neg hr]
    cases write
    · exact memRead_keeps s m a size h
    · exact memWrite_keeps s m a (leBytes size v) h

theorem noteGrant_keeps {z : State} (s : State) (p : Nat) (c : Nat) (m : Nat) (rsv : Bool) (h : Keeps z s) : Keeps z (noteGrant s p c m rsv) := by
  unfold noteGrant
  simp (maxDischargeDepth := 40) only [implies_true, Keeps.refl, Keeps.ite, Keeps.upd, Keeps.foldl, Keeps.when, Keeps.put, Keeps.puts, Keeps.setByte, Keeps.setBytes, Keeps.clearRange, Keeps.updRegs, Keeps.updMemNil, Keeps.updViolNil, Keeps.updViolDrop, Keeps.updT, Keeps.updTzero, RegFile.resetBlock, State.setMem_keeps, h]

theorem soleGrant_keeps {z : State} (s : State) (m : Nat) (a : Nat) (h : Keeps z s) : Keeps z (soleGrant s m a) := by
  unfold soleGrant
  repeat' (first | (simp (maxDischargeDepth := 40) only [implies_true, Keeps.refl, Keeps.ite, Keeps.upd, Keeps.foldl, Keeps.when, Keeps.put, Keeps.puts, Keeps.setByte, Keeps.setBytes, Keeps.clearRange, Keeps.updRegs, Keeps.updMemNil, Keeps.updViolNil, Keeps.updViolDrop, Keeps.updT, Keeps.updTzero, RegFile.resetBlock, noteGrant_keeps, h]; done) | dsimp only | with_reducible refine Keeps.ite ?_ ?_ | split | with_reducible refine Keeps.foldl (fun _ _ => ?_) ?_ | with_reducible refine Keeps.foldl1 (fun _ _ => ?_) ?_ | with_reducible refine Keeps.foldl2 (fun _ _ => ?_) ?_ | with_reducible refine Keeps.foldl3 (fun _ _ => ?_) ?_ | with_reducible refine Keeps.when (fun _ => ?_) ?_)

theorem soleAccess_keeps {z : State} (s : State) (m : Nat) (write : Bool) (a : Nat) (size : Nat) (v : Nat) (h : Keeps z s) : Keeps z (soleAccess s m write a size v).2.2 := by
  unfold soleAccess
  repeat' (first | (simp (maxDischargeDepth := 40) only [implies_true, Keeps.refl, Keeps.ite, Keeps.upd, Keeps.foldl, Keeps.when, Keeps.put, Keeps.puts, Keeps.setByte, Keeps.setBytes, Keeps.clearRange, Keeps.updRegs, Keeps.updMemNil, Keeps.updViolNil, Keeps.updViolDrop, Keeps.updT, Keeps.updTzero, RegFile.resetBlock, fabAccess_keeps, soleGrant_keeps, h]; done) | dsimp only | with_reducible refine Keeps.ite ?_ ?_ | split | with_reducible refine Keeps.foldl (fun _ _ => ?_) ?_ | with_reducible refine Keeps.foldl1 (fun _ _ => ?_) ?_ | with_reducible refine Keeps.foldl2 (fun _ _ => ?_) ?_ | with_reducible refine Keeps.foldl3 (fun _ _ => ?_) ?_ | with_reducible refine Keeps.when (fun _ => ?_) ?_)

theorem threadDone_keeps {z : State} (s : State) (n : Nat) (h : Keeps z s) : Keeps z (threadDone s n) := by
  unfold threadDone
  simp (maxDischargeDepth := 40) only [implies_true, Keeps.refl, Keeps.ite, Keeps.upd, Keeps.foldl, Keeps.when, Keeps.put, Keeps.puts, Keeps.setByte, Keeps.setBytes, Keeps.clearRange, Keeps.updRegs, Keeps.updMemNil, Keeps.updViolNil, Keeps.updViolDrop, Keeps.updT, Keeps.updTzero, RegFile.resetBlock, soleAccess_keeps, threadAccessDone_keeps, h]

theorem endStall_keeps {z : State} (s : State) (n : Nat) (h : Keeps z s) : Keeps z (endStall s n) := by
  unfold endStall
  repeat' (first | (simp (maxDischargeDepth := 40) only [implies_true, Keeps.refl, Keeps.ite, Keeps.upd, Keeps.foldl, Keeps.when, Keeps.put, Keeps.puts, Keeps.setByte, Keeps.setBytes, Keeps.clearRange, Keeps.updRegs, Keeps.updMemNil, Keeps.updViolNil, Keeps.updViolDrop, Keeps.updT, Keeps.updTzero, RegFile.resetBlock, State.setCd_keeps, h]; done) | dsimp only | with_reducible refine Keeps.ite ?_ ?_ | split | with_reducible refine Keeps.foldl (fun _ _ => ?_) ?_ | with_reducible refine Keeps.foldl1 (fun _ _ => ?_) ?_ | with_reducible refine Keeps.foldl2 (fun _ _ => ?_) ?_ | with_reducible refine Keeps.foldl3 (fun _ _ => ?_) ?_ | with_reducible refine Keeps.when (fun _ => ?_) ?_)

theorem stallHalt_keeps {z : State} (s : State) (n : Nat) (h : Keeps z s) : Keeps z (stallHalt s n) := by
  unfold stallHalt
  repeat' (first | (simp (maxDischargeDepth := 40) only [implies_true, Keeps.refl, Keeps.ite, Keeps.upd, Keeps.foldl, Keeps.when, Keeps.put, Keeps.puts, Keeps.setByte, Keeps.setBytes, Keeps.clearRange, Keeps.updRegs, Keeps.updMemNil, Keeps.updViolNil, Keeps.updViolDrop, Keeps.updT, Keeps.updTzero, RegFile.resetBlock, State.setCd_keeps, cdLeave_keeps, squashAt_keeps, h]; done) | dsimp only | with_reducible refine Keeps.ite ?_ ?_ | split | with_reducible refine Keeps.foldl (fun _ _ => ?_) ?_ | with_reducible refine Keeps.foldl1 (fun _ _ => ?_) ?_ | with_reducible refine Keeps.foldl2 (fun _ _ => ?_) ?_ | with_reducible refine Keeps.foldl3 (fun _ _ => ?_) ?_ | with_reducible refine Keeps.when (fun _ => ?_) ?_)

theorem dspAccessDone_keeps {z : State} (s : State) (n : Nat) (h : Keeps z s) : Keeps z (dspAccessDone s n) := by
  unfold dspAccessDone
  repeat' (first | (simp (maxDischargeDepth := 40) only [implies_true, Keeps.refl, Keeps.ite, Keeps.upd, Keeps.foldl, Keeps.when, Keeps.put, Keeps.puts, Keeps.setByte, Keeps.setBytes, Keeps.clearRange, Keeps.updRegs, Keeps.updMemNil, Keeps.updViolNil, Keeps.updViolDrop, Keeps.updT, Keeps.updTzero, RegFile.resetBlock, dspRetire_keeps, endStall_keeps, soleAccess_keeps, stallHalt_keeps, h]; done) | dsimp only | with_reducible refine Keeps.ite ?_ ?_ | split | with_reducible refine Keeps.foldl (fun _ _ => ?_) ?_ | with_reducible refine Keeps.foldl1 (fun _ _ => ?_) ?_ | with_reducible refine Keeps.foldl2 (fun _ _ => ?_) ?_ | with_reducible refine Keeps.foldl3 (fun _ _ => ?_) ?_ | with_reducible refine Keeps.when (fun _ => ?_) ?_)

theorem readReg_keeps {z : State} (s : State) (m : Nat) (a : Nat) (h : Keeps z s) : Keeps z (readReg s m a) := by
  unfold readReg
  simp (maxDischargeDepth := 40) only [implies_true, Keeps.refl, Keeps.ite, Keeps.upd, Keeps.foldl, Keeps.when, Keeps.put, Keeps.puts, Keeps.setByte, Keeps.setBytes, Keeps.clearRange, Keeps.updRegs, Keeps.updMemNil, Keeps.updViolNil, Keeps.updViolDrop, Keeps.updT, Keeps.updTzero, RegFile.resetBlock, regAccess_keeps, soleGrant_keeps, h]

theorem writeReg_keeps {z : State} (s : State) (m : Nat) (a : Nat) (v : Nat) (h : Keeps z s) : Keeps z (writeReg s m a v) := by
  unfold writeReg
  simp (maxDischargeDepth := 40) only [implies_true, Keeps.refl, Keeps.ite, Keeps.upd, Keeps.foldl, Keeps.when, Keeps.put, Keeps.puts, Keeps.setByte, Keeps.setBytes, Keeps.clearRange, Keeps.updRegs, Keeps.updMemNil, Keeps.updViolNil, Keeps.updViolDrop, Keeps.updT, Keeps.updTzero, RegFile.resetBlock, regAccess_keeps, soleGrant_keeps, h]

theorem fabRun_keeps {z : State} (s : State) (q : FabReq) (h : Keeps z s) : Keeps z (fabRun s q).2.2 := by
  unfold fabRun
  repeat' (first | (simp (maxDischargeDepth := 40) only [implies_true, Keeps.refl, Keeps.ite, Keeps.upd, Keeps.foldl, Keeps.when, Keeps.put, Keeps.puts, Keeps.setByte, Keeps.setBytes, Keeps.clearRange, Keeps.updRegs, Keeps.updMemNil, Keeps.updViolNil, Keeps.updViolDrop, Keeps.updT, Keeps.updTzero, RegFile.resetBlock, State.setMem_keeps, fabAccess_keeps, memRead_keeps, memWrite_keeps, regAccess_keeps, regPartial_keeps, h]; done) | dsimp only | with_reducible refine Keeps.ite ?_ ?_ | split | with_reducible refine Keeps.foldl (fun _ _ => ?_) ?_ | with_reducible refine Keeps.foldl1 (fun _ _ => ?_) ?_ | with_reducible refine Keeps.foldl2 (fun _ _ => ?_) ?_ | with_reducible refine Keeps.foldl3 (fun _ _ => ?_) ?_ | with_reducible refine Keeps.when (fun _ => ?_) ?_)

theorem fabGrants_keeps {z : State} (y0 : Nat) (y1 : State) (y2 : List FabReq) (h : Keeps z y1) : Keeps z (fabGrants y0 y1 y2) := by
  induction y0 generalizing z y1 y2 with
  | zero => unfold fabGrants; repeat' (first | (simp (maxDischargeDepth := 40) only [implies_true, Keeps.refl, Keeps.ite, Keeps.upd, Keeps.foldl, Keeps.when, Keeps.put, Keeps.puts, Keeps.setByte, Keeps.setBytes, Keeps.clearRange, Keeps.updRegs, Keeps.updMemNil, Keeps.updViolNil, Keeps.updViolDrop, Keeps.updT, Keeps.updTzero, RegFile.resetBlock, State.answer_keeps, fabRun_keeps, noteGrant_keeps, reply_keeps, h]; done) | dsimp only | with_reducible refine Keeps.ite ?_ ?_ | split | with_reducible refine Keeps.foldl (fun _ _ => ?_) ?_ | with_reducible refine Keeps.foldl1 (fun _ _ => ?_) ?_ | with_reducible refine Keeps.foldl2 (fun _ _ => ?_) ?_ | with_reducible refine Keeps.foldl3 (fun _ _ => ?_) ?_ | with_reducible refine Keeps.when (fun _ => ?_) ?_)
  | succ k ih => unfold fabGrants; repeat' (first | (simp (maxDischargeDepth := 40) only [implies_true, Keeps.refl, Keeps.ite, Keeps.upd, Keeps.foldl, Keeps.when, Keeps.put, Keeps.puts, Keeps.setByte, Keeps.setBytes, Keeps.clearRange, Keeps.updRegs, Keeps.updMemNil, Keeps.updViolNil, Keeps.updViolDrop, Keeps.updT, Keeps.updTzero, RegFile.resetBlock, State.answer_keeps, fabRun_keeps, noteGrant_keeps, reply_keeps, h, ih]; done) | dsimp only | with_reducible refine Keeps.ite ?_ ?_ | split | with_reducible refine Keeps.foldl (fun _ _ => ?_) ?_ | with_reducible refine Keeps.foldl1 (fun _ _ => ?_) ?_ | with_reducible refine Keeps.foldl2 (fun _ _ => ?_) ?_ | with_reducible refine Keeps.foldl3 (fun _ _ => ?_) ?_ | with_reducible refine Keeps.when (fun _ => ?_) ?_)

theorem fabricAccess_keeps {z : State} (s : State) (l : List FabReq) (h : Keeps z s) : Keeps z (fabricAccess s l) := by
  unfold fabricAccess
  simp (maxDischargeDepth := 40) only [implies_true, Keeps.refl, Keeps.ite, Keeps.upd, Keeps.foldl, Keeps.when, Keeps.put, Keeps.puts, Keeps.setByte, Keeps.setBytes, Keeps.clearRange, Keeps.updRegs, Keeps.updMemNil, Keeps.updViolNil, Keeps.updViolDrop, Keeps.updT, Keeps.updTzero, RegFile.resetBlock, fabGrants_keeps, reply_keeps, h]

theorem statusWrite_keeps {z : State} (s : State) (fn : Nat) (h : Keeps z s) : Keeps z (statusWrite s fn) := by
  unfold statusWrite
  simp (maxDischargeDepth := 40) only [implies_true, Keeps.refl, Keeps.ite, Keeps.upd, Keeps.foldl, Keeps.when, Keeps.put, Keeps.puts, Keeps.setByte, Keeps.setBytes, Keeps.clearRange, Keeps.updRegs, Keeps.updMemNil, Keeps.updViolNil, Keeps.updViolDrop, Keeps.updT, Keeps.updTzero, RegFile.resetBlock, State.spViol_keeps, h]

theorem bar0Word_keeps {z : State} (s : State) (fn : Nat) (write : Bool) (o : Nat) (v : Nat) (h : Keeps z s) : Keeps z (bar0Word s fn write o v).2 := by
  unfold bar0Word
  repeat' (first | (simp (maxDischargeDepth := 40) only [implies_true, Keeps.refl, Keeps.ite, Keeps.upd, Keeps.foldl, Keeps.when, Keeps.put, Keeps.puts, Keeps.setByte, Keeps.setBytes, Keeps.clearRange, Keeps.updRegs, Keeps.updMemNil, Keeps.updViolNil, Keeps.updViolDrop, Keeps.updT, Keeps.updTzero, RegFile.resetBlock, regAccess_keeps, soleGrant_keeps, statusWrite_keeps, h]; done) | dsimp only | with_reducible refine Keeps.ite ?_ ?_ | split | with_reducible refine Keeps.foldl (fun _ _ => ?_) ?_ | with_reducible refine Keeps.foldl1 (fun _ _ => ?_) ?_ | with_reducible refine Keeps.foldl2 (fun _ _ => ?_) ?_ | with_reducible refine Keeps.foldl3 (fun _ _ => ?_) ?_ | with_reducible refine Keeps.when (fun _ => ?_) ?_)

theorem bar0Access_keeps {z : State} (s : State) (fn : Nat) (write : Bool) (o : Nat) (size : Nat) (v : Nat) (h : Keeps z s) : Keeps z (bar0Access s fn write o size v) := by
  unfold bar0Access
  simp (maxDischargeDepth := 40) only [implies_true, Keeps.refl, Keeps.ite, Keeps.upd, Keeps.foldl, Keeps.when, Keeps.put, Keeps.puts, Keeps.setByte, Keeps.setBytes, Keeps.clearRange, Keeps.updRegs, Keeps.updMemNil, Keeps.updViolNil, Keeps.updViolDrop, Keeps.updT, Keeps.updTzero, RegFile.resetBlock, State.answer_keeps, State.spViol_keeps, bar0Word_keeps, h]

theorem regRequest_keeps {z : State} (s : State) (n : Nat) (write : Bool) (h : Keeps z s) : Keeps z (regRequest s n write) := by
  unfold regRequest
  repeat' (first | (simp (maxDischargeDepth := 40) only [implies_true, Keeps.refl, Keeps.ite, Keeps.upd, Keeps.foldl, Keeps.when, Keeps.put, Keeps.puts, Keeps.setByte, Keeps.setBytes, Keeps.clearRange, Keeps.updRegs, Keeps.updMemNil, Keeps.updViolNil, Keeps.updViolDrop, Keeps.updT, Keeps.updTzero, RegFile.resetBlock, regAccess_keeps, soleGrant_keeps, h]; done) | (simp (maxDischargeDepth := 40) only [implies_true, Keeps.refl, Keeps.ite, Keeps.upd, Keeps.foldl, Keeps.when, Keeps.put, Keeps.puts, Keeps.setByte, Keeps.setBytes, Keeps.clearRange, Keeps.updRegs, Keeps.updMemNil, Keeps.updViolNil, Keeps.updViolDrop, Keeps.updT, Keeps.updTzero, RegFile.resetBlock, regAccess_keeps, soleGrant_keeps, h, ha]; done) | with_reducible refine serve_keeps _ _ _ _ ?_ (fun _ _ ha => ?_) | with_reducible refine answerDisables_keeps _ ?_ | dsimp only | with_reducible refine Keeps.ite ?_ ?_ | split | with_reducible refine Keeps.foldl (fun _ _ => ?_) ?_ | with_reducible refine Keeps.foldl1 (fun _ _ => ?_) ?_ | with_reducible refine Keeps.foldl2 (fun _ _ => ?_) ?_ | with_reducible refine Keeps.foldl3 (fun _ _ => ?_) ?_ | with_reducible refine Keeps.when (fun _ => ?_) ?_)

end Sys2Proof.Machine
end

