-- ==== Sys2Proof/Laws/KeepSatellite.lean ====
section
/-! SUPPORT. What the operations of Machine/Satellite.lean keep (Laws/Keeps.lean). -/
set_option linter.unusedSimpArgs false
set_option linter.unusedVariables false
namespace Sys2Proof.Machine
open Sys2Proof.Reg

theorem State.setSat_keeps {z : State} (s : State) (p : Nat) (x : Sat) (h : Keeps z s) : Keeps z (State.setSat s p x) := by
  unfold State.setSat
  simp (maxDischargeDepth := 40) only [implies_true, Keeps.refl, Keeps.ite, Keeps.upd, Keeps.foldl, Keeps.when, Keeps.put, Keeps.puts, Keeps.setByte, Keeps.setBytes, Keeps.clearRange, Keeps.updRegs, Keeps.updMemNil, Keeps.updViolNil, Keeps.updViolDrop, Keeps.updT, Keeps.updTzero, RegFile.resetBlock, State.setVal_keeps, h]

theorem satHeard_keeps {z : State} (s : State) (p : Nat) (h : Keeps z s) : Keeps z (satHeard s p) := by
  unfold satHeard
  simp (maxDischargeDepth := 40) only [implies_true, Keeps.refl, Keeps.ite, Keeps.upd, Keeps.foldl, Keeps.when, Keeps.put, Keeps.puts, Keeps.setByte, Keeps.setBytes, Keeps.clearRange, Keeps.updRegs, Keeps.updMemNil, Keeps.updViolNil, Keeps.updViolDrop, Keeps.updT, Keeps.updTzero, RegFile.resetBlock, State.setSat_keeps, h]

theorem satSend_keeps {z : State} (s : State) (p : Nat) (typ : Nat) (pl : List Byte) (h : Keeps z s) : Keeps z (satSend s p typ pl) := by
  unfold satSend
  simp (maxDischargeDepth := 40) only [implies_true, Keeps.refl, Keeps.ite, Keeps.upd, Keeps.foldl, Keeps.when, Keeps.put, Keeps.puts, Keeps.setByte, Keeps.setBytes, Keeps.clearRange, Keeps.updRegs, Keeps.updMemNil, Keeps.updViolNil, Keeps.updViolDrop, Keeps.updT, Keeps.updTzero, RegFile.resetBlock, State.emit_keeps, h]

theorem satNak_keeps {z : State} (s : State) (p : Nat) (reason : Nat) (typ : Nat) (h : Keeps z s) : Keeps z (satNak s p reason typ) := by
  unfold satNak
  simp (maxDischargeDepth := 40) only [implies_true, Keeps.refl, Keeps.ite, Keeps.upd, Keeps.foldl, Keeps.when, Keeps.put, Keeps.puts, Keeps.setByte, Keeps.setBytes, Keeps.clearRange, Keeps.updRegs, Keeps.updMemNil, Keeps.updViolNil, Keeps.updViolDrop, Keeps.updT, Keeps.updTzero, RegFile.resetBlock, satSend_keeps, h]

theorem satAck_keeps {z : State} (s : State) (p : Nat) (typ : Nat) (h : Keeps z s) : Keeps z (satAck s p typ) := by
  unfold satAck
  simp (maxDischargeDepth := 40) only [implies_true, Keeps.refl, Keeps.ite, Keeps.upd, Keeps.foldl, Keeps.when, Keeps.put, Keeps.puts, Keeps.setByte, Keeps.setBytes, Keeps.clearRange, Keeps.updRegs, Keeps.updMemNil, Keeps.updViolNil, Keeps.updViolDrop, Keeps.updT, Keeps.updTzero, RegFile.resetBlock, satSend_keeps, h]

theorem replyEnd_keeps {z : State} (s : State) (len : Nat) (h : Keeps z s) : Keeps z (replyEnd s len).2 := by
  unfold replyEnd
  simp (maxDischargeDepth := 40) only [implies_true, Keeps.refl, Keeps.ite, Keeps.upd, Keeps.foldl, Keeps.when, Keeps.put, Keeps.puts, Keeps.setByte, Keeps.setBytes, Keeps.clearRange, Keeps.updRegs, Keeps.updMemNil, Keeps.updViolNil, Keeps.updViolDrop, Keeps.updT, Keeps.updTzero, RegFile.resetBlock, State.fresh_keeps, h]

theorem satRequest_keeps {z : State} (s : State) (p : Nat) (typ : Nat) (pl : List Byte) (crc : Nat) (clean : Bool) (f : State → State) (h : Keeps z s) (h_f : ∀ u, Keeps u (f u)) : Keeps z (satRequest s p typ pl crc clean f) := by
  have k_f : ∀ {z u : State} , Keeps z u → Keeps z (f u) := fun  k => k.trans (h_f _ )
  unfold satRequest
  simp (maxDischargeDepth := 40) only [implies_true, Keeps.refl, Keeps.ite, Keeps.upd, Keeps.foldl, Keeps.when, Keeps.put, Keeps.puts, Keeps.setByte, Keeps.setBytes, Keeps.clearRange, Keeps.updRegs, Keeps.updMemNil, Keeps.updViolNil, Keeps.updViolDrop, Keeps.updT, Keeps.updTzero, RegFile.resetBlock, satHeard_keeps, h, k_f]

theorem satSync_keeps {z : State} (s : State) (p : Nat) (pl : List Byte) (crc : Nat) (clean : Bool) (h : Keeps z s) : Keeps z (satSync s p pl crc clean) := by
  unfold satSync
  simp (maxDischargeDepth := 40) only [implies_true, Keeps.refl, Keeps.ite, Keeps.upd, Keeps.foldl, Keeps.when, Keeps.put, Keeps.puts, Keeps.setByte, Keeps.setBytes, Keeps.clearRange, Keeps.updRegs, Keeps.updMemNil, Keeps.updViolNil, Keeps.updViolDrop, Keeps.updT, Keeps.updTzero, RegFile.resetBlock, State.setSat_keeps, satRequest_keeps, h]

theorem satWindowEnd_keeps {z : State} (s : State) (p : Nat) (cells : List Int) (temps : List Nat) (vtref : Nat) (die : Nat) (module : Nat) (h : Keeps z s) : Keeps z (satWindowEnd s p cells temps vtref die module) := by
  unfold satWindowEnd
  repeat' (first | (simp (maxDischargeDepth := 40) only [implies_true, Keeps.refl, Keeps.ite, Keeps.upd, Keeps.foldl, Keeps.when, Keeps.put, Keeps.puts, Keeps.setByte, Keeps.setBytes, Keeps.clearRange, Keeps.updRegs, Keeps.updMemNil, Keeps.updViolNil, Keeps.updViolDrop, Keeps.updT, Keeps.updTzero, RegFile.resetBlock, State.setSat_keeps, h]; done) | dsimp only | with_reducible refine Keeps.ite ?_ ?_ | split | with_reducible refine Keeps.foldl (fun _ _ => ?_) ?_ | with_reducible refine Keeps.foldl1 (fun _ _ => ?_) ?_ | with_reducible refine Keeps.foldl2 (fun _ _ => ?_) ?_ | with_reducible refine Keeps.foldl3 (fun _ _ => ?_) ?_ | with_reducible refine Keeps.when (fun _ => ?_) ?_)

theorem satRd_keeps {z : State} (s : State) (p : Nat) (pl : List Byte) (crc : Nat) (clean : Bool) (h : Keeps z s) : Keeps z (satRd s p pl crc clean) := by
  unfold satRd
  simp (maxDischargeDepth := 40) only [implies_true, Keeps.refl, Keeps.ite, Keeps.upd, Keeps.foldl, Keeps.when, Keeps.put, Keeps.puts, Keeps.setByte, Keeps.setBytes, Keeps.clearRange, Keeps.updRegs, Keeps.updMemNil, Keeps.updViolNil, Keeps.updViolDrop, Keeps.updT, Keeps.updTzero, RegFile.resetBlock, satNak_keeps, satRequest_keeps, satSend_keeps, h]

theorem satPut_keeps {z : State} (s : State) (p : Nat) (a : Nat) (v : Nat) (h : Keeps z s) : Keeps z (satPut s p a v) := by
  unfold satPut
  simp (maxDischargeDepth := 40) only [implies_true, Keeps.refl, Keeps.ite, Keeps.upd, Keeps.foldl, Keeps.when, Keeps.put, Keeps.puts, Keeps.setByte, Keeps.setBytes, Keeps.clearRange, Keeps.updRegs, Keeps.updMemNil, Keeps.updViolNil, Keeps.updViolDrop, Keeps.updT, Keeps.updTzero, RegFile.resetBlock, State.fresh_keeps, State.setSat_keeps, h]

theorem satWr_keeps {z : State} (s : State) (p : Nat) (pl : List Byte) (crc : Nat) (clean : Bool) (h : Keeps z s) : Keeps z (satWr s p pl crc clean) := by
  unfold satWr
  simp (maxDischargeDepth := 40) only [implies_true, Keeps.refl, Keeps.ite, Keeps.upd, Keeps.foldl, Keeps.when, Keeps.put, Keeps.puts, Keeps.setByte, Keeps.setBytes, Keeps.clearRange, Keeps.updRegs, Keeps.updMemNil, Keeps.updViolNil, Keeps.updViolDrop, Keeps.updT, Keeps.updTzero, RegFile.resetBlock, satAck_keeps, satNak_keeps, satPut_keeps, satRequest_keeps, h]

theorem satGetSet_keeps {z : State} (s : State) (p : Nat) (pl : List Byte) (crc : Nat) (clean : Bool) (h : Keeps z s) : Keeps z (satGetSet s p pl crc clean) := by
  unfold satGetSet
  simp (maxDischargeDepth := 40) only [implies_true, Keeps.refl, Keeps.ite, Keeps.upd, Keeps.foldl, Keeps.when, Keeps.put, Keeps.puts, Keeps.setByte, Keeps.setBytes, Keeps.clearRange, Keeps.updRegs, Keeps.updMemNil, Keeps.updViolNil, Keeps.updViolDrop, Keeps.updT, Keeps.updTzero, RegFile.resetBlock, State.setSat_keeps, satRequest_keeps, satSend_keeps, h]

theorem satCmd_keeps {z : State} (s : State) (p : Nat) (code : Nat) (pl : List Byte) (crc : Nat) (clean : Bool) (f : State → State) (h : Keeps z s) (h_f : ∀ u, Keeps u (f u)) : Keeps z (satCmd s p code pl crc clean f) := by
  have k_f : ∀ {z u : State} , Keeps z u → Keeps z (f u) := fun  k => k.trans (h_f _ )
  unfold satCmd
  simp (maxDischargeDepth := 40) only [implies_true, Keeps.refl, Keeps.ite, Keeps.upd, Keeps.foldl, Keeps.when, Keeps.put, Keeps.puts, Keeps.setByte, Keeps.setBytes, Keeps.clearRange, Keeps.updRegs, Keeps.updMemNil, Keeps.updViolNil, Keeps.updViolDrop, Keeps.updT, Keeps.updTzero, RegFile.resetBlock, satNak_keeps, satRequest_keeps, h, k_f]

theorem satOwdRun_keeps {z : State} (s : State) (p : Nat) (pl : List Byte) (crc : Nat) (clean : Bool) (h : Keeps z s) : Keeps z (satOwdRun s p pl crc clean) := by
  unfold satOwdRun
  simp (maxDischargeDepth := 40) only [implies_true, Keeps.refl, Keeps.ite, Keeps.upd, Keeps.foldl, Keeps.when, Keeps.put, Keeps.puts, Keeps.setByte, Keeps.setBytes, Keeps.clearRange, Keeps.updRegs, Keeps.updMemNil, Keeps.updViolNil, Keeps.updViolDrop, Keeps.updT, Keeps.updTzero, RegFile.resetBlock, State.setSat_keeps, replyEnd_keeps, satAck_keeps, satCmd_keeps, satNak_keeps, h]

theorem satSleep_keeps {z : State} (s : State) (p : Nat) (pl : List Byte) (crc : Nat) (clean : Bool) (h : Keeps z s) : Keeps z (satSleep s p pl crc clean) := by
  unfold satSleep
  simp (maxDischargeDepth := 40) only [implies_true, Keeps.refl, Keeps.ite, Keeps.upd, Keeps.foldl, Keeps.when, Keeps.put, Keeps.puts, Keeps.setByte, Keeps.setBytes, Keeps.clearRange, Keeps.updRegs, Keeps.updMemNil, Keeps.updViolNil, Keeps.updViolDrop, Keeps.updT, Keeps.updTzero, RegFile.resetBlock, State.setSat_keeps, replyEnd_keeps, satAck_keeps, satCmd_keeps, h]

theorem satClearFault_keeps {z : State} (s : State) (p : Nat) (pl : List Byte) (crc : Nat) (clean : Bool) (h : Keeps z s) : Keeps z (satClearFault s p pl crc clean) := by
  unfold satClearFault
  simp (maxDischargeDepth := 40) only [implies_true, Keeps.refl, Keeps.ite, Keeps.upd, Keeps.foldl, Keeps.when, Keeps.put, Keeps.puts, Keeps.setByte, Keeps.setBytes, Keeps.clearRange, Keeps.updRegs, Keeps.updMemNil, Keeps.updViolNil, Keeps.updViolDrop, Keeps.updT, Keeps.updTzero, RegFile.resetBlock, State.setSat_keeps, satAck_keeps, satCmd_keeps, h]

theorem satUnknown_keeps {z : State} (s : State) (p : Nat) (typ : Nat) (pl : List Byte) (crc : Nat) (clean : Bool) (h : Keeps z s) : Keeps z (satUnknown s p typ pl crc clean) := by
  unfold satUnknown
  simp (maxDischargeDepth := 40) only [implies_true, Keeps.refl, Keeps.ite, Keeps.upd, Keeps.foldl, Keeps.when, Keeps.put, Keeps.puts, Keeps.setByte, Keeps.setBytes, Keeps.clearRange, Keeps.updRegs, Keeps.updMemNil, Keeps.updViolNil, Keeps.updViolDrop, Keeps.updT, Keeps.updTzero, RegFile.resetBlock, satNak_keeps, satRequest_keeps, h]

theorem satOwdComplete_keeps {z : State} (s : State) (p : Nat) (off : List Int) (on : List Int) (h : Keeps z s) : Keeps z (satOwdComplete s p off on) := by
  unfold satOwdComplete
  repeat' (first | (simp (maxDischargeDepth := 40) only [implies_true, Keeps.refl, Keeps.ite, Keeps.upd, Keeps.foldl, Keeps.when, Keeps.put, Keeps.puts, Keeps.setByte, Keeps.setBytes, Keeps.clearRange, Keeps.updRegs, Keeps.updMemNil, Keeps.updViolNil, Keeps.updViolDrop, Keeps.updT, Keeps.updTzero, RegFile.resetBlock, State.setSat_keeps, h]; done) | dsimp only | with_reducible refine Keeps.ite ?_ ?_ | split | with_reducible refine Keeps.foldl (fun _ _ => ?_) ?_ | with_reducible refine Keeps.foldl1 (fun _ _ => ?_) ?_ | with_reducible refine Keeps.foldl2 (fun _ _ => ?_) ?_ | with_reducible refine Keeps.foldl3 (fun _ _ => ?_) ?_ | with_reducible refine Keeps.when (fun _ => ?_) ?_)

theorem satSleeps_keeps {z : State} (s : State) (p : Nat) (h : Keeps z s) : Keeps z (satSleeps s p) := by
  unfold satSleeps
  simp (maxDischargeDepth := 40) only [implies_true, Keeps.refl, Keeps.ite, Keeps.upd, Keeps.foldl, Keeps.when, Keeps.put, Keeps.puts, Keeps.setByte, Keeps.setBytes, Keeps.clearRange, Keeps.updRegs, Keeps.updMemNil, Keeps.updViolNil, Keeps.updViolDrop, Keeps.updT, Keeps.updTzero, RegFile.resetBlock, State.setSat_keeps, h]

theorem satSilence_keeps {z : State} (s : State) (p : Nat) (h : Keeps z s) : Keeps z (satSilence s p) := by
  unfold satSilence
  simp (maxDischargeDepth := 40) only [implies_true, Keeps.refl, Keeps.ite, Keeps.upd, Keeps.foldl, Keeps.when, Keeps.put, Keeps.puts, Keeps.setByte, Keeps.setBytes, Keeps.clearRange, Keeps.updRegs, Keeps.updMemNil, Keeps.updViolNil, Keeps.updViolDrop, Keeps.updT, Keeps.updTzero, RegFile.resetBlock, satSleeps_keeps, h]

theorem balTimeout_keeps {z : State} (s : State) (p : Nat) (h : Keeps z s) : Keeps z (balTimeout s p) := by
  unfold balTimeout
  simp (maxDischargeDepth := 40) only [implies_true, Keeps.refl, Keeps.ite, Keeps.upd, Keeps.foldl, Keeps.when, Keeps.put, Keeps.puts, Keeps.setByte, Keeps.setBytes, Keeps.clearRange, Keeps.updRegs, Keeps.updMemNil, Keeps.updViolNil, Keeps.updViolDrop, Keeps.updT, Keeps.updTzero, RegFile.resetBlock, State.setSat_keeps, h]

theorem dieCheck_keeps {z : State} (s : State) (p : Nat) (die : Int) (h : Keeps z s) : Keeps z (dieCheck s p die) := by
  unfold dieCheck
  simp (maxDischargeDepth := 40) only [implies_true, Keeps.refl, Keeps.ite, Keeps.upd, Keeps.foldl, Keeps.when, Keeps.put, Keeps.puts, Keeps.setByte, Keeps.setBytes, Keeps.clearRange, Keeps.updRegs, Keeps.updMemNil, Keeps.updViolNil, Keeps.updViolDrop, Keeps.updT, Keeps.updTzero, RegFile.resetBlock, State.setSat_keeps, h]

theorem balAlternate_keeps {z : State} (s : State) (p : Nat) (h : Keeps z s) : Keeps z (balAlternate s p) := by
  unfold balAlternate
  simp (maxDischargeDepth := 40) only [implies_true, Keeps.refl, Keeps.ite, Keeps.upd, Keeps.foldl, Keeps.when, Keeps.put, Keeps.puts, Keeps.setByte, Keeps.setBytes, Keeps.clearRange, Keeps.updRegs, Keeps.updMemNil, Keeps.updViolNil, Keeps.updViolDrop, Keeps.updT, Keeps.updTzero, RegFile.resetBlock, State.setSat_keeps, h]

theorem wakeBurst_keeps {z : State} (s : State) (p : Nat) (ns : Nat) (h : Keeps z s) : Keeps z (wakeBurst s p ns) := by
  unfold wakeBurst
  simp (maxDischargeDepth := 40) only [implies_true, Keeps.refl, Keeps.ite, Keeps.upd, Keeps.foldl, Keeps.when, Keeps.put, Keeps.puts, Keeps.setByte, Keeps.setBytes, Keeps.clearRange, Keeps.updRegs, Keeps.updMemNil, Keeps.updViolNil, Keeps.updViolDrop, Keeps.updT, Keeps.updTzero, RegFile.resetBlock, State.setSat_keeps, h]

theorem satCauses_keeps {z : State} (s : State) (p : Nat) (causes : Nat) (h : Keeps z s) : Keeps z (satCauses s p causes) := by
  unfold satCauses
  simp (maxDischargeDepth := 40) only [implies_true, Keeps.refl, Keeps.ite, Keeps.upd, Keeps.foldl, Keeps.when, Keeps.put, Keeps.puts, Keeps.setByte, Keeps.setBytes, Keeps.clearRange, Keeps.updRegs, Keeps.updMemNil, Keeps.updViolNil, Keeps.updViolDrop, Keeps.updT, Keeps.updTzero, RegFile.resetBlock, State.setSat_keeps, h]

end Sys2Proof.Machine
end

