-- ==== Sys2Proof/WellFormed.lean ====
section
/-! DEFINITION. Which commands the outside can send: the requester is one that Table 1.2 lists (R25), and operands that come as
lists or codes have a length or a value that the thing they stand for can have. The meanings are total all the same. -/
namespace Sys2Proof

/-- R25, Table 1.2: the requester IDs that exist. -/
def listedId (m : BitVec 8) : Bool :=
  let k := m.toNat
  (1 ≤ k && k ≤ 5) || (8 ≤ k && k ≤ 0x0B) || (0x10 ≤ k && k ≤ 0x5C) || 0x80 ≤ k

/-- R26: a request has a length, and a write has its bytes. -/
def FabReq.wf (q : FabReq) : Bool := listedId q.m && q.len != 0 && (!q.write || q.data.length == q.len)

/-- The well-formed commands. -/
def Instr.wellFormed (i : Instr) : Bool :=
  match i with
  | .lowHalfRead m _ => listedId m
  | .rcFieldRead m _ => listedId m
  | .registerWrite m _ _ => listedId m
  | .fabricAccess l => l.all FabReq.wf
  | .memFabViolPop m _ => listedId m
  | .memFabReqidRead m => listedId m
  | .nsTick => true
  | .aonTStore => true
  | .tspSrcCfgWrite m _ _ => listedId m
  | .tspSrcLossWrite m _ _ => listedId m
  | .tspSrcOfsWrite m _ _ => listedId m
  | .resolverPair _ => true
  | .encoderEdge _ _ _ _ => true
  | .encoderZEdge _ _ => true
  | .hallCodeChange _ _ _ => true
  | .wheelPulse _ _ => true
  | .coastTimeout _ => true
  | .standstillTimeout _ => true
  | .resync m _ => listedId m
  | .switch m _ => listedId m
  | .swback m _ => listedId m
  | .cmpClaim m _ => listedId m
  | .cmpRelease m _ => listedId m
  | .arm m _ => listedId m
  | .disarm m _ => listedId m
  | .compareFire _ => true
  | .tspSrcAngRead m _ => listedId m
  | .tspConflictInfoRead m => listedId m
  | .adcUnitStart m _ => listedId m
  | .adcUnitStop m _ => listedId m
  | .adcUnitSwap m _ => listedId m
  | .adcPassEnd _ => true
  | .slotStart _ => true
  | .urgReq m _ _ => listedId m
  | .openWindowClose _ => true
  | .sampleInstant _ _ range => range.toNat ≤ 2
  | .conversionEnd _ => true
  | .quietWindowEnd _ => true
  | .adcDmaCommit _ => true
  | .adcUrgCfgWrite m _ _ => listedId m
  | .lastValRead m _ => listedId m
  | .lastAngRead m _ => listedId m
  | .refbufEnable m => listedId m
  | .refbufSettled => true
  | .refDeviationDetect => true
  | .refDeviationEnd => true
  | .adcExcCfgWrite m _ => listedId m
  | .comparatorTrip _ _ => true
  | .comparatorRelease _ _ => true
  | .adcCmpWrite m _ _ _ => listedId m
  | .adcCmpLock m _ => listedId m
  | .cdReset m _ _ => listedId m
  | .cdHalt m _ => listedId m
  | .cdRun m _ => listedId m
  | .cdApertureAccess m _ _ _ _ => listedId m
  | .relSet m _ _ => listedId m
  | .relCancel m _ _ => listedId m
  | .dspAccept _ => true
  | .coprocComplete _ => true
  | .dspMove _ => true
  | .dspMul _ => true
  | .dspMuln _ => true
  | .dspMac _ => true
  | .dspMsu _ => true
  | .dspMulr _ => true
  | .dspMra _ => true
  | .dspAdd _ => true
  | .dspSub _ => true
  | .dspCmp _ => true
  | .dspCmpDxdy _ => true
  | .dspAnd _ => true
  | .dspOr _ => true
  | .dspXor _ => true
  | .dspNot _ => true
  | .dspClr _ => true
  | .dspNeg _ => true
  | .dspAbs _ => true
  | .dspRnd _ => true
  | .dspAsl _ => true
  | .dspAsr _ => true
  | .dspTst _ => true
  | .dspCpy _ => true
  | .dspMoveImm _ => true
  | .dspMoveRr _ => true
  | .dspMoveEa _ => true
  | .dspMoveAbs _ => true
  | .dspLdp _ => true
  | .dspPadr _ => true
  | .dspAshImm _ => true
  | .dspAshReg _ => true
  | .dspLsh _ => true
  | .dspNrm _ => true
  | .dspAddi _ => true
  | .dspCmpi _ => true
  | .dspCrot _ => true
  | .dspCvec _ => true
  | .dspSqrt _ => true
  | .dspDiv _ => true
  | .dspNop _ => true
  | .dspRts _ => true
  | .dspRti _ => true
  | .dspLpop _ => true
  | .dspSwi _ => true
  | .dspJmp _ => true
  | .dspCall _ => true
  | .dspBcc _ => true
  | .dspLoopReg _ => true
  | .dspLoopImm _ => true
  | .dspRptImm _ => true
  | .dspRptReg _ => true
  | .pwmBind m _ _ => listedId m
  | .shadowWrite m _ _ _ => listedId m
  | .pwmCommit m _ => listedId m
  | .pwmRun m _ => listedId m
  | .pwmStop m _ => listedId m
  | .forceTrip m _ => listedId m
  | .tripClr m _ => listedId m
  | .drvrst m _ => listedId m
  | .drvrstPulseEnd _ => true
  | .pwmCfgWrite m _ _ _ => listedId m
  | .periodWrap _ => true
  | .xferEffectiveInstant _ => true
  | .pwmWdogExpiry _ => true
  | .deadTimeExpiry _ _ => true
  | .hardTrip _ _ => true
  | .pinClaim m _ => listedId m
  | .pinRelease m _ => listedId m
  | .pwmConflictInfoRead m => listedId m
  | .trackerPublish _ _ _ _ _ => true
  | .trkTrimWrite m _ => listedId m
  | .halfCycleEnd _ => true
  | .freqUpdate => true
  | .vectorShiftUpdate => true
  | .esDelayExpiry => true
  | .activate m => listedId m
  | .profileBankSwap => true
  | .ceaseCmd m => listedId m
  | .ceaseClr m => listedId m
  | .injSettingWrite m _ _ => listedId m
  | .injectionStart => true
  | .injectionEnd => true
  | .injectionResponse => true
  | .grdRefARead m => listedId m
  | .ivsApply m => listedId m
  | .ivsScan m => listedId m
  | .ivsAbort m => listedId m
  | .ivsDwellEnd => true
  | .safetyDomainStart _ _ _ => true
  | .safetyCommit _ _ => true
  | .safetyOwnSnapshot => true
  | .safetyHwFault _ => true
  | .safetyCycleMiss => true
  | .sinLevelAccept _ _ _ => true
  | .testPulseStart _ => true
  | .testPulseCheck _ _ _ _ => true
  | .discrepancyTimeout _ => true
  | .strapSample _ _ => true
  | .psetConfirmTimeout _ => true
  | .psetActivate => true
  | .dynDueTimeout _ => true
  | .safStatRead m => listedId m
  | .trig m => listedId m
  | .sync => true
  | .valSendGetSet => true
  | .setData _ pl _ _ => pl.length ≤ 255
  | .valResponseTimeout _ => true
  | .rdData _ pl _ _ => pl.length ≤ 255
  | .wrAck _ pl _ _ => pl.length ≤ 255
  | .cmdAck _ pl _ _ => pl.length ≤ 255
  | .nak _ pl _ _ => pl.length ≤ 255
  | .satSync _ pl _ _ => pl.length ≤ 255
  | .satWindowEnd _ cells temps _ _ _ => cells.length ≤ 16 && temps.length ≤ 8
  | .satRd _ pl _ _ => pl.length ≤ 255
  | .satWr _ pl _ _ => pl.length ≤ 255
  | .satGetSet _ pl _ _ => pl.length ≤ 255
  | .owdRun _ pl _ _ => pl.length ≤ 255
  | .sleep _ pl _ _ => pl.length ≤ 255
  | .clearFault _ pl _ _ => pl.length ≤ 255
  | .satUnknownRequest _ _ pl _ _ => pl.length ≤ 255
  | .satOwdComplete _ off on => off.length ≤ 16 && on.length ≤ 16
  | .satSilenceTimeout _ => true
  | .balTmoExpiry _ => true
  | .satDieTempCheck _ _ => true
  | .satBalAlternate _ => true
  | .wakeBurst _ _ => true
  | .portEnWrite m _ _ => listedId m
  | .wakeSequenceStep _ => true
  | .wakeAll m => listedId m
  | .sleepAll m => listedId m
  | .owdGo m => listedId m
  | .owdResultPoll _ => true
  | .keepAlive _ => true
  | .portAutoRecover _ => true
  | .lineShort _ => true
  | .accGo m _ _ => listedId m
  | .secOpen _ _ _ pl => pl.length ≤ 65535
  | .secProve _ _ _ pl => pl.length ≤ 65535
  | .secClose _ _ _ pl => pl.length ≤ 65535
  | .getCert _ _ _ pl => pl.length ≤ 65535
  | .psetDeliver _ _ _ pl => pl.length ≤ 65535
  | .psetConfirm _ _ _ pl => pl.length ≤ 65535
  | .keyEnrol _ _ _ pl => pl.length ≤ 65535
  | .passwordSet _ _ _ pl => pl.length ≤ 65535
  | .sessCfg _ _ _ pl => pl.length ≤ 65535
  | .tamperCfg _ _ _ pl => pl.length ≤ 65535
  | .tamperRearm _ _ _ pl => pl.length ≤ 65535
  | .odoCfg _ _ _ pl => pl.length ≤ 65535
  | .debugOpen _ _ _ pl => pl.length ≤ 65535
  | .lifecycleAdvance _ _ _ pl => pl.length ≤ 65535
  | .grantSet _ _ _ pl => pl.length ≤ 65535
  | .checkpointNow _ _ _ pl => pl.length ≤ 65535
  | .compatAck _ _ _ pl => pl.length ≤ 65535
  | .imageLoad _ _ _ pl _ _ => pl.length ≤ 65535
  | .challengeExpiry _ => true
  | .sessionIdleTimeout _ => true
  | .lockoutExpiry _ => true
  | .ledgerCommitStart => true
  | .ledgerCommitDone _ => true
  | .ledgerPrune => true
  | .ledgerRead _ => true
  | .motionRecordDelivery => true
  | .tamperEvent _ => true
  | .tamperSampleParked _ _ => true
  | .spTagWrite m _ _ => listedId m
  | .drTagWrite m _ _ => listedId m
  | .stockpotZeroFillDone => true
  | .memErrPop m _ => listedId m
  | .memRstPop m _ => listedId m
  | .drmInit m => listedId m
  | .drmInitDone _ _ => true
  | .srEnter m => listedId m
  | .srExit m => listedId m
  | .trainModeWrite m _ _ => listedId m
  | .retrain m _ => listedId m
  | .dlyWrite m _ _ _ => listedId m
  | .dramLineRead m _ err => listedId m && err.toNat ≤ 2
  | .dramFullWrite m _ bs err => listedId m && bs.length == 64 && err.toNat ≤ 2
  | .dramPartialWrite m a bs err => listedId m && a.toNat % 64 + bs.length ≤ 64 && err.toNat ≤ 2
  | .scrubRead _ err => err.toNat ≤ 2
  | .driftPause _ _ _ _ delays => delays.length ≤ 8
  | .driftSense _ _ => true
  | .refreshDue _ _ => true
  | .push m _ _ _ => listedId m
  | .pop m _ => listedId m
  | .lockRead m _ => listedId m
  | .lockWrite m _ _ => listedId m
  | .lockForce m _ => listedId m
  | .dbSet m _ _ => listedId m
  | .dbPendClear m _ _ => listedId m
  | .dbMaskWrite m _ _ => listedId m
  | .dbCfgWrite m _ _ => listedId m
  | .folioDataWrite m _ _ _ _ => listedId m
  | .folioPost m _ _ => listedId m
  | .folioDone m _ _ => listedId m
  | .doorbellTail _ _ _ _ _ => true
  | .doorbellChead _ _ _ _ _ => true
  | .descFetchDone _ _ _ => true
  | .hostDmaDone _ _ _ _ => true
  | .msixCoalTimeout _ => true
  | .msixUnmask _ _ _ _ => true
  | .flr _ _ => true
  | .busMasterEnableChange _ _ => true
  | .bar0Access _ _ _ size _ => 1 ≤ size.toNat && size.toNat ≤ 8
  | .barMalformedAccess _ _ => true
  | .statusPageWrite _ => true
  | .ringCtxWrite m _ _ => listedId m
  | .ringDrainDone _ _ => true
  | .info _ => true
  | .ringEnable _ => true
  | .ringDisable _ => true
  | .errlogRead _ => true
  | .attn _ => true
  | .dbRing _ => true
  | .instCreate _ => true
  | .instReset _ _ => true
  | .instRemove _ _ => true
  | .instQuery _ => true
  | .grant _ => true
  | .setpointLimit _ => true
  | .journalSet _ => true
  | .regWrite _ => true
  | .regRead _ => true
  | .vfEnableChange _ _ _ => true
  | .resetDrainDone _ _ _ => true
  | .flushReadDone _ _ _ _ _ => true
  | .setpoint _ => true
  | .setpointRetryExpiry _ => true
  | .insInfoRead m => listedId m
  | .ptStart m _ => listedId m
  | .ptHalt m _ => listedId m
  | .ptResume m _ => listedId m
  | .ptPoke m _ => listedId m
  | .haltAll m _ => listedId m
  | .startAll m _ => listedId m
  | .wakeCompareFire _ => true
  | .threadAccessDone _ => true
  | .stallLimit _ => true
  | .tputDone _ => true
  | .pxAdd _ => true
  | .pxSub _ => true
  | .pxAnd _ => true
  | .pxOr _ => true
  | .pxXor _ => true
  | .pxSll _ => true
  | .pxSrl _ => true
  | .pxSra _ => true
  | .pxSlt _ => true
  | .pxSltu _ => true
  | .pxMul _ => true
  | .pxMulhu _ => true
  | .pxClz _ => true
  | .pxPopc _ => true
  | .pxBswap _ => true
  | .pxCrc32c _ => true
  | .pxCsum _ => true
  | .pxAddi _ => true
  | .pxAndi _ => true
  | .pxOri _ => true
  | .pxXori _ => true
  | .pxSlli _ => true
  | .pxSrli _ => true
  | .pxSrai _ => true
  | .pxSlti _ => true
  | .pxSltiu _ => true
  | .pxLui _ => true
  | .pxBext _ => true
  | .pxBins _ => true
  | .pxLw _ => true
  | .pxLh _ => true
  | .pxLhu _ => true
  | .pxLb _ => true
  | .pxLbu _ => true
  | .pxSw _ => true
  | .pxSh _ => true
  | .pxSb _ => true
  | .pxAmoadd _ => true
  | .pxAmoswap _ => true
  | .pxCas _ => true
  | .pxBeq _ => true
  | .pxBne _ => true
  | .pxBlt _ => true
  | .pxBge _ => true
  | .pxBltu _ => true
  | .pxBgeu _ => true
  | .pxJal _ => true
  | .pxJalr _ => true
  | .pxCsrr _ => true
  | .pxCsrw _ => true
  | .pxNop _ => true
  | .pxWait _ => true
  | .pxWaitr _ => true
  | .pxPoke _ => true
  | .pxHalt _ => true
  | .pxBrk _ => true
  | .pxTput _ => true
  | .pxPrx _ => true
  | .pxPtx _ => true
  | .pxPfree _ => true
  | .pxPalloc _ => true
  | .pxFlook _ => true
  | .pxFcmd _ => true
  | .tableWrite _ rc => rc.length == 96
  | .tableDelete _ rc => rc.length == 96
  | .tableRead _ rc => rc.length == 96
  | .keyLoad _ rc => rc.length == 96
  | .keyRestore _ rc => rc.length == 96
  | .txFrame _ data => data.length ≤ 16384
  | .txTable _ data => data.length ≤ 16384
  | .frameReceive _ _ data => data.length ≤ 16384
  | .fdbAgeExpiry _ => true
  | .flowCacheFill _ => true
  | .frameTransmitStart _ => true
  | .frameTransmitEnd _ => true
  | .storageRead _ => true
  | .storageWrite _ _ => true
  | .storageFlush _ => true
  | .storageWriteZeroes _ => true
  | .storageDeallocate _ => true
  | .ssdCompletion _ _ _ _ => true
  | .nvmeTimeout _ _ => true
  | .gptpCommit m _ => listedId m
  | .gateEntryAdvance _ => true
  | .gclChange m _ _ _ => listedId m
  | .gclSwap _ => true
  | .angTimeout _ => true
  | .starvationFlag _ _ => true
  | .nodeCfgWrite m _ => listedId m
  | .captureGrid => true
  | .qorRefSend => true
  | .qorRef => true
  | .qorIsland => true
  | .qorResume => true
  | .qorJoin => true
  | .qorAccept => true
  | .qorReject => true
  | .qorLeave => true
  | .qorStatus => true
  | .qorJoinRepeat => true
  | .qorHoldoverEntry => true
  | .qorLoneEntry => true
  | .qorMemberTimeout => true
  | .aggIsland m _ => listedId m
  | .aggResume m _ => listedId m
  | .aggLeave m _ => listedId m
  | .aggClose m _ => listedId m
  | .aggCapRead m _ => listedId m
  | .ldgHeadLoRead m => listedId m
  | .osc25Loss => true
  | .osc25Return => true
  | .park m => listedId m
  | .parkDone => true
  | .wakeSource _ _ _ => true
  | .unplannedPowerLoss _ => true
  | .vbatApply => true
  | .vbatBrownout _ => true
  | .pornLow _ => true
  | .warm m _ _ => listedId m
  | .mgmt m _ _ => listedId m
  | .mgmtWdogExpiry _ _ => true
  | .wdogKick m _ => listedId m
  | .hostReset _ => true
  | .safRstn => true
  | .safetyResend => true
  | .bootS0Rom _ => true
  | .bootS1Sc cut _ _ => cut.toNat ≤ 2
  | .bootS2Mc _ _ => true
  | .bootS3Dram => true
  | .bootS4Realtime _ _ => true
  | .legCommandChange _ _ => true
  | .tripInputRelease _ _ => true
  | .spcntEdge _ _ _ => true
  | .satelliteFaultCause _ _ => true
  | .tamperSourceReturn _ => true
  | .dspWindowAccessDone _ => true
  | .dspIllegalEncoding _ => true
  | .pxIllegalEncoding _ => true
  | .pornRelease _ => true
  | .perstRelease speed _ => 1 ≤ speed.toNat && speed.toNat ≤ 5
  | .portLinkChange _ _ speed => speed.toNat ≤ 5
  | .verifyExchangeDone _ => true
  | .nvmeBringupDone _ _ => true
  | .pllLossOfLock _ => true

end Sys2Proof
end

