-- ==== Sys2Proof/Tests/Slice0.lean ====
section
/-! SUPPORT. The author's tests: an ill-formed command for each check of WellFormed, concrete states that meet the hypotheses of
each statement, and single commands with the results that the spec's rules, tables and worked examples give. -/
namespace Sys2Proof.Tests
set_option Elab.async false
open Sys2Proof.Machine Sys2Proof.Reg

/-- The state after reset with some fields at other values. -/
def st (l : List (Fld × Nat)) : State := State.reset.puts l
def tick (s : State) (t : Nat) : State := { s with T := t }
/-- The state that a meaning answers. -/
def res (o : Result) : State := match o with | .next t => t | _ => State.reset

/-! ### Ill-formed commands -/

theorem test_illformed_requester : (Instr.registerWrite 0x06 0 0).wellFormed = false ∧ (Instr.lowHalfRead 0x0C 0).wellFormed = false ∧
    (Instr.rcFieldRead 0 0).wellFormed = false ∧ (Instr.gptpCommit 0x5D true).wellFormed = false ∧ (Instr.park 0x7F).wellFormed = false ∧
    (Instr.registerWrite 0x80 0 0).wellFormed = true ∧ (Instr.park 0x01).wellFormed = true := by decide
theorem test_illformed_requests : (Instr.fabricAccess [⟨1, true, 0, 2, [], false⟩]).wellFormed = false ∧
    (Instr.fabricAccess [⟨1, false, 0, 0, [], false⟩]).wellFormed = false ∧ (Instr.fabricAccess [⟨6, false, 0, 4, [], false⟩]).wellFormed = false ∧
    (Instr.fabricAccess [⟨1, true, 0, 2, [0, 0], false⟩]).wellFormed = true := by decide
theorem test_illformed_codes : (Instr.sampleInstant 0 0 3).wellFormed = false ∧ (Instr.dramLineRead 1 0 3).wellFormed = false ∧
    (Instr.dramLineRead 6 0 0).wellFormed = false ∧ (Instr.scrubRead 0 3).wellFormed = false ∧ (Instr.bootS1Sc 3 0 false).wellFormed = false ∧
    (Instr.perstRelease 0 1).wellFormed = false ∧ (Instr.perstRelease 6 1).wellFormed = false ∧ (Instr.portLinkChange 0 true 6).wellFormed = false ∧
    (Instr.bar0Access 0 false 0 0 0).wellFormed = false ∧ (Instr.bar0Access 0 false 0 9 0).wellFormed = false ∧
    (Instr.bar0Access 0 false 0 8 0).wellFormed = true := by decide
theorem test_illformed_dram : (Instr.dramFullWrite 1 0 [0] 0).wellFormed = false ∧ (Instr.dramFullWrite 1 0 (List.replicate 64 0) 3).wellFormed = false ∧
    (Instr.dramPartialWrite 1 63 [(0, true), (0, true)] 0).wellFormed = false ∧ (Instr.dramPartialWrite 1 0 [] 3).wellFormed = false ∧
    (Instr.driftPause 0 1 false false (List.replicate 9 0)).wellFormed = false ∧ (Instr.dramFullWrite 1 0 (List.replicate 64 0) 2).wellFormed = true := by decide
theorem test_illformed_cells : (Instr.satWindowEnd 0 (List.replicate 17 0) [] 0 0 0).wellFormed = false ∧
    (Instr.satWindowEnd 0 [] (List.replicate 9 0) 0 0 0).wellFormed = false ∧ (Instr.satOwdComplete 0 (List.replicate 17 0) []).wellFormed = false ∧
    (Instr.satOwdComplete 0 [] (List.replicate 17 0)).wellFormed = false := by decide
theorem test_illformed_satellite_payloads (p : Fin 32) (t : BitVec 8) (crc : BitVec 32) (k : Bool) (l : List Byte) (h : l.length = 256) :
    (Instr.setData p l crc k).wellFormed = false ∧ (Instr.rdData p l crc k).wellFormed = false ∧ (Instr.wrAck p l crc k).wellFormed = false ∧
    (Instr.cmdAck p l crc k).wellFormed = false ∧ (Instr.nak p l crc k).wellFormed = false ∧ (Instr.satSync p l crc k).wellFormed = false ∧
    (Instr.satRd p l crc k).wellFormed = false ∧ (Instr.satWr p l crc k).wellFormed = false ∧ (Instr.satGetSet p l crc k).wellFormed = false ∧
    (Instr.owdRun p l crc k).wellFormed = false ∧ (Instr.sleep p l crc k).wellFormed = false ∧ (Instr.clearFault p l crc k).wellFormed = false ∧
    (Instr.satUnknownRequest p t l crc k).wellFormed = false := by simp [Instr.wellFormed, h]
theorem test_illformed_messages (r : BitVec 15) (s : BitVec 32) (n : BitVec 16) (l : List Byte) (h : l.length = 65536) :
    (Instr.secOpen r s n l).wellFormed = false ∧ (Instr.secProve r s n l).wellFormed = false ∧ (Instr.secClose r s n l).wellFormed = false ∧
    (Instr.getCert r s n l).wellFormed = false ∧ (Instr.psetDeliver r s n l).wellFormed = false ∧ (Instr.psetConfirm r s n l).wellFormed = false ∧
    (Instr.keyEnrol r s n l).wellFormed = false ∧ (Instr.passwordSet r s n l).wellFormed = false ∧ (Instr.sessCfg r s n l).wellFormed = false ∧
    (Instr.tamperCfg r s n l).wellFormed = false ∧ (Instr.tamperRearm r s n l).wellFormed = false ∧ (Instr.odoCfg r s n l).wellFormed = false ∧
    (Instr.debugOpen r s n l).wellFormed = false ∧ (Instr.lifecycleAdvance r s n l).wellFormed = false ∧ (Instr.grantSet r s n l).wellFormed = false ∧
    (Instr.checkpointNow r s n l).wellFormed = false ∧ (Instr.compatAck r s n l).wellFormed = false ∧
    (Instr.imageLoad r s n l none []).wellFormed = false := by simp [Instr.wellFormed, h]
theorem test_illformed_records (n : Fin 128) (l : List Byte) (h : l.length = 95) :
    (Instr.tableWrite n l).wellFormed = false ∧ (Instr.tableDelete n l).wellFormed = false ∧ (Instr.tableRead n l).wellFormed = false ∧
    (Instr.keyLoad n l).wellFormed = false ∧ (Instr.keyRestore n l).wellFormed = false := by simp [Instr.wellFormed, h]
theorem test_illformed_frames (r : BitVec 15) (p : Fin 6) (f : Bool) (l : List Byte) (h : l.length = 16385) :
    (Instr.txFrame r l).wellFormed = false ∧ (Instr.txTable r l).wellFormed = false ∧ (Instr.frameReceive p f l).wellFormed = false := by
  simp [Instr.wellFormed, h]

/-- The table of commands gives no row any bits, so no word spells a command. -/
theorem test_no_word_spells_a_command : Sys2Proof.decodeTableWord 0 0 = none ∧ Sys2Proof.decodeTableWord 32 1 = none := by decide

/-! ### States that meet the hypotheses of the statements -/

theorem wit_StepRunsFrontCommand : State.reset.pending = [] ∧ ({ State.reset with pending := [.nsTick] } : State).pending = [.nsTick] := by decide
theorem wit_StepKeepsInvariant : State.reset.Inv ∧ step State.reset = .next State.reset ∧ (tick State.reset (2 ^ 64 - 1)).Inv :=
  ⟨⟨by decide, by decide, by decide, by decide⟩, rfl, ⟨by decide, by decide, by decide, by decide⟩⟩
theorem wit_LowHalfReadLatchesHighHalf : (tspReader 1 = true ∧ State.reset.shadow? 1 0xF0700000 = none) ∧
    (tspReader 0x80 = true ∧ ((State.reset.latch 0x80 0xF0700004 7).shadow? 0x80 0xF0700004 = some 7)) := by decide
theorem wit_AccessCodesAct : isMC 1 = true ∧ isMC 2 = true ∧ State.reset.shadow? 2 0xF0400F0C = none ∧ (st [(MEM_STAT_CFG_IGN, 1)]).get MEM_STAT_CFG_IGN ≤ 1 := by decide
theorem wit_FabricAccessIsFenced :
    (let q : FabReq := ⟨1, true, 0x13FFFFF, 1, [5], false⟩; let s := st [(MEM_SP_TAG_TAG 5119, 0)]
     q.len = 1 ∧ q.ue = false ∧ q.write = true ∧ isMaster q.m.toNat = true ∧ areaOf s q.addr.toNat = .stockpot ∧ s.memSt.bad = [] ∧
       memAdmits s q.m.toNat true q.addr.toNat 1 = true) ∧
    (let q : FabReq := ⟨0x81, true, 0, 1, [5], false⟩; let s := State.reset
     q.len = 1 ∧ q.ue = false ∧ q.write = true ∧ isMaster q.m.toNat = true ∧ areaOf s q.addr.toNat = .stockpot ∧ memAdmits s q.m.toNat true q.addr.toNat 1 = false) ∧
    isMaster 6 = false ∧ isMaster 0 = false := by decide
theorem wit_ViolationLogPopsAndReqidAnswers : (isMC 1 = true ∧ bit 1 0 = true) ∧ (isMC 2 = true ∧ bit 2 0 = false) ∧ isMC 0x80 = false := by decide
theorem wit_SourceConfigurationWrites : let s := st [(TSP_SRC_CFG_EN 7, 1), (TSP_SRC_CFG_KIND 7, 2)]
    isMC 1 = true ∧ isMC 0x80 = false ∧ (State.reset.flag (TSP_SRC_CFG_EN 0) = false ∧ bit 0 31 = false) ∧ (s.flag (TSP_SRC_CFG_EN 7) = true ∧ bit (2 ^ 32 - 1) 31 = true) ∧
    (s.get (TSP_SRC_CFG_KIND 7) ≠ bits (2 ^ 32 - 1) 28 3) ∧
    (let v := 2 ^ 31 + kindENCODER * 2 ^ 28; let s1 := (State.reset.putWord (srcLocked 0) v).putWord (srcOpen 0) v
     bit v 31 = true ∧ srcBadCfg s1 0 = false ∧ inputHolder s1 0 (s1.get (TSP_SRC_IN_QIN 0)) = none ∧ srcKind s1 0 = kindENCODER ∧ kindENCODER ≠ kindDERIVED ∧
       srcInput s1 0 = some (s1.get (TSP_SRC_IN_QIN 0))) ∧
    (bits 0 30 2 ≠ 3 ∧ bits 0 8 8 = 0) ∧ (bits 0x2000 8 8 = 0x20) ∧ (bits 0xDF00 8 8 = 0xDF) ∧ bits (3 * 2 ^ 30) 30 2 = 3 := by decide
theorem wit_SensorEdgesAdvanceSources :
    (let s := st [(TSP_SRC_CFG_EN 0, 1), (TSP_SRC_CFG_KIND 0, kindENCODER), (TSP_SRC_CFG_FILT 0, 3), (TSP_SRC_SCALE_DEN_LINES 0, 1024)]
     2 < s.get (TSP_SRC_CFG_FILT 0) ∧ s.flag (TSP_SRC_CFG_EN 0) = true ∧ srcKind s 0 = kindENCODER ∧ srcIs s 0 kindENCODER = true ∧ s.get (TSP_SRC_CFG_FILT 0) ≤ 3 ∧
       ((s.src 0).lvlA != true) ≠ ((s.src 0).lvlB != false) ∧ (s.src 0).zSeen = false ∧
       (let u := s.setSrc 0 { s.src 0 with zSeen := true, count := 3 }; (u.src 0).zSeen = true ∧ 2 < (u.src 0).count ∧ 2 < 4 * encLines u 0 - (u.src 0).count)) ∧
    (let s := st [(TSP_SRC_CFG_EN 1, 1), (TSP_SRC_CFG_KIND 1, kindHALL), (TSP_SRC_CFG_FILT 1, 1)]
     0 < s.get (TSP_SRC_CFG_FILT 1) ∧ srcKind s 1 = kindHALL ∧ srcIs s 1 kindHALL = true ∧ s.get (TSP_SRC_CFG_FILT 1) ≤ 1 ∧ (1 : BitVec 3) ≠ 0 ∧ (6 : BitVec 3) ≠ 7 ∧
       (s.src 1).sector = none) ∧
    (let s := (st [(TSP_SRC_CFG_EN 7, 1), (TSP_SRC_CFG_KIND 7, kindWHEEL), (TSP_SRC_CFG_FILT 7, 255), (TSP_SRC_STAT_STATE 7, srcTRACKING)]).setSrc 7 {}
     254 < s.get (TSP_SRC_CFG_FILT 7) ∧ srcKind s 7 = kindWHEEL ∧ srcIs s 7 kindWHEEL = true ∧ s.get (TSP_SRC_CFG_FILT 7) ≤ 255 ∧
       s.flag (TSP_SRC_CFG_REF_EN 7) = false ∧ s.flag (TSP_SRC_CFG_DIRINV 7) = false ∧ srcState s 7 = srcTRACKING ∧ (s.src 7).pend = .none ∧
       s.get (TSP_SRC_OFS_OFS 7) = (s.src 7).ofsApplied) := by decide
/-- The sector of a Hall code is open (Config.hallSector): whatever it is, the sector before it is one that the source can hold. -/
theorem wit_SensorEdgesAdvanceSources_hall :
    let s := (st [(TSP_SRC_CFG_EN 1, 1), (TSP_SRC_CFG_KIND 1, kindHALL), (TSP_SRC_CFG_FILT 1, 1), (TSP_SRC_STAT_STATE 1, srcTRACKING)]).setSrc 1
      { sector := some ((hallNative 1 + 5) % 6) }
    srcIs s 1 kindHALL = true ∧ s.get (TSP_SRC_CFG_FILT 1) ≤ 1 ∧ srcState s 1 = srcTRACKING ∧ (s.src 1).pend = .none ∧
      (s.src 1).sector = some ((hallNative 1 + 5) % 6) ∧ (hallNative 1 + 5) % 6 < 6 ∧ (1 : BitVec 3) ≠ 0 ∧ (1 : BitVec 3) ≠ 7 ∧
      hallSectorOf s 1 (1 : BitVec 3).toNat = (hallDir s 1 ((hallNative 1 + 5) % 6) + 1) % 6 := by
  intro s
  have h : s.flag (TSP_SRC_CFG_DIRINV 1) = false := by decide
  refine ⟨by decide, by decide, by decide, by decide, rfl, by omega, by decide, by decide, ?_⟩
  have := Nat.mod_lt (Config.hallSector 1) (show 0 < 6 by decide)
  simp [hallSectorOf, hallDir, h, hallNative]; omega
/-- A resolver source with one waiting pair. -/
def rsv (good : Bool) (src : Src) : State :=
  let s := (st [(TSP_SRC_CFG_EN 3, 1), (TSP_SRC_CFG_KIND 3, kindRESOLVER), (TSP_SRC_STAT_STATE 3, srcTRACKING)]).setSrc 3 src
  { s with adc := { s.adc with pair := s.adc.pair.set 3 [⟨2048, -2048, good⟩] } }
theorem wit_SensorEdgesAdvanceSources_resolver :
    (let s := rsv true { badAmp := 14, badErr := 14 }
     s.adc.pair.get [] 3 = [⟨2048, -2048, true⟩] ∧ srcIs s 3 kindRESOLVER = true ∧ srcState s 3 = srcTRACKING ∧ (s.src 3).pend = .none ∧
       (s.src 3).badAmp < 15 ∧ (s.src 3).badErr < 15) ∧
    (let s := rsv false { badUse := 14 }
     s.adc.pair.get [] 3 = [⟨2048, -2048, false⟩] ∧ srcIs s 3 kindRESOLVER = true ∧ srcState s 3 ≠ srcLOST ∧ (s.src 3).badUse < 15) ∧
    State.reset.adc.pair.get [] 7 = [] := by decide
theorem wit_SourceTimeoutsAndCommands :
    (let s := (st [(TSP_SRC_STAT_STATE 0, srcCOASTING)]).setSrc 0 { coastEnd := 5 }
     srcState s 0 = srcCOASTING ∧ (s.src 0).coastEnd ≤ (tick s 5).T ∧ (tick s 4).T < (s.src 0).coastEnd) ∧ srcState State.reset 0 ≠ srcCOASTING ∧
    (let s := tick ((st [(TSP_SRC_STAT_STATE 0, srcTRACKING), (TSP_SRC_CFG_KIND 0, kindWHEEL)]).setSrc 0 { edgeT := some 0 }) (2 ^ 40)
     standstillDue s 0 = true ∧ standstillDue State.reset 0 = false) ∧
    (srcCommander State.reset 1 0 = true ∧ srcCommander State.reset 0x80 0 = false ∧ srcCommander (st [(TSP_SRC_LOSS_CMD_DSP_EN 0, 1)]) 8 0 = true) ∧
    (let s := st [(TSP_SRC_STAT_STATE 0, srcLOST), (TSP_SRC_CFG_KIND 0, kindHALL)]; srcState s 0 = srcLOST ∧ srcKind s 0 ≠ kindDERIVED) ∧
    (let s := st [(TSP_SRC_STAT_STATE 0, srcTRACKING), (TSP_SRC_STAT_STATE 1, srcTRACKING), (TSP_SRC_CFG_FB_EN 0, 1), (TSP_SRC_CFG_FALLBACK 0, 1)]
     srcState s 0 = srcTRACKING ∧ s.flag (TSP_SRC_CFG_FB_EN 0) = true ∧ (s.src 0).pend = .none ∧ switchOk s 0 (s.get (TSP_SRC_CFG_FALLBACK 0)) = true) ∧
    State.reset.flag (TSP_SRC_CFG_FB_EN 0) = false ∧
    (let s := State.reset.setSrc 0 { pend := .toFallback 1 false false }; (s.src 0).pend = .toFallback 1 false false) ∧
    (let s := st [(TSP_SRC_STAT_STATE 0, srcFOLLOWING), (TSP_SRC_STAT_OWN_OK 0, 1)]
     (s.src 0).pend = .none ∧ srcState s 0 = srcFOLLOWING ∧ s.flag (TSP_SRC_STAT_OWN_OK 0) = true) := by decide
theorem wit_CompareUnitsClaimArmFire :
    (tspWriter 1 = true ∧ (119 : Nat) < 120 ∧ State.reset.get (TSP_CMP_OWN_OWNER 119) = 0) ∧
    (let s := st [(TSP_CMP_OWN_OWNER 0, 8)]; s.get (TSP_CMP_OWN_OWNER 0) ≠ 0 ∧ s.get (TSP_CMP_OWN_OWNER 0) ≠ 1 ∧ s.tsp.log.length < 8 ∧
       tspWriter 8 = true ∧ ownsUnit s 8 0 = true ∧ (s.cmp 0).arm = none ∧
       (let u := s.setCmp 0 { s.cmp 0 with arm := none }; ownsUnit u 8 0 = true) ∧ (armRefused (s.puts [(TSP_CMP_CFG_SRC 0, 8), (TSP_CMP_CFG_CONS 0, 0)]) 8 0 = false) ∧ armRefused s 8 0 = true) ∧
    (let a : Arming := { src := 8, dir := 0, periodic := false, cons := 0, lead := 0, tgt := 5, step := 0, armT := 0, atTgt := false }
     let s := tick (State.reset.setCmp 0 { arm := some a, committed := 5 }) 5
     (s.cmp 0).arm = some a ∧ unitDue s 0 = true ∧ 8 ≤ a.src ∧ a.periodic = false ∧ (s.cmp 0).firedT ≠ some s.T) ∧
    (let a : Arming := { src := 3, dir := 0, periodic := false, cons := 0, lead := 0, tgt := 5, step := 0, armT := 1, atTgt := false }
     let s := tick ((st [(TSP_SRC_STAT_STATE 3, srcTRACKING)]).setCmp 127 { arm := some a, jumpT := some 5, firedT := some 4 }) 5
     (s.cmp 127).arm = some a ∧ unitDue s 127 = true ∧ srcHolds s a.src = false ∧ (s.cmp 127).firedT ≠ some s.T ∧
       (let u := s.setCmp 127 { arm := some a }
        unitDue u 127 = false ∧ (∀ b, (u.cmp 127).arm = some b → 8 ≤ b.src ∨ srcHolds u b.src = false))) ∧
    (unitDue State.reset 0 = false ∧ (State.reset.cmp 0).arm = none) ∧ tspReader 0x80 = true := by decide
theorem wit_TimeAdvancesAndIsStored :
    State.reset.aon.off = false ∧ (let s := { State.reset with aon := { off := false, storedT := 1, ticks := 9 } }; s.aon.off = false ∧ s.aon.storedT + 2 ^ 20 ≤ (tick s (2 ^ 20 + 1)).T ∧ (tick s (2 ^ 20)).T < s.aon.storedT + 2 ^ 20) ∧
    ({ State.reset with aon := { off := true } } : State).aon.off = true := by decide
/-- A conversion that starts at T = 0. -/
def cv : Conv := ⟨0, 0, 0, 0, false, 0, false, false⟩
def rs : AdcRes := ⟨cv, 5, 0, 0, false, false, false⟩
theorem wit_SequencerRunsItsBanks :
    (adcUnitWriter State.reset 1 0 = true ∧ adcUnitWriter State.reset 8 0 = true ∧ adcUnitWriter State.reset 9 0 = false ∧ adcRunning State.reset 0 = false) ∧
    adcBankOk State.reset 0 0 = true ∧ adcBankOk (st [(ADC_UNIT_URG_CFG_INPUT 0, 12)]) 0 0 = false ∧
    (let s := st [(ADC_UNIT_STAT_RUNNING 7, 1)]
     adcRunning s 7 = true ∧ adcUnitWriter s 2 7 = true ∧ (s.adcU 7).phase = .ready ∧ s.flag (ADC_UNIT_STAT_SWAP_PEND 7) = false ∧ (s.adcU 7).next ≤ s.T ∧
       slotKIND s 7 (s.get (ADC_UNIT_STAT_BANK 7)) (s.adcU 7).slot = 0) ∧
    (let s := st [(ADC_UNIT_STAT_RUNNING 0, 1), (ADC_UNIT_SEQ0_SLOT_KIND 0 0, 1)]
     adcRunning s 0 = true ∧ (s.adcU 0).phase = .ready ∧ (s.adcU 0).next ≤ s.T ∧ s.flag (ADC_UNIT_STAT_SWAP_PEND 0) = false ∧
       slotKIND s 0 (s.get (ADC_UNIT_STAT_BANK 0)) (s.adcU 0).slot ≠ 0) ∧
    (let s := (st [(ADC_UNIT_STAT_RUNNING 0, 1), (ADC_UNIT_STAT_SWAP_PEND 0, 1)]).setAdcU 0 { first := false }
     adcRunning s 0 = true ∧ (s.adcU 0).first = false ∧ (s.adcU 0).phase = .ready ∧ (s.adcU 0).slot = 0 ∧ (s.adcU 0).next ≤ s.T ∧ s.flag (ADC_UNIT_STAT_SWAP_PEND 0) = true) ∧
    (let s := (st [(ADC_UNIT_STAT_RUNNING 0, 1)]).setAdcU 0 { phase := .conv cv }; adcRunning s 0 = true ∧ (s.adcU 0).phase = .conv cv) ∧
    (((State.reset.setAdcU 0 { phase := .window 0 true }).adcU 0).phase = .window 0 true) ∧ (((State.reset.setAdcU 0 { phase := .window 0 false }).adcU 0).phase = .window 0 false) := by decide
theorem wit_ResultsAreTaggedAndDelivered :
    (let s := (st [(ADC_UNIT_STAT_RUNNING 0, 1)]).setAdcU 0 { phase := .window 25 true }
     adcUnitWriter s 1 0 = true ∧ bit 1 0 = true ∧ adcRunning s 0 = true ∧ (s.adcU 0).phase = .window 25 true ∧ s.T < 25) ∧
    (adcRunning State.reset 0 = false ∧ (State.reset.adcU 0).phase = .ready) ∧ 11 < bits 12 0 4 ∧ bits 11 0 4 ≤ 11 ∧ (adcRunning State.reset 0 = false) ∧
    (let s := tick (State.reset.setAdcU 0 { phase := .conv cv }) 250; (s.adcU 0).phase = .conv cv ∧ (s.adcU 0).sample = none ∧ cv.start + 250 ≤ s.T) ∧
    (let s := tick (State.reset.setAdcU 0 { phase := .conv cv, sample := some rs }) 1000
     (s.adcU 0).phase = .conv cv ∧ (s.adcU 0).sample = some rs ∧ cv.start + 1000 ≤ s.T ∧ (s.adcU 0).stop = false ∧ (s.adcU 0).held = [] ∧
       s.get (ADC_UNIT_CFG_QGUARD 0) ≤ 187 ∧ 187 < (s.puts [(ADC_UNIT_CFG_QGUARD 0, 188)]).get (ADC_UNIT_CFG_QGUARD 0)) ∧
    (let s := tick (State.reset.setAdcU 0 { held := [rs] }) 4000; (s.adcU 0).held = rs :: [] ∧ rs.t + 4 * s.get (ADC_UNIT_CFG_QGUARD 0) ≤ s.T) ∧
    (rs.c.store = false ∧ ({ cv with store := true } : Conv).store = true) ∧
    ((State.reset.setAdcU 0 { dma := some (0, [1, 2, 3, 4]) }).adcU 0).dma = some (0, [1, 2, 3, 4]) ∧
    (adcReader 0x80 = true ∧ State.reset.shadow? 0x80 (lastShadow 0 2) = none) := by decide
theorem wit_ReferenceComparatorsAndCarrier : let r := State.reset
    (isMC 1 = true ∧ isMC 0x80 = false ∧ r.flag ADC_REF_CTRL_EN = false) ∧ (st [(ADC_REF_CTRL_EN, 1)]).flag ADC_REF_CTRL_EN = true ∧
    (let s := { r with adc := { settleAt := some 5 } }; s.adc.settleAt = some 5 ∧ 5 ≤ (tick s 5).T ∧ (tick s 4).T < 5) ∧ r.adc.settleAt = none ∧
    ((st [(ADC_REF_CTRL_EN, 1)]).adc.deviating = false) ∧ ({ r with adc := { deviating := true } } : State).adc.deviating = true ∧
    (cmpSideEn (st [(ADC_CMP_CFG_EN_HI 63, 1)]) 63 true = true ∧ cmpSideEn r 63 true = false) ∧ r.flag ADC_CMP_LOCK_LOCK = false ∧
    (st [(ADC_CMP_LOCK_LOCK, 1)]).flag ADC_CMP_LOCK_LOCK = true ∧ r.adc.lockWritten = false ∧ ({ r with adc := { lockWritten := true } } : State).adc.lockWritten = true ∧
    (r.flag ADC_EXC_CFG_EN = false ∧ bit (2 ^ 31) 31 = true ∧ bits (2 ^ 31 + 2000 * 65536) 16 15 = 2000 ∧ bits (2 ^ 31 + 20000 * 65536) 16 15 = 20000 ∧
      bits (2 ^ 31 + 1999 * 65536) 16 15 < 2000 ∧ 20000 < bits (2 ^ 31 + 20001 * 65536) 16 15) ∧ (st [(ADC_EXC_CFG_EN, 1)]).flag ADC_EXC_CFG_EN = true := by decide
theorem wit_SequencerRunsItsBanks_boundary :
    (let s := (st [(ADC_UNIT_STAT_RUNNING 0, 1)]).setAdcU 0 { bound := some (0, 3, 4) }
     adcUnitWriter s 1 0 = true ∧ adcRunning s 0 = true ∧ s.flag (ADC_UNIT_STAT_SWAP_PEND 0) = false ∧ (s.adcU 0).bound = some (s.T, 3, 4) ∧
       (s.adcU 0).boundReqs = [] ∧ adcBankOk s 0 (1 - s.get (ADC_UNIT_STAT_BANK 0)) = true ∧ slotKIND s 0 (1 - s.get (ADC_UNIT_STAT_BANK 0)) 0 = 0) ∧
    (let s := tick ((st [(ADC_UNIT_STAT_RUNNING 0, 1)]).setAdcU 0 { bound := some (24, 0, 0) }) 25
     (s.adcU 0).bound = some (24, 0, 0) ∧ (24 : Nat) ≠ s.T) ∧ (st [(ADC_UNIT_STAT_SWAP_PEND 0, 1)]).flag (ADC_UNIT_STAT_SWAP_PEND 0) = true ∧
    adcRunning State.reset 0 = false ∧ (let s := tick (State.reset.setAdcU 0 { next := 1 }) 0; s.T < (s.adcU 0).next) := by decide
theorem wit_ResultsAreTaggedAndDelivered_more :
    (let c : Conv := { cv with input := 9 }; let d : Conv := { cv with input := 11 }
     c.input = 9 ∧ d.input = 11 ∧ cv.input ≠ 9 ∧ cv.input ≠ 11) ∧
    (let s := tick (State.reset.setAdcU 0 { phase := .conv cv }) 249; (s.adcU 0).phase = .conv cv ∧ s.T < cv.start + 250) ∧
    (let s := tick (State.reset.setAdcU 0 { phase := .conv cv }) 999; (s.adcU 0).phase = .conv cv ∧ s.T < cv.start + 1000) ∧
    (let s := tick (State.reset.setAdcU 0 { phase := .conv cv, sample := some rs, stop := true, held := [rs] }) 1000
     (s.adcU 0).phase = .conv cv ∧ (s.adcU 0).sample = some rs ∧ cv.start + 1000 ≤ s.T ∧ (s.adcU 0).stop = true ∧ (s.adcU 0).held ≠ []) ∧
    (let s := State.reset.puts [(ADC_UNIT_CFG_QGUARD 0, 188)]; s.T < rs.t + 4 * s.get (ADC_UNIT_CFG_QGUARD 0)) ∧ bit 0 0 = false ∧
    (let s := st [(ADC_UNIT_STAT_RUNNING 0, 1)]; adcRunning s 0 = true ∧ bit 0x800000 23 = true ∧ bit 0 23 = false) := by decide
theorem wit_ReferenceComparatorsAndCarrier_levels :
    (let s := (st [(ADC_CMP_CFG_EN_HI 63, 1), (ADC_CMP_THR_HI 63, 100), (ADC_CMP_CFG_FILT 63, 31)]); let u := tick s 124
     cmpSideEn u 63 true = true ∧ 64 * u.get (ADC_CMP_THR_HI 63) < 6401 ∧ 4 * u.get (ADC_CMP_CFG_FILT 63) ≤ 124 ∧
       4 * u.get (ADC_CMP_CFG_FILT 63) ≤ u.T - u.adc.cmpT.get 0 127 ∧ cmpTripped u 63 true 6400 = false ∧ cmpLasts u 63 true 123 = false ∧
       6399 + 64 * cmpHyst u 63 < 64 * u.get (ADC_CMP_THR_HI 63) + 64 * 1024 ∧ 0 + 64 * cmpHyst u 63 < 64 * u.get (ADC_CMP_THR_HI 63) ∧
       cmpCleared u 63 true 6400 = false) ∧
    (let s := st [(ADC_CMP_CFG_EN_LO 0, 1), (ADC_CMP_THR_LO 0, 1)]
     cmpSideEn s 0 false = true ∧ 63 < 64 * s.get (ADC_CMP_THR_LO 0) ∧ 4 * s.get (ADC_CMP_CFG_FILT 0) ≤ 0 ∧
       64 * (s.get (ADC_CMP_THR_LO 0) + cmpHyst s 0) < 65535) ∧ State.reset.flag ADC_REF_CTRL_EN = false := by decide

/-- CD0 RUNNING with the word `w` at PC 0. -/
def ds (w : Nat) : State := (st [(CD_STAT_STATE 0, cdRUNNING)]).setCdMem 0 { pm := [(0, w)], da := [(5, 7)], db := [(5, 9)] }
def dsc (w : Nat) (d : Dsp) : State := (ds w).setCd 0 d
theorem dspAt_of (s : State) (n : Nat) (k : DKind)
    (h : (cdRunning s n && !(s.cd n).stalled && dspKind (dspWord s n) == k && !illegalHere (s.cd n) k) = true) : DspAt s n k := by
  simp only [Bool.and_eq_true, Bool.not_eq_true', beq_iff_eq] at h
  exact ⟨h.1.1.1, h.1.1.2, h.1.2, h.2⟩
/-- The P-class word of OP `op` with d = 0, SRC = 0 and no move. -/
def pword (op : Nat) : Nat := 2 ^ 31 + op * 2 ^ 26
theorem wit_DspAccumulatorArithmetic : (∀ op : Fin 23, DspAt (ds (pword op.val)) 0 (.alu op.val)) ∧ ∀ op : Fin 23, bits (dspWord (ds (pword op.val)) 0) 19 2 = 0 :=
  ⟨fun op => dspAt_of _ _ _ (by revert op; decide), by decide⟩
theorem wit_DspShiftsAndImmediates :
    DspAt (ds 0x20000020) 0 .ashImm ∧ DspAt (ds 0x2080001F) 0 .ashImm ∧ DspAt (ds 0x21000003) 0 .ashReg ∧ DspAt (ds 0x24808000) 0 .addi ∧
    DspAt (ds 0x25007FFF) 0 .cmpi ∧ DspAt (ds 0x22000320) 0 .lsh ∧
    (DspAt (dsc 0x23000001 { acc := [(0, 2 ^ 55)] }) 0 .nrm ∧ (Dsp.accS { acc := [(0, 2 ^ 55)] } 0) ≠ 0) ∧ (DspAt (ds 0x23800003) 0 .nrm ∧ (Dsp.accS {} 1) = 0) :=
  ⟨dspAt_of _ _ _ (by decide), dspAt_of _ _ _ (by decide), dspAt_of _ _ _ (by decide), dspAt_of _ _ _ (by decide), dspAt_of _ _ _ (by decide),
    dspAt_of _ _ _ (by decide), ⟨dspAt_of _ _ _ (by decide), by decide⟩, dspAt_of _ _ _ (by decide), by decide⟩
theorem wit_DspLogicAndCompare : DspAt (ds (pword 0x0B)) 0 (.alu 0x0B) ∧ DspAt (ds (pword 0x0C)) 0 (.alu 0x0C) ∧ DspAt (ds (pword 0x0D)) 0 (.alu 0x0D) ∧
    DspAt (ds (pword 0x0E)) 0 (.alu 0x0E) ∧ DspAt (ds (pword 0x09)) 0 (.alu 0x09) ∧ DspAt (ds (pword 0x0A)) 0 (.alu 0x0A) ∧ DspAt (ds (pword 0x15)) 0 (.alu 0x15) :=
  ⟨dspAt_of _ _ _ (by decide), dspAt_of _ _ _ (by decide), dspAt_of _ _ _ (by decide), dspAt_of _ _ _ (by decide), dspAt_of _ _ _ (by decide),
    dspAt_of _ _ _ (by decide), dspAt_of _ _ _ (by decide)⟩
/-- AP0 = 0x7FFF with linear addressing. -/
def dp : Dsp := { ap := [(0, 0x7FFF)] }
theorem wit_DspMovesAndPointers :
    (DspAt (ds 0x43000005) 0 .movImm ∧ bits (0x43000005) 24 6 < 4) ∧ (DspAt (ds 0x100000C2) 0 .movRR ∧ bits 0x100000C2 6 6 < 4) ∧
    (DspAt (dsc 0x11000003 dp) 0 .movEA ∧ bit 0x11000003 23 = false ∧ (dp.ea 0 0).1 < 0x8000 ∧ alReserved (dp.al.get 0 0) = false) ∧
    (DspAt (dsc 0x11800000 dp) 0 .movEA ∧ bit 0x11800000 23 = true ∧ bits 0x11800000 22 1 = 0) ∧
    (DspAt (ds 0x12400143) 0 .movAbs ∧ bit 0x12400143 23 = false ∧ bit 0x12400143 21 = false) ∧
    (DspAt (ds 0x80080200) 0 (.alu 0x00) ∧ bits 0x80080200 19 2 = 1 ∧ bit 0x80080200 18 = false ∧ bits 0x80080200 8 3 < 4 ∧ (Dsp.ea {} 0 0).1 < 0x8000) ∧
    (DspAt (ds 0x13000003) 0 .ldp) ∧ DspAt (ds 0x14040007) 0 .padr :=
  ⟨⟨dspAt_of _ _ _ (by decide), by decide⟩, ⟨dspAt_of _ _ _ (by decide), by decide⟩, ⟨dspAt_of _ _ _ (by decide), by decide⟩,
    ⟨dspAt_of _ _ _ (by decide), by decide⟩, ⟨dspAt_of _ _ _ (by decide), by decide⟩, ⟨dspAt_of _ _ _ (by decide), by decide⟩,
    dspAt_of _ _ _ (by decide), dspAt_of _ _ _ (by decide)⟩
/-- D0 = 0x800000 (−1 as a fraction), D1 = 1. -/
def dd : Dsp := { d := [(0, 0x800000), (1, 1)] }
def co : Cop := ⟨1, 2, 4, 18, false⟩
theorem wit_DspCoprocessor :
    (DspAt (dsc 0x2B000010 dd) 0 .div ∧ dd.cop = none ∧ signed 24 (dd.dreg (bits 0x2B000010 2 2)) ≠ 0 ∧
      (signed 24 (dd.dreg (bits 0x2B000010 4 2))).natAbs < (signed 24 (dd.dreg (bits 0x2B000010 2 2))).natAbs) ∧
    (DspAt (ds 0x2B000000) 0 .div ∧ signed 24 (Dsp.dreg {} 0) = 0) ∧ (DspAt (dsc 0x2A000000 dd) 0 .sqrt ∧ signed 24 (dd.dreg 0) < 0) ∧
    (DspAt (dsc 0x2A000010 dd) 0 .sqrt ∧ 0 ≤ signed 24 (dd.dreg 1)) ∧ DspAt (ds 0x29000000) 0 .cvec ∧ DspAt (ds 0x28000000) 0 .crot ∧
    (let s := tick (dsc 0 { cop := some co }) 1000; (s.cd 0).cop = some co ∧ co.ready ≤ (s.cd 0).now s.T ∧ co.squashed = false ∧
      ({ co with squashed := true } : Cop).squashed = true) ∧
    (let s := dsc 0 { cop := some co }; (s.cd 0).cop = some co ∧ (s.cd 0).now s.T < co.ready) :=
  ⟨⟨dspAt_of _ _ _ (by decide), by decide⟩, ⟨dspAt_of _ _ _ (by decide), by decide⟩, ⟨dspAt_of _ _ _ (by decide), by decide⟩,
    ⟨dspAt_of _ _ _ (by decide), by decide⟩, dspAt_of _ _ _ (by decide), dspAt_of _ _ _ (by decide), by decide, by decide⟩
def ce : CallEnt := ⟨7, some 0x1A0000, 0⟩
theorem wit_DspFlowLoopsAndFaults :
    DspAt (ds 0) 0 .nop ∧ DspAt (ds 0x01007FFF) 0 .jmp ∧ (DspAt (ds 0x02000005) 0 .call ∧ (Dsp.calls {}).length < 16) ∧
    (DspAt (dsc 1 { calls := [ce] }) 0 .rts ∧ DspAt (dsc 2 { calls := [ce] }) 0 .rti ∧ ce.sr = some 0x1A0000) ∧
    DspAt (dsc 3 { loops := [⟨0, 1, 2⟩] }) 0 .lpop ∧ DspAt (ds 0x03F00005) 0 .bcc ∧
    (DspAt (ds 0x30010005) 0 .loopImm ∧ 0 < bits 0x30010005 16 12 ∧ 0 < bits 0x30010005 0 15) ∧ (DspAt (ds 0x30000005) 0 .loopImm ∧ bits 0x30000005 16 12 = 0) ∧
    (DspAt (dsc 0x05010005 dd) 0 .loopReg ∧ 0 < dd.dreg (bits 0x05010005 16 2)) ∧ DspAt (ds 0x06000FFF) 0 .rptImm ∧ DspAt (ds 0x06000000) 0 .rptImm ∧
    DspAt (ds 0x07000003) 0 .rptReg ∧ DspAt (ds 4) 0 .swi ∧
    (DspAt (ds 5) 0 .illegal ∧ (Dsp.ipl {}) < 4) ∧ (DspAt (ds 3) 0 .lpop ∧ DspAt (ds 1) 0 .rts ∧ DspAt (ds 2) 0 .rti) ∧
    (DspAt (dsc 0x30010005 { loops := List.replicate 6 ⟨0, 9, 2⟩ }) 0 .loopImm ∧ 6 ≤ (List.replicate 6 (⟨0, 9, 2⟩ : LoopEnt)).length) ∧
    (DspAt (dsc 0x02000005 { calls := List.replicate 16 ce }) 0 .call ∧ 16 ≤ (List.replicate 16 ce).length) :=
  ⟨dspAt_of _ _ _ (by decide), dspAt_of _ _ _ (by decide), ⟨dspAt_of _ _ _ (by decide), by decide⟩,
    ⟨dspAt_of _ _ _ (by decide), dspAt_of _ _ _ (by decide), rfl⟩, dspAt_of _ _ _ (by decide), dspAt_of _ _ _ (by decide),
    ⟨dspAt_of _ _ _ (by decide), by decide⟩, ⟨dspAt_of _ _ _ (by decide), by decide⟩, ⟨dspAt_of _ _ _ (by decide), by decide⟩,
    dspAt_of _ _ _ (by decide), dspAt_of _ _ _ (by decide), dspAt_of _ _ _ (by decide), dspAt_of _ _ _ (by decide),
    ⟨dspAt_of _ _ _ (by decide), by decide⟩, ⟨dspAt_of _ _ _ (by decide), dspAt_of _ _ _ (by decide), dspAt_of _ _ _ (by decide)⟩,
    ⟨dspAt_of _ _ _ (by decide), by decide⟩, dspAt_of _ _ _ (by decide), by decide⟩
theorem wit_DspRunControlAndReleases :
    (isMC 1 = true ∧ cdRunning (ds 0) 0 = true ∧ ((ds 0).cd 0).stalled = false) ∧ (st [(CD_STAT_STATE 3, cdHALTED)]).get (CD_STAT_STATE 3) = cdHALTED ∧
    State.reset.get (CD_STAT_STATE 0) = cdRESET ∧ (st [(CD_STAT_STATE 0, cdDFAULT)]).get (CD_STAT_STATE 0) = cdDFAULT ∧
    cdRunning State.reset 0 = false ∧ (cdWriter 8 0 = true ∧ cdWriter 9 0 = false ∧ bit (State.reset.get (CD_REL_PEND_PEND 0)) 31 = false ∧
      ((dsc 0 { cancelCyc := 1 }).cd 0).cancelCyc ≠ dspCycle (dsc 0 {}).T) ∧
    (let s := (ds 0).puts [(CD_IRQ_PEND_PEND 0, 64), (CD_IRQ_CFG_EN 0, 127), (CD_IRQ_CFG_LVL 0, 12288)]
     dspPick (s.cd 0).ipl (dspSources s 0) = some (14, 3) ∧ (s.cd 0).calls.length < 16) ∧ dspPick 0 (dspSources State.reset 0) = none ∧
    (let s := (dsc 0x11000003 { ap := [(0, 0x400001)], stalled := true }).puts [(CD_WIN_EN 0 0, 1), (CD_WIN_BASE 0 0, 0x200)]
     let s1 := s.setCd 0 { s.cd 0 with stalled := false }
     (s.cd 0).stalled = true ∧ ((s1.cd 0).haltPend = false) ∧ dspFabric s1 0 (dspKind (dspWord s 0)) (dspWord s 0) = some (false, 0x80000004)) := by decide
/-- A loop entry whose end lies ahead. -/
def le9 : LoopEnt := ⟨0, 9, 2⟩
theorem wit_DspMovesAndPointers_more :
    (DspAt (dsc 0x71000005 { loops := [le9] }) 0 .movImm ∧ bits 0x71000005 24 6 = 0x31 ∧ lcFault { loops := [le9] } .movImm 0x71000005 = false ∧ le9.le ≠ 0) ∧
    (DspAt (dsc 0x80080200 {}) 0 (.alu 0x00) ∧ (∀ a ∈ dspAccesses {} (.alu 0x00) 0x80080200, a.addr < 0x8000) ∧ bits 0x80080200 19 2 ≠ 3) ∧
    (DspAt (ds 0x80180000) 0 (.alu 0x00) ∧ bits 0x80180000 19 2 = 3 ∧ bits 0x80180000 13 3 < 4 ∧ 4 ≤ bits 0x80188000 13 3) ∧
    (bits 0x13000003 0 3 < 4 ∧ 4 ≤ bits 0x13000004 0 3 ∧ bits 0x13010003 16 3 ≠ 0 ∧ alReserved 0x8001 = true ∧ bits 0x14040007 16 3 = 4) ∧
    (let d : Dsp := { ap := [(0, 0x400001)] }; let s := (dsc 0x11000003 d).puts [(CD_WIN_EN 0 0, 1), (CD_WIN_BASE 0 0, 0x200)]
     DspAt s 0 .movEA ∧ d.cop = none ∧ lcFault d .movEA 0x11000003 = false ∧ dspFabric s 0 .movEA 0x11000003 = some (false, 0x80000004)) ∧
    (let d : Dsp := { ap := [(0, 0x400001)] }; let s := dsc 0x11000003 d
     DspAt s 0 .movEA ∧ (∃ a, dspAccesses d .movEA 0x11000003 = [a] ∧ a.write = false ∧ dspTarget s 0 a.space a.addr = .unmapped) ∧
       lcFault d .movEA 0x11000003 = false ∧ d.ipl < 4 ∧ bits 0x11000003 0 6 < 4 ∧ d.calls.length < 16) :=
  ⟨⟨dspAt_of _ _ _ (by decide), by decide⟩, ⟨dspAt_of _ _ _ (by decide), by decide⟩, ⟨dspAt_of _ _ _ (by decide), by decide⟩, by decide,
    ⟨dspAt_of _ _ _ (by decide), by decide⟩, dspAt_of _ _ _ (by decide), ⟨_, rfl, by decide⟩, by decide⟩
theorem wit_DspCoprocessor_more :
    (DspAt (dsc 0x2B000004 dd) 0 .div ∧ signed 24 (dd.dreg (bits 0x2B000004 2 2)) ≠ 0 ∧
      (signed 24 (dd.dreg (bits 0x2B000004 2 2))).natAbs ≤ (signed 24 (dd.dreg (bits 0x2B000004 4 2))).natAbs) ∧
    (DspAt (dsc 0x2B000010 { cop := some co }) 0 .div ∧ DspAt (dsc 0x28000000 { cop := some { co with squashed := true } }) 0 .crot) :=
  ⟨⟨dspAt_of _ _ _ (by decide), by decide⟩, dspAt_of _ _ _ (by decide), dspAt_of _ _ _ (by decide)⟩
theorem wit_DspFlowLoopsAndFaults_more :
    (DspAt (ds 0x05000005) 0 .loopReg ∧ Dsp.dreg {} (bits 0x05000005 16 2) = 0) ∧ DspAt (ds 0x30010000) 0 .loopImm ∧ bits 0x30010000 0 15 ≤ 0 ∧
    DspAt (ds 0x05010000) 0 .loopReg ∧ (DspAt (ds 0x71000005) 0 .movImm ∧ bits 0x71000005 24 6 = 0x31) ∧
    (DspAt (dsc 0x05010005 { dd with loops := List.replicate 6 le9 }) 0 .loopReg ∧ dd.dreg (bits 0x05010005 16 2) ≠ 0) ∧
    (DspAt (dsc 5 { sr := 0x1A0000 + 4 * 2 ^ 21 }) 0 .illegal ∧ Dsp.ipl { sr := 0x1A0000 + 4 * 2 ^ 21 } = 4) ∧ (st [(CD_FAULT_INFO_VALID 0, 1)]).flag (CD_FAULT_INFO_VALID 0) = true :=
  ⟨⟨dspAt_of _ _ _ (by decide), by decide⟩, dspAt_of _ _ _ (by decide), by decide, dspAt_of _ _ _ (by decide), ⟨dspAt_of _ _ _ (by decide), by decide⟩,
    ⟨dspAt_of _ _ _ (by decide), by decide⟩, ⟨dspAt_of _ _ _ (by decide), by decide⟩, by decide⟩
theorem wit_DspRunControlAndReleases_more :
    (let s := dsc 0 { stalled := true }; cdRunning s 0 = true ∧ (s.cd 0).stalled = true) ∧ isMC 0x80 = false ∧ (0x80 : Nat) ≠ reqCD 0 ∧
    (cdRunning State.reset 3 = false ∧ pmLoads State.reset 1 3 = false ∧ pmLoads { State.reset with boot := { loading := some 0x13 } } 1 3 = true) ∧
    (let d : Dsp := { took := some ⟨0, 5, 7, 0x1A0000, 0, [], 0, none⟩ }; let s := dsc 0 d
     (s.cd 0).took = some ⟨0, 5, 7, 0x1A0000, 0, [], 0, none⟩ ∧ (0 : Nat) = dspCycle s.T ∧ bit 32 5 = true ∧ cdWriter 8 0 = true) ∧
    (let s := dsc 0x11000003 { ap := [(0, 0x400001)], stalled := true, stallAddr := 0x80000004 }
     (s.cd 0).stalled = true ∧ ((dspAccesses (s.cd 0) (dspKind (dspWord s 0)) (dspWord s 0)).find? (fun a => a.space = 0 ∧ 0x8000 ≤ a.addr)).map (·.write) =
       some false) := by decide

/-- Channel 0 bound to CD0 with role `r`, with some fields at other values. -/
def ch (r : Nat) (l : List (Fld × Nat)) : State := st ([(PWM_BIND_BOUND 0, 1), (PWM_BIND_ROLE 0, r), (PWM_CH_STAT_STO_PERMIT 0, 1)] ++ l)
def running (s : State) : State := s.setChan 0 { s.chan 0 with running := true }
theorem wit_ChannelBindingCommitAndRun :
    (isMC 1 = true ∧ isMC 0x80 = false ∧ State.reset.flag (PWM_BIND_BOUND 3) = false ∧ bit (2 ^ 31 + 2 ^ 28) 31 = true ∧ bits (2 ^ 31 + 2 ^ 28) 28 3 = 1 ∧
      bits (2 ^ 31 + 4 * 2 ^ 28) 28 3 = 4 ∧ 5 ≤ bits (2 ^ 31 + 5 * 2 ^ 28) 28 3 ∧ (ch 1 []).flag (PWM_BIND_BOUND 0) = true) ∧
    (isChanDsp (ch 1 []) 8 0 = true ∧ isChanDsp (ch 1 []) 9 0 = false ∧ ivsOwns (ch 1 []) 0 = false ∧ commitRefused (ch 1 []) 0 = true ∧
      commitRefused (ch 1 [(PWM_CH_SH_PER_PER 0, 48000)]) 0 = false) ∧
    (let s := ch 1 [(PWM_CH_STAT_VALID 0, 1)]; s.flag (PWM_CH_STAT_VALID 0) = true ∧ chState s 0 = chSTOPPED ∧ chState s 0 ≠ chRUNNING ∧ chState s 0 ≠ chDSPLOSS ∧
      chState (s.setChan 0 { s.chan 0 with dsploss := true }) 0 = chDSPLOSS ∧ chState (running s) 0 = chRUNNING ∧ chState State.reset 0 < chDSPLOSS) ∧
    (lossAllowed roleTRACTION 2 = true ∧ lossAllowed roleGRID 0 = true ∧ (ch 1 []).flag (PWM_CH_STAT_X_HELD 0) = false ∧ bits (38400 * 65537) 16 16 = 38400) := by decide
theorem wit_TripsForceOutputsInactive :
    (let s := ch 1 []; bit (tripMask s 0) 4 = false ∧ s.flag (PWM_CH_TRIP_LATCHED 0) = false ∧ tripMask s 0 < 32 ∧ isChanDsp s 8 0 = true ∧
      bitsMinus 8 (tripLive s 0 false) (tripMask s 0) = 0) ∧
    (let s := ch 1 [(PWM_BIND_MTRIP 0, 1)]; bitsMinus 8 (setBit (tripLive s 0 false) 0) (tripMask s 0) = 0) ∧
    (let s := (ch 1 []).setChan 0 { pins := 1 }; bitsMinus 8 (tripLive s 0 false) (tripMask s 0) ≠ 0) ∧
    (let s := ch 1 [(PWM_CH_DRV_WIDTH 0, 1)]; s.get (PWM_CH_DRV_WIDTH 0) ≠ 0 ∧ chState s 0 ≠ chRUNNING ∧ chState s 0 ≠ chDSPLOSS ∧ chState (running s) 0 = chRUNNING) ∧
    (let s := tick ((ch 1 []).setChan 0 { drvEnd := some 5 }) 5; (s.chan 0).drvEnd = some 5 ∧ 5 ≤ s.T) ∧
    (let s := ch 1 [(PWM_CH_CFG_WDOG 0, 255)]; let u := s.setChan 0 { running := true, stale := 255 }
     chState u 0 = chRUNNING ∧ u.get (PWM_CH_CFG_WDOG 0) ≠ 0 ∧ u.get (PWM_CH_CFG_WDOG 0) ≤ (u.chan 0).stale ∧ (s.chan 0).stale < s.get (PWM_CH_CFG_WDOG 0)) ∧
    State.reset.get (PWM_CH_CFG_WDOG 0) = 0 := by decide
theorem wit_TransfersLegsAndPins :
    (let s := tick (running (ch 1 [(PWM_CH_ACT_PER_PER 0, 48000), (PWM_CH_STAT_VALID 0, 1)])) 5000
     rawPos s 0 = some 48000 ∧ s.get (PWM_CH_ACT_PER_PER 0) ≤ 48000 ∧ s.get (PWM_CH_CFG_XFER 0) = 0 ∧ s.flag (PWM_CH_STAT_VALID 0) = true ∧
       setBefore (s.chan 0) (((s.chan 0).pos0 + s.get (PWM_CH_ACT_PER_PER 0)) / 16) = none) ∧ rawPos State.reset 0 = none ∧
    (let v : ShSet := ⟨48001, [0, 0, 0, 0], [0, 0, 0, 0], [0, 0, 0, 0]⟩
     let s := tick ((ch 1 [(PWM_CH_ACT_PER_PER 0, 48000)]).setChan 0 { running := true, hist := [(3000, v, true)] }) 5000
     rawPos s 0 = some 48000 ∧ s.flag (PWM_CH_STAT_VALID 0) = false ∧
       setBefore (s.chan 0) (((s.chan 0).pos0 + s.get (PWM_CH_ACT_PER_PER 0)) / 16) = some (3000, v, true)) ∧
    (let s := tick ((ch 1 [(PWM_CH_CFG_XFER 0, 2)]).setChan 0 { running := true, evs := [5] }) 1
     (s.chan 0).evs = [5] ∧ chState s 0 = chRUNNING ∧ s.get (PWM_CH_CFG_XFER 0) = 2 ∧ 5 ≤ stepAt s.T ∧ setBefore (s.chan 0) (5 / 16) = none) ∧ (State.reset.chan 0).evs = [] ∧
    (let s := running (ch 1 [(PWM_CH_ACT_MODE_X 0, 2)]); rawPos s 0 = some 0 ∧ modeOf s 0 3 true = 2) ∧
    (pinWriter 8 = true ∧ pinWriter 0x80 = false ∧ pinWriter 2 = true ∧ State.reset.get (PWM_PIN_OWN_FUNC 7) = 0 ∧ State.reset.get (PWM_PIN_OWN_OWNER 7) ≠ 8 ∧ State.reset.pwm.log.length < 8) ∧
    (let s := st [(PWM_PIN_OWN_FUNC 7, 2), (PWM_PIN_OWN_OWNER 7, 8)]
     s.get (PWM_PIN_OWN_FUNC 7) ≠ 0 ∧ s.get (PWM_PIN_OWN_OWNER 7) = 8 ∧ s.get (PWM_PIN_OWN_OWNER 7) ≠ 9 ∧ pinWriter 9 = true) ∧ pwmCommonReader 8 = true := by decide

theorem wit_ChannelBindingCommitAndRun_more :
    isChanDsp (ch 1 []) 9 0 = false ∧ (let s := ch roleDCDC [(PWM_CH_CFG_IVS_EN 0, 1)]; isChanDsp s 8 0 = true ∧ ivsOwns s 0 = true) ∧
    (let s := ch 1 []; chState s 0 ≠ chRUNNING ∧ chState s 0 ≠ chDSPLOSS ∧ bit (2 ^ 27) 27 = true ∧ s.flag (PWM_CH_STAT_X_HELD 0) = false ∧
      s.get (PWM_PIN_OWN_FUNC 0) = 0 ∧ s.get (PWM_PIN_OWN_FUNC 1) = 0 ∧ lossAllowed roleGRID 1 = false ∧ 38400 < bits (38401 * 65536) 16 16 ∧
      38400 < bits 38401 0 16) ∧ (st [(PWM_CH_STAT_VALID 0, 0)]).flag (PWM_CH_STAT_VALID 0) = false := by decide
theorem wit_TripsForceOutputsInactive_more :
    isChanDsp (ch 1 []) 9 0 = false ∧ (ch 1 [(PWM_CH_DRV_WIDTH 0, 0)]).get (PWM_CH_DRV_WIDTH 0) = 0 ∧ (let s := State.reset.setChan 3 { drvEnd := some 5 }
      (s.chan 3).drvEnd = some 5 ∧ s.T < 5) ∧ (State.reset.get (PWM_CH_TRIP_SRC 0) = 0) := by decide
theorem wit_TransfersLegsAndPins_more :
    (let s := running (ch 1 [(PWM_CH_ACT_PER_PER 0, 48000)]); rawPos s 0 = some 0 ∧ 0 < s.get (PWM_CH_ACT_PER_PER 0)) ∧ pinWriter 0x81 = false ∧
    (let s := { st [(PWM_PIN_OWN_FUNC 0, 1), (PWM_PIN_OWN_OWNER 0, 8)] with pwm := { log := List.replicate 8 ⟨9, 8, 0⟩ } }
     pinWriter 8 = true ∧ s.get (PWM_PIN_OWN_FUNC 0) ≠ 0 ∧ s.get (PWM_PIN_OWN_FUNC 0) ≠ 2 ∧ 8 ≤ s.pwm.log.length) ∧ pwmCommonReader 0x81 = false := by decide

theorem wit_CeaseStopsGridChannels :
    (isMC 2 = true ∧ isMC 8 = false ∧ (st [(GRD_STAT_CEASE, 0), (GRD_CAUSE_LIVE, 0)]).flag GRD_STAT_CEASE = false ∧
      gridLive (st [(GRD_STAT_CEASE, 0), (GRD_CAUSE_LIVE, 0)]) causeCMD = false ∧ aggRole State.reset = 0) ∧
    (let s := ch 3 [(GRD_STAT_CEASE, 1)]; isChanDsp s 8 0 = true ∧ s.flag GRD_STAT_CEASE = true ∧ s.get (PWM_BIND_ROLE 0) = roleGRID ∧
      s.flag (PWM_BIND_BOUND 0) = true ∧ tripMask s 0 < 32 ∧ s.flag (PWM_CH_TRIP_LATCHED 0) = false) ∧
    (let s := { st [(GRD_STAT_CEASE, 1)] with grd := { esFrom := some 0 } }
     s.grd.esFrom = some 0 ∧ 0 + bits (pw s 4) 0 16 * 1000000000 ≤ s.T ∧ s.flag GRD_STAT_CEASE = true ∧ gridLive s causeACTIVE = false) ∧
    State.reset.grd.esFrom = none := by decide
/-- The lowest values that bank 1 of a profile may hold. -/
def bank1 : List (Fld × Nat) := [(GRD_PROFILE_WORD 1 0, 1), (GRD_PROFILE_WORD 1 2, 1), (GRD_PROFILE_WORD 1 3, 1), (GRD_PROFILE_WORD 1 5, 0x0101),
  (GRD_PROFILE_WORD 1 7, 0x02010101)]
def gr (g : Grd) (l : List (Fld × Nat)) : State := { st l with grd := g }
theorem wit_GridMonitorProfilesAndIslanding :
    ((st [(GRD_CFG_EN, 1)]).flag GRD_CFG_EN = true ∧ isMC 1 = true ∧ (signed 32 23860929).natAbs ≤ 23860929 ∧ 23860929 < (signed 32 (2 ^ 31)).natAbs) ∧
    (let s := gr { newCycle := true, cross := [80, 60, 40, 20, 0] } []
     s.grd.newCycle = true ∧ s.grd.cross.head? = some 80 ∧ s.grd.cross[fWin s]? = some 0 ∧ s.grd.fHist.length < rWin s) ∧ State.reset.grd.newCycle = false ∧
    (let s := gr { newPeriod := true, periods := [7, 7, 7, 7, 7, 7, 7, 7, 7] } []
     s.grd.newPeriod = true ∧ s.grd.periods = 7 :: List.replicate 8 7 ∧ 8 ≤ (List.replicate 8 7).length ∧ (7 : Nat) ≠ 0 ∧ ∀ q ∈ (List.replicate 8 7).take 8, q = 7) ∧
    (State.reset.grd.committing = false ∧ State.reset.grd.swap = false ∧ 1 = 1 - State.reset.get GRD_STAT_BANK ∧ bankRanges State.reset 1 = false) ∧
    (let s := st bank1; bankRanges s 1 = true ∧ bit (s.get (GRD_PROFILE_WORD 1 1)) 29 = false ∧ gridChannelLive s = false ∧
       s.ldg.queue.length < 24 ∧ gridChannelLive (running (ch 3 bank1)) = true ∧ bankRanges (running (ch 3 bank1)) 1 = true) ∧
    (let s := gr { swap := true, zeroCross := true } []; s.grd.swap = true ∧ s.grd.zeroCross = true) ∧ State.reset.grd.inj = none ∧
    (gr { inj := some (0, 0) } []).grd.inj ≠ none ∧
    (let s := gr { active := true, phaseCross := true } [(GRD_PROFILE_WORD 0 1, 2 ^ 29), (GRD_PROFILE_WORD 0 7, 0x02010101)]
     actEn s = true ∧ s.grd.phaseCross = true ∧ s.grd.inj = none ∧ injPeriod s ≠ 0 ∧
       injTurn s % injPeriod s = s.get GRD_INJ_SLOT_SLOT % injPeriod s) ∧ State.reset.grd.phaseCross = false ∧
    (let s := gr { inj := some (5, 0) } []; s.grd.inj = some (5, 0) ∧ s.grd.injLate = none) ∧
    (let s := gr { resps := [(0, 0)] } [(GRD_PROFILE_WORD 0 9, 65536)]
     s.grd.resps = [(0, 0)] ∧ (((s.get GRD_FREQ_F : Int) - 0).natAbs < bits (pw s 9) 16 16 * 1000)) ∧
    (let s := gr { resps := [(0, 0)] } [(GRD_PROFILE_WORD 0 9, 65536), (GRD_PROFILE_WORD 0 8, 1), (GRD_PROFILE_WORD 0 7, 0x300), (GRD_FREQ_F, 1000)]
     0 < signed 32 (pw s 8) ∧ 0 < s.get GRD_FREQ_F ∧ bits (pw s 9) 16 16 * 1000 ≤ s.get GRD_FREQ_F - 0 ∧ s.get GRD_STAT_ISL_CNT + 1 < bits (pw s 7) 8 8) ∧
    (grdReader State.reset 0x80 = true) := by decide
theorem wit_GridMonitorProfilesAndIslanding_halves :
    (let w : HalfWin := { stop := 9, rs := List.replicate 20 ⟨5, -7, false, true⟩ }; let s := gr { done := [(2, some w)] } [(GRD_STAT_LOCKED, 1), (GRD_CFG_THREE_PH, 1)]
     endedHalf s 2 = some w ∧ (gridPhases s).contains 2 = true ∧ 20 ≤ w.n ∧ w.refu = false ∧ gridLocked s = true) ∧
    (let w : HalfWin := { stop := 9, rs := List.replicate 19 ⟨5, 7, true, false⟩ }; let s := gr { done := [(0, some w)] } []
     endedHalf s 0 = some w ∧ (gridPhases s).contains 0 = true ∧ w.n < 20 ∧ w.refu = true ∧ gridLocked s = false) ∧
    (endedHalf State.reset 0 = none ∧ endedHalf (gr { done := [(1, some {})] } []) 1 ≠ none ∧ (gridPhases (gr {} [])).contains 1 = false) ∧
    (let s := gr { newCycle := true, cross := [80, 60, 40, 20, 0], fHist := List.replicate 10 (0, 50) } []
     s.grd.cross[fWin s]? = some 0 ∧ 1 ≤ rWin s ∧ rWin s ≤ 51 ∧ s.grd.fHist[rWin s - 1]? = some (0, 50)) := by decide
/-- Channel 0, a running DCDC channel that the sequencer serves. -/
def iv (l : List (Fld × Nat)) : State := running (ch 4 ((PWM_CH_CFG_IVS_EN 0, 1) :: l))
theorem wit_IvScanSequencer :
    (isIvsDsp (iv []) 8 = true ∧ ivsPc (iv []) = 0 ∧ ivsOwns (iv []) (ivsPc (iv [])) = true ∧ (iv []).get GRD_IVS_STAT_STATE ≠ ivsSCANNING ∧
      setBits 4 ((iv []).get GRD_IVS_SCAN_MASK) = [] ∧ (iv [(GRD_IVS_STAT_STATE, ivsSCANNING)]).get GRD_IVS_STAT_STATE = ivsSCANNING) ∧
    (let s := iv [(GRD_IVS_SCAN_MASK, 8), (GRD_IVS_STEP_DWELL, 10000)]
     isIvsDsp s 8 = true ∧ ivsOwns s (ivsPc s) = true ∧ setBits 4 (s.get GRD_IVS_SCAN_MASK) = [3] ∧ s.get GRD_IVS_STAT_STATE ≠ ivsSCANNING ∧
       chState s (ivsPc s) = chRUNNING ∧ s.get (PWM_CH_CFG_XFER (ivsPc s)) = 0 ∧ 10 ≤ s.get GRD_IVS_STEP_DWELL ∧ s.get GRD_IVS_STEP_DWELL ≤ 10000) ∧
    (isIvsDsp (ch 4 []) 8 = true ∧ ivsOwns (ch 4 []) (ivsPc (ch 4 [])) = false) ∧
    (let s := tick (iv [(GRD_IVS_STAT_STATE, ivsSCANNING), (GRD_IVS_STEP_DWELL, 10), (GRD_IVS_STEP_NM1, 0)]) 10000
     s.get GRD_IVS_STAT_STATE = ivsSCANNING ∧ s.ivs.waitXfer = false ∧ s.ivs.dwell + (ivsView s).dwell * 1000 ≤ s.T ∧
       ivsPoint (ivsResults s (ivsView s)) s.ivs.w = none ∧ s.ivs.step = (ivsView s).nm1 ∧ (tick s 9999).T < s.ivs.dwell + (ivsView s).dwell * 1000) ∧
    (let s := tick { iv [(GRD_IVS_STAT_STATE, ivsSCANNING), (GRD_IVS_STEP_DWELL, 10), (GRD_IVS_IN_VMIN 0, 6)] with
       ivs := { res := [⟨true, true, 5000, 5, false⟩, ⟨true, true, 4999, 9, true⟩, ⟨true, true, 10000, 9, true⟩] } } 10000
     ivsPoint (ivsResults s (ivsView s)) s.ivs.w = some ⟨80, 80, 0⟩ ∧ 80 < s.get (GRD_IVS_IN_VMIN s.ivs.leg) * 16) ∧
    (let v : ShSet := ⟨48000, [1, 0, 0, 0], [0, 0, 0, 0], [0, 0, 0, 0]⟩
     ({ iv [(GRD_IVS_STAT_STATE, ivsSCANNING)] with ivs := { pre := some v } } : State).ivs.pre = some v) ∧
    isIvsDsp (iv []) 9 = false := by decide
theorem wit_CeaseStopsGridChannels_more :
    (let s := { gr { actFrom := some 0 } [] with T := 1000000000 * 300 }
     gridLive (gridCause s causeACTIVE true) causeACTIVE = true ∧ (0 : Nat) + bits (pw s 4) 0 16 * 1000000000 ≤ s.T) ∧
    (let s := st [(AGG_CFG_ROLE, 1), (AGG_CFG_EN, 1)]; isMC 1 = true ∧ aggRole s ≠ 0) ∧ State.reset.grd.actFrom = none ∧
    (let s := gr { esFrom := some 1 } []; s.T < 1 + bits (pw s 4) 0 16 * 1000000000) := by decide
theorem wit_GridMonitorProfilesAndIslanding_more :
    (let s := st ((GRD_PROFILE_WORD 1 8, 1) :: (GRD_PROFILE_WORD 1 9, 65536) :: bank1 ++ [(GRD_PROFILE_WORD 1 1, 2 ^ 29), (GRD_PROFILE_WORD 1 7, 0x09010A01)])
     bankRanges s 1 = true ∧ bit (s.get (GRD_PROFILE_WORD 1 1)) 29 = true ∧ 89 < islBound s 1) ∧
    (let s := { st bank1 with ldg := { queue := List.replicate 24 ⟨0x0040, [], 0, 0, clsGRID, none⟩ } }
     bankRanges s 1 = true ∧ bit (s.get (GRD_PROFILE_WORD 1 1)) 29 = false ∧ gridChannelLive s = false ∧ ldgRoom s (profileRec s 1) = false) ∧
    (gr { committing := true } []).grd.committing = true ∧ gridLocked (gr { swap := true } []) = false ∧
    (let s := gr { inj := some (5, 0), injLate := some (7, 8) } []; s.grd.inj = some (5, 0) ∧ s.grd.injLate = some (7, 8)) ∧
    (let s := gr { resps := [(0, 0)] } [(GRD_PROFILE_WORD 0 9, 65536), (GRD_PROFILE_WORD 0 8, 1), (GRD_PROFILE_WORD 0 7, 0x100), (GRD_FREQ_F, 1000)]
     bits (pw s 9) 16 16 * 1000 ≤ s.get GRD_FREQ_F - 0 ∧ (0 < (s.get GRD_FREQ_F : Int)) = (0 < signed 32 (pw s 8)) ∧
       bits (pw s 7) 8 8 ≤ s.get GRD_STAT_ISL_CNT + 1) ∧ State.reset.grd.newPeriod = false ∧ grdReader State.reset 9 = false ∧
    (injPeriod State.reset = 0 ∧ actEn State.reset = false) := by decide

def sf (f : Saf) (t : Nat) : State := { State.reset with saf := f, T := t }
/-- Input 7: an STO input with test pulses and a discrepancy time of 1 ms; pulses of 10 us every 2 ms, blanking 20 us. -/
def ps7 : List Nat := [0, 0, 2 ^ 24 + 2 ^ 16 + 2] ++ List.replicate 8 0 ++ [2 ^ 30 + 2 ^ 22 + 1]
/-- Input 7: a RESET input of channels 0 and 1. -/
def psR : List Nat := List.replicate 11 0 ++ [3 * 2 ^ 30 + 3 * 2 ^ 26]
def sn (t : Nat) : Snap := ⟨t, false, true, [], [], 8, 0, 0, 0, 0, 0, 0, 0, 0, false⟩
theorem wit_SafetyDemandsWithdrawPermits :
    (let s := sf { started := true, snaps := [sn 7] } 500007
     s.saf.snaps = [sn 7] ∧ s.saf.started = true ∧ (sn 7).t + 500000 ≤ s.T ∧ bit (sn 7).sto 3 = true ∧ (sn 7).counted = true ∧
       s.get (SAF_CH_STAT_STATE 3) ≠ scRUN ∧ s.get (SAF_CH_STAT_STATE 3) ≠ scSS1 ∧ (tick s 500006).T < (sn 7).t + 500000 ∧ s.saf.activate = none) ∧
    State.reset.saf.started = false ∧ (st [(PWM_CH_STAT_STO_PERMIT 3, 1)]).flag (PWM_CH_STAT_STO_PERMIT 3) = true ∧
    (let s := sf { started := true, snaps := [sn 0], activate := some ps7 } 500000
     s.saf.snaps = [sn 0] ∧ s.saf.started = true ∧ (sn 0).t + 500000 ≤ s.T ∧ s.saf.activate = some ps7) ∧
    (let s := sf { started := true, snaps := [sn 0], changed := true, pset := ps7 } 500000
     s.saf.activate = none ∧ s.saf.changed = true ∧ s.saf.pset = ps7) ∧ State.reset.saf.activate = none := by decide
theorem wit_SafetyInputsAndMirrors :
    (let s := sf { delivered := true } 0; s.saf.delivered = true ∧ s.saf.started = false ∧ s.saf.failed = false ∧ State.reset.saf.delivered = false ∧
       ({ s.saf with failed := true } : Saf).failed = true) ∧
    (let s := (sf { started := true, pset := ps7, pulseA := some 0 } 20000).setSin 7 { a := true, b := true }
     s.saf.started = true ∧ inTP s.saf.pset 7 = true ∧ blanked s false = false ∧ blanked (tick s 19999) false = true ∧ blanked s true = false ∧
       filtTime (inFILT s.saf.pset 7) ≤ 500 ∧ 499 < filtTime (inFILT s.saf.pset 7) ∧ inFUNC s.saf.pset 7 = 1) ∧
    (let s := (sf { started := true, pset := psR } 50000001).setSin 7 { a := true, b := true, oneT := some 1 }
     s.saf.started = true ∧ inTP s.saf.pset 7 = false ∧ inFUNC s.saf.pset 7 = 3 ∧ (s.sin 7).oneT = some 1 ∧ 1 + 50000000 ≤ s.T ∧ s.T ≤ 1 + 3000000000 ∧
       (s.sin 7).code = 0 ∧ bit (inMASK s.saf.pset 7) 1 = true ∧ bit (inMASK s.saf.pset 7) 2 = false) ∧
    (let s := (sf { started := true, pset := ps7 } 1000001).setSin 7 { differ := some 0 }
     (s.sin 7).differ = some 0 ∧ s.saf.pset ≠ [] ∧ 0 + inDISC s.saf.pset 7 * 1000000 < s.T ∧ (tick s 1000000).T ≤ 0 + inDISC s.saf.pset 7 * 1000000) ∧
    State.reset.saf.pset = [] ∧
    (let s := sf { started := true, strapT := 1 } 100000001; s.saf.started = true ∧ s.saf.strapT + 100000000 ≤ s.T ∧ (tick s 100000000).T < s.saf.strapT + 100000000) ∧
    (let s := sf { pend := some [], confirmBy := 5 } 5; s.saf.pend = some [] ∧ s.saf.confirmBy ≤ s.T ∧ (tick s 4).T < s.saf.confirmBy) ∧
    State.reset.saf.pend = none ∧
    (let s := (sf {} (168 * 3600 * 1000000000)).setSch 3 { outT := some 0 }
     (s.sch 3).outT = some 0 ∧ 0 + 168 * 3600 * 1000000000 ≤ s.T ∧ (s.sch 3).dyn = false ∧ (s.sch 0).outT = none ∧ ({ dyn := true } : SafCh).dyn = true) ∧
    isMaster 1 = true ∧ isMaster 0 = false := by decide
theorem wit_SafetyInputsAndMirrors_pulses :
    (let s := sf { started := true, pset := ps7, snaps := [sn 2000000], pulseA := some 0 } 2000000
     s.saf.started = true ∧ (∃ k ∈ s.saf.snaps, k.t = s.T) ∧ s.saf.pulseA = some 0 ∧ 0 + s.tpPer ≤ s.T ∧ (tick s 1999999).T < 0 + s.tpPer ∧
       (tick s 1000000).T = 0 + s.tpPer / 2 ∧ s.T ≠ 0 + s.tpPer / 2 ∧ ∀ k ∈ (tick s 1000000).saf.snaps, k.t ≠ 1000000) ∧
    (let s := (sf { started := true, pset := ps7, pulseA := some 0 } 9000).setSin 7 { a := true, b := true }
     s.pulse false = some 0 ∧ s.T < 0 + s.tpW ∧ 0 + s.tpW ≤ s.T + 1000 ∧ s.pulsedOn false 7 = true ∧ (tick s 8999).T + 1000 < 0 + s.tpW ∧
       0 + s.tpW ≤ (tick s 10000).T ∧ (tick s 19999).T < 0 + s.tpBlank ∧ 0 + s.tpBlank ≤ (tick s 20000).T ∧ (tick s 20999).T < 0 + s.tpBlank + 1000 ∧
       0 + s.tpBlank + 1000 ≤ (tick s 21000).T ∧ s.pulse true = none) := by decide
theorem wit_SafetyInputsAndMirrors_snapshots :
    (let s := sf { started := true, first := true } 255000
     s.saf.started = true ∧ s.saf.lastT + (if s.saf.first then 255000 else 250000) ≤ s.T ∧ (tick s 254999).T < s.saf.lastT + (if s.saf.first then 255000 else 250000)) ∧
    (let s := sf { started := true } 250000; s.saf.lastT + (if s.saf.first then 255000 else 250000) ≤ s.T) ∧
    (bit (chWord [] 3 0) 14 = false ∧ bit (chWord (List.replicate 12 0 ++ [2 ^ 14]) 0 0) 14 = true) ∧
    (let p : SpcIn := { ta := some 1, tb := some 0 }; p.ta = some 1 ∧ (200 : Nat) < 1 + 200 ∧ 0 + 200 ≤ (200 : Nat) ∧ true ≠ p.a ∧ true ≠ p.b) := by decide

def crcOf (typ : Nat) (pl : List Byte) : BitVec 32 := BitVec.ofNat 32 (crc16 (leBytes 1 typ ++ leBytes 1 pl.length ++ pl))
/-- Satellite 31 with the given state at T = t. -/
def stick (s : State) (t : Nat) : State := { s with val := { s.val with now := t } }
def sa (x : Sat) (t : Nat) : State := stick (State.reset.setSat 31 x) t
theorem wit_SatelliteAnswersRequests : (sa { awake := true } 0).sat 31 = { awake := true } ∧
    (State.reset.sat 0).awake = false ∧
    frameValid 0x01 [1, 0] (crcOf 0x01 [1, 0]).toNat true = true ∧ frameValid 0x02 [0, 32] (crcOf 0x02 [0, 32]).toNat true = true ∧
    frameValid 0x02 [0, 0] (crcOf 0x02 [0, 0]).toNat true = true ∧
    frameValid 0x03 [4, 1, 0, 0] (crcOf 0x03 [4, 1, 0, 0]).toNat true = true ∧ frameValid 0x03 [7, 1, 0, 0] (crcOf 0x03 [7, 1, 0, 0]).toNat true = true ∧
    (let pl : List Byte := [3, 2, 0, 0, 0, 0]; frameValid 0x03 pl (crcOf 0x03 pl).toNat true = true ∧ ofLeBytes (pl.take 1) = 3 ∧
      ofLeBytes ((pl.drop 1).take 1) = 2 ∧ (satReg State.reset 0 3).isSome = true ∧ (satReg State.reset 0 4).isSome = true) ∧
    frameValid 0x04 [] (crcOf 0x04 []).toNat true = true ∧ (Sat.flags {}) < 8 ∧ bit (Sat.flags {}) 1 = false ∧
    frameValid 0x05 [1, 0] (crcOf 0x05 [1, 0]).toNat true = true ∧ (Sat.owdT {}) = none ∧ (Sat.owdT { owdT := some 3 }) = some 3 ∧
    frameValid 0x05 [2, 0] (crcOf 0x05 [2, 0]).toNat true = true ∧ frameValid 0x05 [3, 0] (crcOf 0x05 [3, 0]).toNat true = true ∧
    frameValid 0x00 [] (crcOf 0x00 []).toNat true = true ∧ frameValid 0x06 [] (crcOf 0x06 []).toNat true = true ∧
    frameValid 0x05 [4, 0] (crcOf 0x05 [4, 0]).toNat true = true ∧ frameValid 0x01 [1, 0] 0x10000 true = false := by decide +kernel
theorem wit_SatelliteEvents :
    (let x : Sat := { awake := true, win := some (7, 0, 0, true) }; let s := sa x 1044000
     (s.sat 31).awake = true ∧ (s.sat 31).win = some (7, 0, 0, true) ∧ 0 + (s.sat 31).delayT + (s.sat 31).convT ≤ s.satT ∧ (0 : Nat) < 1 ∧
       (stick s 1043999).satT < 0 + (s.sat 31).delayT + (s.sat 31).convT) ∧
    (let x : Sat := { awake := true, owdT := some 0 }; let s := sa x (10 ^ 9)
     (s.sat 31).owdT = some 0 ∧ 0 + 2 * (s.sat 31).convT + wrap 8 (s.sat 31).owCfg * 500000 ≤ s.satT ∧ (stick s 1).satT < 0 + 2 * (s.sat 31).convT + wrap 8 (s.sat 31).owCfg * 500000) ∧
    (let s := sa { awake := true } 1800000000; (s.sat 31).awake = true ∧ (s.sat 31).frameT + 1800000000 ≤ s.satT ∧ (stick s 1799999999).satT < (s.sat 31).frameT + 1800000000) ∧
    (let s := sa { awake := true } 10000000000; (s.sat 31).balT + bits (s.sat 31).balCfg 8 8 * 1000000000 ≤ s.satT ∧
       (stick s 9999999999).satT < (s.sat 31).balT + bits (s.sat 31).balCfg 8 8 * 1000000000 ∧ (s.sat 31).dieAt + 100000000 ≤ s.satT ∧
       (stick s 99999999).satT < (s.sat 31).dieAt + 100000000 ∧ (s.sat 31).lim = false) ∧
    (let s := sa { awake := true, lim := true } 1000000000; (s.sat 31).awake = true ∧ (s.sat 31).lim = true ∧ (s.sat 31).altT + 1000000000 ≤ s.satT ∧
       (stick s 999999999).satT < (s.sat 31).altT + 1000000000) ∧
    ((State.reset.sat 0).awake = false ∧ (15 : BitVec 4) ≠ 0) := by decide +kernel
def vs (x : Option ValSet) (l : List (Fld × Nat)) : State := let s := st ((VAL_CFG_EN, 1) :: l); { s with val := { s.val with set := x } }
def vst : ValSet := { trigT := 0, sw := true, seq := 1 }
theorem wit_SampleSetRuns :
    (isMC 1 = true ∧ isMC 0x80 = false ∧ valOn (vs none []) = true ∧ (vs none []).val.set = none ∧ (vs (some vst) []).val.set.isSome = true ∧ valOn State.reset = false) ∧
    (let s := tick (vs (some vst) [(VAL_PORT_STAT_STATE 31, vpACTIVE)]) 100
     s.val.set = some vst ∧ vst.syncT = none ∧ vst.trigT + 100 ≤ s.T ∧ ports.any (inFlight s) = false ∧ vstate s 31 = vpACTIVE ∧ vstate s 0 ≠ vpACTIVE ∧
       (tick s 99).T < vst.trigT + 100) ∧
    (let v : ValSet := { vst with syncT := some 0 }; let s := tick ((vs (some v) []).setVport 31 { inSet := true }) (10 ^ 8)
     s.val.set = some v ∧ v.syncT = some 0 ∧ v.got = false ∧ 0 + delayNs (s.get VAL_SCFG0_SDELAY) + convNs (s.get VAL_SCFG0_CONV) + 20000 ≤ s.T ∧
       ports.any (fun p => (s.vport p).inSet) = true ∧ (s.vport 31).inSet = true ∧ (s.vport 0).inSet = false ∧
       (tick s 0).T < 0 + delayNs (s.get VAL_SCFG0_SDELAY) + convNs (s.get VAL_SCFG0_CONV) + 20000) ∧
    (let x : Xchg := ⟨xkSET, [4], 0, 0⟩; let s := (vs (some vst) [(VAL_LINK_RETRY, 1)]).setVport 31 { x := some x, inSet := true }
     let pl : List Byte := [0, 0, 1] ++ List.replicate 57 0
     (s.vport 31).x = some x ∧ x.kind = xkSET ∧ s.val.set = some vst ∧ frameValid 0x84 pl (crcOf 0x84 pl).toNat true = true ∧ bit (ofLeBytes (pl.take 2)) 15 = false ∧
       ofLeBytes ((pl.drop 2).take 2) = wrap 16 vst.seq ∧ x.tries < s.get VAL_LINK_RETRY ∧ frameValid 0x84 [] 0 true = false) ∧
    (let x : Xchg := ⟨xkSET, [4], 0, 0⟩; let pl : List Byte := List.replicate 60 0
     frameValid 0x84 pl (crcOf 0x84 pl).toNat true = true ∧ ofLeBytes ((pl.drop 2).take 2) ≠ wrap 16 vst.seq ∧
       let s := tick ((vs (some vst) [(VAL_LINK_RETRY, 1), (VAL_LINK_RESP_TMO, 1)]).setVport 0 { x := some x }) 1000
       (s.vport 0).x = some x ∧ x.endT + s.get VAL_LINK_RESP_TMO * 1000 ≤ s.T ∧ x.tries < s.get VAL_LINK_RETRY ∧ (tick s 999).T < x.endT + s.get VAL_LINK_RESP_TMO * 1000) ∧
    (let x : Xchg := ⟨xkSET, [4], 0, 1⟩; let s := (vs (some vst) [(VAL_LINK_RETRY, 1), (VAL_LINK_RESP_TMO, 0), (VAL_PORT_CFG_EN 0, 1)]).setVport 0 { x := some x }
     (s.vport 0).x = some x ∧ x.endT + s.get VAL_LINK_RESP_TMO * 1000 ≤ s.T ∧ s.get VAL_LINK_RETRY ≤ x.tries ∧ (s.vport 0).code ≠ 0 ∧ s.flag (VAL_PORT_CFG_EN 0) = true) ∧
    (let v : ValSet := { vst with got := true }; let s := vs (some v) [(VAL_BUF_EN, 1), (MEM_SP_TAG_TAG 0, 0x90)]
     s.val.set = some v ∧ v.got = true ∧ ports.any (fun p => (s.vport p).inSet) = false ∧ s.flag VAL_BUF_EN = true ∧ slotAddr s v.slot < 0x1400000 ∧
       tagAdmits (s.get (MEM_SP_TAG_TAG (slotAddr s v.slot / 4096))) reqVal = true ∧ s.memSt.bad = []) ∧ vst.got = false := by decide +kernel
theorem wit_ValoloPorts :
    (let v := 2 ^ 31 + 7 * 2 ^ 20; let s := vs none []
     isMC 1 = true ∧ valFree s = true ∧ vstate s 31 = vpOFF ∧ valOn s = true ∧ s.val.set = none ∧ bit v 31 = true ∧ 7 ≤ bits v 20 4) ∧
    (let s := vs none [(VAL_PORT_STAT_STATE 0, vpSLEEP)]; valFree s = false ∧ vstate s 0 ≠ vpACTIVE ∧ bit 0x100000 31 = false ∧ bits 0x100000 20 4 ≠ s.get (VAL_PORT_CFG_NCELL 0)) ∧
    (let s := vs none [(VAL_PORT_STAT_STATE 0, vpACTIVE), (VAL_OWD_MASK_PORTS, 1)]; vstate s 0 = vpACTIVE ∧ bit (s.get VAL_OWD_MASK_PORTS) 0 = true ∧ s.val.set = none ∧
       (s.vport 0).x = none ∧ (s.vport 0).sleepGo = false ∧ vstate s 1 ≠ vpACTIVE ∧ valCmdPt s 1 = false ∧ valCmdPt (vs none [(VAL_CFG_CMD_PT_EN, 1)]) 0x10 = true) ∧
    (let x : Xchg := ⟨xkBURST, [], 0, 0⟩; let s := tick ((vs none [(VAL_PORT_STAT_STATE 31, vpWAKING)]).setVport 31 { x := some x }) 2500000
     vstate s 31 = vpWAKING ∧ s.val.set = none ∧ (s.vport 31).x = some x ∧ x.kind = xkBURST ∧ x.endT + 2500000 ≤ s.T ∧ vstate s 0 ≠ vpWAKING) ∧
    (let x : Xchg := ⟨xkWAKE, [], 0, 0⟩; let pl : List Byte := [0, 0, 1, 0, 0, 0, 0, 0, 0, 0]
     let s := (vs none [(VAL_PORT_STAT_STATE 31, vpWAKING), (VAL_PORT_CFG_EN 31, 1), (VAL_PORT_EXPID_ID 31, 2)]).setVport 31 { x := some x, step := 1 }
     (s.vport 31).x = some x ∧ x.kind = xkWAKE ∧ frameValid 0x82 pl (crcOf 0x82 pl).toNat true = true ∧ vstate s 31 = vpWAKING ∧ s.flag (VAL_PORT_CFG_EN 31) = true ∧
       (s.vport 31).step = 1 ∧ pl.length = 10 ∧ s.get (VAL_PORT_EXPID_ID 31) ≠ 0 ∧ s.get (VAL_PORT_EXPID_ID 31) ≠ ofLeBytes ((pl.drop 2).take 4)) ∧
    (let x : Xchg := ⟨xkWAKE, [], 0, 0⟩; let s := (vs none [(VAL_PORT_STAT_STATE 0, vpWAKING), (VAL_PORT_CFG_EN 0, 1)]).setVport 0 { x := some x, step := 4 }
     let pl : List Byte := [0, 0] ++ words16 (cfgWords s 0)
     (s.vport 0).step = 4 ∧ pl.length = 8 ∧ (List.range 3).map (fun i => ofLeBytes ((pl.drop (2 + 2 * i)).take 2)) = cfgWords s 0 ∧ bit (ofLeBytes (pl.take 2)) 15 = false ∧
       frameValid 0x82 pl (crcOf 0x82 pl).toNat true = true) := by decide +kernel
theorem wit_ValoloPorts_exchanges :
    (let x : Xchg := ⟨xkACC, [], 0, 0⟩; let s := (vs none [(VAL_PORT_STAT_STATE 0, vpACTIVE), (VAL_PORT_ACC_GO_BUSY 0, 1)]).setVport 0 { x := some x }
     (s.vport 0).x = some x ∧ vstate s 0 = vpACTIVE ∧ x.kind = xkACC ∧ s.flag (VAL_PORT_ACC_WRITE 0) = false ∧ frameValid 0x82 [0, 0, 5, 0] (crcOf 0x82 [0, 0, 5, 0]).toNat true = true ∧
       s.flag (VAL_PORT_ACC_GO_BUSY 0) = true ∧ frameValid 0xFF [0, 0, 2, 2] (crcOf 0xFF [0, 0, 2, 2]).toNat true = true ∧
       frameValid 0x83 [0, 0] (crcOf 0x83 [0, 0]).toNat true = true ∧ frameValid 0x85 [0, 0] (crcOf 0x85 [0, 0]).toNat true = true ∧ (s.vport 0).off = false ∧
       (vs none [(VAL_PORT_ACC_WRITE 0, 1)]).flag (VAL_PORT_ACC_WRITE 0) = true) ∧
    (let pl : List Byte := [0, 0x10, 1, 0, 1, 0]; pl.length = 6 ∧ bit (ofLeBytes (pl.take 2)) 12 = true ∧ bit (ofLeBytes (pl.take 2)) 15 = false ∧
       frameValid 0x82 pl (crcOf 0x82 pl).toNat true = true) ∧
    (frameValid 0x82 [0, 0x80, 0, 0] (crcOf 0x82 [0, 0x80, 0, 0]).toNat true = true ∧ bit (ofLeBytes (([0, 0x80, 0, 0] : List Byte).take 2)) 15 = true) ∧
    ((State.reset.vport 31).x = none ∧ bit (2 ^ 31) 31 = true ∧ bit (2 ^ 31) 30 = false ∧ bit (3 * 2 ^ 30 + 6 * 65536) 30 = true ∧ bits (3 * 2 ^ 30 + 6 * 65536) 16 8 = 6) ∧
    (let s := tick ((vs none [(VAL_PORT_STAT_STATE 0, vpACTIVE)]).setVport 0 { owdAt := some 5 }) 5
     (s.vport 0).owdAt = some 5 ∧ 5 ≤ s.T ∧ (s.vport 0).x = none ∧ s.val.set = none ∧ vstate s 0 = vpACTIVE ∧ (tick s 4).T < 5) ∧
    (let s := tick (vs none [(VAL_PORT_STAT_STATE 0, vpACTIVE)]) 500000000; (s.vport 0).lastT + 500000000 ≤ s.T ∧ (tick s 499999999).T < (s.vport 0).lastT + 500000000) ∧
    (let s := tick (vs none [(VAL_PORT_STAT_STATE 0, vpFAULT), (VAL_LINK_AUTO_REC, 1), (VAL_PORT_CFG_NCELL 0, 7)]) 1000000000
     vstate s 0 = vpFAULT ∧ s.flag VAL_LINK_AUTO_REC = true ∧ (s.vport 0).faultT + 1000000000 ≤ s.T ∧ 7 ≤ s.get (VAL_PORT_CFG_NCELL 0) ∧
       (tick s 999999999).T < (s.vport 0).faultT + 1000000000) := by decide +kernel
theorem wit_SatelliteAnswersRequests_more :
    (let pl : List Byte := [4, 2, 0, 0]; frameValid 0x03 pl (crcOf 0x03 pl).toNat true = true ∧ pl.length ≠ 2 + 2 * 2) ∧
    (let pl : List Byte := [0xFF, 1, 0, 0]; frameValid 0x03 pl (crcOf 0x03 pl).toNat true = true ∧ pl.length = 2 + 2 * 1 ∧ satReg State.reset 0 0xFF = none) ∧
    (let pl : List Byte := [8, 1, 0, 0]; frameValid 0x03 pl (crcOf 0x03 pl).toNat true = true ∧ (8 : Nat) < 8 + 1 ∧ (satReg State.reset 0 8).isSome = true) ∧
    (frameValid 0x05 [0, 0] (crcOf 0x05 [0, 0]).toNat true = true ∧ ([0, 0] : List Byte) ≠ [1, 0]) ∧ frameValid 0x05 [1, 1] (crcOf 0x05 [1, 1]).toNat true = true := by
  decide +kernel
theorem wit_SampleSetRuns_more :
    (let s := tick ((vs (some vst) [(VAL_PORT_STAT_STATE 31, vpACTIVE)]).setVport 31 { idleT := 250 }) 250
     s.val.set = some vst ∧ vst.syncT = none ∧ vst.trigT + 100 ≤ s.T ∧ s.T % 250 = 0 ∧ ports.any (inFlight s) = false ∧ vstate s 31 = vpACTIVE ∧
       (s.vport 31).idleT ≤ s.T ∧ (∀ p < 31, vstate s p ≠ vpACTIVE) ∧ (tick s 249).T < (s.vport 31).idleT ∧ (tick s 251).T % 250 ≠ 0) ∧
    (let v : ValSet := { vst with syncT := some 0 }; let s := tick (vs (some v) []) (10 ^ 8)
     s.val.set = some v ∧ v.got = false ∧ 0 + delayNs (s.get VAL_SCFG0_SDELAY) + convNs (s.get VAL_SCFG0_CONV) + 20000 ≤ s.T ∧
       ports.any (fun p => (s.vport p).inSet) = false) ∧
    (let s := vs none [(VAL_BUF_NSETS, 3), (VAL_SET_IDX_NEXT, 4)]; s.get VAL_BUF_NSETS < s.get VAL_SET_IDX_NEXT) ∧
    (let x : Xchg := ⟨xkBURST, [], 9, 0⟩; x.kind = xkBURST) := by decide +kernel
theorem wit_ValoloPorts_more :
    (let s := vs none [(VAL_PORT_STAT_STATE 31, vpACTIVE)]; vstate s 31 = vpACTIVE ∧ s.val.set = none ∧ (s.vport 31).x = none ∧ valOn s = true ∧
       valOn (s.put VAL_CFG_EN 0) = false ∧ vstate (s.put VAL_CFG_EN 0) 31 = vpACTIVE) ∧
    (let s := (vs none [(VAL_PORT_STAT_STATE 0, vpWAKING)]).setVport 0 { step := 3, stepT := 0 }
     vstate s 0 = vpWAKING ∧ (s.vport 0).x = none ∧ (s.vport 0).stepT ≤ s.T ∧ (s.vport 0).step = 3 ∧
       ((s.setVport 0 { step := 2 }).vport 0).step = 2 ∧ ((s.setVport 0 { step := 4, stepT := 1 }).vport 0).step = 4 ∧ s.T < ((s.setVport 0 { step := 4, stepT := 1 }).vport 0).stepT) ∧
    (valCmdPt State.reset 0x81 = false ∧ (vs none [(VAL_PORT_ACC_GO_BUSY 0, 1)]).flag (VAL_PORT_ACC_GO_BUSY 0) = true ∧ bits (4 * 65536) 16 8 = 4 ∧
       bits (3 * 65536) 16 8 < 4 ∧ 6 < bits (7 * 65536) 16 8) ∧
    (let x : Xchg := ⟨xkKEEP, [], 0, 0⟩; x.kind ≠ xkBURST ∧ x.kind ≠ xkWAKE) ∧ ((vs none [(VAL_PORT_CFG_EN 0, 1)]).flag (VAL_PORT_CFG_EN 0) = true) ∧
    ((vs none []).setVport 0 { owdAt := some 5 }).T < 5 ∧ (vs none []).flag VAL_LINK_AUTO_REC = false := by decide +kernel

/-- Ring 0 RUNNING with kind `k` on instance `i`, holding the descriptors `d`. -/
def rg (k i : Nat) (d : List Desc) (l : List (Fld × Nat)) : State :=
  let s := st ([(HIF_RING_CTX0_KIND 0, k), (HIF_RING_CTX0_INST 0, i), (HIF_RING_CTX7_STATE 0, rsRUNNING)] ++ l)
  { s with hif := { s.hif with ring := [(0, { descs := d })], bme := [(i, true)] } }
/-- A formed descriptor of length `n`. -/
def ds0 (n : Nat) : Desc := { seq := 0, w := [0, 0, n, 0, 0, 0, 0, 0], formed := true }
theorem msgAt_of (s : State) (d : Desc) (len want : Nat) (pl : List Byte)
    (h : (msgItem s 0 == some d && len == pl.length && len == want && d.len == 8 + len) = true) : MsgAt s 0 d len want pl := by
  simp only [Bool.and_eq_true, beq_iff_eq] at h
  exact ⟨h.1.1.1, h.1.1.2, h.1.2, h.2⟩
def sess (l : List Session) (s : State) : State := { s with sec := { s.sec with sessions := l } }
def chl (c : Chal) (s : State) : State := { s with sec := { s.sec with chal := [(0, some c)] } }
def ch0 (m : Nat) : Chal := ⟨3, m, 0, 7, [], 30⟩
def ses (k : Nat) : Session := ⟨k, 0, 5, 0⟩
/-- A SECURITY ring at a message of `n` payload bytes, IDLE_MIN 10, with one session of kind `k` and SESSION 5. -/
def sq (n k : Nat) (l : List (Fld × Nat)) : State := sess [ses k] (rg rkSECURITY 0 [ds0 (8 + n)] ((SEC_SESS_IDLE_MIN, 10) :: l))
theorem wit_SessionsOpenAndClose :
    MsgAt (sq 4 1 []) 0 (ds0 12) 4 4 [0, 0, 0, 0] ∧
    (let s := sq 4 1 []; ringInst s 0 = 0 ∧ ringInst (rg rkSECURITY 127 [ds0 12] []) 0 ≠ 0 ∧ s.flag SEC_STAT_TAMPER_LOCK = false ∧
       (sq 4 1 [(SEC_STAT_TAMPER_LOCK, 1)]).flag SEC_STAT_TAMPER_LOCK = true ∧ kindLocked s 0 = false ∧
       kindLocked { s with sec := { s.sec with lockT := [(0, 5)] } } 0 = true ∧ s.sec.sessions.any (fun x => x.kind == 1) = true ∧
       s.sec.sessions.any (fun x => x.kind == 0) = false ∧ (slotKey { s with sec := { s.sec with slots := [(15, (1, []))] } } 15 0).isSome = true) ∧
    MsgAt (chl (ch0 1) (sq 32 1 [])) 0 (ds0 40) 32 32 (List.replicate 32 0) ∧
    (let s := chl (ch0 1) (sq 32 1 []); s.sec.chal.get none 0 = some (ch0 1) ∧ s.T < (ch0 1).expires ∧ (ch0 1).expires ≤ (tick s 30).T ∧ ldgOpen s = true ∧
       proofOk s (ch0 1) 0 (List.replicate 32 0) = false ∧ (ch0 1).value ≠ 8) ∧
    (let s := chl (ch0 1) (sq 32 1 []); let k := { s with sec := { s.sec with pw := some ([], 0, []) } }
     proofOk k (ch0 1) 0 (fixBytes 32 (Config.hmac [] (proofText (ch0 1) 0))) = true ∧
       MsgAt k 0 (ds0 40) 32 32 (fixBytes 32 (Config.hmac [] (proofText (ch0 1) 0)))) ∧
    MsgAt (sq 0 1 []) 0 (ds0 8) 0 0 [] ∧
    (let s := sq 0 1 []; s.sec.sessions.find? (fun y => y.value == 5 && y.inst == ringInst s 0 && !expired s y) = some (ses 1) ∧ ldgOpen s = true ∧
       s.sec.sessions.any (fun y => y.value == 6 && y.inst == ringInst s 0 && !expired s y) = false ∧ expired (tick s 600000000000) (ses 1) = true ∧
       expired (tick s 599999999999) (ses 1) = false ∧ ses 1 ∈ s.sec.sessions) ∧
    ((rg rkSECURITY 0 [ds0 8] []).ring 0).descs.find? (fun e => e.seq == 0 && e.done.isNone) = some (ds0 8) := by
  refine ⟨msgAt_of _ _ _ _ _ (by decide), by decide, msgAt_of _ _ _ _ _ (by decide), by decide, ?_, msgAt_of _ _ _ _ _ (by decide), by decide, by decide⟩
  refine ⟨by simp [proofOk, ch0], ?_⟩
  have h : (fixBytes 32 (Config.hmac [] (proofText (ch0 1) 0))).length = 32 := by simp [fixBytes]; omega
  exact ⟨rfl, h.symm, rfl, rfl⟩
/-- Whether entry `i` of `recordMsgs` is a message of this payload that is allowed in `s`. -/
def asked (s : State) (pl : List Byte) (i : Nat) : Bool :=
  match (recordMsgs s 0 5 (BitVec.ofNat 16 pl.length) pl)[i]? with
  | some e => e.2.want == pl.length && e.2.ok && sessionOpen s 0 5 e.2.gate
  | none => false
/-- A parameter set that uses no input and no channel, at the lowest values of its ranges; it passes every check on reset straps. -/
def psOk : List Nat :=
  let p := [1, 65536, 10 * 2 ^ 24 + 20, 0] ++ List.replicate 8 (2 ^ 22 + 10) ++
    (List.replicate 4 [65536, 0, 1, 0, 1, 1, 1, 65536, 0, 0, 0, 0]).flatten ++ [0, 0, 0]
  p ++ [psCrc p]
def psPl : List Byte := psOk.flatMap (leBytes 4)
set_option maxRecDepth 100000 in
theorem wit_SecurityRecordsCommit :
    (msgItem State.reset 0 = none ∧ msgItem (sq 4 1 []) 0 = some (ds0 12) ∧ (4 : Nat) ≠ (ds0 13).len) ∧
    (MsgAt (sq 4 1 []) 0 (ds0 12) 4 4 [1, 0, 0, 0] ∧ sessionOpen (sq 4 1 []) 0 6 1 = false) ∧
    (asked (sq 68 1 []) (List.replicate 68 0) 0 = true ∧ asked (sq 52 1 []) (List.replicate 16 0 ++ [0x10, 0x27] ++ List.replicate 34 0) 1 = true ∧
      asked (sq 4 1 []) [1, 0, 0, 0] 2 = true ∧ asked (sq 4 1 []) [60, 0, 0, 0] 2 = true ∧ asked (sq 4 1 []) [0, 0, 0, 0] 3 = true ∧ asked (sq 0 1 []) [] 4 = true ∧
      asked (sq 20 1 [(TSP_SRC_CFG_KIND 1, kindWHEEL)]) [0, 1, 0, 1, 1, 0, 0, 0, 1, 0, 0, 0, 1, 0, 0, 0, 0, 0, 0, 0] 5 = true ∧
      (let s := sq 0 1 []; asked { s with sec := { s.sec with slots := [(0, (2, []))], pw := some ([], 0, []) } } [] 6 = true) ∧
      asked (sq 4 0 []) [0, 0, 0, 0] 7 = true ∧ asked (sq 0 0 []) [] 8 = true ∧ asked (sq 0 0 [(BOOT_STAGE_RESTRICTED, 1)]) [] 9 = true) ∧
    (ldgOpen (sq 0 1 []) = true ∧ ldgOpen { sq 0 1 [] with ldg := { queue := List.replicate 32 ⟨0, [], 0, 0, 0, none⟩ } } = false) ∧
    (MsgAt (sq 256 2 []) 0 (ds0 264) 256 256 psPl ∧ sessionOpen (sq 256 2 []) 0 5 skSAFETY = true ∧ psetCheck (sq 256 2 []) (wordsOf 64 psPl) = 0) ∧
    (MsgAt { sq 4 2 [] with saf := { pend := some [], confirmBy := 1 } } 0 (ds0 12) 4 4 [0, 0, 0, 0] ∧ ofLeBytes [0, 0, 0, 0] = psWord [] 63 ∧ ofLeBytes [1, 0, 0, 0] ≠ psWord [] 63) ∧
    (MsgAt (sq 0 1 [(SEC_STAT_LIFECYCLE, 1)]) 0 (ds0 8) 0 0 [] ∧ sessionOpen (sq 0 1 []) 0 5 skWORKSHOP = true ∧ sessionOpen (sq 0 2 []) 0 5 skWORKSHOP = false ∧
      isProduction (sq 0 1 [(SEC_STAT_LIFECYCLE, 1)]) = true) ∧
    (let q : LdgReq := ⟨0, [], 0, 0, 0, some ⟨afterMSG, [0, 0, 2, 7, 0, 0, rsOK, 1, 7]⟩⟩; let s := { State.reset with ldg := { busy := some (q, ⟨0, 1, 0, [], []⟩) } }
     s.ldg.busy = some (q, ⟨0, 1, 0, [], []⟩) ∧ q.after = some { code := afterMSG, args := [0, 0, 2, 7, 0, 0, rsOK] ++ [1, 7] } ∧ (2 : Nat) ≠ 0x31 ∧
       s.sec.sessions.any (fun x => x.kind == 1) = false ∧ (sq 0 1 []).sec.sessions.any (fun x => x.kind == skWORKSHOP && x.value == 5) = true) := by
  refine ⟨by decide, ⟨msgAt_of _ _ _ _ _ (by decide), by decide⟩, by decide +kernel, by decide, ⟨msgAt_of _ _ _ _ _ (by decide +kernel), by decide +kernel, by decide +kernel⟩,
    ⟨msgAt_of _ _ _ _ _ (by decide), by decide, by decide⟩, ⟨msgAt_of _ _ _ _ _ (by decide), by decide, by decide, by decide⟩, by decide⟩
theorem eraseDups_of_nodup : ∀ l : List Nat, l.Nodup → l.eraseDups = l
  | [], _ => rfl
  | a :: t, h => by
    rw [List.eraseDups_cons, List.filter_eq_self.2, eraseDups_of_nodup t (List.nodup_cons.1 h).2]
    intro b hb; have := (List.nodup_cons.1 h).1; simp only [Bool.not_eq_true', beq_eq_false_iff_ne]; intro e; exact this (e ▸ hb)
/-- One record in each block, in one block more than there are. -/
def fullLedger (c : Nat) : State :=
  { State.reset with ldg := { recs := (List.range (Config.ledgerBlocks + 1)).map (fun k => ⟨k * 128, k + 1, 0, [], []⟩), ckpt := c } }
theorem fullLedger_free (c : Nat) : freeBlocks (fullLedger c).ldg < 2 := by
  have h : usedBlocks (fullLedger c).ldg = List.range (Config.ledgerBlocks + 1) := by
    simp only [usedBlocks, fullLedger, List.map_map, Nat.zero_mod, if_true, List.append_nil]
    rw [show ((fun r : LdgRec => r.slot / 128) ∘ fun k => (⟨k * 128, k + 1, 0, [], []⟩ : LdgRec)) = id from funext (fun k => Nat.mul_div_cancel k (by decide)),
      List.map_id, eraseDups_of_nodup _ List.nodup_range]
  simp only [freeBlocks, h, List.length_range]; omega
def lr (l : Ldg) (f : List (Fld × Nat)) : State := { st f with ldg := l }
theorem wit_LedgerCommitsAndPrunes :
    (let q : LdgReq := ⟨1, [], 0, 0, 0, none⟩; let s := lr { queue := [q] } [(LDG_STAT_FLASH_OK, 1)]
     s.ldg.queue = [q] ∧ s.ldg.busy = none ∧ s.flag LDG_STAT_FLASH_OK = true ∧ slotFree s.ldg = true ∧ s.ldg.headSeq - s.ldg.ckpt < 255 ∧ q.typ ≠ rtCHECKPOINT ∧
       255 ≤ (lr { queue := [q], headSeq := 255 } []).ldg.headSeq - (lr { queue := [q], headSeq := 255 } []).ldg.ckpt ∧ State.reset.ldg.busy = none) ∧
    (let q : LdgReq := ⟨1, [], 0, 0, 0, none⟩; let s := lr { busy := some (q, ⟨0, 1, 1, [], []⟩) } []
     s.ldg.busy = some (q, ⟨0, 1, 1, [], []⟩) ∧ q.after = none ∧ s.ldg.busy.isSome = true) ∧
    (let q : LdgReq := ⟨1, [], 0, 0, 0, some ⟨afterPRUNE, [0]⟩⟩; let s := lr { busy := some (q, ⟨0, 1, 1, [], []⟩) } []
     s.ldg.busy = some (q, ⟨0, 1, 1, [], []⟩) ∧ q.after = some { code := afterPRUNE, args := [0] } ∧
       (s.ldg.recs ++ ([⟨0, 1, 1, [], []⟩] : List LdgRec)).any (fun x => x.slot / 128 == 0) = true) ∧
    (let r : LdgRec := ⟨0, 1, 1, [], []⟩; let d : Desc := { ds0 512 with w := [0, 0, 512, 0, 1, 0, 1, 5] }
     let s := sess [ses 3] { rg rkLEDGER 0 [d] [(SEC_SESS_IDLE_MIN, 10)] with ldg := { recs := [r] } }
     nextItem s 0 rkLEDGER = some [d] ∧ (slotImages s (d.kw 0 + d.kw 1 * 2 ^ 32) (d.kw 2)).isSome = true ∧ slotImages State.reset 1 1 = none ∧
       sessionOpen s 0 (d.kw 3) skLEDGER = true ∧ sessionOpen (sess [] s) 0 (d.kw 3) skLEDGER = false ∧ nextItem State.reset 0 rkLEDGER = none) := by decide
theorem wit_LedgerCommitsAndPrunes_blocks :
    (∀ c, freeBlocks (fullLedger c).ldg < 2 ∧ (fullLedger c).ldg.queue.any (fun q => (q.after.map (·.code)) == some afterPRUNE) = false ∧ (fullLedger c).ldg.ckpt = c ∧
      ∃ r l, (fullLedger c).ldg.recs = r :: l) ∧ (3 ≤ Config.ledgerBlocks → 2 ≤ freeBlocks State.reset.ldg) := by
  refine ⟨fun c => ⟨fullLedger_free c, rfl, rfl, ?_⟩, fun h => ?_⟩
  · simp only [fullLedger]; rw [List.range_succ_eq_map, List.map_cons]; exact ⟨_, _, rfl⟩
  · have e : usedBlocks State.reset.ldg = [] := by decide
    simp only [freeBlocks, e, List.length_nil]; omega
def od (c : Option OdoCfg) (l : List (List Byte)) (s : State) : State := { s with sec := { s.sec with odo := { s.sec.odo with cfg := c, recs := l } } }
theorem wit_TamperAndMotionEvidence :
    (let s := st [(SEC_TAMPER_CFG_EN, 255), (SEC_TAMPER_CFG_RESP, 0x8000)]
     bit (s.get SEC_TAMPER_CFG_EN) 7 = true ∧ tamperResp s 7 = respERASE ∧ tamperResp s 0 = respLOG ∧ respLOCK ≤ tamperResp s 5 ∧ tamperResp s 0 ≠ respERASE ∧
       ({ s with aon := { parked := true } } : State).aon.parked = true) ∧
    bit (State.reset.get SEC_TAMPER_CFG_EN) 0 = false ∧ State.reset.aon.parked = false ∧
    (let c : OdoCfg := ⟨7, 0, 0, 1, 1, 1, 1, 0⟩; let s := od (some c) [] State.reset
     s.sec.odo.cfg = some c ∧ c.srcA < 8 ∧ 1 ≤ c.win ∧ 0 ≤ s.sec.odo.remA ∧ s.sec.odo.remA < 2 ^ 32 ∧ srcState s c.srcA ≠ srcTRACKING ∧
       srcState s c.srcA ≠ srcFOLLOWING ∧ s.flag SEC_ODO_STAT_DISAGREE = false) ∧
    (let s := od none [[1]] State.reset; s.sec.odo.recs = [[1]] ∧ s.flag INS_MOTION_VALID = false) ∧
    (let s := od none [[1]] (rg rkTELEMETRY 0 [ds0 64] [(INS_MOTION_VALID, 1), (INS_MOTION_RING_VALID, 1)])
     s.flag INS_MOTION_VALID = true ∧ s.flag INS_MOTION_RING_VALID = true ∧ nextItem s (s.get INS_MOTION_RING_RING) rkTELEMETRY = some [ds0 64]) ∧
    State.reset.sec.odo.recs = [] := by decide
theorem wit_SessionsOpenAndClose_refusals :
    MsgAt (sq 4 0 []) 0 (ds0 12) 4 4 [1, 0, 0, 0] ∧ MsgAt (sq 4 0 []) 0 (ds0 12) 4 4 [2, 1, 0, 0] ∧
    (let s := sq 4 0 []; s.sec.sessions.any (fun x => x.kind == 1) = false ∧ s.sec.sessions.any (fun x => x.kind == skWORKSHOP && x.inst == 0) = false ∧
       s.sec.sessions.any (fun x => x.kind == 0) = true ∧ s.sec.pw.isNone = true ∧ (slotKey s 0 0).isNone = true ∧ s.flag SEC_STAT_TAMPER_LOCK = false ∧
       kindLocked s 1 = false ∧ State.reset.sec.chal.get none 0 = none) ∧
    (let s := sess [ses 1] { sq 4 0 [] with sec := { slots := [(15, (2, []))], pw := some ([], 0, []) } }
     (slotKey s 15 1).isNone = false ∧ kindLocked s 1 = false ∧ kindLocked { s with sec := { s.sec with lockT := [(0, 5)] } } 0 = true) ∧
    MsgAt (sq 32 1 []) 0 (ds0 40) 32 (if (32 : Nat) = 32 then 32 else 64) (List.replicate 32 0) := by
  exact ⟨msgAt_of _ _ _ _ _ (by decide), msgAt_of _ _ _ _ _ (by decide), by decide, by decide, msgAt_of _ _ _ _ _ (by decide)⟩
theorem wit_SecurityRecordsCommit_more :
    (MsgAt (sq 4 2 []) 0 (ds0 12) 4 4 [0, 0, 0, 0] ∧ (sq 4 2 []).saf.pend = none ∧ sessionOpen (sq 4 2 []) 0 5 skSAFETY = true ∧
      sessionOpen (sq 4 2 []) 0 6 skSAFETY = false) ∧ sessionOpen (sq 0 0 []) 0 5 skWORKSHOP = false ∧
    (let s := { sq 0 1 [] with ldg := { queue := List.replicate 32 ⟨0, [], 0, 0, 0, none⟩ } }
     sessionOpen s 0 5 skWORKSHOP = true ∧ ldgOpen s = false) :=
  ⟨⟨msgAt_of _ _ _ _ _ (by decide), by decide, by decide, by decide⟩, by decide, by decide⟩
theorem wit_LedgerCommitsAndPrunes_idle :
    (let s := lr {} [(LDG_STAT_FLASH_OK, 1)]; s.ldg.queue = [] ∧ s.ldg.headSeq - s.ldg.ckpt < 255) ∧ State.reset.ldg.recs = [] ∧
    isMC 0x81 = false ∧ (0x81 : BitVec 8) ≠ 0x80 := by decide
theorem wit_TamperAndMotionEvidence_parked :
    (let s := { st [(SEC_TAMPER_CFG_EN, 255), (SEC_TAMPER_CFG_RESP, 0x8000)] with aon := { parked := true, ticks := 2 ^ 48 - 1 } }
     bit (s.get SEC_TAMPER_CFG_EN) 7 = true ∧ s.aon.parked = true ∧ tamperResp s 7 = respERASE ∧ tamperResp s 0 ≠ respERASE ∧ s.sec.parked.length < 16) := by
  decide

/-- DRAM READY with 2 MiB on channel 0. -/
def dram (l : List (Fld × Nat)) : State := st ([(DRM_STAT_STATE, stREADY), (DRM_SIZE_U0, 2)] ++ l)
def withMem (f : MemSt → MemSt) (s : State) : State := { s with memSt := f s.memSt }
theorem wit_TagWritesAndZeroFill :
    (let s := withMem (fun x => { x with filled := true }) (st [(MEM_SP_IDX_INDEX, 5119), (MEM_SP_TAG_TAG 5119, 0x90)])
     isMC 1 = true ∧ s.memSt.filled = true ∧ s.get MEM_SP_IDX_INDEX < 5120 ∧ tagMayChange (s.get (MEM_SP_TAG_TAG (s.get MEM_SP_IDX_INDEX))) (wrap 8 0xFF) 1 false = true ∧
       5120 ≤ (st [(MEM_SP_IDX_INDEX, 5120)]).get MEM_SP_IDX_INDEX) ∧ State.reset.memSt.filled = false ∧
    (let s := dram []; s.get MEM_DR_IDX_INDEX < regionsOf s ∧ s.get MEM_DR_IDX_INDEX < 7680 ∧
       tagMayChange (s.get (MEM_DR_TAG_TAG (s.get MEM_DR_IDX_INDEX))) (wrap 8 0xFF) 2 false = true) ∧ isMC 0x80 = false := by decide
theorem wit_DramControllerStates : (isMC 2 = true ∧ bit 1 0 = true ∧ State.reset.get DRM_STAT_STATE = stOFF ∧ (dram []).get DRM_STAT_STATE = stREADY ∧
    (dram []).get DRM_STAT_STATE ≠ stOFF ∧ (st [(DRM_STAT_STATE, stSELF_REFRESH)]).get DRM_STAT_STATE = stSELF_REFRESH ∧
    (st [(DRM_STAT_STATE, stINIT)]).get DRM_STAT_STATE = stINIT ∧ (st [(DRM_STAT_STATE, stZEROFILL)]).get DRM_STAT_STATE = stZEROFILL ∧ (3 : BitVec 2) ≠ 0) := by decide
theorem wit_TrainingWaitsForRefresh :
    (isMC 1 = true ∧ bit (2 ^ 31) 30 = false ∧ State.reset.flag DRM_CFG_CHSEL = false ∧ (st [(DRM_CH_TRAIN_MODE 1, 1)]).flag (DRM_CH_TRAIN_MODE 1) = true ∧
      bits (2 ^ 31) 31 1 = nextMode (st [(DRM_CFG_CHSEL, 1), (DRM_CH_TRAIN_MODE 1, 1)]) (1 - 0)) ∧
    (let s := (dram []).setDrm 1 { mode := some 1 }; s.get DRM_STAT_STATE = stREADY ∧ (s.drmCh 1).mode = some 1 ∧ (s.drmCh 1).dly = []) ∧
    (let s := (dram []).setDrm 1 { dly := [(7, 5)] }; s.get DRM_STAT_STATE = stREADY ∧ (s.drmCh 1).mode = none ∧ (s.drmCh 1).dly = [(7, 5)]) ∧
    (let s := (dram []).setDrm 0 { owed := 7 }; s.get DRM_STAT_STATE = stREADY ∧ (s.drmCh 0).owed < 8) ∧
    (let s := (dram []).setDrm 0 { retrain := true }; s.get DRM_STAT_STATE = stREADY ∧ (2000 : Nat) ≤ 2000 ∧ (s.drmCh 0).owed = 0 ∧ (s.drmCh 0).retrain = true) ∧
    (let s := tick (dram [(DRM_CH_TRAIN_MODE 0, 0), (DRM_CH_TRAIN_INTV 0, 1)]) 1000000
     s.flag (DRM_CH_TRAIN_MODE 0) = false ∧ (s.drmCh 0).pauseT + s.get (DRM_CH_TRAIN_INTV 0) * 1000000 ≤ s.T) ∧
    (let s := tick (dram [(DRM_CH_TRAIN_MODE 0, 1)]) 64000000
     s.get DRM_STAT_STATE = stREADY ∧ s.flag (DRM_CH_TRAIN_MODE 0) = true ∧ (s.drmCh 0).senseT + 64000000 ≤ s.T) := by decide
theorem wit_DramLineIntegrity :
    (let s := dram []; areaOf s (dramBase / 64 * 64) = .dram ∧ memAdmits s 1 true (dramBase / 64 * 64) 64 = true ∧ memAdmits s 1 false (dramBase / 64 * 64) 64 = true ∧
      poisoned s (dramBase / 64) = false ∧ s.memSt.err.length < 16 ∧ (List.replicate 64 (0 : Byte)).length = 64) ∧
    (let s := withMem (fun x => { x with poison := [dramBase / 64] }) (dram [])
     poisoned s (dramBase / 64) = true ∧ memAdmits s 1 true (dramBase / 64 * 64) 64 = true ∧ memAdmits s 1 false (dramBase / 64 * 64) 64 = true) ∧
    (let s := dram [(DRM_SCRUB_HOURS, 1)]; s.get DRM_STAT_STATE = stREADY ∧ s.get DRM_SCRUB_HOURS ≠ 0 ∧ usable s 0 ≠ 0 ∧
      poisoned s ((dramBase + dramOffset s 0 (64 * (s.drmCh 0).scrub)) / 64) = false) ∧ dramBase < 2 ^ 40 := by decide
theorem wit_TagWritesAndZeroFill_security : tagMayChange 0xFF 0xA1 2 false = false ∧ tagMayChange 0xFF 0xA1 1 true = true ∧ tagMayChange 0xA1 0xFF 1 false = false ∧
    regionsOf State.reset ≤ State.reset.get MEM_DR_IDX_INDEX := by decide
theorem wit_TrainingWaitsForRefresh_notDue :
    (let s := (dram []).setDrm 0 { owed := 8 }; s.get DRM_STAT_STATE = stREADY ∧ 8 ≤ (s.drmCh 0).owed) ∧ State.reset.get DRM_STAT_STATE ≠ stREADY ∧
    (let s := dram [(DRM_CH_TRAIN_MODE 0, 1)]; ((s.drmCh 0).retrain || (!s.flag (DRM_CH_TRAIN_MODE 0) &&
      decide ((s.drmCh 0).pauseT + s.get (DRM_CH_TRAIN_INTV 0) * 1000000 ≤ s.T))) = false) ∧ isMC 0x80 = false ∧
    (let s := st [(DRM_CFG_CHSEL, 1)]; (!s.flag DRM_CFG_CHSEL || bits (2 ^ 31) 31 1 == nextMode s 1) = decide (nextMode s 1 = 1)) := by decide
theorem wit_DramLineIntegrity_more :
    (let s := dram []; let l : List (Byte × Bool) := [(1, true), (2, false)]; l.length + 62 ≤ 64 ∧ (l.length = 64 → l.all (·.2) = false) ∧
       areaOf s 0 ≠ .dram ∧ memAdmits s 0x81 true (dramBase / 64 * 64) 64 = false ∧ memAdmits s 0x81 false (dramBase / 64 * 64) 64 = false) ∧
    (dram [(DRM_SCRUB_HOURS, 0)]).get DRM_SCRUB_HOURS = 0 ∧ usable State.reset 0 = 0 := by decide

theorem wit_WordQueuesPushAndPop : let s (q : Nat) (l : List Nat) := setWords State.reset q l
    (1 = qProducer 0 ∧ 8 = qConsumer 0 ∧ 11 = qProducer 15 ∧ 2 = qConsumer 15 ∧ (5 : Nat) ≠ qProducer 0 ∧ (5 : Nat) ≠ qConsumer 0) ∧ qWords State.reset 0 = [] ∧ qWords State.reset 8 = [] ∧
    qWords (s 0 [7]) 0 = [7] ∧ (qWords (s 15 (List.replicate 15 0)) 15).length < 16 ∧ 16 ≤ (qWords (s 15 (List.replicate 16 0)) 15).length ∧
    qWords (s 15 (List.replicate 16 0)) 15 = 0 :: List.replicate 15 0 ∧ (List.replicate 15 0).length = 15 := by decide
theorem wit_LockReadTakesAFreeLock : lockMaster 1 = true ∧ lockMaster 0x80 = true ∧ State.reset.get (MBX_LOCK_OWNER 63) = 0 ∧
    (st [(MBX_LOCK_OWNER 63, 8)]).get (MBX_LOCK_OWNER 63) ≠ 0 ∧ lockMaster 0x81 = false := by decide
theorem wit_LocksDoorbellsAndFolios :
    (let s := st [(MBX_LOCK_OWNER 0, 8)]; lockMaster 8 = true ∧ s.get (MBX_LOCK_OWNER 0) = 8 ∧ s.get (MBX_LOCK_OWNER 0) ≠ 9 ∧ lockMaster 0x81 = false ∧ isMC 1 = true ∧
      bit (2 ^ 31) 31 = true ∧ bit 0 31 = false) ∧
    (let s := st [(MBX_DB_CFG_EN 63, 1), (MBX_DB_CFG_RINGER 63, 8)]
     dbAllowed s 8 63 = true ∧ dbAllowed s 9 63 = false ∧ s.get (MBX_DB_PEND_PEND 63) < 2 ^ 32 ∧ bit (s.get (MBX_DB_PEND_PEND 63)) 31 = false ∧
       dbReader s 1 63 = true ∧ dbReader s 0x81 63 = false ∧ s.get (MBX_DB_PEND_PEND 63) = 0) ∧
    (let s := tick State.reset 1; (s.mbx.set.get (0, 0, 0) 63).1 ≠ s.T) ∧ (st [(MBX_DB_PEND_PEND 63, 1)]).get (MBX_DB_PEND_PEND 63) ≠ 0 ∧
    (∀ k : Fin 3, (st [(MBX_DB_CFG_TKIND 0, k.val + 1)]).get (MBX_DB_CFG_TKIND 0) = k.val + 1) ∧
    (let s := st [(INS_INFO_INSTATE 127, isREADY)]
     folioHost 0xFF 127 = true ∧ folioHost 1 127 = false ∧ instate s 127 = isREADY ∧ s.flag (folioGO false 127) = false ∧ goAtStart s false 127 = false ∧
       goAtStart s true 127 = false) ∧
    (let s := st [(INS_INFO_INSTATE 127, isREADY), (MBX_FOLIO_H2D_CTRL_GO 127, 1), (MBX_FOLIO_D2H_CTRL_GO 127, 1)]
     s.flag (folioGO false 127) = true ∧ goAtStart s false 127 = true ∧ goAtStart s true 127 = true) ∧ folioHost 0x81 0 = false ∧ isMC 0x81 = false := by decide
theorem wit_LocksDoorbellsAndFolios_notReady : instate State.reset 127 ≠ isREADY ∧ folioHost 0xFF 127 = true ∧ folioHost 1 127 = false ∧
    (isMC 1 = true ∧ folioHost 1 127 ≠ true ∧ folioHost 0xFF 127 ≠ false) ∧ lockMaster 0x80 = true ∧ (8 : BitVec 8) ≠ 9 := by decide

def wr (q : Ring) (s : State) : State := { s with hif := { s.hif with ring := [(0, q)] } }
theorem wit_RingsFetchCompleteAndDrain :
    (let s := rg rkTX 0 [] []; slotRing s 0 0 = some 0 ∧ ringRunning s 0 = true ∧ ringKind s 0 ≠ rkCQ ∧ wrap 32 (1 + 2 ^ 32 - (s.ring 0).tail) < 2 ^ 31 ∧
       wrap 32 (1 + 2 ^ 32 - ringC s 0) ≤ ringN s 0 ∧ bits (2 ^ 32) 32 32 ≠ 0 ∧ slotRing s 127 0 = none ∧ 2 ^ 31 ≤ wrap 32 (2 ^ 31 + 2 ^ 32 - (s.ring 0).tail) ∧
       ringN s 0 < wrap 32 (65 + 2 ^ 32 - ringC s 0)) ∧
    (let c : Cpl := { status := 0 }; let s := wr { w := 1, wait := [(0, 0, 0, c, false)] } (rg rkCQ 0 [] [])
     slotRing s 0 0 = some 0 ∧ ringKind s 0 = rkCQ ∧ wrap 32 (1 + 2 ^ 32 - (s.ring 0).chead) ≤ wrap 32 ((s.ring 0).w + 2 ^ 32 - (s.ring 0).chead) ∧
       (s.ring 0).wait = [(0, 0, 0, c, false)] ∧ busMaster s (ringInst s 0) = true ∧ wrap 32 ((s.ring 0).w + 2 ^ 32 - 1) < ringN s 0 ∧
       wrap 32 ((s.ring 0).w + 2 ^ 32 - (s.ring 0).chead) < wrap 32 (2 + 2 ^ 32 - (s.ring 0).chead)) := by decide +kernel
theorem wit_RingsFetchCompleteAndDrain_descriptors :
    (let s := wr { tail := 1 } (rg rkRX 0 [] []); let w : BitVec 256 := BitVec.ofNat 256 (2 ^ 64 * 64 + 2 ^ 96 * 0x01000000)
     ringKind s 0 ≠ rkCQ ∧ ringKind s 0 ≠ rkSQ ∧ ringRunning s 0 = true ∧ busMaster s (ringInst s 0) = true ∧ (s.ring 0).next ≠ (s.ring 0).tail ∧ (s.ring 0).chainFail = false ∧
       descBad (ringKind s 0) (descOf 0 w) = false ∧ (descOf 0 w).chain = false ∧ (s.ring 0).descs = [] ∧ descBad (ringKind s 0) (descOf 0 0) = true ∧ (descOf 0 0).chain = false ∧
       ringKind s 0 ≠ rkSETPOINT ∧ ringRunning State.reset 0 = false) ∧
    (let d : Desc := { ds0 64 with started := true, dma := some { status := 0 } }; let s := rg rkTX 0 [d] []
     (s.ring 0).descs = [d] ∧ d.done = none ∧ ringKind s 0 ≠ rkSQ ∧ ringKind s 0 ≠ rkCQ ∧ ringRunning s 0 = true ∧ busMaster s (ringInst s 0) = true ∧ d.seq < 2 ^ 32 ∧
       d.dma = some { status := 0 } ∧ (0 : Nat) ≠ stFAILED_DMA) ∧
    (let s := rg rkTX 0 [ds0 64] []; (s.ring 0).descs = [ds0 64] ∧ (ds0 64).dma = none ∧ (ds0 64).formed = true ∧ (ds0 64).started = false ∧ (ds0 64).done = none) := by decide +kernel
theorem wit_RingsFetchCompleteAndDrain_contexts :
    (let s := State.reset; isMC 1 = true ∧ isMC 0x80 = false ∧ ringState s (s.get HIF_RING_IDX_RING) = rsDISABLED ∧ bit 0 31 = false ∧ bit (2 ^ 31) 31 = true ∧
       enableCheck s 0 ≠ rrOK ∧ ringState (rg rkTX 0 [] []) 0 ≠ rsDISABLED ∧ cqInUse (rg rkTX 0 [] []) 0 = false) ∧
    (let s := st [(HIF_RING_CTX0_LOG2N 0, 6), (HIF_RING_CTX0_KIND 0, rkLEDGER), (INS_INFO_INSTATE 0, 1), (INS_PANTRY_WORD 0 1, 64), (INS_PANTRY_WORD 0 3, 64), (INS_PANTRY_WORD 0 7, 65536)]
     ringState s 0 = rsDISABLED ∧ enableCheck s 0 = rrOK) ∧
    (let s := rg rkTX 0 [] [(HIF_RING_CTX7_STATE 0, rsDRAINING)]
     ringState s 0 = rsDRAINING ∧ ringKind s 0 ≠ rkSQ ∧ ringKind s 0 ≠ rkCQ ∧ (s.ring 0).wait = [] ∧ (s.ring 0).next = (s.ring 0).tail ∧ busMaster s (ringInst s 0) = true ∧
       (s.ring 0).descs = [] ∧ ((rg rkTX 0 [ds0 64] [(HIF_RING_CTX7_STATE 0, rsDRAINING)]).ring 0).descs = [ds0 64] ∧ ringState State.reset 0 ≠ rsDRAINING) := by decide +kernel
theorem wit_VectorsFunctionsAndBars :
    (let s := rg rkTX 0 [] []; (s.setMsix 0 0 { mask := false, pba := true } |>.msix 0 0).mask = false ∧ (s.setMsix 0 0 { mask := false, pba := true } |>.msix 0 0).pba = true ∧
       busMaster s 0 = true ∧ (s.msix 0 127).mask = true ∧ busMaster State.reset 0 = false ∧ (s.msix 0 0).pba = false ∧ bit 0 0 = false) ∧
    (let s := tick (wr { timer := some 0 } (rg rkTX 0 [] [(HIF_RING_CTX5_IRQ_EN 0, 1), (HIF_RING_CTX5_COAL_US 0, 1)])) 1000
     s.flag (HIF_RING_CTX5_IRQ_EN 0) = true ∧ (s.ring 0).timer = some 0 ∧ s.get (HIF_RING_CTX5_COAL_US 0) ≠ 0 ∧ 0 + s.get (HIF_RING_CTX5_COAL_US 0) * 1000 ≤ s.T ∧
       (tick s 999).T < 0 + s.get (HIF_RING_CTX5_COAL_US 0) * 1000) ∧
    (knownRings State.reset = [] ∧ instate (st [(INS_INFO_INSTATE 127, isREADY)]) 127 = isREADY ∧ instate (st [(INS_INFO_INSTATE 127, isREMOVING)]) 127 = isREMOVING ∧
      instate State.reset 127 = isNONE ∧ (∀ k < 127, instate State.reset (k + 1) = isNONE) ∧ instate State.reset 0 = isREADY) ∧
    (State.reset.hif.viol.get 0 0 < 2 ^ 32 ∧ State.reset.get BOOT_CHIP_REV_MAJOR = BOOT_CHIP_REV_MAJOR.rst ∧ State.reset.get BOOT_CHIP_REV_MINOR = BOOT_CHIP_REV_MINOR.rst ∧
      State.reset.shadow? 0x80 0xF0000004 = none) := by decide +kernel
theorem wit_VectorsFunctionsAndBars_noTimer : State.reset.flag (HIF_RING_CTX5_IRQ_EN 0) = false ∧ (State.reset.ring 0).timer = none ∧
    (st [(HIF_RING_CTX5_IRQ_EN 0, 1), (HIF_RING_CTX5_COAL_US 0, 0)]).get (HIF_RING_CTX5_COAL_US 0) = 0 ∧
    (let x : Msix := { mask := true, pba := true }; x.mask = true ∧ x.pba = true ∧ bit 0 0 = false ∧ bit 1 0 = true) := by decide
theorem wit_RingsFetchCompleteAndDrain_cut : (let s := rg rkTX 0 [] []
    cqInUse s 0 = false ∧ (s.ring 0).next = (s.ring 0).tail ∧ (s.ring 0).descs = [] ∧ ringRunning s 0 = true ∧ bit 0 31 = false ∧ slotRing s 127 5 = none) := by
  decide +kernel

/-- Instance `n` READY with operation `op` posted and the words `l` after it. -/
def fo (n op : Nat) (l : List (Fld × Nat)) : State := st ([(INS_INFO_INSTATE n, isREADY), (MBX_FOLIO_H2D_CTRL_GO n, 1), (folioData false n 0, op * 2 ^ 24)] ++ l)
def f1 (v : Nat) : Fld × Nat := (folioData false 0 1, v)
def f2 (v : Nat) : Fld × Nat := (folioData false 0 2, v)
theorem folioAsk_of (s : State) (n op : Nat)
    (h : (instate s n == isREADY && s.flag (folioGO false n) && !(s.inst n).exec && reqOp s n == op && (decide (op < 0x10) || n == 0)) = true) : FolioAsk s n op := by
  simp only [Bool.and_eq_true, beq_iff_eq, Bool.not_eq_true', Bool.or_eq_true, decide_eq_true_eq] at h
  exact ⟨h.1.1.1.1, h.1.1.1.2, h.1.1.2, h.1.2, fun g => h.2.resolve_left (by omega)⟩
theorem wit_FolioRequestsAreServed_asks : (∀ op : Fin 6, FolioAsk (fo 127 (op.val + 1) []) 127 (op.val + 1)) ∧ (∀ op : Fin 7, FolioAsk (fo 0 (op.val + 0x10) []) 0 (op.val + 0x10)) ∧
    FolioAsk (fo 0 0x20 []) 0 0x20 ∧ FolioAsk (fo 0 0x21 []) 0 0x21 :=
  ⟨fun op => folioAsk_of _ _ _ (by revert op; decide +kernel), fun op => folioAsk_of _ _ _ (by revert op; decide +kernel), folioAsk_of _ _ _ (by decide), folioAsk_of _ _ _ (by decide)⟩
theorem wit_FolioRequestsAreServed :
    (instate (fo 0 1 []) 0 = isREADY ∧ (fo 0 1 []).flag (folioGO true 0) = false ∧ (fo 0 1 [(MBX_FOLIO_D2H_CTRL_GO 0, 1)]).flag (folioGO true 0) = true) ∧
    (bit ((fo 127 5 []).get (INS_ATTN_PEND 3)) 31 = false ∧ bit ((fo 127 5 [(INS_ATTN_PEND 3, 2 ^ 31)]).get (INS_ATTN_PEND 3)) 31 = true) ∧
    (pantry (fo 127 6 []) 127 8 0 12 ≤ bits (reqWord (fo 127 6 []) 127 1) 0 11 ∧
      (let s := fo 127 6 [(INS_PANTRY_WORD 127 8, 1), (MBX_DB_CFG_EN 0, 1), (MBX_DB_CFG_RINGER 0, reqMC0)]
       bits (reqWord s 127 1) 0 11 < pantry s 127 8 0 12 ∧ dbAllowed s reqMC0 0 = true) ∧ dbAllowed (fo 127 6 []) reqMC0 0 = false) ∧
    (ptRings (fo 127 2 []) 127 ≤ bits (reqWord (fo 127 2 []) 127 1) 0 13 ∧
      (let s := (fo 127 2 [(INS_PANTRY_WORD 127 1, 64)]).setInst 127 { runs := [(5, 64)] }
       bits (reqWord s 127 1) 0 13 < ptRings s 127 ∧ runRing (s.inst 127).runs 0 = some 5 ∧ ringState s 5 = rsDISABLED ∧ ringState (s.put (HIF_RING_CTX7_STATE 5) 1) 5 ≠ rsDISABLED ∧
         ringRunning (s.put (HIF_RING_CTX7_STATE 5) 1) 5 = true ∧ cqInUse s 5 = false)) ∧
    (instate (fo 0 0x13 []) (bits (reqWord (fo 0 0x13 []) 0 1) 0 7) = isREADY ∧ instate (fo 0 0x13 [f1 127]) 127 = isNONE ∧
      instate (fo 0 0x13 [f1 127, (INS_INFO_INSTATE 127, isREMOVING)]) 127 = isREMOVING) ∧
    (let s := fo 0 0x10 [(BOOT_STAGE_RESTRICTED, 1)]; (s.flag BOOT_STAGE_RESTRICTED && !s.flag BOOT_STAGE_ACKED) = true) ∧
    (createBad (reqWord (fo 0 0x10 []) 0) = true ∧ createBad (reqWord (fo 0 0x10 [f1 65536, (folioData false 0 7, 65536)]) 0) = false) ∧
    (let s := fo 0 0x14 [f1 (2 ^ 24 + 5), f2 3, (INS_INFO_INSTATE 5, isREADY)]
     bits (reqWord s 0 1) 24 8 = 1 ∧ reqWord s 0 2 ≤ 3 ∧ instate s 5 = isREADY ∧ s.flag (INS_SPGRANT_VALID 3) = false ∧ instate s 6 = isNONE ∧
       (let u := s.puts [(INS_SPGRANT_VALID 3, 1), (INS_SPGRANT_INSTANCE 3, 7)]; u.flag (INS_SPGRANT_VALID 3) = true ∧ u.get (INS_SPGRANT_INSTANCE 3) ≠ 5)) ∧
    (let s := fo 0 0x14 [f1 (2 * 2 ^ 24 + 5), f2 0x1FF, (INS_INFO_INSTATE 5, isREADY), (INS_PANTRY_WORD 5 2, 1)]
     bits (reqWord s 0 1) 24 8 = 2 ∧ reqWord s 0 2 = 0x100 + 255 ∧ s.flag (INS_STREAM_GRANTED 255) = false ∧ streamsOf s 5 < pantry s 5 2 0 7 ∧ pantry s 0 2 0 7 ≤ streamsOf s 0) ∧
    (let s := fo 0 0x14 [f1 (3 * 2 ^ 24)]; bits (reqWord s 0 1) 24 8 = 3 ∧ s.flag INS_VALGRANT_VALID = false) ∧
    (bits (reqWord (fo 0 0x15 []) 0 1) 8 2 = 0 ∧ bits (reqWord (fo 0 0x15 [f1 768]) 0 1) 8 2 = 3) ∧ (wrap 12 (reqWord (fo 0 0x16 [f1 1]) 0 1) ≠ 0 ∧ wrap 12 (reqWord (fo 0 0x16 []) 0 1) = 0) ∧
    (reqWord (fo 0 0x20 []) 0 1 < 0x1400000 ∧ reqWord (fo 0 0x20 [f1 0xF0400040]) 0 1 = 0xF0400040 ∧ (fo 0 0x20 [f1 0xF0400040]).shadow? 1 0xF0400040 = none) ∧
    (reqOp (fo 127 0x10 []) 127 = 0x10 ∧ reqOp (fo 127 0x30 []) 127 = 0x30 ∧ ((fo 127 0x30 []).inst 127).exec = false ∧ State.reset.flag (folioGO false 0) = false) := by decide +kernel
set_option maxRecDepth 100000 in
theorem wit_FolioRequestsAreServed_create :
    let s := { fo 0 0x10 [f1 65536, (folioData false 0 7, 65536), (BOOT_STAGE_DRAM_READY, 1), (INS_STAT_JOURNAL_VALID, 1)] with hif := { vfEnable := true, numVfs := 1 } }
    createBad (reqWord s 0) = false ∧ instate s (bits (reqWord s 0 1) 16 7) = isNONE ∧ s.flag BOOT_STAGE_DRAM_READY = true ∧ s.hif.vfEnable = true ∧
      bits (reqWord s 0 1) 16 7 ≤ s.hif.numVfs ∧ s.flag INS_STAT_JOURNAL_VALID = true ∧ poolsHold s (reqWord s 0) = true := by decide +kernel
def ir (x : InstReset) (s : State) : State := s.setInst 0 { s.inst 0 with rst := some x }
/-- A SETPOINT descriptor with one word for channel 0. -/
def spd : Desc := { seq := 0, w := [0, 0, 0, 0x01000000, 256, 0, 0, 0], formed := true }
theorem wit_ResetsSetpointsAndInfo :
    (instate (fo 0 0x11 []) 0 = isREADY ∧ instate (fo 0 0x12 [f1 5, (INS_INFO_INSTATE 5, isREADY)]) 5 = isREADY ∧ instate (fo 0 0x11 [f1 5]) 5 = isNONE ∧
      instate (fo 0 0x12 [f1 5, (INS_INFO_INSTATE 5, isREMOVING)]) 5 = isREMOVING ∧ (∀ k < 127, instate State.reset (k + 1) = isNONE)) := by decide +kernel
theorem wit_ResetsSetpointsAndInfo_sequences :
    (let x : InstReset := { t0 := 0, id := 1, removal := true, waiting := [], rings := [] }; let s := ir x State.reset
     (s.inst 0).rst = some x ∧ x.squashed = false ∧ x.rings = [] ∧ x.waiting = [] ∧ (s.inst 0).log.length < 64 ∧ (State.reset.inst 0).rst = none) ∧
    (let x : InstReset := { t0 := 0, id := 1, removal := false, waiting := [], rings := [(0, 0, 0, 0)] }; let s := ir x (wr { w := 1 } (rg rkTX 0 [] [(HIF_RING_CTX7_STATE 0, rsDRAINING)]))
     (s.inst 0).rst = some x ∧ x.squashed = false ∧ ringState s 0 = rsDRAINING ∧ ringKind s 0 ≠ rkSQ ∧ ringKind s 0 ≠ rkCQ ∧ (s.ring 0).descs = [] ∧ (s.ring 0).wait = [] ∧
       (s.ring 0).next = (s.ring 0).tail ∧ (s.ring 0).w ≠ 0) ∧
    (let x : InstReset := { t0 := 0, id := 1, removal := false, waiting := [], rings := [(0, 0, 0, 0)], squashed := true, flush := [0, 1] }
     let s := ir x (wr { recs := [(3, 4, 5)] } State.reset)
     (s.inst 0).rst = some x ∧ x.squashed = true ∧ x.rings.find? (fun e => e.1 == 0) = some (0, 0, 0, 0) ∧ (s.ring 0).descs = [] ∧ (s.ring 0).wait = [] ∧ x.flush = [0, 1] ∧
       (s.ring 0).recs = [(3, 4, 5)] ∧ x.flush.contains 2 = false ∧ ({ x with flush := [0] } : InstReset).flush = [0]) := by decide +kernel
theorem wit_ResetsSetpointsAndInfo_setpoints :
    (let s := rg rkSETPOINT 0 [spd] [(INS_SPGRANT_VALID 0, 1), (PWM_BIND_BOUND 0, 1)]
     nextItem s 0 rkSETPOINT = some [spd] ∧ (s.ring 0).descs = [spd] ∧ s.flag BOOT_STAGE_RESTRICTED = false ∧ spHeldFor s 0 0 = none ∧ spOk s spd 0 = true ∧
       spOk (rg rkSETPOINT 0 [spd] []) spd 0 = false ∧ s.flag (PWM_BIND_BOUND 0) = true ∧ (qWords s 0).length + 1 + 1 ≤ 16 ∧ s.get (PWM_BIND_DSP 0) < 4 ∧
       (rg rkSETPOINT 0 [spd] [(BOOT_STAGE_RESTRICTED, 1)]).flag BOOT_STAGE_RESTRICTED = true ∧ 16 < (qWords (setWords s 0 (List.replicate 15 0)) 0).length + 1 + 1 ∧
       (let u := tick { s with ins := { held := [(0, 0, 0)] } } 1000000; spHeldFor u 0 0 = some (0, 0, 0) ∧ 0 + 1000000 ≤ u.T ∧ (tick u 999999).T < 0 + 1000000)) ∧
    (insReader 1 = true ∧ insReader 0x80 = true ∧ insReader 0x81 = false) := by decide +kernel
def lg (n : Nat) (l : List (List Nat)) (s : State) : State := s.setInst n { s.inst n with log := l }
theorem wit_FolioRequestsAreServed_serves :
    (reqOp (lg 127 [[1, 2, 3, 4]] (fo 127 4 [])) 127 = 4 ∧ ((lg 127 [[1, 2, 3, 4]] (fo 127 4 [])).inst 127).log.length = 1 ∧ (127 : Nat) ≠ 0) ∧
    (reqOp (fo 0 4 [f1 127]) 0 = 4 ∧ bits (reqWord (fo 0 4 [f1 127]) 0 1) 0 7 = 127) ∧
    (instate (fo 0 5 [f1 127]) (bits (reqWord (fo 0 5 [f1 127]) 0 1) 0 7) = isNONE ∧
      (let s := fo 0 5 [f1 127, (INS_INFO_INSTATE 127, isRESETTING)]; instate s 127 ≠ isNONE ∧ instate s 127 ≠ isREADY) ∧
      instate (fo 0 5 [f1 127, (INS_INFO_INSTATE 127, isREADY)]) 127 = isREADY) ∧
    (runRing ((fo 127 2 []).inst 127).runs 0 = none ∧ runRing [(5, 64)] 64 = none ∧ runRing [(5, 64)] 63 = some 68) ∧
    (let s := rg rkTX 0 [] [(HIF_RING_CTX7_STATE 0, rsDRAINING)]; ringState s 0 = rsDRAINING ∧ cqInUse s 0 = false) ∧
    (let u := rg rkCQ 0 [] [(HIF_RING_CTX0_KIND 1, rkSQ), (HIF_RING_CTX7_STATE 1, rsRUNNING)]; let s := { u with hif := { u.hif with ring := [(0, {}), (1, {})] } }; ringState s 0 ≠ rsDISABLED ∧ cqInUse s 0 = true) := by decide +kernel
theorem wit_FolioRequestsAreServed_refuses :
    (let s := fo 0 0x10 [f1 65536, (folioData false 0 7, 65536)]; createBad (reqWord s 0) = false ∧ instate (s.put (INS_INFO_INSTATE 1) isREADY) (bits (reqWord s 0 1) 16 7) = isREADY ∧
      instate (s.put (INS_INFO_INSTATE 1) isREMOVING) 1 ≠ isREADY ∧ instate (s.put (INS_INFO_INSTATE 1) isREMOVING) 1 ≠ isNONE ∧ instate s 1 = isNONE ∧
      s.flag BOOT_STAGE_DRAM_READY = false ∧ (s.put BOOT_STAGE_DRAM_READY 1).flag BOOT_STAGE_DRAM_READY = true ∧ s.hif.vfEnable = false ∧ s.hif.numVfs < 1 ∧
      s.flag INS_STAT_JOURNAL_VALID = false) ∧
    (let s := fo 0 0x10 [f1 65536, (folioData false 0 7, 65537), (INS_INFO_INSTATE 5, isREADY), (INS_PANTRY_WORD 5 7, 128)]; createBad (reqWord s 0) = false ∧ poolsHold s (reqWord s 0) = false) ∧
    (let k (s : State) := bits (reqWord s 0 1) 24 8; k (fo 0 0x14 []) = 0 ∧ 3 < k (fo 0 0x14 [f1 (4 * 2 ^ 24)]) ∧ 3 < reqWord (fo 0 0x14 [f1 (2 ^ 24), f2 4]) 0 2 ∧
      reqWord (fo 0 0x14 [f1 (2 * 2 ^ 24), f2 0xFF]) 0 2 < 0x100 ∧ 0x1FF < reqWord (fo 0 0x14 [f1 (2 * 2 ^ 24), f2 0x200]) 0 2) ∧
    (let s := fo 0 0x14 [f1 (2 * 2 ^ 24 + 5), f2 0x1FF, (INS_STREAM_GRANTED 255, 1), (INS_STREAM_INSTANCE 255, 6)]
     instate s 5 = isNONE ∧ instate (s.put (INS_INFO_INSTATE 5) isRESETTING) 5 ≠ isNONE ∧ instate (s.put (INS_INFO_INSTATE 5) isREADY) 5 = isREADY ∧
       s.flag (INS_STREAM_GRANTED 255) = true ∧ s.get (INS_STREAM_INSTANCE 255) ≠ 5 ∧ (s.put (INS_STREAM_INSTANCE 255) 5).get (INS_STREAM_INSTANCE 255) = 5) ∧
    (let s := fo 0 0x14 [f1 (3 * 2 ^ 24 + 5), (INS_INFO_INSTATE 5, isREADY), (INS_VALGRANT_VALID, 1), (INS_VALGRANT_INSTANCE, 6)]
     s.flag INS_VALGRANT_VALID = true ∧ s.get INS_VALGRANT_INSTANCE ≠ 5 ∧ instate s 5 = isREADY) ∧
    (areaOf (fo 0 0x20 []) (reqWord (fo 0 0x20 []) 0 1) ≠ .regs ∧ areaOf (fo 0 0x20 [f1 0xF0400040]) 0xF0400040 = .regs ∧
      (regAccess (soleGrant State.reset reqMC0 0xF0400040) reqMC0 true 0xF0400040 7).1 = .ok ∧ (regAccess (soleGrant State.reset reqMC0 0xF0B00000) reqMC0 true 0xF0B00000 7).1 ≠ .ok) ∧
    (knownOps.contains (reqOp (fo 127 0x30 []) 127) = false ∧ knownOps.contains (reqOp (fo 127 0x10 []) 127) = true ∧ (0x10 : Nat) ≠ 0x01) := by decide +kernel
/-- A channel-0 setpoint on a ring whose queue is full, held since `t`. -/
def spHeld (t : Nat) (l : List (Fld × Nat)) : State :=
  let u := rg rkSETPOINT 0 [spd] ((INS_SPGRANT_VALID 0, 1) :: l)
  setWords { u with ins := { held := [(0, 0, t)] } } 0 (List.replicate 15 0)
theorem wit_ResetsSetpointsAndInfo_removals :
    (bits (reqWord (fo 0 0x12 []) 0 1) 0 7 = 0 ∧ (let s := fo 0 0x12 [f1 127]; (127 : Nat) ≠ 0 ∧ instate s (bits (reqWord s 0 1) 0 7) = isNONE) ∧
      instate (fo 0 0x11 [f1 5, (INS_INFO_INSTATE 5, isRESETTING)]) 5 = isRESETTING) ∧
    (let x : InstReset := { t0 := 0, id := 1, removal := false, waiting := [], rings := [] }
     let s := (fo 0 0x12 [f1 127, (INS_INFO_INSTATE 127, isRESETTING)]).setInst 127 { rst := some x }; instate s 127 = isRESETTING ∧ (s.inst 127).rst = some x ∧
       s.hif.numVfs < 126 + 1) ∧
    (let x : InstReset := { t0 := 0, id := 1, removal := false, waiting := [], rings := [] }; let s := ir x State.reset
     s.hif.hostRst = false ∧ (let h := { s with hif := { s.hif with hostRst := true } }; h.hif.hostRst = true ∧ (∀ k < 127, (h.inst (k + 1)).rst = none))) ∧
    (let x : InstReset := { t0 := 0, id := 1, removal := false, waiting := [(0x11, 7)], rings := [] }
     let u := (st [(INS_INFO_INSTATE 5, isRESETTING)]).setInst 5 { rst := some x }; let s := u.setInst 0 { u.inst 0 with exec := true }
     (s.inst 5).rst = some x ∧ x.squashed = false ∧ s.hif.hostRst = false ∧ (s.inst 0).exec = true ∧ instate s 0 = isREADY ∧ s.flag (folioGO true 0) = false) := by decide +kernel
theorem wit_ResetsSetpointsAndInfo_held :
    (let s := tick (spHeld 0 [(PWM_BIND_BOUND 0, 1)]) 1000000; nextItem s 0 rkSETPOINT = some [spd] ∧ (s.ring 0).descs = [spd] ∧ s.flag BOOT_STAGE_RESTRICTED = false ∧
       spExpired s 0 0 = true) ∧
    (let s := tick (spHeld 0 [(PWM_BIND_BOUND 0, 1)]) 999999; spHeldFor s 0 0 ≠ none ∧ spExpired s 0 0 = false ∧ 16 < (qWords s (s.get (PWM_BIND_DSP 0))).length + 1 + 1 ∧
       s.flag (PWM_BIND_BOUND 0) = true) ∧
    (let s := spHeld 0 []; s.flag (PWM_BIND_BOUND 0) = false ∧ spHeldFor s 0 0 ≠ none ∧ spExpired s 0 0 = false) ∧
    (let s := { spHeld 0 [] with ins := {} }; s.flag (PWM_BIND_BOUND 0) = false ∧ spHeldFor s 0 0 = none ∧ spOk s spd 0 = true) ∧
    (nextItem State.reset 0 rkSETPOINT = none ∧ insReader 1 = true ∧ insReader 2 = true) := by decide +kernel

/-- Thread 0 READY at PC 0 with the word `w` there; its cluster's other threads are HALTED. -/
def px (w : Nat) (x : Thread) (l : List (Fld × Nat)) : State := ((st ([(PXE_PT_STAT_STATE 0, ptREADY)] ++ l)).setPt 0 x).store 0x21000000 4 w
theorem pxAt_of (s : State) (n w : Nat) (op : PxOp) (h : (ptChosen s n && pxWord s n == w && pxDecode w == op) = true) : PxAt s n op w := by
  simp only [Bool.and_eq_true, beq_iff_eq] at h
  exact ⟨h.1.1, h.1.2, h.2⟩
def imms : List (Nat × PxOp) :=
  [(0x01, .addi), (0x02, .andi), (0x03, .ori), (0x04, .xori), (0x05, .slli), (0x06, .srli), (0x07, .srai), (0x08, .slti), (0x09, .sltiu), (0x0A, .lui), (0x0B, .bext),
   (0x0C, .bins), (0x10, .lw), (0x11, .lh), (0x12, .lhu), (0x13, .lb), (0x14, .lbu), (0x18, .sw), (0x19, .sh), (0x1A, .sb), (0x20, .beq), (0x21, .bne), (0x22, .blt),
   (0x23, .bge), (0x24, .bltu), (0x25, .bgeu), (0x26, .jal), (0x27, .jalr)]
theorem wit_PacketArithmeticBranchesAndCsrs : (∀ e ∈ imms, PxAt (px (e.1 * 2 ^ 26) {} []) 0 e.2 (e.1 * 2 ^ 26)) ∧ (∀ e ∈ pxAlu, PxAt (px e.1 {} []) 0 e.2.1 e.1) ∧
    (∀ e ∈ pxAtom, PxAt (px (0x1C * 2 ^ 26 + e.1) {} []) 0 e.2.1 (0x1C * 2 ^ 26 + e.1)) ∧ (∀ e ∈ pxSys, PxAt (px (0x3F * 2 ^ 26 + e.1) {} []) 0 e.2.1 (0x3F * 2 ^ 26 + e.1)) ∧
    (∀ c ∈ [0, 1, 2, 4, 0x10, 0x11, 0x20, 0x23, 0x30, 0x31], PxAt (px (0x30 * 2 ^ 26 + c) {} []) 0 .csrr (0x30 * 2 ^ 26 + c)) ∧
    (∀ c ∈ [2, 0x20, 0x23], PxAt (px (0x31 * 2 ^ 26 + c) {} []) 0 .csrw (0x31 * 2 ^ 26 + c)) ∧ PxAt (px 0x3D000000 {} []) 0 .illegal 0x3D000000 ∧
    ptChosen State.reset 0 = false ∧ pxDecode 1 ≠ .add := by
  refine ⟨fun e h => pxAt_of _ _ _ _ ?_, fun e h => pxAt_of _ _ _ _ ?_, fun e h => pxAt_of _ _ _ _ ?_, fun e h => pxAt_of _ _ _ _ ?_, fun e h => pxAt_of _ _ _ _ ?_,
    fun e h => pxAt_of _ _ _ _ ?_, pxAt_of _ _ _ _ (by decide +kernel), by decide +kernel, by decide⟩ <;> revert e <;> decide +kernel
theorem wit_PacketMemoryWaitsAndRunControl :
    (let s := px (0x10 * 2 ^ 26 + 65536) { x := [(1, 0x1F000000)] } []
     PxAt s 0 .lw (0x10 * 2 ^ 26 + 65536) ∧ pxAddr s 0 0x1F000000 = some 0x20000000 ∧ areaOf s 0x20000000 = .slice 0 ∧ s.memSt.bad = []) ∧
    (let s := px (0x10 * 2 ^ 26 + 65536) { x := [(1, 0x1F000001)] } []; PxAt s 0 .lw (0x10 * 2 ^ 26 + 65536) ∧ 0x1F000001 % 4 ≠ 0) ∧
    (let s := px (0x10 * 2 ^ 26 + 65536) { x := [(1, 0x40000000)] } []; PxAt s 0 .lw (0x10 * 2 ^ 26 + 65536) ∧ pxAddr s 0 0x40000000 = none) ∧
    (let s := px (0x10 * 2 ^ 26) { block := .access 0 } [(PXE_PT_STAT_STATE 0, ptBLOCKED), (MEM_SP_TAG_TAG 0, 0)]
     (s.pt 0).block = .access 0 ∧ ptState s 0 = ptBLOCKED ∧ pxWord s 0 = 0x10 * 2 ^ 26 ∧ pxAddr s 0 0 = some 0 ∧ areaOf s 0 = .stockpot ∧ areaOf s 3 = .stockpot ∧
       (s.pt 0).haltPend = false ∧ memAdmits s (reqPT 0) false 0 4 = true ∧ memAdmits s (reqPT 0) true 0 4 = true ∧
       memAdmits (s.put (MEM_SP_TAG_TAG 0) 0xFF) (reqPT 0) false 0 4 = false) ∧
    (let s := px (0x1C * 2 ^ 26 + 65536) { x := [(1, 0x1F000000)] } []; PxAt s 0 .amoadd (0x1C * 2 ^ 26 + 65536) ∧ areaOf s 0x20000000 ≠ .stockpot) ∧
    (let s := tick (px 0xFC000001 { wokenFlags := some 1 } []) 1; PxAt s 0 .wait 0xFC000001 ∧ (s.pt 0).wokenFlags = some 1) ∧
    (let s := px 0xFC000002 {} [(PXE_PT_STAT_PEND 0, 1)]; PxAt s 0 .waitr 0xFC000002 ∧ s.get (PXE_PT_STAT_PEND 0) ≠ 0 ∧ (s.pt 0).wokenFlags = none) ∧
    (let s := px 0xFC000001 { tsrc := 0 } []; PxAt s 0 .wait 0xFC000001 ∧ s.get (PXE_PT_STAT_PEND 0) = 0 ∧ (s.pt 0).tsrc ≠ 8 ∧ ptState s 0 = ptREADY) := by
  refine ⟨⟨pxAt_of _ _ _ _ (by decide +kernel), by decide +kernel⟩, ⟨pxAt_of _ _ _ _ (by decide +kernel), by decide +kernel⟩, ⟨pxAt_of _ _ _ _ (by decide +kernel), by decide +kernel⟩,
    by decide +kernel, ⟨pxAt_of _ _ _ _ (by decide +kernel), by decide +kernel⟩, ⟨pxAt_of _ _ _ _ (by decide +kernel), by decide +kernel⟩,
    ⟨pxAt_of _ _ _ _ (by decide +kernel), by decide +kernel⟩, ⟨pxAt_of _ _ _ _ (by decide +kernel), by decide +kernel⟩⟩
theorem wit_PacketMemoryWaitsAndRunControl_states :
    (let s (v : Nat) := st [(PXE_PT_STAT_STATE 63, v)]
     ptStopped (s ptHALTED) 63 = true ∧ ptStopped (s ptFAULTED) 63 = true ∧ ptStopped (s ptREADY) 63 = false ∧ ptState (s ptREADY) 63 ≠ ptWAITING ∧
       ptState (s ptWAITING) 63 = ptWAITING ∧ ptState (s ptBLOCKED) 63 = ptBLOCKED ∧ isMC 1 = true ∧ isMC 0x80 = false) ∧
    (let a : WakeArm := ⟨8, 0, 0, 5, none, 0, false, 0, false⟩; let s := tick ((st [(PXE_PT_STAT_STATE 63, ptWAITING)]).setPt 63 { wake := some a }) 5
     (s.pt 63).wake = some a ∧ a.src = 8 ∧ ptState s 63 = ptWAITING ∧ a.tgt ≠ 2 ^ 64 - 1 ∧ a.tgt - a.lead ≤ s.T ∧ a.deadline = none ∧ (s.pt 63).jumpT = none ∧
       (tick s 4).T < a.tgt - a.lead) ∧
    (let u := st [(PXE_PT_STAT_STATE 63, ptWAITING), (PXE_PT_STAT_NEVER 63, 1), (PXE_CL_STALL_LIM_US 3, 1)]
     let s := tick { u with pxe := { u.pxe with stallFrom := [(3, some 0)] } } 1000
     s.pxe.stallFrom.get none 3 = some 0 ∧ clusterStalled s 3 = true ∧ 0 + s.get (PXE_CL_STALL_LIM_US 3) * 1000 ≤ s.T ∧
       (tick s 999).T < 0 + s.get (PXE_CL_STALL_LIM_US 3) * 1000) := by decide +kernel
/-- Telemetry ring 0 RUNNING with stream 0x100 of instance 0. -/
def tele : List (Fld × Nat) := [(HIF_RING_CTX0_KIND 0, rkTELEMETRY), (HIF_RING_CTX7_STATE 0, rsRUNNING), (HIF_RING_CTX6_STREAM 0, 0x100), (INS_STREAM_VALID 0, 1)]
def teleRing (q : Ring) (s : State) : State := { s with hif := { s.hif with ring := [(0, q)], bme := [(0, true)] } }
theorem wit_PacketTputAndDatapathCommands :
    (PxAt (px 0xFC000810 { x := [(1, 4)] } []) 0 .tput 0xFC000810 ∧ 4 % 8 ≠ 0) ∧ (PxAt (px 0xFC000810 {} []) 0 .tput 0xFC000810 ∧ sliceAddr State.reset 0 0 12 = none) ∧
    (let s := px 0xFC000810 { x := [(1, 0x1F000000)] } []
     PxAt s 0 .tput 0xFC000810 ∧ pxGet s 0 (pxB 0xFC000810) = 0x1F000000 ∧ sliceAddr s 0 0x1F000000 12 = some 0x20000000 ∧ tputRing s 0 = false) ∧
    (let s := px 0xFC000810 { x := [(1, 0x1F000000)] } tele
     PxAt s 0 .tput 0xFC000810 ∧ tputRing s 0 = true ∧ nextItem s 0 rkTELEMETRY = none ∧ tputPosted s 0 = false ∧ tputPosted (teleRing { tail := 1 } s) 0 = true ∧
       nextItem (teleRing { tail := 1 } s) 0 rkTELEMETRY = none ∧ tputRing (teleRing { tail := 1 } s) 0 = true) ∧
    (let s := teleRing { descs := [ds0 256] } ((px 0xFC000810 { x := [(1, 0x1F000000)] } tele).store 0x20000000 8 0x20000100 |>.store 0x20000008 4 256)
     PxAt s 0 .tput 0xFC000810 ∧ tputRing s 0 = true ∧ nextItem s 0 rkTELEMETRY = some [ds0 256] ∧ s.load 0x20000000 4 + s.load 0x20000004 1 * 2 ^ 32 = 0x20000100 ∧
       s.load 0x20000008 4 ≤ (ds0 256).len ∧ (ds0 64).len < s.load 0x20000008 4 ∧ areaOf s 0x20000100 = .slice 0 ∧ areaOf s (0x20000100 + 256 - 1) = .slice 0) ∧
    (let s := teleRing { recs := [(0, 3, stOK)] } (px 0 { block := .tput 1 0 3 tcOK } [(PXE_PT_STAT_STATE 0, ptBLOCKED)])
     (s.pt 0).block = .tput 1 0 3 tcOK ∧ ptState s 0 = ptBLOCKED ∧ (∀ e ∈ (s.ring 0).descs, e.seq ≠ 3) ∧ recStatus s 0 3 = some stOK ∧ recStatus s 0 4 = none) := by
  refine ⟨⟨pxAt_of _ _ _ _ (by decide +kernel), by decide⟩, ⟨pxAt_of _ _ _ _ (by decide +kernel), by decide +kernel⟩, ⟨pxAt_of _ _ _ _ (by decide +kernel), by decide +kernel⟩,
    ⟨pxAt_of _ _ _ _ (by decide +kernel), by decide +kernel⟩, ⟨pxAt_of _ _ _ _ (by decide +kernel), by decide +kernel⟩, by decide +kernel⟩
def fr (f : Frame) (s : State) : State := { s with net := { s.net with frames := [(0, f)] } }
set_option maxRecDepth 100000 in
theorem wit_PacketTputAndDatapathCommands_datapath :
    (let s := px 0xFC000020 {} []; s.get (NET_CPUQ_PT 0) = 0 ∧ cpuq s 0 = [] ∧ cpuq (setCpuq s 0 [7]) 0 = [7] ∧ (px 0xFC000020 {} [(NET_CPUQ_PT 0, 5)]).get (NET_CPUQ_PT 0) ≠ 0) ∧
    (let f : Frame := { cells := [0], charge := 0, cpu := true }; let u := fr f (px 0xFC000021 {} [])
     let s := u.setEnt tkVLAN 0 { img := [1, 0, 0, 0, 0x80] }
     cpuHandle State.reset 0 = false ∧ cpuHandle s 0 = true ∧ s.frame? 0 = some f ∧ bits 0 30 2 = 0 ∧ (parse (frameBytes s 0)).tci = none ∧
       vlanAdmits s (s.load (cellAddr 0 + 22) 2) (fun e => bit (e.f 4 1) 7) = true ∧ f.refs ≤ 1 ∧ 1 < ({ f with refs := 2 } : Frame).refs) ∧
    (let s := px 0xFC000023 {} [(MEM_SP_TAG_TAG 0, 0), (INS_PANTRY_WORD 0 2, 65536)]
     (freeCells s 5).length < cellsFor (wrap 14 0) ∧ (freeCells s 0).take (cellsFor (wrap 14 0)) = [0] ∧ quotaOk s 0 1 = true) ∧
    (sliceAddr (px 0xFC000024 {} []) 0 0x1F000000 48 = some 0x20000000 ∧ sliceAddr (px 0xFC000024 {} []) 0 0 48 = none ∧
      sliceAddr (px 0xFC000025 {} []) 0 0x1F000000 96 = some 0x20000000 ∧ sliceAddr (px 0xFC000025 {} []) 0 0 96 = none) := by decide +kernel
theorem wit_PacketArithmeticBranchesAndCsrs_more :
    (let s := px 0 {} []; pxDecode (pxWord s 0) = .add ∧ pxDecode (pxWord s 0) ≠ .sub ∧ ptChosen s 0 = true ∧ ptChosen s 16 = false) ∧
    (let s := (px 0 {} []).puts [(PXE_PT_STAT_STATE 1, ptREADY)]; ptChosen s 0 = true ∧ ptChosen s 1 = false ∧ ptChosen (s.setPt 0 { issueT := some 0 }) 1 = false) := by decide +kernel
theorem wit_PacketMemoryWaitsAndRunControl_stores :
    PxAt (px (0x18 * 2 ^ 26 + 65536) { x := [(1, 0x1F005FFC)] } []) 0 .sw (0x18 * 2 ^ 26 + 65536) ∧
    (let s := px (0x18 * 2 ^ 26 + 65536) { x := [(1, 0x1F005FFC)] } []; pxAddr s 0 0x1F005FFC = some 0x20005FFC ∧ areaOf s 0x20005FFC = .slice 0) ∧
    (let s := px (0x18 * 2 ^ 26) { block := .access 0 } [(PXE_PT_STAT_STATE 0, ptBLOCKED), (MEM_SP_TAG_TAG 0, 0)]
     (s.pt 0).block = .access 0 ∧ ptState s 0 = ptBLOCKED ∧ pxWord s 0 = 0x18 * 2 ^ 26 ∧ pxDecode (0x18 * 2 ^ 26) = .sw ∧ pxAddr s 0 0 = some 0 ∧ areaOf s 0 = .stockpot ∧
       s.memSt.bad = [] ∧ (s.pt 0).haltPend = false ∧ memAdmits s (reqPT 0) true 0 4 = true ∧ memAdmits (s.put (MEM_SP_TAG_TAG 0) 0xFF) (reqPT 0) true 0 4 = false) ∧
    (let w := 0x1C * 2 ^ 26; let s := px w { block := .access 0 } [(PXE_PT_STAT_STATE 0, ptBLOCKED), (MEM_SP_TAG_TAG 0, 0)]
     (s.pt 0).block = .access 0 ∧ ptState s 0 = ptBLOCKED ∧ pxWord s 0 = w ∧ pxDecode w = .amoadd ∧ memAdmits s (reqPT 0) true 0 4 = true ∧
       memAdmits (s.put (MEM_SP_TAG_TAG 0) 0xFF) (reqPT 0) false 0 4 = false) ∧
    ((∀ k, k < 64 → (State.reset.pt k).block = .none) ∧ ptState State.reset 0 ≠ ptBLOCKED) ∧
    PxAt (px (0x1C * 2 ^ 26 + 65536) { x := [(1, 0x40000000)] } []) 0 .amoadd (0x1C * 2 ^ 26 + 65536) :=
  ⟨pxAt_of _ _ _ _ (by decide +kernel), by decide +kernel, by decide +kernel, by decide +kernel, by decide +kernel, pxAt_of _ _ _ _ (by decide +kernel)⟩
/-- A thread that waits on source 0 for the target 9 with this deadline, its source in the state `v`. -/
def wk (v : Nat) (d : Option Nat) (x : Thread) : State :=
  let s := (st [(PXE_PT_STAT_STATE 63, ptWAITING), (TSP_SRC_CFG_EN 0, 1), (TSP_SRC_STAT_STATE 0, v)]).setPt 63 { x with wake := some ⟨0, 0, 0, 9, d, 0, false, 0, false⟩ }
  tick (s.setSrc 0 { lostSpeed := 65536 }) 9
theorem wit_PacketMemoryWaitsAndRunControl_wakes :
    (let a : WakeArm := ⟨0, 0, 0, 9, none, 0, false, 0, false⟩; let s := wk srcTRACKING none { moveT := some 9 }
     (s.pt 63).wake = some a ∧ wakeCrossing s 63 a = true ∧ wakeDeadline s a = false ∧ ptState s 63 = ptWAITING) ∧
    (let a : WakeArm := ⟨0, 0, 0, 9, some 9, 0, false, 0, false⟩; let s := wk srcLOST (some 9) {}; wakeCrossing s 63 a = false ∧ wakeDeadline s a = true ∧ wakeDeadline (tick s 8) a = false) ∧
    (let a : WakeArm := ⟨0, 0, 0, 9, none, 0, false, 0, false⟩; let s := wk srcLOST none {}
     wakeCrossing s 63 a = false ∧ wakeDeadline s a = false ∧ wakeHolds s a = true ∧ wouldBeDue s a.src a.dir a.lead a.tgt a.armT = true ∧
       wouldBeDue (tick s 8) a.src a.dir a.lead a.tgt a.armT = false) ∧
    (let a : WakeArm := ⟨0, 0, 0, 9, none, 0, false, 0, false⟩; let s := wk srcTRACKING none {}
     wakeCrossing s 63 a = false ∧ wakeDeadline s a = false ∧ wakeHolds s a = false) ∧
    ((State.reset.pt 63).wake = none ∧ State.reset.pxe.stallFrom.get none 3 = none ∧ clusterStalled State.reset 3 = false) := by decide +kernel
theorem wit_PacketTputAndDatapathCommands_source :
    (let s := teleRing { descs := [ds0 256] } ((px 0xFC000810 { x := [(1, 0x1F000000)] } tele).store 0x20000008 4 256)
     tputRing s 0 = true ∧ nextItem s 0 rkTELEMETRY = some [ds0 256] ∧ s.load 0x20000000 4 = 0 ∧ s.load 0x20000008 4 = 256 ∧ memAdmits s (reqPT 0) false 0 256 = false) ∧
    (let s := px 0 { block := .tputWait 1 0 0 8 } ((PXE_PT_STAT_STATE 0, ptBLOCKED) :: tele)
     (s.pt 0).block = .tputWait 1 0 0 8 ∧ ptState s 0 = ptBLOCKED ∧ tputRing s 0 = true ∧ tputPosted s 0 = false ∧ tputPosted (teleRing { tail := 1 } s) 0 = true ∧
       tputRing (px 0 { block := .tputWait 1 0 0 8 } [(PXE_PT_STAT_STATE 0, ptBLOCKED)]) 0 = false) ∧
    (let s := teleRing { descs := [{ ds0 8 with seq := 3, started := true }] } (px 0 { block := .tput 1 0 3 tcOK } ((PXE_PT_STAT_STATE 0, ptBLOCKED) :: tele))
     (s.pt 0).block = .tput 1 0 3 tcOK ∧ (s.ring 0).descs.any (fun e => e.seq == 3) = true) ∧
    (tcDENIED ≠ tcOK ∧ recStatus (teleRing { recs := [(0, 3, stFAILED_DMA)] } (px 0 {} [])) 0 3 = some stFAILED_DMA ∧ (State.reset.pt 0).block = .none) := by decide +kernel
theorem wit_PacketTputAndDatapathCommands_send :
    (let f : Frame := { cells := [0], charge := 0, cpu := true }; let s (b : Nat) := (fr f (px 0xFC000821 { x := [(1, BitVec.ofNat 32 b)] } [])).setEnt tkVLAN 0 { img := [1, 0, 0, 0, 0x80] }
     cpuHandle (s (2 ^ 30)) 0 = true ∧ (s (2 ^ 30)).frame? 0 = some f ∧ (pxGet (s (2 ^ 30)) 0 (pxB 0xFC000821)).toNat = 2 ^ 30 ∧ bits (2 ^ 30) 30 2 = 1 ∧
       bits (2 ^ 31) 30 2 = 2 ∧ bits (3 * 2 ^ 30) 30 2 = 3 ∧ (pxGet (s (3 * 2 ^ 30)) 0 (pxB 0xFC000821)).toNat = 3 * 2 ^ 30) ∧
    (let s := px 0xFC000023 {} [(MEM_SP_TAG_TAG 0, 0)]; (freeCells s 0).take (cellsFor (wrap 14 0)) = [0] ∧ quotaOk s 0 1 = false) := by decide +kernel

def nsl (l : List (Fld × Nat)) (s : State) : State := s.puts l
/-- An image for the FDB: learned address 0, FID 0, port 0. -/
def fdbImg : List Byte := List.replicate 9 0 ++ [1] ++ List.replicate 70 0
def z80 : List Byte := List.replicate 80 0
set_option maxRecDepth 100000 in
theorem wit_TableRecordsAct :
    (let s := State.reset; s.get (INS_INFO_INSTATE 0) ≠ 0 ∧ z80.length = 80 ∧ le z80 2 2 < 4096 ∧ (s.net.tabOld.get none (tabKey tkVLAN 4094)).map (·.1) ≠ some s.T ∧
       (st [(INS_INFO_INSTATE 127, 1)]).get (INS_INFO_INSTATE 127) ≠ 0 ∧ s.ent? tkVLAN 1 = none ∧ (s.setEnt tkVLAN 1 { img := [1] }).ent? tkVLAN 1 = some { img := [1] }) ∧
    (let s := st [(INS_PANTRY_WORD 0 3, 1)]
     fdbImg.length = 80 ∧ le fdbImg 6 2 < 4096 ∧ le fdbImg 8 1 < 2 ∧ le fdbImg 9 1 = 1 ∧ le fdbImg 10 1 < 128 ∧ fdbFind s 0 0 = none ∧ tabCount s tkFDB 0 < pantry s 0 3 0 15 ∧
       fdbFree s 0 0 = some (4 * fdbSet 0 0) ∧ pantry State.reset 0 3 0 15 ≤ tabCount State.reset tkFDB 0 ∧
       fdbFind (s.setEnt tkFDB (4 * fdbSet 0 0 + 3) { img := fdbImg }) 0 0 = some (4 * fdbSet 0 0 + 3) ∧
       (let e : TabEnt := { img := List.replicate 80 7, owner := 1 }
        let f := (((s.setEnt tkFDB (4 * fdbSet 0 0) e).setEnt tkFDB (4 * fdbSet 0 0 + 1) e).setEnt tkFDB (4 * fdbSet 0 0 + 2) e).setEnt tkFDB (4 * fdbSet 0 0 + 3) e
        fdbFind f 0 0 = none ∧ fdbFree f 0 0 = none ∧ tabCount f tkFDB 0 < pantry f 0 3 0 15)) ∧
    (let s := st [(INS_PANTRY_WORD 0 4, 1)]; bits (le z80 48 4) 28 4 ≤ 4 ∧ bits (le z80 48 4) 24 4 ≤ 5 ∧ flowFind s (z80.take 48) = none ∧ tabCount s tkFLOW 0 < pantry s 0 4 0 19 ∧
       flowFree s (z80.take 48) = some (4 * bucket1 (z80.take 48))) ∧
    (let s := State.reset.setEnt tkSA (0 * 4096 + 5) { img := [] }; s.ent? tkSA (0 * 4096 + 5) = some { img := [] } ∧ s.flag SEC_STAT_KWK_VALID = false ∧
       (st [(SEC_STAT_KWK_VALID, 1)]).flag SEC_STAT_KWK_VALID = true) ∧
    (let d : Desc := { ds0 96 with w := [0, 0, 96, 0x10000000, 0, 0, 0, 0] }; let s := rg rkTX 0 [d] []
     nextItem s 0 rkTX = some [d] ∧ (s.ring 0).descs = [d] ∧ d.opc = 0x10 ∧ d.len = 96 ∧ nextItem State.reset 0 rkTX = none) := by decide +kernel
def up (l : List (Fld × Nat)) : State := st ([(NET_PORT_CFG_EN 0, 1), (NET_PORT_LINK_UP 0, 1), (NET_PORT_CFG_MAXLEN 0, 1518)] ++ l)
def cells0 : List (Fld × Nat) := [(MEM_SP_TAG_TAG 0, 0), (INS_PANTRY_WORD 0 2, 65536)]
set_option maxRecDepth 100000 in
theorem wit_FramesAndStorageMove_admission :
    (let f : List Byte := List.replicate 60 0; let s := (up cells0).setEnt tkVLAN ((up cells0).get (NET_PORT_CFG_PVID 0)) { img := [1, 0, 0, 0, 1] }
     (s.flag (NET_PORT_CFG_EN 0) && s.flag (NET_PORT_LINK_UP 0)) = true ∧ (State.reset.flag (NET_PORT_CFG_EN 0) && State.reset.flag (NET_PORT_LINK_UP 0)) = false ∧
       60 ≤ f.length ∧ (f.drop 1).length < 60 ∧ f.length ≤ s.get (NET_PORT_CFG_MAXLEN 0) ∧ s.ents tkSC = [] ∧ be f (tagEnd f) 2 ≠ 0x8808 ∧ s.flag AGG_CFG_EN = false ∧
       (parse f).tci = none ∧ vlanAdmits (up []) ((up []).get (NET_PORT_CFG_PVID 0)) (fun e => bit (e.f 4 1) 0) = false ∧
       vlanAdmits s (s.get (NET_PORT_CFG_PVID 0)) (fun e => bit (e.f 4 1) 0) = true ∧ freeCells s 0 = 0 :: [1] ∧ cellsFor f.length ≤ [0, 1].length ∧ quotaOk s 0 (cellsFor f.length) = true) ∧
    (let d : Desc := { ds0 60 with w := [0, 0, 60, 0x01000000, 0, 0, 0, 0] }; let s := (rg rkTX 0 [d] cells0).setEnt tkVLAN 0 { img := [1, 0, 0, 0, 0, 0, 0, 0, 1] }
     nextItem s 0 rkTX = some [d] ∧ (s.ring 0).descs = [d] ∧ d.opc = 1 ∧ bits (d.kw 0) 29 3 = 0 ∧ (parse (fix d.len [])).tci = none ∧
       (let vp := (s.look tkVPORT (ringInst s 0)).getD { img := List.replicate 9 0 }
        vp.flag 2 0 = false ∧ vlanAdmits s (vp.f 0 2) (fun v => bit (v.f 8 16) 0) = true ∧ vlanAdmits State.reset (vp.f 0 2) (fun v => bit (v.f 8 16) 0) = false) ∧
       freeCells s 0 = 0 :: [1] ∧ quotaOk s 0 (cellsFor (fix d.len []).length) = true) := by decide +kernel
def fkey : List Byte := flowKey (parse []) 0 0 (bit (pktFlags [] (parse []) 0) 2) (bit (pktFlags [] (parse []) 0) 3) 0
def fidx : Nat := 4 * bucket1 fkey
set_option maxRecDepth 100000 in
theorem wit_FramesAndStorageMove_flows :
    (let e : TabEnt := { img := List.replicate 8 0 ++ [1] }; let s := State.reset.setEnt tkFDB 5 e
     s.ent? tkFDB 5 = some e ∧ e.f 8 1 = 1 ∧ e.lastT + s.get NET_CFG_FDB_AGE * 1000000000 ≤ (tick s (10 ^ 15)).T ∧
       (let u := s.put NET_CFG_FDB_AGE 1; u.T < e.lastT + u.get NET_CFG_FDB_AGE * 1000000000) ∧ (TabEnt.f { img := [] } 8 1) ≠ 1) ∧ State.reset.net.held = [] ∧
    (let m : Meta := { h := 0, src := 0 }; let e : TabEnt := { img := fkey ++ List.replicate 32 0 }; let f : Frame := { cells := [0], charge := 0 }
     let u := (st [(NET_FLOW_CFG_EN, 1)]).setEnt tkFLOW fidx e; let s := fr f { u with net := { u.net with held := [(fidx, m, [])] } }
     s.net.held = [(fidx, m, [])] ∧ m.again = 0 ∧ m.tx = none ∧ s.flag NET_FLOW_CFG_EN = true ∧ flowLook s fkey = some fidx ∧ s.look tkFLOW fidx = some e ∧
       bits (e.f 48 4) 28 4 = 0 ∧ s.frame? m.h = some f ∧ f.refs ≤ 1 ∧ fidx < 2 ^ 32) := by decide +kernel
def qe : QEnt := { h := 0, bytes := List.replicate 60 0, inst := 0 }
theorem wit_FramesAndStorageMove_transmission :
    (let u := st [(TSN_PORT_RATE_MBPS 0, 1000), (TSN_PORT_GCL_STAT_GATES 0, 255), (TSN_NODE_CFG_QUANTUM 9, 1)]
     let s := (u.setNode 9 { q := [qe] }).setTcq 0 7 { round := [9] }
     portRate s 0 ≠ 0 ∧ s.ptx 0 = {} ∧ (∀ k < 8, k ≠ 7 → (s.tcq 0 k).round = []) ∧ (s.tcq 0 7).round = [9] ∧ (s.tcq 0 7).added = false ∧ (s.tcq 0 7).flagged = false ∧
       (s.node 9).q = [qe] ∧ s.flag (TSN_TC_CFG_CBS_EN 0 7) = false ∧ gclOn s 0 = false ∧ gateOpen s 0 7 = true ∧ s.flag (TSN_PORT_GCL_STAT_HOLD 0) = false ∧
       charge s 0 7 qe.bytes ≤ (s.node 9).deficit + nodeQuantum s 9 ∧ portRate State.reset 0 = 0) ∧
    (let x : TxCur := { e := qe, tc := 7, start := 0, c := 64, close := some 5 }; let s := tick ((st [(TSN_PORT_RATE_MBPS 0, 1000)]).setPtx 0 { cur := some x }) 1000
     (s.ptx 0).cur = some x ∧ portRate s 0 ≠ 0 ∧ txEnd s 0 x ≤ s.T ∧ txSc s 0 = none ∧ (∃ u, x.close = some u ∧ u < txEnd s 0 x) ∧ (tick s 1).T < txEnd s 0 x) ∧
    (let x : TxCur := { e := qe, tc := 7, start := 0, c := 64 }; let s := tick ((st [(TSN_PORT_RATE_MBPS 7, 1000), (NET_CPUQ_EN 0, 1)]).setPtx 7 { cur := some x }) 1000
     (s.ptx 7).cur = some x ∧ portRate s 7 ≠ 0 ∧ txEnd s 7 x ≤ s.T ∧ s.flag (NET_CPUQ_EN (x.e.dest % 16)) = true ∧ (cpuq s (x.e.dest % 16)).length < 1024) := by
  refine ⟨by decide +kernel, ⟨by decide +kernel, by decide +kernel, by decide +kernel, by decide +kernel, ⟨5, by decide +kernel⟩, by decide +kernel⟩, by decide +kernel⟩
/-- A storage descriptor of operation `o` of 512 bytes on namespace 0. -/
def sd (o len : Nat) : Desc := { seq := 0, w := [0, 0, len, o * 2 ^ 24, 0, 0, 0, 0], formed := true }
def sqr (o len : Nat) : State :=
  (rg rkSQ 0 [sd o len] [(NET_NVME_STAT_STATE, 2), (NET_NVME_CFG_QD, 1), (NET_NVME_CFG_STAGE, 1)]).setEnt tkNS 0 { img := [1, 0, 9, 0] ++ List.replicate 12 0 ++ [9, 0, 0, 0, 0, 0, 0, 0] }
theorem wit_FramesAndStorageMove_storage :
    (∀ o : Fin 2, nextItem (sqr (o.val + 1) 512) 0 rkSQ = some [sd (o.val + 1) 512] ∧ (nsCheck (sqr (o.val + 1) 512) 0 (sd (o.val + 1) 512)).1.isSome = true) ∧
    (∀ o : Fin 5, (nsCheck (rg rkSQ 0 [sd (o.val + 1) 0] []) 0 (sd (o.val + 1) 0)).1 = none) ∧
    (let s := sqr 1 512; nsXts { img := [1, 0] } = false ∧ s.get NET_NVME_STAT_STATE = 2 ∧ atSsd s 0 < s.get NET_NVME_CFG_QD ∧
       staged s + (sd 1 512).len ≤ s.get NET_NVME_CFG_STAGE * 4096 ∧ State.reset.get NET_NVME_STAT_STATE ≠ 2) ∧
    (let c : SsdCmd := { ring := 0, seq := 0, opc := 1, len := 512, xts := none, lba := 0, t := 0 }; let u := rg rkSQ 0 [sd 1 512] [(NET_NVME_CFG_QD, 1), (NET_NVME_TMO_MS, 1)]
     let s := { u with net := { u.net with ssd := [c] } }
     s.net.ssd.find? (fun c => c.ring == 0 && c.seq == 0) = some c ∧ c.dead = false ∧ c.opc = 1 ∧ c.xts = none ∧
       (s.ring 0).descs.find? (fun d => d.seq == 0 && d.done.isNone) = some (sd 1 512) ∧ s.T < c.t + s.get NET_NVME_TMO_MS * 1000000 ∧
       c.t + s.get NET_NVME_TMO_MS * 1000000 ≤ (tick s 1000000).T ∧ ({ c with opc := 2 } : SsdCmd).opc ≠ 1) ∧
    ((up []).flag (NET_PORT_CFG_EN 0) = true ∧ modeOk 0 ((up []).get (NET_PORT_CFG_MODE 0)) 5 = true ∧ State.reset.flag (NET_PORT_CFG_EN 0) = false) ∧
    ((st [(NET_NVME_STAT_STATE, 1)]).get NET_NVME_STAT_STATE = 1 ∧ (63 : Nat) < 64 ∧ State.reset.get NET_NVME_STAT_STATE ≠ 1) := by decide +kernel
/-- The image that begins with `l`. -/
def im (l : List Byte) : List Byte := l ++ List.replicate (80 - l.length) 0
set_option maxRecDepth 100000 in
theorem wit_TableRecordsAct_rights :
    (State.reset.ent? (recKey tkVLAN 0 7).1 (recKey tkVLAN 0 7).2 = none ∧ requesterOf 0 = none ∧ (List.range 128).all (fun n => n == 0 || requesterOf n == some n) = true) ∧
    (let e : TabEnt := { img := im [1] }; let s := (st [(INS_INFO_INSTATE 5, isREADY)]).setEnt tkVLAN 7 e
     s.ent? tkVLAN 7 = some e ∧ entRight s none tkVLAN 7 e true = true ∧ entRight s (some 5) tkVLAN 7 e true = false ∧ entRight s none tkVLAN 7 e false = true ∧
       entRight s (some 5) tkVLAN 7 e false = false ∧ s.get (INS_INFO_INSTATE 5) ≠ 0) ∧
    (let e : TabEnt := { img := im [] }; let t : TabEnt := { img := im [], tmpl := true }
     e.tmpl = ((4 : Nat) == tkTEMPLATE) ∧ t.tmpl = (tkTEMPLATE == tkTEMPLATE) ∧ (recKey tkTEMPLATE 0 9).1 = tkFLOW) ∧
    (let e : TabEnt := { img := im [], owner := 5 }; let s := State.reset.setEnt tkSA (5 * 4096 + 7) e
     keyEntry s (some 5) 6 5 7 = .inr (tkSA, 5 * 4096 + 7, 0, e) ∧ keyEntry s none 6 5 8 = .inl trNOT_FOUND ∧ keyEntry s none 5 5 7 = .inl trBAD_ARG ∧
       keyEntry (State.reset.setEnt tkSC (63) e) none tkSC 0 (3 * 65536 + 63) = .inr (tkSC, 63, 3, e)) ∧
    ((im [1]).take 32 ≠ ((im [1]).drop 32).take 32 ∧ (im []).take 32 = ((im []).drop 32).take 32) := by decide
theorem wit_TableRecordsAct_writes :
    ((im []).length = 80 ∧ le (im []) 6 1 ≤ 4 ∧ le (im []) 7 1 ≤ 2 ∧ le (im []) 8 1 ≤ 15 ∧ le (im [0xFF, 0x0F]) 0 2 = 4095) ∧
    (let i := im [2, 0, 99, 0, 0, 1]; (4095 : Nat) < pantry (st [(INS_PANTRY_WORD 0 5, 4096 * 65536)]) 0 5 16 13 ∧ 256 ≤ le i 4 4 ∧ bits (le i 0 2) 6 2 ≤ 2 ∧
       bits (le i 0 2) 8 3 ≤ 5 ∧ bit (le i 0 2) 1 = true ∧ 50 ≤ le i 2 1 ∧ le i 2 1 ≤ 99 ∧ i.length = 80 ∧ le (im [2, 0, 0, 0, 0, 1]) 2 1 = 0) ∧
    (let i := im [2, 0, 5, 3]; (63 : Nat) < pantry (st [(INS_PANTRY_WORD 0 5, 64)]) 0 5 0 7 ∧ le i 2 1 ≤ 5 ∧ bits (le i 0 2) 4 2 ≤ 2 ∧ le i 3 1 ≤ 3 ∧ bit (le i 0 2) 1 = true) ∧
    (let i := im [0, 0, 12]; (127 : Nat) < pantry (st [(INS_PANTRY_WORD 0 7, 128)]) 0 7 0 8 ∧ le i 2 1 = 12 ∧ State.reset.ents tkNS = []) ∧
    (let d : Desc := { ds0 96 with w := [0, 0, 192, 0x10000000, 0, 0, 0, 0] }; let f : Desc := { d with w := [0, 0, 60, 0x01000000, 0, 0, 0, 0] }
     nextItem (rg rkTX 0 [d] []) 0 rkTX = some [d] ∧ d.opc ≠ 1 ∧ d.len / 96 = 2 ∧ nextItem (rg rkTX 0 [f] []) 0 rkTX = some [f] ∧ f.opc ≠ 0x10) := by decide +kernel
set_option maxRecDepth 100000 in
theorem wit_FramesAndStorageMove_refusals :
    (let f : List Byte := List.replicate 61 0; let s := up [(NET_PORT_CFG_MAXLEN 0, 60)]; 60 ≤ f.length ∧ s.ents tkSC = [] ∧ s.get (NET_PORT_CFG_MAXLEN 0) < f.length) ∧
    (let f : List Byte := List.replicate 12 0 ++ [0x88, 0x08] ++ List.replicate 46 0; f.length = 60 ∧ f.length ≤ (up []).get (NET_PORT_CFG_MAXLEN 0) ∧ be f (tagEnd f) 2 = 0x8808) ∧
    (let f : List Byte := List.replicate 12 0 ++ [0x88, 0xB5] ++ List.replicate 46 0; let s := up [(AGG_CFG_EN, 1), (AGG_MAC_LO_MAC, 0), (AGG_MAC_HI_MAC, 0)]
     aggDiverts s 0 f = true ∧ be f (tagEnd f) 2 ≠ 0x8808 ∧ f.length = 60 ∧ aggDiverts (up []) 0 f = false) ∧
    (let e : TabEnt := { img := [67] }; (macsecIn ((up []).setEnt tkSC 0 e) 0 (List.replicate 60 0)).2 = none) ∧
    (let s := (up []).setEnt tkVLAN 1 { img := [1, 0, 0, 0, 1] }
     vlanAdmits s (s.get (NET_PORT_CFG_PVID 0)) (fun e => bit (e.f 4 1) 0) = true ∧ (freeCells s 0).length < cellsFor 60) ∧
    (let d : Desc := { ds0 60 with w := [0, 0, 60, 0x01000000, 0, 0, 0, 0] }; let s := (rg rkTX 0 [d] []).setEnt tkVLAN 0 { img := [1, 0, 0, 0, 0, 0, 0, 0, 1] }
     nextItem s 0 rkTX = some [d] ∧ quotaOk s 0 (cellsFor (fix d.len []).length) = false ∧ cellsFor 0 = 1) := by decide +kernel
theorem wit_FramesAndStorageMove_fetch :
    (State.reset.ent? tkFDB 5 = none ∧ (∀ x ∈ State.reset.net.held, x.1 ≠ 5)) ∧
    (let s := { State.reset with net := { State.reset.net with held := [(5, { h := 0, src := 0 }, [])] } }; (s.net.held.any (fun x => x.1 == 5)) = true) := by decide
/-- Port 0 with preemption active, at the queues `q`, what it transmits and what it interrupted. -/
def pre0 (q : List (Nat × Nat)) (x : PortTx) (l : List (Fld × Nat)) : State :=
  let u := st ([(TSN_PORT_RATE_MBPS 0, 1000), (TSN_PORT_GCL_STAT_GATES 0, 255), (TSN_PORT_CFG_PREEMPT_EN 0, 1), (TSN_PORT_STAT_VERIFIED 0, 1), (TSN_TC_CFG_PREEMPT 0 1, 1)] ++ l)
  q.foldl (fun s e => (s.setNode e.2 { q := [qe] }).setTcq 0 e.1 { round := [e.2] }) (u.setPtx 0 x)
theorem wit_FramesAndStorageMove_preemption :
    let f : TxCur := { e := { qe with bytes := List.replicate 200 0 }, tc := 1, start := 0, c := 0 }
    (let s := pre0 [(7, 9)] { pre := some f } []; portRate s 0 ≠ 0 ∧ pickTc s 0 (fun c => !preemptable s 0 c) = some 7) ∧
    (let s := pre0 [] { pre := some f } []; pickTc s 0 (fun c => !preemptable s 0 c) = none ∧ gateOpen s 0 1 = true ∧ s.flag (TSN_PORT_GCL_STAT_HOLD 0) = false ∧
      gateOpen (s.put (TSN_PORT_GCL_STAT_GATES 0) 0) 0 1 = false) ∧
    (let s := tick (pre0 [(7, 9)] { cur := some f } []) 1000; preemptable s 0 1 = true ∧ cutPoint s 0 f = true ∧ (pickTc s 0 (fun c => !preemptable s 0 c)).isSome = true ∧
      cutPoint (tick s 1) 0 f = false) ∧
    ((State.reset.ptx 0).cur = none ∧ (State.reset.ptx 0).pre = none) := by decide +kernel
theorem wit_FramesAndStorageMove_xts :
    (let c : SsdCmd := { ring := 0, seq := 0, opc := 1, len := 512, xts := some 0, lba := 0, t := 0 }; let u := rg rkSQ 0 [sd 1 512] [(NET_NVME_TMO_MS, 1)]
     let s := { u with net := { u.net with ssd := [c] } }
     s.net.ssd.find? (fun c => c.ring == 0 && c.seq == 0) = some c ∧ c.xts = some 0 ∧ (s.ring 0).descs.find? (fun d => d.seq == 0 && d.done.isNone) = some (sd 1 512) ∧
       ((s.ent? tkNS 0).getD { img := [] }).key.isEmpty = true ∧
       (({ u with net := { u.net with ssd := [{ c with dead := true }] } } : State).net.ssd.find? (fun c => c.ring == 0 && c.seq == 0)) = some { c with dead := true } ∧
       c.t + s.get NET_NVME_TMO_MS * 1000000 ≤ (tick s 1000000).T ∧ ((wr {} s).ring 0).descs.find? (fun d => d.seq == 0 && d.done.isNone) = none) ∧
    (State.reset.net.ssd.find? (fun c => c.ring == 0 && c.seq == 0) = none ∧ nextItem State.reset 0 rkSQ = none ∧ (sd 1 512).opc ≠ 2 ∧
      (sqr 1 512).get NET_NVME_CFG_QD ≤ atSsd { sqr 1 512 with net := { (sqr 1 512).net with ssd := [{ ring := 0, seq := 0, opc := 1, len := 512, xts := none, lba := 0, t := 0 }] } } 0) ∧
    (let s := (sqr 2 512).setEnt tkNS 0 { img := [5, 0, 9, 0] ++ List.replicate 12 0 ++ [9, 0, 0, 0, 0, 0, 0, 0], key := [(0, [1])] }
     (nsCheck s 0 (sd 2 512)).1.isSome = true ∧ nsXts { img := [5, 0, 9, 0] } = true) ∧
    (modeOk 0 ((up []).get (NET_PORT_CFG_MODE 0)) 6 = false ∧ modeOk 0 ((up []).get (NET_PORT_CFG_MODE 0)) 1 = true ∧ modeOk 5 2 2 = true) ∧
    (let x : TxCur := { e := qe, tc := 7, start := 0, c := 64 }; let s := tick ((st [(TSN_PORT_RATE_MBPS 6, 1000)]).setPtx 6 { cur := some x }) 1000
     (s.ptx 6).cur = some x ∧ portRate s 6 ≠ 0 ∧ txEnd s 6 x ≤ s.T) := by decide +kernel
set_option maxRecDepth 100000 in
theorem wit_GatesNodesAndTimeMove_commit :
    isMC 1 = true ∧ isMC 3 = false ∧
    (let s := tick (st [(TSN_GPTP_OFS_LO_OFS, 5)]) 7; let g : Gptp := { ofs := 5, rate := 0, tc := 7 }
     signed 64 (s.get TSN_GPTP_OFS_LO_OFS + s.get TSN_GPTP_OFS_HI_OFS * 2 ^ 32) = 5 ∧ gNow s < gNow { s with gptp := g } ∧ (∀ p < 8, gclRuns s p = false)) ∧
    (let s := tick (st [(TSN_GPTP_OFS_LO_OFS, 40000000), (TSN_PORT_CFG_GCL_EN 0, 1)]) 7; let u := s.setGcl 0 { cycle := 5000 }; let now := gNow { u with gptp := ⟨40000000, 0, 7⟩ }
     gNow u < now ∧ gNow u / 20000000 < now / 20000000 ∧ gclRuns u 0 = true ∧ entryEnd u 0 ≤ now) ∧
    (let s := tick (st [(TSN_GPTP_OFS_LO_OFS, 0)]) 7; gNow { s with gptp := ⟨0, 0, 7⟩ } ≤ gNow s) := by decide +kernel
set_option maxRecDepth 100000 in
theorem wit_GatesNodesAndTimeMove_lists :
    (let u := (st [(TSN_PORT_CFG_GCL_EN 7, 1), (TSN_PORT_GCL_STAT_PEND 7, 1)]).setGcl 7 { cycle := 5000, ct := 5000 }; let s := tick u 5000; let v := tick (u.put (TSN_PORT_GCL_STAT_PEND 7) 0) 5000
     gclRuns State.reset 7 = false ∧ gNow u < entryEnd u 7 ∧ gclRuns s 7 = true ∧ entryEnd s 7 ≤ gNow s ∧ gclPend s 7 = true ∧ (s.gcl 7).ct ≤ entryEnd s 7 ∧
       gclRuns v 7 = true ∧ entryEnd v 7 ≤ gNow v ∧ gclPend v 7 = false ∧ gclAngle s 7 = false ∧ (s.gcl 7).ct ≤ gNow s ∧ gclOn s 7 = true ∧ gNow u < (u.gcl 7).ct ∧
       gclOn (s.put (TSN_PORT_CFG_GCL_EN 7) 0) 7 = false) ∧
    (let s := (st [(TSN_PORT_CFG_GCL_EN 0, 1), (TSN_PORT_CFG_PREEMPT_EN 0, 1), (TSN_PORT_STAT_VERIFIED 0, 1), (TSN_GCL_ENTRY_LO 0 1, 2 ^ 30), (TSN_GCL_ENTRY_HI_HI 0 0, 100)])
     let a := tick (s.setGcl 0 { cycle := 5000, len := 2 }) 100; let b := tick ((s.put (TSN_GCL_ENTRY_LO 0 1) (2 ^ 31)).setGcl 0 { cycle := 5000, len := 2 }) 100
     gclRuns a 0 = true ∧ entryEnd a 0 ≤ gNow a ∧ gclPend a 0 = false ∧ a.get (TSN_PORT_GCL_STAT_ENTRY 0) + 1 < (a.gcl 0).len ∧ preemptOn a 0 = true ∧ gclOp a 0 1 = 1 ∧
       gclRuns b 0 = true ∧ entryEnd b 0 ≤ gNow b ∧ gclOp b 0 1 = 2) ∧
    (let asked (s : State) (n : Nat) := s.puts [(TSN_PORT_GCL_CTRL_LEN 0, n), (TSN_PORT_GCL_CTRL_FB_GATES 0, 255)]
     let s := st [(TSN_GCL_ENTRY_HI_HI 1 0, 1000), (TSN_PORT_GCL_CYCLE_CYCLE 0, 1000), (TSN_PORT_GCL_BASE_LO_BASE 0, 1000)]; let late := tick s 1
     gclPend (st [(TSN_PORT_GCL_STAT_PEND 0, 1)]) 0 = true ∧ gclPend s 0 = false ∧ gclBad (asked s 1025) 0 = true ∧ gclBad (asked s 1) 0 = false ∧
       gNow s + 1000 ≤ s.get (TSN_PORT_GCL_BASE_LO_BASE 0) + s.get (TSN_PORT_GCL_BASE_HI_BASE 0) * 2 ^ 32 ∧
       late.get (TSN_PORT_GCL_BASE_LO_BASE 0) + late.get (TSN_PORT_GCL_BASE_HI_BASE 0) * 2 ^ 32 < gNow late + 1000 ∧ 0 < late.get (TSN_PORT_GCL_CYCLE_CYCLE 0)) ∧
    (let s := tick (st [(TSN_PORT_CFG_GCL_EN 3, 1), (TSN_PORT_CFG_MODE 3, 1), (TSN_PORT_GCL_ANG_ANG_TMO 3, 2)]) 2000; let due := (s.gcl 3).fireT + s.get (TSN_PORT_GCL_ANG_ANG_TMO 3) * 1000
     gclOn s 3 = true ∧ gclAngle s 3 = true ∧ (s.gcl 3).lost = false ∧ due ≤ s.T ∧ (tick s 1999).T < due ∧ gclOn State.reset 3 = false ∧ (s.setGcl 3 { lost := true }).gcl 3 = { lost := true }) := by
  decide +kernel
set_option maxRecDepth 100000 in
theorem wit_GatesNodesAndTimeMove_nodes :
    (let q : TcQ := { round := [9], wait := some 0 }; let s := (tick (st [(TSN_PORT_GCL_STAT_GATES 0, 255), (TSN_PORT_CFG_STARVE_US 0, 1)]) 1000).setTcq 0 7 q
     (s.tcq 0 7).round ≠ [] ∧ gateOpen s 0 7 = true ∧ creditOk s 0 7 = true ∧ (s.tcq 0 7).wait = some 0 ∧ 0 + s.get (TSN_PORT_CFG_STARVE_US 0) * 1000 ≤ s.T ∧
       (tick s 999).T < 0 + s.get (TSN_PORT_CFG_STARVE_US 0) * 1000 ∧ (State.reset.tcq 0 7).round = [] ∧ gateOpen (st [(TSN_PORT_GCL_STAT_GATES 0, 127)]) 0 7 = false ∧
       creditOk ((st [(TSN_TC_CFG_CBS_EN 0 7, 1)]).setTcq 0 7 { credit := -1 }) 0 7 = false) ∧
    (let mine (s : State) := (s.tsn.node.map (·.1)).filter (fun k => k < 4096 && k != s.get TSN_NODE_IDX_NODE && s.flag (TSN_NODE_CFG_EN k) && s.get (TSN_NODE_CFG_INST k) == 0)
     let s := st [(INS_PANTRY_WORD 0 6, 2 * 65536)]; let v := 2 ^ 31; let u := ((s.put (TSN_NODE_CFG_EN 5) 1).setNode 5 {})
     bit v 31 = true ∧ bit 0 31 = false ∧ bits v 18 7 = 0 ∧ mine State.reset = [] ∧ pantry (st []) 0 6 16 13 ≤ (mine State.reset).length ∧ (mine s).length < pantry s 0 6 16 13 ∧
       mine u = [5] ∧ u.get (TSN_NODE_CFG_PORT 5) = bits v 28 3 ∧ u.get (TSN_NODE_CFG_TC 5) = bits v 25 3) ∧
    (let s := st [(NET_PORT_LINK_UP 5, 1), (TSN_PORT_CFG_PREEMPT_EN 5, 1)]; s.flag (NET_PORT_LINK_UP 5) = true ∧ s.flag (TSN_PORT_CFG_PREEMPT_EN 5) = true ∧
       State.reset.flag (NET_PORT_LINK_UP 5) = false) := by decide +kernel
theorem wit_GatesNodesAndTimeMove_waiting :
    let s := (tick (st [(TSN_PORT_GCL_STAT_GATES 0, 255), (TSN_TC_CFG_CBS_EN 0 7, 1), (TSN_TC_IDLE_IS 0 7, 1000000)]) 1000).setTcq 0 7 { round := [9], credit := 400000000 }
    s.get (TSN_TC_IDLE_IS 0 7) = 1000000 ∧ (s.tcq 0 7).wait = none ∧ s.T - (creditAt s 0 7).toNat / 1000000 = 0 ∧ creditOk s 0 7 = true ∧
      (st [(TSN_TC_IDLE_IS 0 7, 0)]).get (TSN_TC_IDLE_IS 0 7) = 0 ∧ s.T < 0 + (s.put (TSN_PORT_CFG_STARVE_US 0) 2).get (TSN_PORT_CFG_STARVE_US 0) * 1000 := by decide +kernel
/-- A frame of type `t` with SRC 2, EPOCH `ep`, SEQ 1 and payload `pl`, what it is read as, and a state that has received it. -/
def qf (t ep : Nat) (pl : List Byte) : Nat × List Byte :=
  (9, leBytes 1 1 ++ leBytes 1 t ++ leBytes 2 0 ++ leBytes 2 2 ++ leBytes 2 ep ++ leBytes 4 1 ++ leBytes 2 0xFFFF ++ leBytes 2 pl.length ++ pl)
def qm (t ep : Nat) (pl : List Byte) : QorMsg := ⟨9, t, 2, ep, 1, pl⟩
def qs (e : Nat × List Byte) (a : Agg) (role : Nat) (l : List (Fld × Nat)) : State :=
  { st ([(AGG_CFG_EN, 1), (AGG_CFG_ROLE, role)] ++ l) with agg := { a with rx := [e] } }
theorem qorAt_of (s : State) (e : Nat × List Byte) (l : List (Nat × List Byte)) (m : QorMsg) (t : Nat)
    (h : s.agg.rx = e :: l ∧ qorParse s e = some m ∧ m.typ = t ∧ qorLast s m.src m.epoch = none) : QorAt s e l m t :=
  ⟨h.1, h.2.1, h.2.2.1, fun q hq => by rw [h.2.2.2] at hq; exact absurd hq (by simp)⟩
/-- A REF of G 20,000,000, phase `ph`, nominal frequency, the node's own profile and the ISLAND flag `isl`. -/
def refPl (ph isl : Nat) : List Byte := leBytes 8 20000000 ++ leBytes 4 ph ++ leBytes 12 0 ++ leBytes 5 0 ++ leBytes 1 isl ++ leBytes 2 0
def cap1 : List (Fld × Nat) := [(AGG_CAP_FLAGS_VALID 3, 1), (AGG_CAP_G_LO_G 3, 20000000)]
set_option maxRecDepth 100000 in
theorem wit_CapturesAndCoordinatorAct_captures :
    (let s := tick (st [(AGG_CFG_EN, 1)]) 20000000; s.flag AGG_CFG_EN = true ∧ s.agg.capG / 20000000 < gNow s / 20000000 ∧ gNow s / 20000000 = s.agg.capG / 20000000 + 1 ∧
       State.reset.flag AGG_CFG_EN = false) ∧
    (let s (l : List (Fld × Nat)) : State := { st ([(AGG_CFG_EN, 1), (AGG_CFG_ROLE, roleCOORD)] ++ l) with agg := { refDue := true, next := 1 } }
     aggRole (s []) = roleCOORD ∧ (s []).agg.refDue = true ∧ (s []).grd.inj = none ∧ gridLocked (s [(GRD_STAT_LOCKED, 1)]) = true ∧ gridLocked (s []) = false ∧
       (s []).flag AGG_STAT_ISLAND = false ∧ (s [(AGG_STAT_ISLAND, 1)]).flag AGG_STAT_ISLAND = true ∧ ((s []).agg.next + 3) % 4 = 0 ∧
       (s [(AGG_CAP_FLAGS_STEP 0, 1)]).flag (AGG_CAP_FLAGS_STEP 0) = true ∧ (s []).flag (AGG_CAP_FLAGS_STEP 0) = false ∧ aggRole State.reset ≠ roleCOORD ∧ State.reset.agg.refDue = false) ∧
    (∀ c ∈ qorRows, qorParse (qs (9, []) {} 1 []) (9, []) = none ∧
      (∀ n ∈ qorLen c.2, let e := qf c.2 0 (List.replicate n 0); let s := qs e { lastSeq := [((2, 0), 1)] } 1 []
        s.agg.rx = [e] ∧ qorParse s e = some (qm c.2 0 (List.replicate n 0)) ∧ qorLast s 2 0 = some 1)) ∧
    isMC 1 = true ∧ isMC 3 = false ∧ isTenant 1 = false ∧ isTenant 0x81 = true := by decide +kernel
set_option maxRecDepth 100000 in
theorem wit_CapturesAndCoordinatorAct_members :
    (let j := List.replicate 8 0; let e := qf qorJOIN 0 j
     QorAt (qs e {} 2 []) e [] (qm qorJOIN 0 j) qorJOIN ∧ aggRole (qs e {} 2 []) = roleCOORD ∧ joinRefusals (qs e {} 2 []) (qm qorJOIN 0 j) = [] ∧
       (qs e {} 2 [(AGG_CTRL_CLOSE, 1)]).flag AGG_CTRL_CLOSE = true ∧ fieldAt (qm qorJOIN 0 [1, 0, 0, 0, 0, 0, 0, 0]).pl 0 4 ≠ profId (qs e {} 2 []) ∧
       (qs e { members := [(2, some ⟨8, 0⟩)] } 2 []).agg.members.get none 2 = some ⟨8, 0⟩ ∧ (8 : Nat) ≠ (qm qorJOIN 0 j).mac ∧ aggRole (qs e {} 1 []) ≠ roleCOORD) ∧
    (let e := qf qorSTATUS 0 (List.replicate 8 0); QorAt (qs e { members := [(2, some ⟨9, 0⟩)] } 2 []) e [] (qm qorSTATUS 0 (List.replicate 8 0)) qorSTATUS ∧
       (qs e { members := [(2, some ⟨9, 0⟩)] } 2 []).agg.members.get none 2 = some ⟨9, 0⟩ ∧ (qs e {} 2 []).agg.members.get none 2 = none) ∧
    (let e := qf qorLEAVE 0 (List.replicate 4 0); QorAt (qs e { members := [(2, some ⟨9, 0⟩)] } 2 []) e [] (qm qorLEAVE 0 (List.replicate 4 0)) qorLEAVE) ∧
    (∀ n x, State.reset.agg.members.get none n = some x → State.reset.T < x.status + 1000000000) ∧
    (let s := st [(AGG_CFG_EN, 1), (AGG_CFG_ROLE, 2)]; let i := s.put AGG_STAT_ISLAND 1; let m : State := { i with agg := { i.agg with mgrHold := true } }
     aggRole s = roleCOORD ∧ s.flag AGG_STAT_ISLAND = false ∧ gridLive s causeCMD = false ∧ aggRole i = roleCOORD ∧ i.flag AGG_STAT_ISLAND = true ∧
       (gridLive i causeACTIVE || gridLive i causeROCOF || gridLive i causeVS || gridLive i causeUNLOCK) = false ∧ i.agg.mgrHold = false ∧ i.agg.gateHold = false ∧ m.agg.mgrHold = true ∧
       (let u := st [(GRD_CAUSE_LIVE, 1)]; gridLive u causeACTIVE || gridLive u causeROCOF || gridLive u causeVS || gridLive u causeUNLOCK) = true) := by
  refine ⟨⟨qorAt_of _ _ _ _ _ (by decide +kernel), by decide +kernel⟩, ⟨qorAt_of _ _ _ _ _ (by decide +kernel), by decide +kernel⟩, qorAt_of _ _ _ _ _ (by decide +kernel), ?_, by decide +kernel⟩
  intro n x h
  have : State.reset.agg.members.get none n = none := rfl
  rw [this] at h
  exact absurd h (by simp)
set_option maxRecDepth 100000 in
theorem wit_NodeFollowsItsCoordinator_refs :
    (∀ x : Fin 3, let e := qf qorREF 0 (refPl 0 0); let s := qs e {} roleNODE ((AGG_STAT_STATE, [1, 2, 4].getD x.val 0) :: cap1)
      QorAt s e [] (qm qorREF 0 (refPl 0 0)) qorREF ∧ aggRole s = roleNODE ∧ bit (fieldAt (refPl 0 0) 29 1) 0 = false ∧ s.agg.islHold = false ∧ s.flag AGG_CFG_EXPORT_GATE = false ∧
        s.agg.gateHold = false ∧ s.get AGG_STAT_STATE = [aggSEEKING, aggALIGNING, aggJOINED].getD x.val 0 ∧ (0 : Nat) = s.agg.epoch ∧ usableRef s (refPl 0 0) = some 3 ∧
        (angDiff (withOfs s (s.get (AGG_CAP_THETA_THETA 3))) (fieldAt (refPl 0 0) 8 4)).natAbs ≤ 2982616) ∧
    (let e := qf qorREF 0 (refPl 0 1); QorAt (qs e {} roleNODE []) e [] (qm qorREF 0 (refPl 0 1)) qorREF ∧ bit (fieldAt (refPl 0 1) 29 1) 0 = true ∧
       aggFollows (qs e {} roleNODE []) = false ∧ aggFollows (qs e {} roleNODE [(AGG_STAT_STATE, aggJOINED)]) = true ∧ 0 ≤ epochLead 0 0) ∧
    (let e := qf qorREF 0 (refPl 0x10000000 0); let s (k : Nat) (l : List (Fld × Nat)) := qs e {} roleNODE ((AGG_STAT_STATE, k) :: l)
     QorAt (s aggJOINED []) e [] (qm qorREF 0 (refPl 0x10000000 0)) qorREF ∧ usableRef (s aggJOINED []) (refPl 0x10000000 0) = none ∧ (s aggJOINED []).agg.limited = 0 ∧
       usableRef (s aggJOINED cap1) (refPl 0x10000000 0) = some 3 ∧ 2982616 < (angDiff (withOfs (s aggJOINED cap1) ((s aggJOINED cap1).get (AGG_CAP_THETA_THETA 3))) 0x10000000).natAbs ∧
       (s aggHOLDOVER []).get AGG_STAT_STATE = aggHOLDOVER ∧ usableRef (s aggHOLDOVER []) (refPl 0x10000000 0) = none ∧ (s aggLONE []).get AGG_STAT_STATE = aggLONE ∧ 0 < epochLead 1 0) := by
  refine ⟨fun x => ⟨qorAt_of _ _ _ _ _ ?_, ?_⟩, ⟨qorAt_of _ _ _ _ _ (by decide +kernel), by decide +kernel⟩, qorAt_of _ _ _ _ _ (by decide +kernel), by decide +kernel⟩
  · revert x; decide +kernel
  · revert x; decide +kernel
set_option maxRecDepth 100000 in
theorem wit_NodeFollowsItsCoordinator_orders :
    (let e := qf qorISLAND 0 (List.replicate 8 0); QorAt (qs e { epoch := 1 } roleNODE []) e [] (qm qorISLAND 0 (List.replicate 8 0)) qorISLAND ∧
       aggFollows (qs e {} roleNODE []) = false ∧ gridLive (qs e {} roleNODE []) causeCMD = false ∧ aggFollows (qs e { epoch := 1 } roleNODE [(AGG_STAT_STATE, aggFAIL)]) = true ∧ epochLead 0 1 < 0) ∧
    (let e := qf qorRESUME 0 []; let s := qs e { islHold := true, islBy := (2, 0) } roleNODE []; QorAt s e [] (qm qorRESUME 0 []) qorRESUME ∧ aggRole s = roleNODE ∧ s.agg.islHold = true ∧
       s.agg.islBy = (2, 0) ∧ s.agg.mgrHold = false ∧ s.agg.gateHold = false ∧ (2, 0) ≠ (3, 0) ∧ State.reset.agg.islHold = false) ∧
    (let e := qf qorACCEPT 0 []; let s := qs e { inj := some (1, 2) } roleNODE [(AGG_STAT_STATE, aggJOINING), (AGG_STAT_COORD, 2), (GRD_PROFILE_WORD 0 7, 2 ^ 24)]
     QorAt s e [] (qm qorACCEPT 0 []) qorACCEPT ∧ aggRole s = roleNODE ∧ s.get AGG_STAT_STATE = aggJOINING ∧ fromCoord s (qm qorACCEPT 0 []) = true ∧ s.agg.inj = some (1, 2) ∧
       s.grd.inj = none ∧ injPeriod s ≠ 0 ∧ fromCoord s ⟨9, qorACCEPT, 3, 0, 1, []⟩ = false) ∧
    (let e := qf qorREJECT 0 [2, 0, 0, 0]; QorAt (qs e {} roleNODE []) e [] (qm qorREJECT 0 [2, 0, 0, 0]) qorREJECT ∧ fieldAt (qm qorREJECT 0 [2, 0, 0, 0]).pl 0 1 = 2 ∧
       fieldAt (qm qorREJECT 0 [3, 0, 0, 0]).pl 0 1 ≠ 2) ∧
    (∀ c ∈ qorRows, c.2 < 0x10 ∨ c.2 = qorACCEPT ∨ c.2 = qorREJECT → ∀ n ∈ qorLen c.2, let e := qf c.2 0 (List.replicate n 0)
      QorAt (qs e {} roleCOORD []) e [] (qm c.2 0 (List.replicate n 0)) c.2 ∧ aggRole (qs e {} roleCOORD []) ≠ roleNODE) ∧
    (let s (k t : Nat) := tick (st [(AGG_CFG_EN, 1), (AGG_CFG_ROLE, roleNODE), (AGG_STAT_STATE, k), (AGG_HOLD_S, 1)]) t
     aggRole State.reset ≠ roleNODE ∧ aggRole (s 3 0) = roleNODE ∧ (s aggJOINING 0).get AGG_STAT_STATE = aggJOINING ∧ (s 3 0).agg.joinT + 100000000 ≤ (s 3 100000000).T ∧
       (s 3 99999999).T < (s 3 0).agg.joinT + 100000000 ∧ (s aggJOINED 0).get AGG_STAT_STATE = aggJOINED ∧ (s 4 0).agg.refT + 100000000 ≤ (s 4 100000000).T ∧
       (s aggHOLDOVER 0).get AGG_STAT_STATE = aggHOLDOVER ∧ (s 5 0).agg.holdT + (s 5 0).get AGG_HOLD_S * 1000000000 ≤ (s 5 1000000000).T ∧ (s 5 0).grd.inj = none ∧
       (s 5 0).agg.gateHold = false) := by
  refine ⟨⟨qorAt_of _ _ _ _ _ (by decide +kernel), by decide +kernel⟩, ⟨qorAt_of _ _ _ _ _ (by decide +kernel), by decide +kernel⟩,
    ⟨qorAt_of _ _ _ _ _ (by decide +kernel), by decide +kernel⟩, ⟨qorAt_of _ _ _ _ _ (by decide +kernel), by decide +kernel⟩, ?_, by decide +kernel⟩
  intro c hc h n hn
  refine ⟨qorAt_of _ _ _ _ _ ?_, ?_⟩
  · revert n; revert h; revert c; decide +kernel
  · simp [aggRole]; revert n; revert h; revert c; decide +kernel
theorem wit_CapturesAndCoordinatorAct_other :
    let e := qf qorLEAVE 0 (List.replicate 4 0); let s := qs e {} 2 []
    s.agg.rx = [e] ∧ (qorParse s e).isSome = true ∧ fieldAt e.2 1 1 ≠ qorJOIN ∧ (∀ c ∈ qorRows, c.2 ≠ qorLEAVE → fieldAt e.2 1 1 ≠ c.2) := by decide +kernel
def al (f : Aon → Aon) (s : State) : State := { s with aon := f s.aon }
def bt (f : Boot → Boot) (s : State) : State := { s with boot := f s.boot }
set_option maxRecDepth 100000 in
theorem wit_ResetsAndPowerFollowTheirScopes :
    isMC 1 = true ∧ isMC 2 = true ∧ isMC 0 = false ∧
    (State.reset.flag CLK_STAT_REF_OK = false ∧ (st [(CLK_STAT_REF_OK, 1)]).flag CLK_STAT_REF_OK = true ∧ State.reset.saf.hw = 0 ∧ bit ((st [(SEC_TAMPER_CFG_EN, 64)]).get SEC_TAMPER_CFG_EN) 6 = true) ∧
    (let out (s : State) := (List.range 4).any (fun n => chState s n != chUNBOUND && chState s n != chSTO); let c := st [(PWM_BIND_BOUND 3, 1), (PWM_CH_STAT_STO_PERMIT 3, 1)]
     let p := al (fun a => { a with parking := some 0 }) State.reset
     out c = true ∧ out State.reset = false ∧ State.reset.aon.parking = none ∧ p.aon.parking.isSome = true ∧ knownRings (wr {} State.reset) = [0] ∧
       (State.reset.aon.parking.isNone || !State.reset.ldg.queue.isEmpty || State.reset.ldg.busy.isSome || (List.range 32).any (fun p => vstate State.reset p == vpACTIVE)) = true ∧
       (p.aon.parking.isNone || !p.ldg.queue.isEmpty || p.ldg.busy.isSome || (List.range 32).any (fun q => vstate p q == vpACTIVE)) = false) ∧
    (let s := al (fun a => { a with parked := true, off := true }) (st [(PWR_WAKE_CFG_WAKE0_EN, 1), (PWR_WAKE_CFG_WAKE0_POL, 1)]); let l := al (fun a => { a with wake := 1 }) s
     let on := andMask (wakeMask s (some true) none) (wakeEnabled s)
     s.aon.parking = none ∧ s.aon.parked = true ∧ s.aon.wake = 0 ∧ on ≠ 0 ∧ andMask (wakeMask s (some false) none) (wakeEnabled s) = 0 ∧ l.aon.wake ≠ 0 ∧ (3276 : Nat) < 3277) ∧
    ((al (fun a => { a with off := true }) State.reset).aon.off = true ∧ State.reset.aon.parked = false ∧ (al (fun a => { a with off := true, porDone := true }) State.reset).aon.porDone = true ∧
      (al (fun a => { a with off := true, porDone := false }) State.reset).aon.porDone = false ∧ (al (fun a => { a with off := false }) State.reset).aon.off = false) ∧
    ((bt (fun b => { b with resend := true }) State.reset).boot.resend = true ∧ State.reset.boot.resend = false ∧ present State.reset 3 = none ∧
      (st [(PWM_CH_STAT_STO_PERMIT 3, 1)]).flag (PWM_CH_STAT_STO_PERMIT 3) = true ∧ (dram []).get DRM_STAT_STATE = stREADY) ∧
    (let s := st [(RST_WDOG_EN, 1), (RST_WDOG_MS, 100)]; let due := min s.aon.kick0 s.aon.kick1 + s.get RST_WDOG_MS * 1000000
     s.flag RST_WDOG_EN = true ∧ due ≤ (tick s 100000000).T ∧ (tick s 99999999).T < due ∧ (st [(RST_WDOG_EN, 0)]).flag RST_WDOG_EN = false) ∧
    ({ State.reset with hif := { State.reset.hif with crs := true } } : State).hif.crs = true ∧ ({ State.reset with hif := { State.reset.hif with crs := false } } : State).hif.crs = false ∧
    (let s (l : List (Fld × Nat)) (n : Nat) := bt (fun b => { b with next := n }) (al (fun a => { a with off := false }) (st ([(HIF_LINK_WIDTH, 0)] ++ l)))
     let ok (s : State) (w : Nat) := !s.aon.off && (s.hif.crs || s.get HIF_LINK_WIDTH == 0) && decide ((4 : Nat) ≤ 4) && ([1, 2, 4] : List Nat).contains w
     ok (s [] 2) 4 = true ∧ ok (s [] 2) 3 = false ∧ (s [] 2).boot.next < 3 ∧ 3 ≤ (s [] 3).boot.next ∧ (s [] 3).get BOOT_STAGE_STAGE ≠ 15 ∧ (s [(BOOT_STAGE_STAGE, 15)] 3).get BOOT_STAGE_STAGE = 15) := by
  decide +kernel
set_option maxRecDepth 100000 in
theorem wit_ResetsAndPowerFollowTheirScopes_power :
    (let s := al (fun a => { a with parked := true, off := true, wake := 1, ticks := 3276 }) State.reset
     s.aon.parking = none ∧ s.aon.parked = true ∧ s.aon.wake ≠ 0 ∧ satAdd 48 s.aon.ticks 1 = 3277 ∧ satAdd 48 s.aon.ticks 0 < 3277) ∧
    (let s := al (fun a => { a with parked := true, off := true }) State.reset; s.aon.wake = 0 ∧ andMask (wakeMask s none none) (wakeEnabled s) = 0) ∧
    ((al (fun a => { a with parking := some 0 }) State.reset).aon.parking.isSome = true ∧ (al (fun a => { a with parked := false, off := false }) State.reset).aon.parked = false) ∧
    (let s := al (fun a => { a with off := true, parked := false, tValid := true, unplanned := true, storedT := 5, ticks := 1 }) State.reset
     s.aon.off = true ∧ s.aon.parked = false ∧ s.aon.tValid = true ∧ s.aon.unplanned = true ∧ (al (fun a => { a with tValid := false }) s).aon.tValid = false) ∧
    (let s (v : List Nat) : State := bt (fun b => { b with resend := true }) { State.reset with sec := { State.reset.sec with pset := psOk }, saf := { started := true, pset := v } }
     (s []).boot.resend = true ∧ (s []).saf.started = true ∧ (s []).sec.pset ≠ [] ∧ (s []).sec.pset ≠ (s []).saf.pset ∧ (s psOk).sec.pset = (s psOk).saf.pset) ∧
    ((State.reset.hif.crs = true ∨ State.reset.hif.crs = false) ∧ isMC 0 = false ∧ bit 3 0 = true ∧ bit 3 1 = true) := by decide +kernel
/-- A header of component 1 without a body, signature and digest zeros. -/
def img1 (comp : Nat) : List Byte := leBytes 4 0x41465546 ++ leBytes 2 1 ++ leBytes 2 comp ++ List.replicate 248 0
set_option maxRecDepth 100000 in
/-- Where the digest and the signature of an image are right, it is valid. -/
theorem imageOf_img1 (s : State) (c : Nat) (hc : c = 1 ∨ c = 2) (hd : Config.sha256 [] = List.replicate 32 0)
    (hv : Config.ecdsaVerify Config.olovocorKey (Config.sha256 ((img1 c).take 192)) (slice (img1 c) 192 64) = true) :
    imageOf s (img1 c) = some ⟨c, 0, []⟩ := by
  have f : le (img1 c) 0 4 = 0x41465546 ∧ le (img1 c) 4 2 = 1 ∧ (img1 c).length = 256 ∧ le (img1 c) 12 4 = 0 ∧ le (img1 c) 16 1 = 0 ∧ le (img1 c) 17 1 = 0 ∧
      le (img1 c) 6 2 = c ∧ le (img1 c) 8 4 = 0 ∧ slice (img1 c) 24 32 = List.replicate 32 0 := by
    rcases hc with rfl | rfl <;> decide +kernel
  obtain ⟨a1, a2, a3, a4, a5, a6, a7, a8, a9⟩ := f
  simp [imageOf, sealKey, a1, a2, a3, a4, a5, a6, a7, a8, a9, hd, hv]
theorem present_img1 (s : State) (hd : Config.sha256 [] = List.replicate 32 0)
    (hv : Config.ecdsaVerify Config.olovocorKey (Config.sha256 ((img1 1).take 192)) (slice (img1 1) 192 64) = true)
    (h : s.boot.ospi = [(1, img1 1)]) : present s 1 = some (⟨1, 0, []⟩, img1 1) := by
  simp [present, copiesOf, h, imageOf_img1 s 1 (.inl rfl) hd hv]
set_option maxRecDepth 100000 in
theorem wit_BootStagesAndImageLoads :
    (let s (n : Nat) (l : List (Fld × Nat)) := bt (fun b => { b with next := n }) (al (fun a => { a with off := false }) (st l))
     (s 0 []).boot.next = 0 ∧ (s 0 []).aon.off = false ∧ (s 0 []).aon.parked = false ∧ present (s 0 []) 1 = none ∧ (s 1 []).boot.next ≠ 0 ∧ (s 1 []).boot.next = 1 ∧
       (s 2 []).boot.next = 2 ∧ (s 2 []).get BOOT_STAGE_STAGE ≠ 15 ∧ (s 2 [(BOOT_STAGE_STAGE, 15)]).get BOOT_STAGE_STAGE = 15 ∧ (s 2 []).flag BOOT_STAGE_DRAM_READY = false ∧
       (s 2 [(BOOT_STAGE_DRAM_READY, 1), (BOOT_STAGE_RT_READY, 1)]).flag BOOT_STAGE_RT_READY = true ∧ (s 2 [(BOOT_STAGE_DRAM_READY, 1)]).flag BOOT_STAGE_DRAM_READY = true ∧
       (s 3 [(DRM_STAT_STATE, stREADY)]).boot.next = 3 ∧ (s 3 [(DRM_STAT_STATE, stREADY)]).get DRM_STAT_STATE = stREADY ∧ (s 3 []).get DRM_STAT_STATE ≠ stREADY ∧
       (s 3 [(DRM_STAT_STATE, stREADY)]).flag BOOT_STAGE_DRAM_READY = false ∧ (s 3 []).flag BOOT_STAGE_RT_READY = false ∧ (s 3 [(BOOT_STAGE_RT_READY, 1)]).flag BOOT_STAGE_RT_READY = true) ∧
    (let z := List.replicate 16 0; MsgAt (sq 16 0 []) 0 (ds0 24) 16 16 z ∧ msgItem State.reset 0 = none ∧ msgItem (sq 16 0 []) 0 = some (ds0 24) ∧ (16 : Nat) ≠ (z.drop 1).length ∧
       sessionOpen (sq 16 2 []) 0 5 skMANAGER = false ∧ sessionOpen (sq 16 0 []) 0 5 skMANAGER = true ∧ imageOf (sq 16 0 []) [] = none) ∧
    (let d := [0x10, 0, 2, 0] ++ List.replicate 12 0; let s := sq 16 0 [(PWM_BIND_BOUND 3, 1), (PWM_CH_STAT_STO_PERMIT 3, 1)]; MsgAt s 0 (ds0 24) 16 16 d ∧
       bit (le d 2 2) 1 = true ∧ dspBusy s (le d 0 2) = true ∧ dspBusy (sq 16 0 []) (le d 0 2) = false) ∧
    (let d := [0x20, 0, 2, 0] ++ List.replicate 12 0; let s := sq 16 0 [(PXE_PT_STAT_STATE 15, ptREADY)]; MsgAt s 0 (ds0 24) 16 16 d ∧
       bit (le d 2 2) 1 = true ∧ 0x20 ≤ le d 0 2 ∧ le d 0 2 < 0x24 ∧ clusterHalted s 0 = false ∧ clusterHalted (sq 16 0 []) 0 = true ∧ ldgOpen s = true) ∧
    (let q : LdgReq := ⟨0, [], 0, 0, 0, some ⟨afterMSG, [0, 0, 0x31, 5, 16, 0, rsOK] ++ ([2, 1, 0, 0] ++ nums [])⟩⟩; let r : LdgRec := ⟨0, 1, 0, [], []⟩
     let s := { State.reset with ldg := { busy := some (q, r) } }
     s.ldg.busy = some (q, r) ∧ q.after = some { code := afterMSG, args := [0, 0, 0x31, 5, 16, 0, rsOK] ++ ([2, 1, 0, 0] ++ nums []) }) := by
  refine ⟨by decide +kernel, ⟨msgAt_of _ _ _ _ _ (by decide), by decide +kernel⟩, ⟨msgAt_of _ _ _ _ _ (by decide +kernel), by decide +kernel⟩, ⟨msgAt_of _ _ _ _ _ (by decide +kernel), by decide +kernel⟩, by decide +kernel⟩
/-- Where digest and signature of an image are right, the clauses about a valid, a mismatched and a loaded image have their states. -/
theorem wit_BootStagesAndImageLoads_valid (hd : Config.sha256 [] = List.replicate 32 0)
    (hv : ∀ c, c = 1 ∨ c = 2 → Config.ecdsaVerify Config.olovocorKey (Config.sha256 ((img1 c).take 192)) (slice (img1 c) 192 64) = true) :
    present (bt (fun b => { b with ospi := [(1, img1 1)] }) State.reset) 1 = some (⟨1, 0, []⟩, img1 1) ∧
    imageOf (sq 16 0 []) (img1 2) = some ⟨2, 0, []⟩ ∧ (sq 16 0 [(BOOT_VERDICT_VERDICT, 1)]).get BOOT_VERDICT_VERDICT ≠ vdTESTED :=
  ⟨present_img1 _ hd (hv 1 (.inl rfl)) rfl, imageOf_img1 _ 2 (.inr rfl) hd (hv 2 (.inr rfl)), by decide +kernel⟩
set_option maxRecDepth 100000 in
theorem wit_BootStagesAndImageLoads_runs :
    let args : List Nat := [0, 0, 0x31, 5, 16, 0, rsOK] ++ ([0x10, 3, 0, 1] ++ (([(0, 7)] : List (Nat × Nat)).flatMap (fun e => [e.1, e.2]) ++ nums [1]))
    let q : LdgReq := ⟨0, [], 0, 0, 0, some ⟨afterMSG, args⟩⟩; let r : LdgRec := ⟨0, 1, 0, [], []⟩; let s : State := { State.reset with ldg := { busy := some (q, r) } }
    s.ldg.busy = some (q, r) ∧ q.after = some { code := afterMSG, args := args } ∧ bit 3 1 = true ∧ bit 3 0 = true ∧ bit 2 0 = false ∧ dspBusy s 0x10 = false ∧
      dspBusy (s.puts [(PWM_BIND_BOUND 3, 1), (PWM_CH_STAT_STO_PERMIT 3, 1)]) 0x10 = true := by decide +kernel

end Sys2Proof.Tests
end

/-! The violation log (01_one_part_four_scenes.md, section 1.2): what a firewall violation does to it and to the counters (R30, R47),
what a write of MEM_FAB_VIOL_POP does, and the answer of MEM_FAB_REQID (R48). Settles O8. -/
namespace Sys2Proof.Machine
open Sys2Proof.Reg

/-! ### A violation: counted first, then logged or lost -/

@[simp] theorem State.bump_viol (s : State) (x : Fld) : (s.bump x).viol = s.viol := rfl

/-- A part of the state that a conditional change leaves alone when it is made is left alone either way. -/
theorem State.proj_when {α : Type} (p : State → α) {s : State} {f : State → State} (h : p (f s) = p s) (c : Bool) :
    p (s.when c f) = p s := by
  cases c
  · rfl
  · exact h

/-- What a violation does before the log is looked at: it marks the access refused, counts it, and counts a host's against its
instance (R30). `State.violation_eq` ties it to the model. -/
def State.countViolation (s : State) (m : Nat) : State :=
  (State.bump { s with refused := true } MEM_FAB_VIOL_CNT_COUNT).when (isHost m)
    (fun t => (t.bump (INS_CNT_VIOL_COUNT (m - 0x80))).spViol (m - 0x80))

@[simp] theorem State.countViolation_viol (s : State) (m : Nat) : (s.countViolation m).viol = s.viol :=
  State.proj_when State.viol rfl _

@[simp] theorem State.countViolation_mem (s : State) (m : Nat) : (s.countViolation m).mem = s.mem :=
  State.proj_when State.mem rfl _

/-- The count of violations goes up by one and saturates; counting against an instance leaves it alone. -/
@[simp] theorem State.get_countViolation_count (s : State) (m : Nat) :
    (s.countViolation m).get MEM_FAB_VIOL_CNT_COUNT = wrap 32 (satAdd 32 (s.get MEM_FAB_VIOL_CNT_COUNT) 1) :=
  calc (s.countViolation m).get MEM_FAB_VIOL_CNT_COUNT
      = (State.bump { s with refused := true } MEM_FAB_VIOL_CNT_COUNT).get MEM_FAB_VIOL_CNT_COUNT :=
        State.proj_when (·.get MEM_FAB_VIOL_CNT_COUNT) (State.get_bump_ne _ (by simp [INS_CNT_VIOL_COUNT, MEM_FAB_VIOL_CNT_COUNT])) _
    _ = wrap 32 (satAdd 32 (s.get MEM_FAB_VIOL_CNT_COUNT) 1) := State.get_bump_self _ _

/-- R47: a log with room takes the entry at its end; a full one stays and the violation is counted as lost. -/
theorem State.violation_eq (s : State) (m : Nat) (write : Bool) (region addr : Nat) :
    s.violation m write region addr =
      if s.viol.length < 16 then { s.countViolation m with viol := s.viol ++ [⟨write, m, region, addr⟩] }
      else (s.countViolation m).bump MEM_FAB_VIOL_LOST_LOST := by
  rw [← State.countViolation_viol s m]
  rfl

/-- R47: the oldest entries stay, whatever is refused. -/
theorem State.viol_prefix_violation (s : State) (m : Nat) (write : Bool) (region addr : Nat) :
    s.viol <+: (s.violation m write region addr).viol := by
  rw [State.violation_eq]
  split
  · exact List.prefix_append _ _
  · simp

@[simp] theorem State.violation_mem (s : State) (m : Nat) (write : Bool) (region addr : Nat) :
    (s.violation m write region addr).mem = s.mem := by
  rw [State.violation_eq]
  split <;> exact State.countViolation_mem s m

/-- R30: each violation is counted once, logged or lost. -/
@[simp] theorem State.get_violation_count (s : State) (m : Nat) (write : Bool) (region addr : Nat) :
    (s.violation m write region addr).get MEM_FAB_VIOL_CNT_COUNT = wrap 32 (satAdd 32 (s.get MEM_FAB_VIOL_CNT_COUNT) 1) := by
  rw [State.violation_eq]
  split
  · exact State.get_countViolation_count s m
  · exact (State.get_bump_ne _ (by decide)).trans (State.get_countViolation_count s m)

/-! ### POP and REQID -/

theorem exec_memFabReqidRead (m : BitVec 8) (s : State) : exec (.memFabReqidRead m) s = .next { s with resp := m.toNat } := rfl

theorem exec_memFabViolPop (m : BitVec 8) (v : BitVec 32) (s : State) :
    exec (.memFabViolPop m v) s = .next (violPop s m.toNat v.toNat) := rfl

section
variable (s : State) {m : BitVec 8} {v : BitVec 32}

theorem exec_memFabViolPop_of_pop (hm : isMC m.toNat = true) (hv : bit v.toNat 0 = true) :
    exec (.memFabViolPop m v) s = .next { s with viol := s.viol.tail } := by
  simp [exec_memFabViolPop, violPop, hm, hv]

theorem exec_memFabViolPop_of_no_pop (hm : isMC m.toNat = true) (hv : bit v.toNat 0 = false) :
    exec (.memFabViolPop m v) s = .next s := by
  simp [exec_memFabViolPop, violPop, hm, hv]

/-- R30: only MC0 and MC1 may write POP; the refusal names the register's offset in the block. -/
theorem exec_memFabViolPop_of_not_isMC (hm : isMC m.toNat = false) :
    exec (.memFabViolPop m v) s = .next (s.refuseWrite m.toNat 5 0xF08) := by
  simp [exec_memFabViolPop, violPop, hm]

end

/-- Settles O8, by the three cases of a write of POP and the answer of REQID. -/
theorem violationLogPopsAndReqidAnswers : Obligations.ViolationLogPopsAndReqidAnswers := by
  unfold Obligations.ViolationLogPopsAndReqidAnswers
  refine ⟨fun s m v hm hv => ?pop, fun s m v hm hv => ?noPop, fun s m v hm => ?refused, fun s m => ?reqid⟩
  case pop => exact ⟨_, exec_memFabViolPop_of_pop s hm hv, rfl, rfl, rfl, rfl⟩
  case noPop => exact exec_memFabViolPop_of_no_pop s hm hv
  case refused =>
    exact ⟨_, exec_memFabViolPop_of_not_isMC s hm, State.viol_prefix_violation s .., State.violation_mem s ..,
      State.get_violation_count s ..⟩
  case reqid => exact exec_memFabReqidRead m s

end Sys2Proof.Machine

/-! DRAM lines (11_memory.md, section 11.4): what the check of a line's tag, a read, a full and a partial write, and the
patrol scrubber leave of its bytes, of its tag and of the error log (R444 to R447, R449). Settles O43. -/
namespace Sys2Proof.Machine
open Sys2Proof.Reg

/-! ### What error reports and counters leave of the lines -/

/-- `t` has the bytes of memory, the tags of the lines and the channels' state of `s`. -/
structure SameLines (s t : State) : Prop where
  mem : t.mem = s.mem
  tags : ∀ line, poisoned t line = poisoned s line
  drm : t.drm = s.drm

theorem SameLines.refl (s : State) : SameLines s s := ⟨rfl, fun _ => rfl, rfl⟩

theorem SameLines.trans {s t u : State} (h : SameLines s t) (k : SameLines t u) : SameLines s u :=
  ⟨k.mem.trans h.mem, fun line => (k.tags line).trans (h.tags line), k.drm.trans h.drm⟩

theorem SameLines.bump (s : State) (x : Fld) : SameLines s (s.bump x) := ⟨rfl, fun _ => rfl, rfl⟩

theorem SameLines.irq (s : State) (k : Irq) : SameLines s (s.irq k) := ⟨rfl, fun _ => rfl, rfl⟩

theorem SameLines.ite {s t u : State} {p : Prop} [Decidable p] (ht : SameLines s t) (hu : SameLines s u) :
    SameLines s (if p then t else u) := by
  split
  · exact ht
  · exact hu

theorem SameLines.byte {s t : State} (h : SameLines s t) (a : Nat) : t.byte a = s.byte a := congrArg (memGet · a) h.mem

theorem State.bytesAt_congr {s t : State} (h : t.mem = s.mem) (a n : Nat) : t.bytesAt a n = s.bytesAt a n := by
  induction n generalizing a with
  | zero => rfl
  | succ n ih => rw [State.bytesAt, State.bytesAt, ih, State.byte, State.byte, h]

/-- The log of a memory error, before the interrupt (R459). `memErr_eq` ties it to the model. -/
def State.logMemErr (s : State) (e : MemErr) : State :=
  if s.memSt.err.length < 16 then s.setMem { s.memSt with err := s.memSt.err ++ [e] } else s.bump MEM_ERR_LOST_LOST

theorem memErr_eq (s : State) (kind m region addr : Nat) :
    memErr s kind m region addr =
      if kind = ekCE then s.logMemErr ⟨kind, m, region, addr⟩ else (s.logMemErr ⟨kind, m, region, addr⟩).irq .mem := rfl

theorem SameLines.logMemErr (s : State) (e : MemErr) : SameLines s (s.logMemErr e) :=
  .ite ⟨rfl, fun _ => rfl, rfl⟩ (.bump ..)

theorem SameLines.memErr (s : State) (kind m region addr : Nat) : SameLines s (memErr s kind m region addr) :=
  (SameLines.logMemErr ..).trans (.ite (.refl _) (.irq ..))

theorem State.logMemErr_err (s : State) (e : MemErr) :
    (s.logMemErr e).memSt.err = if s.memSt.err.length < 16 then s.memSt.err ++ [e] else s.memSt.err := by
  unfold State.logMemErr
  split <;> rfl

/-- R459: a log with room takes the entry at its end; a full one stays. -/
theorem memErr_log (s : State) (kind m region addr : Nat) :
    (memErr s kind m region addr).memSt.err =
      if s.memSt.err.length < 16 then s.memSt.err ++ [⟨kind, m, region, addr⟩] else s.memSt.err := by
  rw [memErr_eq, ← State.logMemErr_err]
  split <;> rfl

theorem SameLines.corrected (s : State) (c m addr : Nat) : SameLines s (corrected s c m addr) :=
  (SameLines.bump s _).trans <| (SameLines.memErr ..).trans <| .ite (.irq ..) (.refl _)

theorem noteDrift_eq_or_bump (s : State) (m a : Nat) : noteDrift s m a = s ∨ ∃ x, noteDrift s m a = s.bump x := by
  unfold noteDrift
  dsimp only
  split
  · exact .inr ⟨_, rfl⟩
  · exact .inl rfl

theorem SameLines.noteDrift (s : State) (m a : Nat) : SameLines s (noteDrift s m a) := by
  obtain h | ⟨x, h⟩ := noteDrift_eq_or_bump s m a <;> rw [h]
  · exact .refl s
  · exact .bump s x

@[simp] theorem noteDrift_memSt (s : State) (m a : Nat) : (noteDrift s m a).memSt = s.memSt := by
  obtain h | ⟨x, h⟩ := noteDrift_eq_or_bump s m a <;> rw [h]
  rfl

/-! ### Tags -/

theorem poisoned_setPoison (s : State) (line k : Nat) (on : Bool) :
    poisoned (setPoison s line on) k = if k = line then on else poisoned s k := by
  by_cases h : k = line <;> cases on <;> simp [poisoned, setPoison, State.setMem, h]

/-- R444, R446: the line cannot be delivered or merged into: its tag says POISON, or the check of it finds an uncorrectable error. -/
def lineLost (s : State) (line err : Nat) : Bool := poisoned s line || err == 2

theorem lineLost_iff {s : State} {line : Nat} {err : BitVec 2} :
    lineLost s line err.toNat = true ↔ poisoned s line = true ∨ err = 2 := by
  have two : err.toNat = 2 ↔ err = 2 := by bv_omega
  simp [lineLost, two]

theorem lineLost_eq_false {s : State} {line : Nat} {err : BitVec 2} (hp : poisoned s line = false) (he : err ≠ 2) :
    lineLost s line err.toNat = false := by
  rw [← Bool.not_eq_true, lineLost_iff, hp]
  exact fun h => h.elim Bool.false_ne_true he

@[simp] theorem lineLost_noteDrift (s : State) (m a line err : Nat) : lineLost (noteDrift s m a) line err = lineLost s line err := by
  rw [lineLost, (SameLines.noteDrift s m a).tags, lineLost]

/-- The lines once one of them was checked: a line that is lost stays, or becomes, poisoned. `SameLines.lineCheck` and
`dramWritePart_of_lost` tie it to the model. -/
def checkedTag (s : State) (line err : Nat) : State := if lineLost s line err then setPoison s line true else s

@[simp] theorem checkedTag_mem (s : State) (line err : Nat) : (checkedTag s line err).mem = s.mem := by
  unfold checkedTag; split <;> rfl

@[simp] theorem checkedTag_drm (s : State) (line err : Nat) : (checkedTag s line err).drm = s.drm := by
  unfold checkedTag; split <;> rfl

@[simp] theorem poisoned_checkedTag (s : State) (line err : Nat) : poisoned (checkedTag s line err) line = lineLost s line err := by
  unfold checkedTag
  split
  · next h => rw [poisoned_setPoison, if_pos rfl, h]
  · next h =>
    rw [Bool.not_eq_true] at h
    rw [h]
    exact (Bool.or_eq_false_iff.mp h).1

theorem SameLines.checkedTag_of_not_lost {s : State} {line err : Nat} (h : lineLost s line err = false) :
    SameLines (checkedTag s line err) s := by
  rw [checkedTag, h]
  exact .refl s

theorem SameLines.checkedTag_of_poisoned {s : State} {line : Nat} (h : poisoned s line = true) (err : Nat) :
    SameLines (checkedTag s line err) s where
  mem := (checkedTag_mem ..).symm
  drm := (checkedTag_drm ..).symm
  tags k := by
    rw [checkedTag, lineLost, h, Bool.true_or, if_pos rfl, poisoned_setPoison]
    split
    · next hk => rw [hk, h]
    · rfl

theorem SameLines.checkedTag_of_uncorrectable (s : State) (line : Nat) (x : Fld) (kind m region addr : Nat) :
    SameLines (checkedTag s line 2) (Machine.memErr ((setPoison s line true).bump x) kind m region addr) := by
  rw [checkedTag, lineLost, beq_self_eq_true, Bool.or_true, if_pos rfl]
  exact (SameLines.bump _ x).trans (.memErr ..)

/-! ### The check of a line (R444) -/

theorem lineCheck_of_poisoned {s : State} {a : Nat} (h : poisoned s (a / 64) = true) (m err : Nat) (scrub : Bool) :
    lineCheck s m a err scrub = (false, if scrub then s else memErr s ekPOISON_READ m 0x0A a) := by
  simp [lineCheck, h]

theorem lineCheck_log_of_poisoned {s : State} {a : Nat} (h : poisoned s (a / 64) = true) (m err : Nat) :
    (lineCheck s m a err false).2.memSt.err =
      if s.memSt.err.length < 16 then s.memSt.err ++ [⟨ekPOISON_READ, m, 0x0A, a⟩] else s.memSt.err := by
  rw [lineCheck_of_poisoned h, if_neg Bool.false_ne_true]
  exact memErr_log ..

theorem lineCheck_of_uncorrectable {s : State} {a : Nat} (h : poisoned s (a / 64) = false) (m : Nat) (scrub : Bool) :
    lineCheck s m a 2 scrub =
      (false, memErr ((setPoison s (a / 64) true).bump (DRM_CH_UE_CNT_COUNT (dramChan s (a - dramBase)).1))
        (if scrub then ekSCRUB_UE else ekUE) m 0x0A a) := by
  simp [lineCheck, h]

theorem lineCheck_of_not_lost {s : State} {a err : Nat} (h : lineLost s (a / 64) err = false) (m : Nat) (scrub : Bool) :
    lineCheck s m a err scrub = (true, if err = 1 then corrected s (dramChan s (a - dramBase)).1 m a else s) := by
  obtain ⟨hp, he⟩ : poisoned s (a / 64) = false ∧ err ≠ 2 := by simpa [lineLost] using h
  by_cases h1 : err = 1 <;> simp [lineCheck, hp, he, h1]

theorem lineCheck_delivers (s : State) (m a err : Nat) (scrub : Bool) :
    (lineCheck s m a err scrub).1 = !lineLost s (a / 64) err := by
  cases h : lineLost s (a / 64) err with
  | false => rw [lineCheck_of_not_lost h]; rfl
  | true =>
    cases hp : poisoned s (a / 64) with
    | true => rw [lineCheck_of_poisoned hp]; rfl
    | false =>
      obtain rfl : err = 2 := by simpa [lineLost, hp] using h
      rw [lineCheck_of_uncorrectable hp]; rfl

theorem SameLines.lineCheck (s : State) (m a err : Nat) (scrub : Bool) :
    SameLines (checkedTag s (a / 64) err) (lineCheck s m a err scrub).2 := by
  cases h : lineLost s (a / 64) err with
  | false =>
    rw [lineCheck_of_not_lost h]
    exact (checkedTag_of_not_lost h).trans (.ite (.corrected ..) (.refl s))
  | true =>
    cases hp : poisoned s (a / 64) with
    | true =>
      rw [lineCheck_of_poisoned hp]
      exact (checkedTag_of_poisoned hp err).trans (.ite (.refl s) (.memErr ..))
    | false =>
      obtain rfl : err = 2 := by simpa [lineLost, hp] using h
      rw [lineCheck_of_uncorrectable hp]
      exact checkedTag_of_uncorrectable ..

/-! ### Reads (R444, R447) -/

theorem dramReadPart_of_lost {s : State} {a err : Nat} (h : lineLost s (a / 64) err = true) (m len : Nat) :
    dramReadPart s m a len err = (.error, List.replicate len 0, (lineCheck s m a err false).2) := by
  simp [dramReadPart, lineCheck_delivers, h]

theorem dramReadPart_of_not_lost {s : State} {a err : Nat} (h : lineLost s (a / 64) err = false) (m len : Nat) :
    dramReadPart s m a len err =
      (.ok, (lineCheck s m a err false).2.bytesAt a len, (lineCheck s m a err false).2) := by
  simp [dramReadPart, lineCheck_delivers, h]

theorem dramLineRead_of_admitted {s : State} {m a : Nat} (ha : areaOf s (a / 64 * 64) = .dram)
    (hm : memAdmits s m false (a / 64 * 64) 64 = true) {err : Nat} {r : AccRes} {b : List Byte} {t : State}
    (h : dramReadPart (noteDrift s m (a / 64 * 64)) m (a / 64 * 64) 64 err = (r, b, t)) :
    dramLineRead s m a err = { t.answer (accCode r) with reply := b } := by
  simp [dramLineRead, ha, hm, h]

theorem dramLineRead_of_refused {s : State} {m a : Nat}
    (h : areaOf s (a / 64 * 64) ≠ .dram ∨ memAdmits s m false (a / 64 * 64) 64 = false) (err : Nat) :
    dramLineRead s m a err =
      { (s.violation m false (memRegion s (a / 64 * 64)) (a / 64 * 64)).answer 1 with reply := List.replicate 64 0 } :=
  if_pos (by simpa using h)

/-! ### Bytes stored with strobes (R445, R446) -/

/-- Stores the strobed bytes of `bs` from `a` on. `dramWritePart_of_full` and `dramWritePart_of_merge` tie it to the model. -/
def State.mergeBytes (s : State) (a : Nat) : List (Byte × Bool) → State
  | [] => s
  | e :: bs => (if e.2 then s.setByte a e.1 else s).mergeBytes (a + 1) bs

theorem State.foldl_zipIdx_eq_mergeBytes (s : State) (a k : Nat) (bs : List (Byte × Bool)) :
    (bs.zipIdx k).foldl (fun s e => if e.1.2 then s.setByte (a + e.2) e.1.1 else s) s = s.mergeBytes (a + k) bs := by
  induction bs generalizing s k with
  | nil => rfl
  | cons e bs ih => rw [List.zipIdx_cons, List.foldl_cons, ih, State.mergeBytes, Nat.add_assoc]

@[simp] theorem State.mergeBytes_memSt (s : State) (a : Nat) (bs : List (Byte × Bool)) : (s.mergeBytes a bs).memSt = s.memSt := by
  induction bs generalizing s a with
  | nil => rfl
  | cons e bs ih => rw [State.mergeBytes, ih]; split <;> rfl

@[simp] theorem poisoned_mergeBytes (s : State) (a : Nat) (bs : List (Byte × Bool)) (line : Nat) :
    poisoned (s.mergeBytes a bs) line = poisoned s line := by
  simp [poisoned]

theorem State.byte_mergeBytes_outside (s : State) {a x : Nat} {bs : List (Byte × Bool)} (h : x < a ∨ a + bs.length ≤ x) :
    (s.mergeBytes a bs).byte x = s.byte x := by
  induction bs generalizing s a with
  | nil => rfl
  | cons e bs ih =>
    rw [List.length_cons] at h
    rw [State.mergeBytes, ih _ (by omega)]
    split
    · rw [State.byte_setByte, if_neg (by omega)]
    · rfl

theorem State.byte_mergeBytes_inside (s : State) (a : Nat) {bs : List (Byte × Bool)} {i : Nat} (h : i < bs.length) :
    (s.mergeBytes a bs).byte (a + i) =
      if (bs.getD i (0, false)).2 then (bs.getD i (0, false)).1 else s.byte (a + i) := by
  induction bs generalizing s a i with
  | nil => exact absurd h (Nat.not_lt_zero i)
  | cons e bs ih =>
    rw [State.mergeBytes]
    cases i with
    | zero =>
      rw [State.byte_mergeBytes_outside _ (by omega)]
      cases he : e.2 <;> simp [he]
    | succ i =>
      have unmoved : (if e.2 then s.setByte a e.1 else s).byte (a + (i + 1)) = s.byte (a + (i + 1)) := by
        split
        · rw [State.byte_setByte, if_neg (by omega)]
        · rfl
      rw [show a + (i + 1) = a + 1 + i by omega] at unmoved ⊢
      rw [ih _ _ (Nat.lt_of_succ_lt_succ h), unmoved, List.getD_cons_succ]

/-! ### Writes (R445, R446) -/

theorem dramWritePart_of_full {a : Nat} {bs : List (Byte × Bool)} (hl : bs.length = 64) (ha : a % 64 = 0)
    (hs : bs.all (·.2) = true) (s : State) (m err : Nat) :
    dramWritePart s m a bs err = (.ok, (setPoison s (a / 64) false).mergeBytes a bs) := by
  simp only [dramWritePart, State.foldl_zipIdx_eq_mergeBytes]
  rw [if_pos ⟨hl, ha, hs⟩]
  rfl

section
variable {s : State} {a err : Nat} {bs : List (Byte × Bool)} (hpart : bs.length = 64 → bs.all (·.2) = false)
include hpart

theorem not_full_of_partial : ¬(bs.length = 64 ∧ a % 64 = 0 ∧ bs.all (·.2) = true) := fun ⟨hl, _, hs⟩ => by
  simp [hpart hl] at hs

theorem dramWritePart_of_merge (h : lineLost s (a / 64) err = false) (m : Nat) :
    dramWritePart s m a bs err = (.ok, (lineCheck s m a err false).2.mergeBytes a bs) := by
  obtain ⟨hp, he⟩ : poisoned s (a / 64) = false ∧ err ≠ 2 := by simpa [lineLost] using h
  simp only [dramWritePart, State.foldl_zipIdx_eq_mergeBytes]
  rw [if_neg (not_full_of_partial hpart), if_neg (by simp [hp]), if_neg he]
  rfl

theorem dramWritePart_of_poisoned (hp : poisoned s (a / 64) = true) (m : Nat) :
    dramWritePart s m a bs err = (.error, memErr s ekPOISONED_TARGET m 0x0A a) := by
  unfold dramWritePart
  exact (if_neg (not_full_of_partial hpart)).trans (if_pos hp)

theorem dramWritePart_of_uncorrectable (hp : poisoned s (a / 64) = false) (m : Nat) :
    dramWritePart s m a bs 2 =
      (.error, memErr ((setPoison s (a / 64) true).bump (DRM_CH_UE_CNT_COUNT (dramChan s (a - dramBase)).1))
        ekPOISONED_TARGET m 0x0A a) := by
  unfold dramWritePart
  exact (if_neg (not_full_of_partial hpart)).trans <| (if_neg (by simp [hp])).trans (if_pos rfl)

/-- R446: a lost line takes no byte, is poisoned from then on, and the write is logged. -/
theorem dramWritePart_of_lost (h : lineLost s (a / 64) err = true) (m : Nat) :
    ∃ t, dramWritePart s m a bs err = (.error, t) ∧ SameLines (checkedTag s (a / 64) err) t ∧
      t.memSt.err = if s.memSt.err.length < 16 then s.memSt.err ++ [⟨ekPOISONED_TARGET, m, 0x0A, a⟩] else s.memSt.err := by
  cases hp : poisoned s (a / 64) with
  | true =>
    exact ⟨_, dramWritePart_of_poisoned hpart hp m, (SameLines.checkedTag_of_poisoned hp err).trans (.memErr ..), memErr_log ..⟩
  | false =>
    obtain rfl : err = 2 := by simpa [lineLost, hp] using h
    exact ⟨_, dramWritePart_of_uncorrectable hpart hp m, .checkedTag_of_uncorrectable .., memErr_log ..⟩

end

theorem dramLineWrite_of_admitted {s : State} {m a : Nat} {bs : List (Byte × Bool)} (ha : areaOf s (a / 64 * 64) = .dram)
    (hm : memAdmits s m true (a / 64 * 64) 64 = true) (hfit : a % 64 + bs.length ≤ 64) {err : Nat} {r : AccRes} {t : State}
    (h : dramWritePart (noteDrift s m a) m a bs err = (r, t)) : dramLineWrite s m a bs err = t.answer (accCode r) := by
  have all : bs.take (64 - a % 64) = bs := List.take_of_length_le (by omega)
  simp [dramLineWrite, ha, hm, all, h]

theorem dramLineWrite_of_refused {s : State} {m a : Nat}
    (h : areaOf s (a / 64 * 64) ≠ .dram ∨ memAdmits s m true (a / 64 * 64) 64 = false) (bs : List (Byte × Bool)) (err : Nat) :
    dramLineWrite s m a bs err = (s.violation m true (memRegion s a) a).answer 1 :=
  if_pos (by simpa using h)

/-! ### The commands -/

theorem exec_dramFullWrite (s : State) (m : BitVec 8) (a : BitVec 40) (bs : List Byte) (err : BitVec 2) :
    exec (.dramFullWrite m a bs err) s =
      .next (dramLineWrite s m.toNat (a.toNat - a.toNat % 64) ((fix 64 bs).map (fun b => (b, true))) err.toNat) := rfl

theorem exec_dramPartialWrite (s : State) (m : BitVec 8) (a : BitVec 40) (bs : List (Byte × Bool)) (err : BitVec 2) :
    exec (.dramPartialWrite m a bs err) s = .next (dramLineWrite s m.toNat a.toNat bs err.toNat) := rfl

theorem exec_dramLineRead (s : State) (m : BitVec 8) (a : BitVec 40) (err : BitVec 2) :
    exec (.dramLineRead m a err) s = .next (dramLineRead s m.toNat a.toNat err.toNat) := rfl

theorem exec_scrubRead (s : State) (c : Fin 2) (err : BitVec 2) :
    exec (.scrubRead c err) s = .next (scrubRead s c.val err.toNat) := rfl

theorem fix_of_length {n : Nat} {l : List Byte} (h : l.length = n) : fix n l = l := by
  subst h
  simp [fix]

theorem lineStart_eq (a : Nat) : a - a % 64 = a / 64 * 64 := by omega

section
variable {s : State} {m : BitVec 8} {a : BitVec 40} {err : BitVec 2}

/-- R445: data and a CLEAN tag, without a look at the line. -/
theorem exec_dramFullWrite_of_admitted {bs : List Byte} (ha : areaOf s (a.toNat / 64 * 64) = .dram)
    (hm : memAdmits s m.toNat true (a.toNat / 64 * 64) 64 = true) (hl : bs.length = 64) :
    exec (.dramFullWrite m a bs err) s =
      .next (((setPoison (noteDrift s m.toNat (a.toNat / 64 * 64)) (a.toNat / 64) false).mergeBytes (a.toNat / 64 * 64)
        (bs.map (fun b => (b, true)))).answer 0) := by
  have line : a.toNat / 64 * 64 / 64 = a.toNat / 64 := by omega
  rw [exec_dramFullWrite, lineStart_eq, fix_of_length hl,
    dramLineWrite_of_admitted (by rw [line, ha]) (by rw [line, hm]) (by rw [List.length_map]; omega)
      (dramWritePart_of_full (by rw [List.length_map, hl]) (by omega) (by simp) ..), line]
  rfl

theorem exec_dramPartialWrite_of_lost {bs : List (Byte × Bool)} (ha : areaOf s (a.toNat / 64 * 64) = .dram)
    (hm : memAdmits s m.toNat true (a.toNat / 64 * 64) 64 = true) (hfit : a.toNat % 64 + bs.length ≤ 64)
    (hpart : bs.length = 64 → bs.all (·.2) = false) (h : lineLost s (a.toNat / 64) err.toNat = true) :
    ∃ t, exec (.dramPartialWrite m a bs err) s = .next t ∧ t.resp = 5 ∧ poisoned t (a.toNat / 64) = true ∧ t.mem = s.mem ∧
      t.memSt.err =
        if s.memSt.err.length < 16 then s.memSt.err ++ [⟨ekPOISONED_TARGET, m.toNat, 0x0A, a.toNat⟩] else s.memSt.err := by
  have drift := SameLines.noteDrift s m.toNat a.toNat
  have lost : lineLost (noteDrift s m.toNat a.toNat) (a.toNat / 64) err.toNat = true := by rw [lineLost_noteDrift, h]
  obtain ⟨t, ht, lines, log⟩ := dramWritePart_of_lost hpart lost m.toNat
  have answered := dramLineWrite_of_admitted ha hm hfit ht
  refine ⟨t.answer 5, (exec_dramPartialWrite ..).trans (congrArg Host.Outcome.next answered), rfl, ?_, ?_, ?_⟩
  · exact (lines.tags _).trans ((poisoned_checkedTag ..).trans lost)
  · exact lines.mem.trans ((checkedTag_mem ..).trans drift.mem)
  · rw [noteDrift_memSt] at log
    exact log

theorem exec_dramPartialWrite_of_not_lost {bs : List (Byte × Bool)} (ha : areaOf s (a.toNat / 64 * 64) = .dram)
    (hm : memAdmits s m.toNat true (a.toNat / 64 * 64) 64 = true) (hfit : a.toNat % 64 + bs.length ≤ 64)
    (hpart : bs.length = 64 → bs.all (·.2) = false) (h : lineLost s (a.toNat / 64) err.toNat = false) :
    ∃ t, SameLines s t ∧ exec (.dramPartialWrite m a bs err) s = .next ((t.mergeBytes a.toNat bs).answer 0) := by
  have lost : lineLost (noteDrift s m.toNat a.toNat) (a.toNat / 64) err.toNat = false := by rw [lineLost_noteDrift, h]
  have lines := SameLines.lineCheck (noteDrift s m.toNat a.toNat) m.toNat a.toNat err.toNat false
  rw [checkedTag, lost] at lines
  have answered := dramLineWrite_of_admitted ha hm hfit (dramWritePart_of_merge hpart lost _)
  exact ⟨_, (SameLines.noteDrift ..).trans lines, (exec_dramPartialWrite ..).trans (congrArg Host.Outcome.next answered)⟩

theorem exec_dramLineRead_of_lost (ha : areaOf s (a.toNat / 64 * 64) = .dram)
    (hm : memAdmits s m.toNat false (a.toNat / 64 * 64) 64 = true) (h : lineLost s (a.toNat / 64) err.toNat = true) :
    ∃ t, exec (.dramLineRead m a err) s = .next t ∧ t.resp = 5 ∧ t.reply = List.replicate 64 0 ∧ t.mem = s.mem ∧
      poisoned t (a.toNat / 64) = true ∧
      (poisoned s (a.toNat / 64) = true → s.memSt.err.length < 16 →
        t.memSt.err = s.memSt.err ++ [⟨ekPOISON_READ, m.toNat, 0x0A, a.toNat / 64 * 64⟩]) := by
  have line : a.toNat / 64 * 64 / 64 = a.toNat / 64 := by omega
  have drift := SameLines.noteDrift s m.toNat (a.toNat / 64 * 64)
  have lines := SameLines.lineCheck (noteDrift s m.toNat (a.toNat / 64 * 64)) m.toNat (a.toNat / 64 * 64) err.toNat false
  have lost : lineLost (noteDrift s m.toNat (a.toNat / 64 * 64)) (a.toNat / 64 * 64 / 64) err.toNat = true := by
    rw [lineLost_noteDrift, line, h]
  have answered := dramLineRead_of_admitted ha hm (dramReadPart_of_lost lost ..)
  refine ⟨_, (exec_dramLineRead ..).trans (congrArg Host.Outcome.next answered), rfl, rfl, ?_, ?_, fun hp room => ?_⟩
  · exact lines.mem.trans ((checkedTag_mem ..).trans drift.mem)
  · rw [line] at lines lost
    exact (lines.tags _).trans ((poisoned_checkedTag ..).trans lost)
  · have poison : poisoned (noteDrift s m.toNat (a.toNat / 64 * 64)) (a.toNat / 64 * 64 / 64) = true := by
      rw [drift.tags, line, hp]
    exact (lineCheck_log_of_poisoned poison ..).trans (by rw [noteDrift_memSt, if_pos room])

theorem exec_dramLineRead_of_not_lost (ha : areaOf s (a.toNat / 64 * 64) = .dram)
    (hm : memAdmits s m.toNat false (a.toNat / 64 * 64) 64 = true) (h : lineLost s (a.toNat / 64) err.toNat = false) :
    ∃ t, exec (.dramLineRead m a err) s = .next t ∧ t.resp = 0 ∧ t.reply = s.bytesAt (a.toNat / 64 * 64) 64 ∧ t.mem = s.mem := by
  have line : a.toNat / 64 * 64 / 64 = a.toNat / 64 := by omega
  have lines := SameLines.lineCheck (noteDrift s m.toNat (a.toNat / 64 * 64)) m.toNat (a.toNat / 64 * 64) err.toNat false
  have mem := lines.mem.trans ((checkedTag_mem ..).trans (SameLines.noteDrift ..).mem)
  have lost : lineLost (noteDrift s m.toNat (a.toNat / 64 * 64)) (a.toNat / 64 * 64 / 64) err.toNat = false := by
    rw [lineLost_noteDrift, line, h]
  have answered := dramLineRead_of_admitted ha hm (dramReadPart_of_not_lost lost ..)
  exact ⟨_, (exec_dramLineRead ..).trans (congrArg Host.Outcome.next answered), rfl, State.bytesAt_congr mem .., mem⟩

end

/-! ### The patrol scrubber (R449) -/

theorem scrubRead_of_idle {s : State} {c : Nat}
    (h : s.get DRM_STAT_STATE ≠ stREADY ∨ s.get DRM_SCRUB_HOURS = 0 ∨ usable s c = 0) (err : Nat) : scrubRead s c err = s :=
  if_pos (by simpa [drmRuns, or_assoc] using h)

/-- The scrubber of channel `c` moved on from its line to the next. `scrubRead_of_active` ties it to the model. -/
def scrubNext (s : State) (c : Nat) : State :=
  s.setDrm c { s.drmCh c with scrub := if ((s.drmCh c).scrub + 1) * 64 < usable s c then (s.drmCh c).scrub + 1 else 0 }

theorem scrubRead_of_active {s : State} {c : Nat} (hr : s.get DRM_STAT_STATE = stREADY) (hh : s.get DRM_SCRUB_HOURS ≠ 0)
    (hu : usable s c ≠ 0) (err : Nat) :
    scrubRead s c err =
      (lineCheck (scrubNext s c) 0 (dramBase + dramOffset s c (64 * (s.drmCh c).scrub)) err true).2 :=
  if_neg (by simp [drmRuns, hr, hh, hu])

theorem exec_scrubRead_of_active {s : State} {c : Fin 2} {err : BitVec 2} {line : Nat} (hr : s.get DRM_STAT_STATE = stREADY)
    (hh : s.get DRM_SCRUB_HOURS ≠ 0) (hu : usable s c.val ≠ 0)
    (hline : line = (dramBase + dramOffset s c.val (64 * (s.drmCh c.val).scrub)) / 64) :
    ∃ t, exec (.scrubRead c err) s = .next t ∧ t.mem = s.mem ∧ poisoned t line = (poisoned s line || err == 2) ∧
      (t.drmCh c.val).scrub = if ((s.drmCh c.val).scrub + 1) * 64 < usable s c.val then (s.drmCh c.val).scrub + 1 else 0 := by
  have lines := SameLines.lineCheck (scrubNext s c.val) 0
    (dramBase + dramOffset s c.val (64 * (s.drmCh c.val).scrub)) err.toNat true
  rw [← hline] at lines
  rw [exec_scrubRead, scrubRead_of_active hr hh hu]
  refine ⟨_, rfl, lines.mem.trans (checkedTag_mem ..), ?_, ?_⟩
  · calc _ = lineLost (scrubNext s c.val) line err.toNat := (lines.tags line).trans (poisoned_checkedTag ..)
      _ = (poisoned s line || err == 2) := by
        rw [Bool.eq_iff_iff, lineLost_iff, Bool.or_eq_true, beq_iff_eq]
        rfl
  · rw [State.drmCh, lines.drm, checkedTag_drm, scrubNext, State.setDrm, Tbl.get_set_self]

/-- Settles O43: each command by whether the firewall admits it and whether its line is lost. -/
theorem dramLineIntegrity : Obligations.DramLineIntegrity := by
  unfold Obligations.DramLineIntegrity
  refine ⟨fun s m a bs err ha hm hl => ?full, fun s m a bs err ha hm hfit hpart => ⟨fun h => ?partialLost, fun hp he => ?merge⟩,
    fun s m a err ha hm => ⟨fun h => ?readLost, fun hp he => ?read⟩,
    fun s m a bs l err => ⟨fun h => ?writeRefused, fun h => ?readRefused⟩,
    fun s c err line hr hh hu hline => ?scrub, fun s c err h => ?scrubOff⟩
  case full =>
    have drift := SameLines.noteDrift s m.toNat (a.toNat / 64 * 64)
    have hlen : (bs.map (fun b => (b, true))).length = 64 := by rw [List.length_map, hl]
    refine ⟨_, exec_dramFullWrite_of_admitted ha hm hl, rfl, ?_, fun i hi => ?_, fun b hb => ?_⟩
    · exact (poisoned_mergeBytes ..).trans (by rw [poisoned_setPoison, if_pos rfl])
    · refine (State.byte_mergeBytes_inside _ _ (by omega)).trans ?_
      simp [List.getD, hl, hi]
    · exact (State.byte_mergeBytes_outside _ (by omega)).trans (drift.byte b)
  case partialLost => exact exec_dramPartialWrite_of_lost ha hm hfit hpart (lineLost_iff.mpr h)
  case merge =>
    obtain ⟨t, lines, ht⟩ := exec_dramPartialWrite_of_not_lost ha hm hfit hpart (lineLost_eq_false hp he)
    refine ⟨_, ht, rfl, (poisoned_mergeBytes ..).trans ((lines.tags _).trans hp), fun i hi => ?_, fun x hx => ?_⟩
    · exact (State.byte_mergeBytes_inside t _ hi).trans (by rw [lines.byte])
    · exact (State.byte_mergeBytes_outside t hx).trans (lines.byte x)
  case readLost => exact exec_dramLineRead_of_lost ha hm (lineLost_iff.mpr h)
  case read => exact exec_dramLineRead_of_not_lost ha hm (lineLost_eq_false hp he)
  case writeRefused =>
    have start : (a.toNat - a.toNat % 64) / 64 * 64 = a.toNat / 64 * 64 := by omega
    rw [exec_dramPartialWrite, exec_dramFullWrite, dramLineWrite_of_refused h, dramLineWrite_of_refused (by rwa [start])]
    exact ⟨rfl, rfl⟩
  case readRefused =>
    rw [exec_dramLineRead, dramLineRead_of_refused h]
    exact ⟨_, rfl, rfl, rfl, State.violation_mem .., rfl⟩
  case scrub => exact exec_scrubRead_of_active hr hh hu hline
  case scrubOff => rw [exec_scrubRead, scrubRead_of_idle h]

end Sys2Proof.Machine

/-! A read of a lock (12_messaging.md, section 12.3): a free lock is taken, a held one answers its owner (R474), and a master that
R476 does not name takes none (R31). Settles O45. -/
namespace Sys2Proof.Machine
open Sys2Proof.Reg

/-! ### What a violation leaves of the register fields -/

/-- The fields that a violation of master `m` may count in (R30, R47). -/
def violFields (m : Nat) : List Fld := [MEM_FAB_VIOL_CNT_COUNT, MEM_FAB_VIOL_LOST_LOST, INS_CNT_VIOL_COUNT (m - 0x80)]

theorem State.countViolation_keepsFields (s : State) (m : Nat) : KeepsFields s (s.countViolation m) (violFields m) := by
  have counted : KeepsFields s (State.bump { s with refused := true } MEM_FAB_VIOL_CNT_COUNT) (violFields m) :=
    KeepsFields.bump (.of_regs rfl _) (by simp [violFields])
  exact counted.when ((counted.bump (by simp [violFields])).trans (.of_regs rfl _))

theorem State.violation_keepsFields (s : State) (m : Nat) (write : Bool) (region addr : Nat) :
    KeepsFields s (s.violation m write region addr) (violFields m) := by
  have counted := State.countViolation_keepsFields s m
  rw [State.violation_eq]
  split
  · exact counted.trans (.of_regs rfl _)
  · exact counted.bump (by simp [violFields])

@[simp] theorem State.violation_refused (s : State) (m : Nat) (write : Bool) (region addr : Nat) :
    (s.violation m write region addr).refused = true := by
  have counted : (s.countViolation m).refused = true := State.proj_when State.refused rfl _
  rw [State.violation_eq]
  split <;> exact counted

/-- No violation changes who holds a lock. -/
theorem State.get_violation_owner (s : State) (m : Nat) (write : Bool) (region addr k : Nat) :
    (s.violation m write region addr).get (MBX_LOCK_OWNER k) = s.get (MBX_LOCK_OWNER k) :=
  (State.violation_keepsFields s m write region addr).get
    (by simp [violFields, MEM_FAB_VIOL_CNT_COUNT, MEM_FAB_VIOL_LOST_LOST, INS_CNT_VIOL_COUNT, MBX_LOCK_OWNER])

/-! ### LOCK_READ -/

theorem exec_lockRead (m : BitVec 8) (k : Fin 64) (s : State) : exec (.lockRead m k) s = .next (lockRead s m.toNat k.val) := rfl

/-- A requester ID fits the OWNER field, so the field holds it whole. -/
theorem get_put_owner (s : State) (m : BitVec 8) (k : Nat) :
    (s.put (MBX_LOCK_OWNER k) m.toNat).get (MBX_LOCK_OWNER k) = m.toNat :=
  (State.get_put_self ..).trans (Nat.mod_eq_of_lt m.isLt)

section
variable {s : State} {m k : Nat}

theorem lockRead_of_free (hm : lockMaster m = true) (h : s.get (MBX_LOCK_OWNER k) = 0) :
    lockRead s m k = (s.answer 0).put (MBX_LOCK_OWNER k) m := by
  simp [lockRead, hm, h]

theorem lockRead_of_held (hm : lockMaster m = true) (h : s.get (MBX_LOCK_OWNER k) ≠ 0) :
    lockRead s m k = s.answer (s.get (MBX_LOCK_OWNER k)) := by
  simp [lockRead, hm, h]

/-- R476: the refusal names the register of lock `k`. -/
theorem lockRead_of_not_lockMaster (hm : lockMaster m = false) : lockRead s m k = s.refuseRead m 7 (0x100 + 4 * k) := by
  simp [lockRead, hm]

end

/-- Settles O45: the lock is free, or held, or the master is none that R476 names. -/
theorem lockReadTakesAFreeLock : Obligations.LockReadTakesAFreeLock := by
  unfold Obligations.LockReadTakesAFreeLock
  refine ⟨fun s m k hm h => ?free, fun s m k hm h => ?held, fun s m k hm => ?refused⟩
  case free =>
    rw [exec_lockRead, lockRead_of_free hm h]
    exact ⟨_, rfl, rfl, get_put_owner .., KeepsFields.put (.of_regs rfl _) (by simp) _, rfl, rfl⟩
  case held =>
    rw [exec_lockRead, lockRead_of_held hm h]
    rfl
  case refused =>
    rw [exec_lockRead, lockRead_of_not_lockMaster hm]
    exact ⟨_, rfl, rfl, State.violation_refused .., State.get_violation_owner .., State.violation_mem ..⟩

end Sys2Proof.Machine
